-- ==== Sys2Proof/Word.lean ====
section
/-! DEFINITION. The machine word, the byte, and their plainest arithmetic. Registers are 32 bits wide (R32). -/

namespace Sys2Proof

/-- A 32-bit register value (R32). -/
abbrev Word := BitVec 32

/-- One byte of a memory window. -/
abbrev Byte := BitVec 8

/-- A binary64 value as its 64 bits. -/
abbrev Word64 := BitVec 64

/-- The word a natural number writes, modulo 2^32. -/
abbrev word (n : Nat) : Word := BitVec.ofNat 32 n

/-- A Boolean as the bit it writes. -/
abbrev bitN (b : Bool) : Nat := cond b 1 0

end Sys2Proof
end

