-- ==== Sys2Proof/Types.lean ====
section
/-! DEFINITION. The names and small records the commands and the state share: requesters, refusal codes, event
classes, and the operands that describe what stands outside the device. -/

namespace Sys2Proof

/-- The two parts (R1). -/
inductive Part where
  | sep9640 | sep9624
  deriving DecidableEq, Repr

/-- The requesters of R45, in the numbering of `ERRINFO`.PORT. -/
inductive Port where
  | host | dma | tykor0 | tykor1 | twin | debug
  deriving DecidableEq, Repr

/-- `ERRINFO`.PORT (R45). -/
def Port.num : Port → Nat
  | .host => 0 | .dma => 1 | .tykor0 => 2 | .tykor1 => 3 | .twin => 4 | .debug => 5

/-- A reader that has its own REPEAT (R49): a port, a DMA channel or a publisher entry. -/
inductive Reader where
  | port (p : Port)
  | dmaChan (c : Nat)
  | publisher (k : Nat)
  deriving DecidableEq, Repr

/-- A number for each reader of R49. -/
def Reader.num : Reader → Nat
  | .port p => p.num
  | .dmaChan c => 8 + c
  | .publisher k => 32 + k

/-- Refusal codes (R43). -/
inductive RefCode where
  | none | busy | locked | keyRequired | outOfRange | notInState | notOpen | coefLocked | tripPersist
  | frame | align | denied
  deriving DecidableEq, Repr

/-- The number of a refusal code (R43). -/
def RefCode.num : RefCode → Nat
  | .none => 0 | .busy => 1 | .locked => 2 | .keyRequired => 3 | .outOfRange => 4 | .notInState => 5
  | .notOpen => 6 | .coefLocked => 7 | .tripPersist => 8 | .frame => 9 | .align => 10 | .denied => 11

/-- Event classes (R433). -/
inductive EvClass where
  | safety | fault | warn | info
  deriving DecidableEq, Repr

/-- CLASS of an entry (R433). -/
def EvClass.num : EvClass → Nat
  | .safety => 0 | .fault => 1 | .warn => 2 | .info => 3

/-- What a register write meets outside the registers: the refusal code the TANDEM follower would give (R373), the nonce a CHAL draws
(R468), and a check conversion under way at a software trigger (R423). -/
structure WriteEnv where
  code : RefCode := .none
  nonce : List Word := []
  checking : Bool := false
  deriving DecidableEq, Repr

/-- What the snapshot group of page `p` meets in the middle of a READ burst (R53, R58): a take, or the landing of the copy in progress. -/
inductive MidRead where
  | take (p : Nat)
  | land (p : Nat)
  deriving DecidableEq, Repr

/-- How the host drives a READ: whether with more than 10 MHz (R65), and what meets snapshot groups during the burst, each with the number
of the word before which it falls (R53). -/
structure ReadDrive where
  fast : Bool := false
  mid : List (Nat × MidRead) := []
  deriving DecidableEq, Repr

/-- How the host drives a WRITE: whether with more than 10 MHz (R65), and the number of words applied when a reset strikes, where one
does (R54). -/
structure WriteDrive where
  fast : Bool := false
  cut : Option Nat := none
  deriving DecidableEq, Repr

/-- The qualified input of fast comparator `k`, as a code (R270). -/
structure CmpInput where
  k : Nat
  code : Nat
  deriving DecidableEq, Repr

/-- How an attempt to send a CAN frame ends (R386): without error, in lost arbitration, or in an error frame with its code
(1 stuff, 2 form, 3 ack, 4 bit 1, 5 bit 0, 6 CRC); `won` where the error came after arbitration was won. -/
inductive CanEnd where
  | ok | lost
  | error (lec : Nat) (won : Bool)
  deriving DecidableEq, Repr

/-- Where a memory error is found: a bank of the control-path memories (R425), the supervisor SRAM (R426), or the speculative buffer of
context `n`, which parity protects (R146). -/
inductive EccPlace where
  | bank (b : Nat)
  | sram
  | buffer (n : Nat)
  deriving DecidableEq, Repr

end Sys2Proof
end

