-- ==== Sys2Proof/Syntax.lean ====
section
/-! DEFINITION. The commands of the block: one constructor per row of spec/opcode_table.json, with its operands.
Operands named `dt` are a delay in CLK_CLE cycles (1.25 ns) that the manual only bounds. -/

namespace Sys2Proof

/-- The commands (one per row of the table of operations and events). -/
inductive Instr where
  /-- REGISTER_WRITE (R10): A write to a register that has no behaviour of its own takes effect or is refused under the access code and the refusal checks. -/
  | registerWrite (port : Port) (a : Nat) (v : Word) (env : WriteEnv)
  /-- LOCK_WRITE (R41): A write to a page's LOCK opens the page with the key, closes it with zero, or closes it and is refused with KEY_REQUIRED for any other value. -/
  | lockWrite (port : Port) (p : Nat) (v : Word)
  /-- LOCK_EXPIRY (R42): An open LOCK closes by itself 1 s after its opening or its last accepted RW/L write, checked only between frames and descriptors. -/
  | lockExpiry (p : Nat)
  /-- ERRINFO_CLEAR (R45): Any write to ERRINFO clears the page's refusal record to zero. -/
  | errinfoClear (port : Port) (p : Nat) (v : Word)
  /-- IRQ_PEND_CLEAR (R40): A W1C write to IRQ_PEND clears the written pending bits unless their condition rises again in the same cycle. -/
  | irqPendClear (port : Port) (p : Nat) (v again : Word)
  /-- IRQ_EN_WRITE (R40): A write to IRQ_EN sets IRQ_PEND for every newly enabled bit whose IRQ_RAW is already 1. -/
  | irqEnWrite (port : Port) (p : Nat) (v : Word)
  /-- SNAPSHOT_TAKE (R48): A write of TAKE clears READY and starts an atomic copy of the page's snapshot group, merging with a copy already in progress. -/
  | snapshotTake (port : Port) (p : Nat) (v : Word)
  /-- AUTO_SNAPSHOT (R47): An automatic snapshot falls at an engine tick that is a multiple of the AUTO period. -/
  | autoSnapshot (p : Nat)
  /-- SNAPSHOT_COPY_DONE (R48): The snapshot copy completes within 1 µs, incrementing GEN and setting READY in the same cycle. -/
  | snapshotCopyDone (p dt : Nat)
  /-- DOLDRUMS_SET (R50): DOLDRUMS sets at the first microsecond at which AGE exceeds the effective age limit. -/
  | doldrumsSet (p : Nat)
  /-- SNAP_GEN_READ (R49): A read of SNAP_GEN returns GEN and flags and marks the generation as read for that requester's REPEAT. -/
  | snapGenRead (reader : Reader) (p : Nat)
  /-- HOST_READ (R53): A host-port READ frame is checked and answered with STATUS, the words taken in ascending order, and a CRC. -/
  | hostRead (bytes : List Nat) (drive : ReadDrive)
  /-- HOST_WRITE (R54): A host-port WRITE frame is applied after its CRC check at chip-select deassertion and completes within 1.2 µs, stopping at the first refused word. -/
  | hostWrite (bytes : List Nat) (drive : WriteDrive) (env : WriteEnv)
  /-- HOST_RESULT (R54): A RESULT frame returns the code, accepted count and offset of the most recent WRITE or FRAME refusal. -/
  | hostResult (bytes : List Nat) (fast early : Bool)
  /-- POWER_ON_RESET (R62): A first power-up or a VIO brown-out resets everything, including the island, and holds the outputs as R59 lists them. -/
  | powerOnReset
  /-- BROWN_OUT (R60): A rail that falls below its brown-out threshold causes its reset within 2 µs. -/
  | brownOut (rails : List Nat)
  /-- RAIL_RELEASE (R60): Once every rail has risen above its release threshold, bring-up restarts at SUPPLY_CHECK. -/
  | railRelease (k : Nat)
  /-- NRST_ASSERT (R62): nRST held low for at least 1 µs causes a system reset. -/
  | nrstAssert
  /-- SWRST_SYSTEM (R74): A write of the system key to CLK.SWRST while the lock is open causes a system reset. -/
  | swrstSystem (port : Port)
  /-- SWRST_SUPERVISOR (R74): A write of the supervisor key to CLK.SWRST while the lock is open causes a supervisor reset. -/
  | swrstSupervisor (port : Port)
  /-- TYKOR_LOCKSTEP_MISMATCH (R62): A Tykor lockstep mismatch causes a supervisor reset. -/
  | tykorLockstepMismatch
  /-- SUPERVISOR_WATCHDOG_EXPIRY (R62): Expiry of the supervisor watchdog causes a supervisor reset. -/
  | supervisorWatchdogExpiry
  /-- SUPPLY_CHECK_DONE (R64): SUPPLY_CHECK completes and bring-up moves to FUSE_LOAD. -/
  | supplyCheckDone (dt : Nat)
  /-- FUSE_LOAD_DONE (R64): FUSE_LOAD completes its fuse, trim and HW loads, going to REF_WAIT or to FAIL on a fuse CRC error, and the IRQ pins begin to drive. -/
  | fuseLoadDone (ok : Bool) (dt : Nat)
  /-- REF_EDGES_PRESENT (R67): Reference edges present in REF_WAIT start PLL_LOCK with PLL_TRIES at 0. -/
  | refEdgesPresent (dt : Nat)
  /-- PLL_LOCKED (R64): The root PLL locks, the fabric leaves the bring-up oscillator, and bring-up moves to MEM_REPAIR. -/
  | pllLocked (dt : Nat)
  /-- PLL_ATTEMPT_TIMEOUT (R64): A 1 ms PLL lock attempt ends without lock, counting a try and giving FAIL 0x01 after the third. -/
  | pllAttemptTimeout
  /-- MEM_REPAIR_DONE (R428): Memory BIST and soft repair complete, going to ISLAND_START or to FAIL 0x03 if a memory cannot be repaired. -/
  | memRepairDone (ok : Bool) (soft least dt : Nat)
  /-- ISLAND_START_DONE (R64): The island self-test completes, both clock watches are running, and bring-up moves to IMAGE_SELECT or to FAIL 0x04. -/
  | islandStartDone (bad : Bool) (dt : Nat)
  /-- IMAGE_SELECT (R452): The boot record is read and a slot is chosen, verified and booted, or the device enters RECOVERY. -/
  | imageSelect (dt : Nat)
  /-- PAGE_INIT_DONE (R66): Every page leaves BUSY in one cycle as the device enters SERVICE, SERVICE rises and the reset records are written. -/
  | pageInitDone (dt : Nat)
  /-- ISLAND_SELF_TEST_DONE (R63): The island's restart self-test ends, lock-out is latched with its cause, and the SAFE and TMON pages answer again. -/
  | islandSelfTestDone (bad : Bool) (dt : Nat)
  /-- RST_CAUSE_CLEAR (R70): A W1C write to BUP.RST_CAUSE clears the written cause bits. -/
  | rstCauseClear (port : Port) (v : Word)
  /-- ROOT_WATCH_WINDOW_END (R75): The root domain's 1 ms window of island-clock counting ends and is judged, reacting under R76 on a watch failure. -/
  | rootWatchWindowEnd (count : Nat)
  /-- ISLAND_WATCH_WINDOW_END (R75): The island's window of root-clock counting ends and is judged, reacting under R76 on a watch failure. -/
  | islandWatchWindowEnd (count : Nat)
  /-- PARTNER_CLOCK_STOPPED (R75): 1 µs without any edge of the partner clock is a watch failure. -/
  | partnerClockStopped (root : Bool)
  /-- REF_LOSS (R76): No reference edge for 200 ns gives all-off within 1 µs and a system reset, and bring-up waits in REF_WAIT. -/
  | refLoss
  /-- PLL_UNLOCK (R76): The root PLL losing lock with the reference present gives all-off within 1 µs and a system reset. -/
  | pllUnlock
  /-- TIMEBASE_TRIGGER (R217): A timebase's trigger compare event fires LEAD cycles before its update event. -/
  | timebaseTrigger (t : Nat)
  /-- TRIG_SW_FIRE (R82): A write of TRIG_SW.FIRE fires the common trigger when SW_EN is 1. -/
  | trigSwFire (port : Port) (v : Word) (checking : Bool)
  /-- SAR_CONVERSION_DONE (R81): The SAR conversions complete 200 ns after the hold. -/
  | sarConversionDone (levels : List Int)
  /-- SD_FILTER_RELEASE (R85): A sigma-delta filter output tagged at a trigger is released after the filter delay D. -/
  | sdFilterRelease (x c : Nat) (bits : List Bool)
  /-- SAMPLE_SET_RELEASE (R96): Corrected samples are released after offset and gain correction and the Crosswind comparison. -/
  | sampleSetRelease
  /-- SD_STUCK_DETECT (R86): A data pin holding one level for 64 modulator clocks sets STUCK. -/
  | sdStuckDetect (x c : Nat)
  /-- SD_STUCK_CLEAR (R86): STUCK clears after the pin has changed in each of 16 consecutive spans of 64 clocks. -/
  | sdStuckClear (x c : Nat)
  /-- CH_CFG_WRITE (R87): A write enabling a channel or changing its REF clears REF_SETTLED and starts settling. -/
  | chCfgWrite (port : Port) (x c : Nat) (v : Word)
  /-- REF_SETTLE_DONE (R87): REF_SETTLED sets 2 ms after enabling, a REF change, or the reference's return to range. -/
  | refSettleDone (x c dt : Nat)
  /-- CAL_START (R90): A write of CAL_CMD.START begins a 38 ms self-calibration of the chain and clears its CAL bit. -/
  | calStart (port : Port) (x : Nat) (v : Word)
  /-- CAL_DONE (R90): Calibration completes and stores the converter factors, or fails, leaving the old factors and raising CAL_FAIL. -/
  | calDone (x : Nat) (fail : Option (Bool × Nat × Nat))
  /-- CH_OFS_WRITE (R93): A write to CH_OFS is held pending and sets PEND. -/
  | chOfsWrite (port : Port) (x c : Nat) (v : Word)
  /-- CH_GAIN_WRITE (R93): A write to CH_GAIN makes the pending offset and the new gain take effect together from the next trigger. -/
  | chGainWrite (port : Port) (x c : Nat) (v : Word)
  /-- CW_PAIR_WRITE (R99): A write to CW_PAIR is checked for IN_USE and sides, and an enable or side change restarts the persistence state. -/
  | cwPairWrite (port : Port) (k : Nat) (v : Word)
  /-- CW_REACTED_CLEAR (R99): A W1C write of REACTED is refused with TRIP_PERSIST while the last compared sample disagreed. -/
  | cwReactedClear (port : Port) (k : Nat)
  /-- SCHEDULER_EPOCH (R110): A 1 ms epoch applies any pending profile change, re-checks CFG_CRC and performs the other epoch work. -/
  | schedulerEpoch
  /-- PERIODIC_RELEASE (R110): A PERIODIC context is released at engine tick PHASE + k × PERIOD. -/
  | periodicRelease (n : Nat)
  /-- CONTEXT_DISPATCH (R111): A free lane takes the next ready FAST or PERIODIC work, loading its record in 8 cycles. -/
  | contextDispatch (lane seg : Nat)
  /-- RUN_COMMIT (R154): A run commits OUT, its states and the compare group in one transfer, advances soft start and releases the next precompute. -/
  | runCommit (n : Nat)
  /-- SEGMENT_END (R111): A PERIODIC segment of at most 80 cycles ends and the lane takes its next work. -/
  | segmentEnd (lane seg : Nat)
  /-- PRECOMPUTE_DONE (R145): A Tailwind precompute completes and stores its result and sensitivities in the speculative buffer. -/
  | precomputeDone (n : Nat)
  /-- COMMIT_DEADLINE_OVERRUN (R128): A run not committed by its deadline is abandoned, giving HELD on the first overrun and FAULT on the second. -/
  | commitDeadlineOverrun (n : Nat)
  /-- TRIGGER_TIMEOUT_MISS (R129): No trigger within 1.5 × PERIOD counts a miss for a FAST context. -/
  | triggerTimeoutMiss (n : Nat)
  /-- CTX_ENABLE (R124): CLE.CMD ENABLE takes an IDLE context to OPEN after the admission checks. -/
  | ctxEnable (port : Port) (n : Nat)
  /-- CTX_CLOSE (R124): CLE.CMD CLOSE takes an OPEN context to CLOSING after the R79 gate and the source checks. -/
  | ctxClose (port : Port) (n : Nat)
  /-- CTX_OPEN (R124): CLE.CMD OPEN takes a CLOSING, CLOSED or HELD context back to OPEN. -/
  | ctxOpen (port : Port) (n : Nat)
  /-- CTX_DISABLE (R124): CLE.CMD DISABLE takes an OPEN context to IDLE and clears its cause bits. -/
  | ctxDisable (port : Port) (n : Nat)
  /-- CTX_CLEAR (R124): CLE.CMD CLEAR takes a FAULT or OPEN context to OPEN unless its cause persists. -/
  | ctxClear (port : Port) (n : Nat)
  /-- CONTEXT_RECORD_WRITE (R121): A write to a context record is checked for lock, state, ranges and admission, and squashes the context's speculation. -/
  | contextRecordWrite (port : Port) (n o : Nat) (v : Word)
  /-- PROFILE_WRITE (R26): A write to CLE.CTRL.PROFILE is checked and held pending until the next epoch. -/
  | profileWrite (port : Port) (v : Word)
  /-- HW_RESUME (R135): HW_CMD.RESUME ends a group's safe state from its next release unless a member is still faulted. -/
  | hwResume (port : Port) (g : Nat)
  /-- SPEC_CTRL_WRITE (R157): A write of SPEC_CTRL.OFF stops or allows precompute and squashes outstanding speculations with cause DISABLED. -/
  | specCtrlWrite (port : Port) (v : Word)
  /-- TICK_LO_READ (R139): A read of CLE.TICK_LO latches the upper tick word into TICK_HI. -/
  | tickLoRead
  /-- FOC_UPDATE (R162): Field control updates a machine once per trigger, running the observer, PLL, set-points, start sequences and automatic state transitions. -/
  | focUpdate (m dt : Nat)
  /-- FOC_START (R177): FOC.CMD START begins IPD, CATCH or MAGNETISE from BLOCKED after the context and window checks. -/
  | focStart (port : Port) (m mode : Nat) (hint : Bool)
  /-- FOC_STOP (R177): FOC.CMD STOP takes a machine to STOPPING, ramping T* to zero. -/
  | focStop (port : Port) (m : Nat)
  /-- FOC_ASC (R177): FOC.CMD ASC applies an active short circuit and opens the current contexts. -/
  | focAsc (port : Port) (m : Nat)
  /-- FOC_BLOCK (R177): FOC.CMD BLOCK turns all switches of the machine off at rank 3c. -/
  | focBlock (port : Port) (m : Nat)
  /-- FOC_RELEASE (R177): FOC.CMD RELEASE takes a BLOCKED or ASC machine to OFF. -/
  | focRelease (port : Port) (m : Nat)
  /-- FOC_CLEAR (R177): FOC.CMD CLEAR takes a FAULT machine to its STOP_END state unless the cause persists. -/
  | focClear (port : Port) (m : Nat)
  /-- CATCH_WINDOW_END (R181): The PMSM catch window ends and yields speed and angle, NO_EMF, AUTO to IPD, or FLUX_MISMATCH. -/
  | catchWindowEnd (m : Nat)
  /-- SYNC_DWELL_ELAPSED (R180): SYNC_DWELL after the first closed run takes the machine to RUN. -/
  | syncDwellElapsed (m : Nat)
  /-- MAG_TIME_ELAPSED (R180): MAG_TIME after the first closed run takes the machine from MAGNETISE to RUN. -/
  | magTimeElapsed (m : Nat)
  /-- TORQUE_INPUT_TIMEOUT (R166): Input 0 unwritten for TQ_TIMEOUT in RUN ramps T* to zero and sets TQ_STALE. -/
  | torqueInputTimeout (m : Nat)
  /-- ASC_SIDE_ALTERNATE (R185): With SIDE ALTERNATE, the short-circuit side changes every ALT_PERIOD at an update event. -/
  | ascSideAlternate (m : Nat)
  /-- PROFILE_TICK (R195): A profile channel computes one tick of its ramp, stop, turnaround and arrival logic. -/
  | profileTick (ch : Nat)
  /-- PROF_ENABLE (R202): PCMD ENABLE takes an OFF channel to HOLD. -/
  | profEnable (port : Port) (ch : Nat)
  /-- PROF_MOVE (R202): PCMD MOVE latches a target and starts or redirects a move, or wakes a LULL channel. -/
  | profMove (port : Port) (ch : Nat)
  /-- PROF_STOP (R201): PCMD STOP ramps a moving channel to rest with no target, or drops the move latched in WAKE. -/
  | profStop (port : Port) (ch : Nat)
  /-- PROF_APPLY (R199): PCMD APPLY checks the shadow ramp set and activates it at once, at the next segment boundary, or at the next tick. -/
  | profApply (port : Port) (ch : Nat) (imm : Bool)
  /-- PROF_CLEAR (R202): PCMD CLEAR takes a FAULT channel to HOLD unless the bound machine is in FAULT. -/
  | profClear (port : Port) (ch : Nat)
  /-- PROF_DISABLE (R202): PCMD DISABLE takes a channel to OFF. -/
  | profDisable (port : Port) (ch : Nat)
  /-- PROF_SET_POS (R202): PCMD SET_POS sets the position to the latched target value. -/
  | profSetPos (port : Port) (ch : Nat)
  /-- LULL_DWELL_EXPIRY (R203): The Lull dwell timer expires and the channel commands BLOCK or ASC and enters LULL. -/
  | lullDwellExpiry (ch : Nat)
  /-- PERIOD_BOUNDARY (R212): A timebase reaches its period boundary, taking a new PRD, a pending stop or a pending shift. -/
  | periodBoundary (t : Nat)
  /-- UPDATE_EVENT (R212): An update event reloads every shadow value of the timebase's groups and channels into the active registers in one step. -/
  | updateEvent (t : Nat)
  /-- COMPARE_EDGE (R222): The counter reaches a compare value and a leg or single-switch channel changes state. -/
  | compareEdge (g x : Nat)
  /-- DEAD_TIME_END (R224): A pending turn-on executes once its interlock set has been off for the dead time. -/
  | deadTimeEnd (c : Nat)
  /-- NP_DWELL_END (R224): A P-to-N or N-to-P passage leaves O for the target state after NP_DWELL. -/
  | npDwellEnd (g x : Nat)
  /-- TB_START (R214): TB_START starts the named timebases at TB_PHASE in one cycle as one synchronisation domain. -/
  | tbStart (port : Port) (v : Word)
  /-- TB_STOP (R215): TB_STOP stops the named timebases now or at the next period boundary, turning their rank-4 channels off. -/
  | tbStop (port : Port) (v : Word)
  /-- TB_SHIFT (R216): TB_SHIFT holds the counter N cycles at the next period boundary. -/
  | tbShift (port : Port) (t : Nat) (v : Word)
  /-- CH_FORCE_WRITE (R227): A write of CH_FORCE sets or releases a rank-3d force from the next update event. -/
  | chForceWrite (port : Port) (c : Nat) (v : Word)
  /-- GRP_HOLD_WRITE (R226): A write of GRP_HOLD, as a shadow write, freezes or frees the group's reloads. -/
  | grpHoldWrite (port : Port) (g : Nat) (v : Word)
  /-- TRIP_PIN_EDGE (R228): A level change on a TRIP pin enters the synchroniser and the digital filter. -/
  | tripPinEdge (k : Nat) (level : Bool) (sync : Nat)
  /-- TRIP_FILTER_QUALIFIED (R228): The filtered trip level changes after FILT cycles, and an active rise sets the pin's latch. -/
  | tripFilterQualified (k : Nat)
  /-- TRIP_CLR (R229): TRIP_CLR clears the named trip latches unless a named pin is still active. -/
  | tripClr (port : Port) (v : Word)
  /-- GRID_FRAME (R238): A downlink frame of the right type starts at each 100 ns grid instant, carrying edges and the measurement selection. -/
  | gridFrame
  /-- UPLINK_FRAME (R244): An uplink frame is received and decoded, delivering driver status and measurements to protection and telemetry. -/
  | uplinkFrame (n f rt : Nat)
  /-- UPLINK_MISSING (R245): An uplink frame not detected by the end of its window counts as missing, and the third consecutive one makes the position LOST. -/
  | uplinkMissing (n : Nat)
  /-- GL_TRAIN (R247): GL_CMD TRAIN starts a 64-frame training sequence on the position. -/
  | glTrain (port : Port) (n : Nat) (clear : Bool)
  /-- GL_DROP (R262): GL_CMD DROP takes a position to DOWN with STANDBY frames. -/
  | glDrop (port : Port) (n : Nat)
  /-- TRAINING_DONE (R247): A training is judged at completion, giving UP with the measured delay or DOWN with a TFAIL code. -/
  | trainingDone (n dt : Nat)
  /-- DRIVER_DOWNLINK_FRAME (R250): A driver receives and judges a downlink frame, obeying DRIVE, TRAIN, STANDBY or ALL_OFF. -/
  | driverDownlinkFrame (n p f : Nat) (late : Bool) (meas : Nat)
  /-- DRIVER_FRAME_MISSING (R250): A driver finds a frame missing, and three consecutive bad or missing frames on the owner port are a link loss. -/
  | driverFrameMissing (n p : Nat)
  /-- DRIVER_EDGE_EXECUTE (R252): A driver drives a received edge at its stated instant. -/
  | driverEdgeExecute (n : Nat)
  /-- DRIVER_HOLD_EXPIRY (R249): A driver's holdover time expires and it enters LATCHED. -/
  | driverHoldExpiry (n : Nat)
  /-- DRIVER_PIN_MISMATCH (R255): A driver whose pin and driven level differ for 50 ns at fall-back enters LATCHED. -/
  | driverPinMismatch (n : Nat)
  /-- DRIVER_DESAT (R252): A driver detects desaturation, turns off softly and enters LATCHED. -/
  | driverDesat (n : Nat) (present : Bool)
  /-- DRIVER_POWER_UP (R252): A driver powers up in UNTRAINED with the gate off. -/
  | driverPowerUp (n : Nat)
  /-- BSUV_INPUT (R287): A filtered bootstrap undervoltage input changes and forces or releases the leg's high side off. -/
  | bsuvInput (l : Nat) (active : Bool)
  /-- BS_MAXON_EXPIRY (R259): A LEG-mode auxiliary leg held in state 1 for BS_MAXON is put into state 0 for the next update interval. -/
  | bsMaxonExpiry (g x : Nat)
  /-- COMPARATOR_TRIP (R270): An armed fast comparator's qualified output trips and latches its Squall source. -/
  | comparatorTrip (k code : Nat)
  /-- SRC_CLR (R275): SRC_CLR0 or SRC_CLR1 clears the named latches unless a named cause is active. -/
  | srcClr (port : Port) (hi : Bool) (v : Word)
  /-- RETRY_WAIT_EXPIRY (R276): WAIT after a recoverable latch with its cause inactive, the device clears it itself, counting tries and entering lock-out at MAX. -/
  | retryWaitExpiry (n : Nat)
  /-- LOCKOUT_CLR (R277): The keyed LOCKOUT_CLR clears protection lock-out, the try counts and the TWO_LEG latch. -/
  | lockoutClr (port : Port) (v : Word)
  /-- PROT_ARM (R289): A write of CTRL.ARM arms or disarms protection after its checks. -/
  | protArm (port : Port) (v : Word)
  /-- CHOP_RESPONSE_TIMEOUT (R281): A chopper response window ends with no response, latching CHOP_FAULT and forcing the chopper off. -/
  | chopResponseTimeout
  /-- CHFLT_INPUT (R281): An active filtered CHFLT pin latches CHOP_FAULT. -/
  | chfltInput (k : Nat) (active : Bool)
  /-- ESC_TIME_EXPIRY (R282): ESC_TIME after step 1 with the link still at or above OV1_OFF starts escalation step 2. -/
  | escTimeExpiry
  /-- ESC_CLR (R283): ESC_CLR clears the escalation and its forced states unless a CHFLT pin is active or the link is high. -/
  | escClr (port : Port) (v : Word)
  /-- DCL_STALE_TIMEOUT (R280): The DC-link value becoming older than 100 µs while armed holds the chopper and sets DCL_STALE. -/
  | dclStaleTimeout
  /-- DIS_START (R285): DIS_CMD START begins an active discharge by the configured method. -/
  | disStart (port : Port)
  /-- DIS_STOP (R285): DIS_CMD STOP ends a discharge and its forced states. -/
  | disStop (port : Port)
  /-- DIS_TIMEOUT (R285): A discharge not ended 2 s after its start fails with DIS_FAIL. -/
  | disTimeout
  /-- KFB_OPEN_TIMEOUT (R285): KFB reading open for 10 ms with AUTO_KFB starts a discharge. -/
  | kfbOpenTimeout
  /-- ISLAND_CYCLE (R297): The island runs its 100 µs cycle of speed, functions, safe inputs, torque monitor, output read-back and group state changes. -/
  | islandCycle (pins bad : Word)
  /-- ISLAND_LOCKSTEP_MISMATCH (R295): A mismatch of the island cores removes STO and applies the brake within 1 µs plus output time, entering lock-out. -/
  | islandLockstepMismatch
  /-- TEST_PULSE (R310): A test-pulse output goes low for WIDTH in turn, and the channels' responses are checked. -/
  | testPulse (dt : Nat)
  /-- HOST_DEMAND_WRITE (R304): A write of HOST_DEMAND sets or removes host STO and SS1 demands. -/
  | hostDemandWrite (port : Port) (v : Word)
  /-- REL_CMD (R300): REL_CMD releases a STOPPED group when every release condition holds. -/
  | relCmd (port : Port) (v : Word)
  /-- BRK_REQ_WRITE (R304): A write of BRK_REQ requests the brake released or applied. -/
  | brkReqWrite (port : Port) (v : Word)
  /-- LO_KEY (R321): A keyed write of LO_KEY arms the lock-out reset for 2 s. -/
  | loKey (port : Port) (v : Word)
  /-- LO_KEY_TIMEOUT (R321): 2 s without the end of a press clears KEY_ARMED and lock-out stays. -/
  | loKeyTimeout
  /-- LOGIN (R323): PW_CMD LOGIN opens a password session for USER or counts a failure. -/
  | pwLogin (port : Port) (len user : Nat)
  /-- LOGOUT (R323): PW_CMD LOGOUT closes the session. -/
  | pwLogout (port : Port)
  /-- SET (R323): PW_CMD SET stores a new salted password hash and writes a log entry. -/
  | pwSet (port : Port) (len user : Nat)
  /-- SESSION_TIMEOUT (R323): A password session closes 60 s after its last accepted write. -/
  | sessionTimeout
  /-- LOGIN_BLOCK_EXPIRY (R323): The 300 s block on LOGIN after five consecutive failures ends. -/
  | loginBlockExpiry
  /-- COMMIT (R324): PARAM_CMD COMMIT checks the edit copy, captures CB_CRC and writes the set to non-volatile memory. -/
  | paramCommit (port : Port)
  /-- PARAM_COMMIT_DONE (R324): The non-volatile write of a committed set completes, writing the log entries and updating PARAM_CRC. -/
  | paramCommitDone (dt : Nat)
  /-- DISCARD (R324): PARAM_CMD DISCARD restores the edit copy from the committed set. -/
  | paramDiscard (port : Port)
  /-- TELEGRAM_COPY_RECEIVED (R315): A received telegram copy is checked, held, or agreed with its twin copy and takes effect. -/
  | telegramCopyReceived (k carrier : Nat) (l : List Nat)
  /-- TELEGRAM_COPY_TIMEOUT (R315): A second copy missing 5 ms after the first discards the held copy. -/
  | telegramCopyTimeout (k : Nat)
  /-- TELEGRAM_WATCHDOG_EXPIRY (R315): No agreed pair for TG_WDOG raises the connection's loss demand. -/
  | telegramWatchdogExpiry (k : Nat)
  /-- SS1_TIMER_EXPIRY (R304): SS1_T after an SS1 demand takes the group to STOPPED. -/
  | ss1TimerExpiry (g : Nat)
  /-- SBC_DELAY_EXPIRY (R306): SBC_DELAY after the brake is applied turns off STOgA and STOgB. -/
  | sbcDelayExpiry (g : Nat)
  /-- ASC_CONFIRM_TIMEOUT (R300): A short circuit not confirmed within 1 ms takes an ASC_HELD group to STOPPED with lock-out. -/
  | ascConfirmTimeout (g : Nat)
  /-- ISLAND_SELF_TEST (R320): The island's periodic self-test of its logic and memories runs every 8 ms and latches SELF_TEST on failure. -/
  | islandSelfTest (bad : Bool)
  /-- CB_CRC_CHECK (R320): CB_CRC recomputed every 1 ms that differs from the committed value latches CHAIN_B_CFG. -/
  | cbCrcCheck
  /-- PARAM_CRC_CHECK (R320): The non-volatile parameter set checked every 4 ms that fails its CRC latches PARAM_CRC. -/
  | paramCrcCheck (bad : Bool)
  /-- GUARD_PERIOD_EXPIRY (R312): An input not opened for GUARD_PERIOD hours clears TESTED and GUARD_DONE. -/
  | guardPeriodExpiry (k : Nat)
  /-- PROOF_DUE (R326): PROOF_HRS reaching PROOF_INT raises PROOF_DUE. -/
  | proofDue (g : Nat)
  /-- HK_SLOT_END (R336): A Breeze slot ends, producing its channel's value and evaluating its thresholds, throttle, cold block and shutdown. -/
  | hkSlotEnd (code code2 : Nat) (val : Word)
  /-- CLOSING_SLOT (R339): The closing slot checks the converter reference, halting or restarting the round, and advances re-arm qualification. -/
  | closingSlot (code : Nat)
  /-- GRACE_EXPIRY (R342): A throttle request still set at the end of GRACE starts enforcement. -/
  | graceExpiry (m : Nat)
  /-- REARM (R347): The keyed REARM clears the shutdown latch and its forced states once re-arm has qualified. -/
  | rearm (port : Port) (v : Word)
  /-- SD_ACK (R348): A write of SD_ACK with SD_SEQ clears the shutdown record. -/
  | sdAck (port : Port) (v : Word)
  /-- SLOT_SEND (R354): Each 100 ns a Karend slot is sent with the urgent state and one chosen bulk message. -/
  | slotSend
  /-- SLOT_RECEIVED (R354): A received Karend slot is checked and its urgent state of latches, STO, roles and handover bits is taken in. -/
  | slotReceived (commas : Bool) (bytes : List Nat) (irq : Bool)
  /-- SLOT_MISSING (R375): A bad or missing slot is counted, and two consecutive ones are a link failure or a takeover decision. -/
  | slotMissing
  /-- LANE_ALIGNMENT_LOST (R375): Loss of alignment on either lane is a link failure. -/
  | laneAlignmentLost
  /-- CTX_MIRROR (R362): A received context mirror record is written into the standby's copy before the next dispatch. -/
  | ctxMirror (body : List Nat) (age : Nat) (late : Bool)
  /-- MACH_MIRROR (R362): A received machine mirror record updates the standby's field-control state. -/
  | machMirror (body : List Nat) (age : Nat) (late : Bool)
  /-- PROF_MIRROR (R362): A received profile mirror record updates the standby's channel state. -/
  | profMirror (body : List Nat) (age : Nat) (late : Bool)
  /-- GRP_MIRROR (R362): A received group mirror record updates the standby's Headwind group state. -/
  | grpMirror (body : List Nat) (age : Nat) (late : Bool)
  /-- WRITE (R363): A received WRITE message is applied once per MSEQ as port 4 and acknowledged. -/
  | twinWrite (body : List Nat) (env : WriteEnv) (copy : Bool)
  /-- READ_REQ (R372): A received READ_REQ is served as port 4 and answered with READ_RSP. -/
  | twinReadReq (body : List Nat)
  /-- READ_RSP (R372): A received READ_RSP completes the remote read it answers. -/
  | twinReadRsp (body : List Nat)
  /-- ACK (R372): A received ACK completes a remote write and its refusal code. -/
  | twinAck (body : List Nat)
  /-- HELLO (R358): A received HELLO is checked for part, mode, role, tick and configuration CRC, or signals a device in RECOVERY. -/
  | twinHello (body : List Nat) (delay : Nat) (skew : Int) (up : Nat) (tbs : List (Nat × Nat))
  /-- MESSAGE_RETRANSMIT (R356): A WRITE or READ_REQ unanswered for 1 µs is sent again with the same MSEQ. -/
  | messageRetransmit (mseq : Nat)
  /-- ATTACH (R358): TWIN.CMD ATTACH begins attachment to the twin in WARD or TANDEM. -/
  | twinAttach (port : Port)
  /-- LANE_ALIGNED (R358): Both lanes achieve comma alignment and deskew, and LINK_UP sets. -/
  | laneAligned
  /-- ATTACH_TIMEOUT (R358): No lane alignment within 50 µs or no HELLO within 100 ms fails the attachment with NO_LINK. -/
  | attachTimeout
  /-- DETACH (R359): TWIN.CMD DETACH ends the pair at the next slot, and both devices enter SOLO. -/
  | twinDetach (port : Port)
  /-- SWAP (R367): TWIN.CMD SWAP starts a planned handover offer to an eligible standby. -/
  | twinSwap (port : Port)
  /-- CFG_COPY (R363): TWIN.CMD CFG_COPY forwards the content of every mirrored page to the standby. -/
  | twinCfgCopy (port : Port)
  /-- SERVE (R360): TWIN.CMD SERVE starts serving a twin in RECOVERY over the link. -/
  | twinServe (port : Port)
  /-- HANDOVER_OFFER_TIMEOUT (R367): No TAKE by S + 400 ns keeps the active driving and offers again, refusing a SWAP after three offers. -/
  | handoverOfferTimeout
  /-- OWNER_REFUSE_TIMEOUT (R368): A position still refused 2 µs after a takeover returns to STANDBY and the device enters SPLIT. -/
  | ownerRefuseTimeout
  /-- TB_SYNC (R373): TWIN.TB_SYNC starts master and follower timebases at the same engine tick 2 µs later. -/
  | twinTbSync (port : Port) (v : Word) (code : RefCode)
  /-- CAN_FRAME_RECEIVED (R385): A received CAN frame is offered to the queue heads in order and stored, dropped or passed to the island. -/
  | canFrameReceived (ch id : Nat) (xtd rtr fdf brs esi : Bool) (dlc : Nat) (data : List Nat) (sof : Nat)
  /-- CAN_TX_ATTEMPT_END (R386): A transmission attempt ends in success, lost arbitration or an error frame, ending the transmission at the retry limit. -/
  | canTxAttemptEnd (ch : Nat) (e : CanEnd) (sof : Nat)
  /-- RECOVER (R381): A write of RECOVER requests bus-off recovery. -/
  | canRecover (port : Port) (ch : Nat)
  /-- BUS_OFF_RECOVERY_DONE (R381): 128 occurrences of 11 recessive bits end bus-off. -/
  | busOffRecoveryDone (ch : Nat)
  /-- OBJ_ACK (R384): OBJ_CMD ACK returns a receive entry or a claimed object to hardware. -/
  | objAck (port : Port) (ch o : Nat)
  /-- OBJ_SEND (R384): OBJ_CMD SEND passes a TX object to hardware for transmission. -/
  | objSend (port : Port) (ch o : Nat)
  /-- OBJ_ABORT (R386): OBJ_CMD ABORT ends a pending transmission after any attempt on the bus finishes. -/
  | objAbort (port : Port) (ch o : Nat)
  /-- OBJ_CLAIM (R384): OBJ_CMD CLAIM takes an AUTO_TX object to software unless it is PENDING. -/
  | objClaim (port : Port) (ch o : Nat)
  /-- CAN_DISABLE (R389): A write that clears CTRL.EN aborts every pending transmission of the channel. -/
  | canDisable (port : Port) (ch : Nat) (v : Word)
  /-- MAC_FRAME_RECEIVED (R391): A received Ethernet frame is filtered and stored in the next slot, passed to the island, or dropped and counted. -/
  | macFrameReceived (m : Nat) (l : List Nat) (ok : Bool) (sfd : Nat)
  /-- MAC_TX_DONE (R394): A MAC transmission ends, returning the slot to software with its result and any timestamp. -/
  | macTxDone (m slot sfd : Nat)
  /-- SLOT_ACK (R394): SLOT_CMD ACK returns a slot to hardware. -/
  | slotAck (port : Port) (m slot : Nat) (rx : Bool)
  /-- SLOT_SEND_CMD (R394): SLOT_CMD SEND passes a transmit slot to hardware. -/
  | slotSendCmd (port : Port) (m slot : Nat) (rx : Bool)
  /-- SLOT_ABORT (R394): SLOT_CMD ABORT ends a pending slot transmission. -/
  | slotAbort (port : Port) (m slot : Nat) (rx : Bool)
  /-- SLOT_CLAIM (R394): SLOT_CMD CLAIM takes an AUTO slot to software unless it is PENDING. -/
  | slotClaim (port : Port) (m slot : Nat) (rx : Bool)
  /-- MDIO_CMD (R394): A write of MDIO_CMD starts a clause-22 management transfer. -/
  | mdioCmd (port : Port) (m : Nat) (v : Word)
  /-- MDIO_DONE (R394): A management transfer completes and raises MDIO_DONE. -/
  | mdioDone (m data : Nat)
  /-- PTP_STEP_S (R393): A write of PTP_STEP_S adds the signed step to the PTP clock. -/
  | ptpStepS (port : Port) (v : Word)
  /-- PTP_NS_READ (R395): A read of PTP_NS latches the PTP seconds. -/
  | ptpNsRead
  /-- PUBLICATION_DUE (R397): A publication entry's period expires and the publisher reads its snapshot group and sends a telemetry record. -/
  | publicationDue (e moved : Nat)
  /-- DMA_START (R405): CH_CMD START begins a run at once or arms the channel for its trigger. -/
  | dmaStart (port : Port) (k : Nat)
  /-- DMA_ABORT (R405): CH_CMD ABORT takes an ARMED channel to IDLE, or a BUSY channel to FAIL once its accesses are answered. -/
  | dmaAbort (port : Port) (k : Nat)
  /-- DMA_ACCESS_ANSWERED (R411): An answer to a DMA access advances the descriptor, completes it, or fails the run. -/
  | dmaAccessAnswered (k : Nat) (late : Bool) (env : WriteEnv)
  /-- DMA_ACCESS_TIMEOUT (R411): An access unanswered for 100 µs fails the run with ERR_TIMEOUT. -/
  | dmaAccessTimeout (k : Nat)
  /-- BIST_SLICE_START (R417): A 50 µs BIST slice starts and isolates its lane, datapath copy and memory bank. -/
  | bistSliceStart
  /-- BIST_SLICE_END (R420): A slice ends, judging the signatures and returning the tested portions to service. -/
  | bistSliceEnd (logic : List (BitVec 64)) (logicSteps : Nat) (mem : List (BitVec 64)) (memSteps : Nat) (conv : List (Nat × Nat × Nat × Nat)) (cells : List (Nat × Bool))
  /-- DATAPATH_LOCKSTEP_MISMATCH (R421): A lockstep mismatch of a datapath copy outside a slice is reported to the island. -/
  | datapathLockstepMismatch (p : Nat)
  /-- CONVERTER_CHECK_OVERDUE (R423): A converter unchecked for 4 ms takes a check outside a slice, and 6 ms without a check is a detected fault. -/
  | converterCheckOverdue (c : Nat) (codes : Option (Nat × Nat × Nat))
  /-- ECC_ERROR_DETECTED (R426): A scrub or access finds an ECC error, correcting it in place or reporting it as uncorrectable. -/
  | eccErrorDetected (place : EccPlace) (fixed : Bool)
  /-- BIST_CMD (R427): A write of BIST_CMD queues a host test of one portion in the next free 50 µs. -/
  | bistCmd (port : Port) (v : Word)
  /-- HOST_TEST_DONE (R427): A host-started test ends, raising HOST_DONE and reporting any failure. -/
  | hostTestDone (test : List (BitVec 64)) (steps : Nat) (conv : List (Nat × Nat × Nat × Nat)) (cells : List (Nat × Bool))
  /-- FUSE_CMD (R429): The keyed FUSE_CMD programs the soft repairs into fuses. -/
  | fuseCmd (port : Port) (v : Word)
  /-- FUSE_PROGRAM_DONE (R429): Fuse programming completes within 50 ms. -/
  | fuseProgramDone (dt : Nat) (ok : Bool)
  /-- EVENT_RECORD (R437): A block's event is rate-limited and written to the ring, tallied or lost, and queued for non-volatile memory and alarm routes. -/
  | eventRecord
  /-- TOKEN_REFILL (R437): A token refilled while a source's tally is non-zero is taken by a coalesced entry. -/
  | tokenRefill
  /-- STORM_WINDOW_END (R442): A 10 ms window ends and storm mode exits after 100 quiet windows. -/
  | stormWindowEnd
  /-- SUMMARY_PERIOD_END (R441): A summary period in storm mode ends and a summary record is sent on every route. -/
  | summaryPeriodEnd
  /-- RD_SEQ_WRITE (R435): A write of RD_SEQ releases ring entries. -/
  | rdSeqWrite (port : Port) (v : Word)
  /-- NV_CLR (R438): The keyed NV_CLR empties the FIRST and LAST regions. -/
  | nvClr (port : Port) (v : Word)
  /-- NV_ENTRY_WRITTEN (R438): The non-volatile write of a queued entry completes. -/
  | nvEntryWritten (dt : Nat)
  /-- CNT_CLR (R443): A write of CNT_CLR clears the named LOSS counters and NV_DROP. -/
  | cntClr (port : Port) (v : Word)
  /-- OPEN (R447): FW_CMD OPEN opens a download session and erases the inactive slot. -/
  | fwOpen (port : Port) (src : Nat)
  /-- ERASE_DONE (R447): The slot erase of an OPEN completes. -/
  | eraseDone (dt : Nat)
  /-- CLOSE (R447): FW_CMD CLOSE ends the session and sets the slot LOADED. -/
  | fwClose (port : Port)
  /-- BLOCK (R448): FW_CMD BLOCK checks the staged block's CRC and starts its programming. -/
  | fwBlock (port : Port)
  /-- BLOCK_PROGRAMMED (R448): A block's programming completes and its bit is set in the programmed map. -/
  | blockProgrammed (dt : Nat)
  /-- FW_RECORD (R448): Pair 0 receives an image record of kind 0x4 over CAN FD or Ethernet and relays it to the staging window and commands. -/
  | fwRecord (src : Nat) (l : List Nat)
  /-- VERIFY (R449): FW_CMD VERIFY checks the header, blocks, part, key, rollback and signature of the inactive slot. -/
  | fwVerify (port : Port)
  /-- VERIFY_DONE (R449): Verification completes and sets the slot VERIFIED or leaves it LOADED with a failure code. -/
  | verifyDone (dt : Nat)
  /-- SESSION_IDLE_TIMEOUT (R447): A session ends 60 s after its last accepted BLOCK. -/
  | sessionIdleTimeout
  /-- ACTIVATE (R453): FW_CMD ACTIVATE starts the Updraft handover, or in RECOVERY makes slot 0 GOOD and resets. -/
  | fwActivate (port : Port)
  /-- PAIR_READY (R453): The incoming Tykor pair writes READY and HANDOVER_REQ is raised. -/
  | pairReady (dt : Nat)
  /-- READY_TIMEOUT (R453): No READY within 200 ms fails the handover with BOOT_TIMEOUT, or leaves pair 1 supervising on a return. -/
  | readyTimeout
  /-- HANDOFF (R453): The supervising pair writes its state record and HANDOFF, and supervision moves at the next epoch. -/
  | handoff
  /-- CONFIRM (R455): FW_CMD CONFIRM from the trial image makes the slot GOOD, advances ARB_CTR and returns supervision to pair 0. -/
  | fwConfirm (port : Port)
  /-- REJECT (R456): FW_CMD REJECT falls back to the PREVIOUS image. -/
  | fwReject (port : Port)
  /-- ERASE (R458): FW_CMD ERASE sets a FAILED or PREVIOUS inactive slot to EMPTY. -/
  | fwErase (port : Port)
  /-- TRIAL_TIMEOUT (R456): The 30 s trial timer reaching 0 falls back with CONFIRM_TIMEOUT. -/
  | trialTimeout
  /-- SUPERVISION_RETURN_RETRY (R455): At the next 1 s boundary a failed return of supervision to pair 0 is tried again. -/
  | supervisionReturnRetry
  /-- LC_CMD (R461): A keyed lifecycle change programs the fuses and causes a system reset. -/
  | lcCmd (port : Port) (v : Word)
  /-- LC_PROGRAM_DONE (R461): Lifecycle fuse programming completes within 20 ms and the system reset follows. -/
  | lcProgramDone (dt : Nat)
  /-- KEY_PROGRAM (R463): KEY_CMD PROGRAM checks and programs a public key, with SET_DBG naming the debug key. -/
  | keyProgram (port : Port) (v : Word)
  /-- KEY_REVOKE (R464): A keyed write to KEY_REVOKE blows the revocation fuse of a key. -/
  | keyRevoke (port : Port) (v : Word)
  /-- TAP_UPDATE_IR (R466): Loading a TAP instruction selects it, with EXTEST, CLAMP and HIGHZ causing a system reset where they act. -/
  | tapUpdateIr (code : Nat)
  /-- CHAL (R468): DBG_CMD CHAL draws a 32-byte nonce valid for 10 s and one AUTH. -/
  | dbgChal (port : Port) (nonce : List Word)
  /-- AUTH (R468): DBG_CMD AUTH starts verification of the signed debug grant. -/
  | dbgAuth (port : Port) (level : Nat)
  /-- AUTH_DONE (R468): The grant verification completes within 60 ms, setting the level or counting a failure. -/
  | authDone (dt : Nat)
  /-- NONCE_EXPIRY (R468): A debug nonce expires 10 s after CHAL. -/
  | nonceExpiry
  /-- DEBUG_BLOCK_EXPIRY (R468): The 300 s block on CHAL after five consecutive failures ends. -/
  | debugBlockExpiry
  /-- CLOSE_GRANT (R469): DBG_CMD CLOSE ends the debug grant and releases its halts. -/
  | closeGrant (port : Port)
  /-- SYSRST (R470): DBG_CMD SYSRST causes a system reset with cause DEBUG. -/
  | sysrst (port : Port)
  /-- DBG_HALT_WRITE (R470): A write of DBG_HALT halts or resumes the Tykor pairs, the CLE or the island within 1 µs. -/
  | dbgHaltWrite (port : Port) (v : Word)
  /-- PWR_RUN (R472): PWR_CMD RUN returns the device to RUN from HOLD or SLEEP. -/
  | pwrRun (port : Port)
  /-- PWR_HOLD (R472): PWR_CMD HOLD enters HOLD and stops running timebases at their next period boundary. -/
  | pwrHold (port : Port)
  /-- PWR_SLEEP (R473): PWR_CMD SLEEP is accepted as pending, with CLK_SUP gated at the next epoch. -/
  | pwrSleep (port : Port)
  /-- PWR_OFF (R474): PWR_CMD OFF drains non-volatile writes, applies the brake, stops the island and drives PWRDN_N low. -/
  | pwrOff (port : Port)
  /-- OFF_DRAIN_DONE (R474): The non-volatile writes of an OFF complete and the device enters OFF. -/
  | offDrainDone (dt : Nat)
  /-- WAKE_EVENT (R473): An enabled wake event restarts CLK_SUP from SLEEP or abandons a pending SLEEP. -/
  | wakeEvent (k : Nat)
  /-- TAP_TEST_LOGIC_RESET (R466): The TAP enters Test-Logic-Reset through TMS or TRST_N, which releases a bring-up held in SUPPLY_CHECK after EXTEST, CLAMP or HIGHZ. -/
  | tapTestLogicReset
  /-- COMPARATOR_OUTPUT_RETURN (R276): A fast comparator's output returns inside its band, so its Squall source's cause becomes inactive and an automatic retry whose WAIT has already run out clears the latch. -/
  | comparatorOutputReturn (c : CmpInput)
  /-- DRIVER_UNDERVOLTAGE (R249): A driver's gate supply passes its lockout level (UV_POS or UV_NEG) or its temperature passes the OT level, holding the gate off or freeing it and being reported in the next uplink. -/
  | driverUndervoltage (n which : Nat) (b : Bool)
  /-- KEY_PROGRAM_DONE (R463): Programming of a public key into fuses completes within 10 ms, setting its programmed bit in KEY_STAT. -/
  | keyProgramDone (dt : Nat)
  deriving DecidableEq, Repr

end Sys2Proof
end

