-- ==== Sys2Proof/Decode.lean ====
section
/-! DEFINITION. The command a word spells by the table's bits. The rows of spec/opcode_table.json give no bits: the
block takes commands, not encoded words, so no word spells a command. -/

namespace Sys2Proof

/-- The command that `nbits` bits of value `w` spell by the table: none, since no row of the table gives bits. -/
def decodeTableWord (_nbits _w : Nat) : Option Instr := none

end Sys2Proof
end

