-- ==== Sys2Proof/Machine/Crypto.lean ====
section
/-! DEFINITION. The checks the manual names: CRC-16/CCITT (R53), CRC-32C (R122), CRC-32 (R313), CRC-6 (R239),
SHA-256, and ECDSA verification on the P-256 curve (R449, R468). Bytes are numbers below 256. -/

namespace Sys2Proof.Machine

/-- The four bytes of a word, most significant first. -/
def wordBytes (w : Word) : List Nat :=
  [w.toNat / 2 ^ 24 % 256, w.toNat / 2 ^ 16 % 256, w.toNat / 2 ^ 8 % 256, w.toNat % 256]

/-- The bytes of a list of words, each most significant byte first. -/
def wordsBytes (l : List Word) : List Nat := l.flatMap wordBytes

/-- The word of four bytes, most significant first; missing bytes read zero. -/
def bytesWord (l : List Nat) : Word :=
  word (l.getD 0 0 * 2 ^ 24 + l.getD 1 0 * 2 ^ 16 + l.getD 2 0 * 2 ^ 8 + l.getD 3 0)

/-- The big-endian number of a list of bytes. -/
def bytesNat (l : List Nat) : Nat := l.foldl (fun a b => a * 256 + b) 0

namespace Crc

/-- `n` steps of a most-significant-bit-first register of `w` bits. -/
def stepsMsb (w poly : Nat) : Nat → Nat → Nat
  | 0, c => c
  | n + 1, c => stepsMsb w poly n (if c / 2 ^ (w - 1) % 2 = 1 then (c * 2 % 2 ^ w) ^^^ poly else c * 2 % 2 ^ w)

/-- `n` steps of a reflected register. -/
def stepsRef (poly : Nat) : Nat → Nat → Nat
  | 0, c => c
  | n + 1, c => stepsRef poly n (if c % 2 = 1 then (c / 2) ^^^ poly else c / 2)

/-- CRC-16/CCITT: polynomial 0x1021, initial value 0xFFFF, not reflected, no final XOR (R53). -/
def crc16 (l : List Nat) : Nat := l.foldl (fun c b => stepsMsb 16 0x1021 8 (c ^^^ (b * 256))) 0xFFFF

/-- CRC-32C: polynomial 0x1EDC6F41, reflected, initial and final XOR 0xFFFFFFFF (R122). -/
def crc32c (l : List Nat) : Nat := (l.foldl (fun c b => stepsRef 0x82F63B78 8 (c ^^^ b)) 0xFFFFFFFF) ^^^ 0xFFFFFFFF

/-- CRC-32: polynomial 0x04C11DB7, reflected, initial value `seed`, final XOR 0xFFFFFFFF (R313). -/
def crc32 (seed : Nat) (l : List Nat) : Nat := (l.foldl (fun c b => stepsRef 0xEDB88320 8 (c ^^^ b)) seed) ^^^ 0xFFFFFFFF

/-- One bit into a CRC-6 register of polynomial x^6 + x + 1. -/
def bit6 (c : Nat) (b : Bool) : Nat :=
  let top := decide (c / 32 % 2 = 1)
  let s := c * 2 % 64
  if top != b then s ^^^ 3 else s

/-- CRC-6 over bits, first bit first. -/
def crc6 (init : Nat) (l : List Bool) : Nat := l.foldl bit6 init

end Crc

namespace Sha

/-- The round constants of SHA-256 (FIPS 180-4). -/
def kTab : List Nat :=
  [0x428a2f98, 0x71374491, 0xb5c0fbcf, 0xe9b5dba5, 0x3956c25b, 0x59f111f1, 0x923f82a4, 0xab1c5ed5, 0xd807aa98,
    0x12835b01, 0x243185be, 0x550c7dc3, 0x72be5d74, 0x80deb1fe, 0x9bdc06a7, 0xc19bf174] ++
  [0xe49b69c1, 0xefbe4786, 0x0fc19dc6, 0x240ca1cc, 0x2de92c6f, 0x4a7484aa, 0x5cb0a9dc, 0x76f988da, 0x983e5152,
    0xa831c66d, 0xb00327c8, 0xbf597fc7, 0xc6e00bf3, 0xd5a79147, 0x06ca6351, 0x14292967] ++
  [0x27b70a85, 0x2e1b2138, 0x4d2c6dfc, 0x53380d13, 0x650a7354, 0x766a0abb, 0x81c2c92e, 0x92722c85, 0xa2bfe8a1,
    0xa81a664b, 0xc24b8b70, 0xc76c51a3, 0xd192e819, 0xd6990624, 0xf40e3585, 0x106aa070] ++
  [0x19a4c116, 0x1e376c08, 0x2748774c, 0x34b0bcb5, 0x391c0cb3, 0x4ed8aa4a, 0x5b9cca4f, 0x682e6ff3, 0x748f82ee,
    0x78a5636f, 0x84c87814, 0x8cc70208, 0x90befffa, 0xa4506ceb, 0xbef9a3f7, 0xc67178f2]

/-- The initial hash value. -/
def h0 : List Nat :=
  [0x6a09e667, 0xbb67ae85, 0x3c6ef372, 0xa54ff53a, 0x510e527f, 0x9b05688c, 0x1f83d9ab, 0x5be0cd19]

/-- Rotate a 32-bit number right. -/
def rotr (x n : Nat) : Nat := (x / 2 ^ n) ^^^ (x * 2 ^ (32 - n) % 2 ^ 32)

/-- The sixteen latest schedule words, newest first, and the next one. -/
def nextW (l : List Nat) : Nat :=
  let a := l.getD 14 0
  let b := l.getD 1 0
  let s0 := rotr a 7 ^^^ rotr a 18 ^^^ (a / 2 ^ 3)
  let s1 := rotr b 17 ^^^ rotr b 19 ^^^ (b / 2 ^ 10)
  (l.getD 15 0 + s0 + l.getD 6 0 + s1) % 2 ^ 32

/-- The message schedule, newest first. -/
def schedule : Nat → List Nat → List Nat
  | 0, l => l
  | n + 1, l => schedule n (nextW l :: l)

/-- One round on the eight working variables. -/
def round (v : List Nat) (kw : Nat) : List Nat :=
  match v with
  | [a, b, c, d, e, f, g, h] =>
    let s1 := rotr e 6 ^^^ rotr e 11 ^^^ rotr e 25
    let ch := (e &&& f) ^^^ ((0xFFFFFFFF - e) &&& g)
    let t1 := (h + s1 + ch + kw) % 2 ^ 32
    let s0 := rotr a 2 ^^^ rotr a 13 ^^^ rotr a 22
    let mj := (a &&& b) ^^^ (a &&& c) ^^^ (b &&& c)
    [(t1 + s0 + mj) % 2 ^ 32, a, b, c, (d + t1) % 2 ^ 32, e, f, g]
  | _ => v

/-- One block of sixteen words. -/
def block (h ws : List Nat) : List Nat :=
  let w := (schedule 48 ws.reverse).reverse
  let v := (List.zipWith (fun k x => k + x) kTab w).foldl round h
  List.zipWith (fun a b => (a + b) % 2 ^ 32) h v

/-- Words of a byte list, four bytes each. -/
def toWords : List Nat → List Nat
  | a :: b :: c :: d :: r => (((a * 256 + b) * 256 + c) * 256 + d) :: toWords r
  | _ => []

/-- Blocks of sixteen words, `n` of them. -/
def blocks : Nat → List Nat → List Nat → List Nat
  | 0, _, h => h
  | n + 1, ws, h => blocks n (ws.drop 16) (block h (ws.take 16))

/-- SHA-256 of a byte list, as eight words. -/
def sha256 (l : List Nat) : List Nat :=
  let n := l.length
  let pad := List.replicate ((119 - n % 64) % 64) 0
  let m := l ++ [0x80] ++ pad ++ (List.range 8).map (fun i => n * 8 / 2 ^ (8 * (7 - i)) % 256)
  blocks ((m.length) / 64) (toWords m) h0

/-- The digest as a number. -/
def digestNat (l : List Nat) : Nat := (sha256 l).foldl (fun a b => a * 2 ^ 32 + b) 0

end Sha

namespace P256

/-- The field prime, the curve coefficient b, the group order and the base point of P-256 (FIPS 186-4). -/
def p : Nat := 0xffffffff00000001000000000000000000000000ffffffffffffffffffffffff
def b : Nat := 0x5ac635d8aa3a93e7b3ebbd55769886bc651d06b0cc53b0f63bce3c3e27d2604b
def n : Nat := 0xffffffff00000000ffffffffffffffffbce6faada7179e84f3b9cac2fc632551
def gx : Nat := 0x6b17d1f2e12c4247f8bce6e563a440f277037d812deb33a0f4a13945d898c296
def gy : Nat := 0x4fe342e2fe1a7f9b8ee7eb4a7c0f9e162bce33576b315ececbb6406837bf51f5

/-- a^e mod m over the `k` low bits of e. -/
def powMod (m : Nat) : Nat → Nat → Nat → Nat → Nat
  | 0, _, _, acc => acc
  | k + 1, a, e, acc => powMod m k (a * a % m) (e / 2) (if e % 2 = 1 then acc * a % m else acc)

/-- The inverse modulo a prime. -/
def inv (m a : Nat) : Nat := powMod m 256 (a % m) (m - 2) 1

/-- a - b modulo p. -/
def subp (a b : Nat) : Nat := (a + p - b % p) % p

/-- A point in Jacobian coordinates; z = 0 is the point at infinity. -/
structure Pt where
  x : Nat
  y : Nat
  z : Nat
  deriving DecidableEq, Repr

/-- Twice a point. -/
def dbl (a : Pt) : Pt :=
  if a.z = 0 ∨ a.y = 0 then ⟨1, 1, 0⟩
  else
    let yy := a.y * a.y % p
    let s := 4 * a.x * yy % p
    let zz := a.z * a.z % p
    let m := 3 * (subp a.x zz) * ((a.x + zz) % p) % p
    let x := subp (m * m) (2 * s)
    ⟨x, subp (m * subp s x) (8 * yy * yy), 2 * a.y * a.z % p⟩

/-- The sum of two points. -/
def add (a c : Pt) : Pt :=
  if a.z = 0 then c
  else if c.z = 0 then a
  else
    let z1 := a.z * a.z % p
    let z2 := c.z * c.z % p
    let u1 := a.x * z2 % p
    let u2 := c.x * z1 % p
    let s1 := a.y * z2 * c.z % p
    let s2 := c.y * z1 * a.z % p
    if u1 = u2 then (if s1 = s2 then dbl a else ⟨1, 1, 0⟩)
    else
      let h := subp u2 u1
      let r := subp s2 s1
      let hh := h * h % p
      let hhh := h * hh % p
      let v := u1 * hh % p
      let x := subp (r * r) (hhh + 2 * v)
      ⟨x, subp (r * subp v x) (s1 * hhh), a.z * c.z * h % p⟩

/-- k times a point over the low `i` bits of k. -/
def mulPt : Nat → Nat → Pt → Pt → Pt
  | 0, _, _, acc => acc
  | i + 1, k, a, acc => mulPt i (k / 2) (dbl a) (if k % 2 = 1 then add acc a else acc)

/-- Is (x, y) a point of the curve? -/
def onCurve (x y : Nat) : Bool :=
  decide (x < p ∧ y < p) && decide (y * y % p = (x * x * x + (p - 3) * x + b) % p)

/-- ECDSA verification of the signature (r, s) over a digest under the key (x, y). -/
def verify (x y digest r s : Nat) : Bool :=
  onCurve x y && decide (0 < r ∧ r < n ∧ 0 < s ∧ s < n) &&
    (let w := inv n s
     let u1 := digest % n * w % n
     let u2 := r * w % n
     let q := add (mulPt 256 u1 ⟨gx, gy, 1⟩ ⟨1, 1, 0⟩) (mulPt 256 u2 ⟨x, y, 1⟩ ⟨1, 1, 0⟩)
     decide (q.z ≠ 0) && decide ((q.x * inv p (q.z * q.z) % p) % n = r))

end P256

end Sys2Proof.Machine
end

