-- ==== Sys2Proof/Config.lean ====
section
/-! DEFINITION. What an implementation fixes and the manual leaves open: constants with no body, so that nothing can
be proved about their values. -/

namespace Sys2Proof.Config

/-- A value the manual leaves undefined, one for each use (counter `State.free`). -/
opaque freeWord : Nat → Word

/-- The unique identification words of the `ID` page (HW). -/
opaque uniqueId : Nat → Word

/-- `BLK_VER` of each page (HW, R38). -/
opaque blkVer : Nat → Word

/-- `CAPS`[29:0] of each page, where the block defines them (HW, R38). -/
opaque capsBits : Nat → Word

/-- Sign and payload of the NaN an IEEE 754 operation gives; the standard leaves both open. -/
opaque nanBits : Nat → Nat → Nat

/-- Functions the manual names and whose last bits IEEE 754-2019 leaves to the implementation, on binary32 words. -/
opaque sin32 : Word → Word
opaque cos32 : Word → Word
opaque atan2_32 : Word → Word → Word
opaque exp32 : Word → Word
opaque ln32 : Word → Word

/-- The temperature of a PT1000 below 0 °C on the curve of IEC 60751, of its resistance: the standard gives no closed form (R337). -/
opaque ptCold : Word → Word

/-- `CONV_OFS` and `CONV_GAIN` of converter `k` of chain `x` after its `n`-th calibration, in the device's internal
format (R90, R105). -/
opaque convOfs (n x k : Nat) : Word
opaque convGain (n x k : Nat) : Word

/-- The SAR code with the converter's stored factors applied, before it is held within the code range (R90): no rule says how they
enter. -/
opaque convCode (ofs gain : Word) (code : Int) : Int

/-- What the current laws' plant model gives and the manual names without stating its discretisation (R116, R144, R145,
R152), on the inputs of the computation. The deadbeat voltage before its limit (0 d, 1 q) is linear in the currents and the link
voltage for a given angle (R151): its part free of them, and the gain of selector `k`; its slope over the angle. Of the rest: the predicted
current or neutral-point deviation of candidate `j` (0 d, 1 q, 2 neutral point), the angle at the end of the horizon, the predicted
sample (selector number), the bounds L (0) and Q (1), and the slope of the cost of candidate `j` over selector `k`. -/
opaque deadbeatBase : List Word → Nat → Word
opaque deadbeatGain : List Word → Nat → Nat → Word
opaque angleSens : List Word → Nat → Word
opaque candidate : List Word → Nat → Nat → Word
opaque horizonAngle : List Word → Word
opaque predictSample : List Word → Nat → Word
opaque costBound : List Word → Nat → Word
opaque costSens : List Word → Nat → Nat → Word

/-- How long a soft turn-off of the driver of position `n` lasts, and how long after an ALL_OFF frame's last bit its turn-off begins, of
which at most 20 ns are used, in cycles (R251): the manual leaves both to the driver. -/
opaque softOffTime (n : Nat) : Nat
opaque offDelay (n : Nat) : Nat

/-- The level at instant `t` of the pin that the other device of a WARD pair drives into the driver of position `n` (R256). -/
opaque peerPin (n t : Nat) : Bool

/-- Die revision of IDCODE (HW, R465). -/
opaque dieRevision : BitVec 4

/-- The stored signature of a portion for a slice number, 0xFF for a host test, as its high and low word (HW, R424). -/
opaque signature (portion slice : Nat) : Word × Word

end Sys2Proof.Config
end

