-- ==== Sys2Proof/Machine/KMap.lean ====
section
/-! DEFINITION. Sparse maps in one canonical form: a list of (key, value) pairs with strictly rising keys and no
entry equal to what an unlisted key reads as (`d`). Registers, memory windows and per-object hidden state use it. -/

namespace Sys2Proof.Machine

namespace KMap

variable {α : Type} [DecidableEq α]

/-- The value of key `a`; an unlisted key reads as `d a`. -/
def get (d : Nat → α) : List (Nat × α) → Nat → α
  | [], a => d a
  | (b, w) :: r, a => if b = a then w else get d r a

/-- The map without any entry for `a`. -/
def erase : List (Nat × α) → Nat → List (Nat × α)
  | [], _ => []
  | (b, w) :: r, a => if b = a then erase r a else (b, w) :: erase r a

/-- The map with (a, v) put before the first entry whose key is not below `a`. -/
def insert : List (Nat × α) → Nat → α → List (Nat × α)
  | [], a, v => [(a, v)]
  | (b, w) :: r, a, v => if b < a then (b, w) :: insert r a v else (a, v) :: (b, w) :: r

/-- The map in which `a` holds `v`; writing the value an unlisted key reads as removes the entry. -/
def set (d : Nat → α) (m : List (Nat × α)) (a : Nat) (v : α) : List (Nat × α) :=
  if v = d a then erase m a else insert (erase m a) a v

/-- The map `m` in which every key that satisfies `p` takes the value it has in `src`. -/
def copyWhere (p : Nat → Bool) (src m : List (Nat × α)) : List (Nat × α) :=
  (src.filter (fun e => p e.1)).foldr (fun e acc => insert acc e.1 e.2) (m.filter (fun e => !p e.1))

/-- The map without the entries whose key satisfies `p`: those keys read as unlisted again. -/
def dropWhere (p : Nat → Bool) (m : List (Nat × α)) : List (Nat × α) :=
  m.filter (fun e => !p e.1)

/-- The canonical form: keys strictly rise, and no entry equals what an unlisted key reads as. -/
def wf (d : Nat → α) : List (Nat × α) → Bool
  | [] => true
  | [(a, v)] => decide (v ≠ d a)
  | (a, v) :: (b, w) :: r => decide (a < b) && decide (v ≠ d a) && wf d ((b, w) :: r)

end KMap

end Sys2Proof.Machine
end

