-- ==== Sys2Proof/Machine/RegMap.lean ====
section
/-! DEFINITION. The register map: every page kind, its place, and its registers with offset, access code (R10),
reset value and the bits that exist (reserved bits read zero, R9). One row per row of the spec's register tables. -/

namespace Sys2Proof.Machine

/-- Access codes (R10). -/
inductive Acc where
  | ro | rw | wo | w1c | rwl | ros
  deriving DecidableEq, Repr

/-- One register row: `n1` copies `st1` bytes apart, each of `n2` consecutive words. -/
structure RegRow where
  off : Nat
  n1 : Nat
  st1 : Nat
  n2 : Nat
  acc : Acc
  rst : Nat
  mask : Nat
  deriving DecidableEq, Repr

/-- The kinds of page and window the chapters define. -/
inductive PageKind where
  | id | bup | clk | host | measCtl | measCh | measTel | crosswind | cle | cleTel | headwind | ctxWin | foc | prof | pwmTb | pwmCh | pwmGrp | pwmTrip | pwmTel | glink | glPos | glTel | prot | protSrc | protCmp | protTel | therm | thermCh | thermTs | safe | safePw | safeParam | safeIn | safeTg | safeTel | tmon | can | mac | ptp | pub | ethTx | ethRx | twin | twinTel | dma | dmaDesc | dmaCh | bist | bistTel | evrec | fwim | sec | secKey | secDbg | canRam
  deriving DecidableEq, Repr

/-- The kind of page number `p` (address / 4096), none where no chapter defines the page (R34). -/
def pageKind (p : Nat) : Option PageKind :=
  if p = 0x0 then some .id else
  if p = 0x1 then some .bup else
  if p = 0x10 then some .clk else
  if p = 0x20 then some .host else
  if p = 0x40 ∨ p = 0x50 then some .measCtl else
  if p = 0x41 ∨ p = 0x51 then some .measCh else
  if p = 0x42 ∨ p = 0x52 then some .measTel else
  if p = 0x43 then some .crosswind else
  if p = 0x80 then some .cle else
  if p = 0x81 then some .cleTel else
  if p = 0x82 then some .headwind else
  if (0xA0 ≤ p ∧ p ≤ 0xBF) then some .ctxWin else
  if (0x100 ≤ p ∧ p ≤ 0x103) then some .foc else
  if (0x120 ≤ p ∧ p ≤ 0x123) then some .prof else
  if p = 0x140 then some .pwmTb else
  if p = 0x141 then some .pwmCh else
  if p = 0x142 then some .pwmGrp else
  if p = 0x143 then some .pwmTrip else
  if p = 0x144 then some .pwmTel else
  if p = 0x160 then some .glink else
  if p = 0x161 then some .glPos else
  if p = 0x162 then some .glTel else
  if p = 0x180 then some .prot else
  if p = 0x181 then some .protSrc else
  if p = 0x182 then some .protCmp else
  if p = 0x183 then some .protTel else
  if p = 0x1A0 then some .therm else
  if p = 0x1A1 then some .thermCh else
  if p = 0x1A2 then some .thermTs else
  if p = 0x200 then some .safe else
  if p = 0x201 then some .safePw else
  if p = 0x202 then some .safeParam else
  if p = 0x203 then some .safeIn else
  if p = 0x204 then some .safeTg else
  if p = 0x205 then some .safeTel else
  if p = 0x220 then some .tmon else
  if (0x240 ≤ p ∧ p ≤ 0x243) then some .can else
  if (0x280 ≤ p ∧ p ≤ 0x281) then some .mac else
  if p = 0x282 then some .ptp else
  if p = 0x283 then some .pub else
  if (0x290 ≤ p ∧ p ≤ 0x297) ∨ (0x2A0 ≤ p ∧ p ≤ 0x2A7) then some .ethTx else
  if (0x298 ≤ p ∧ p ≤ 0x29F) ∨ (0x2A8 ≤ p ∧ p ≤ 0x2AF) then some .ethRx else
  if p = 0x2C0 then some .twin else
  if p = 0x2C1 then some .twinTel else
  if p = 0x300 then some .dma else
  if (0x301 ≤ p ∧ p ≤ 0x302) then some .dmaDesc else
  if p = 0x303 then some .dmaCh else
  if p = 0x320 then some .bist else
  if p = 0x321 then some .bistTel else
  if p = 0x340 then some .evrec else
  if p = 0x360 then some .fwim else
  if p = 0x380 then some .sec else
  if p = 0x381 then some .secKey else
  if p = 0x382 then some .secDbg else
  if (0x400 ≤ p ∧ p ≤ 0x40F) then some .canRam else
  none

/-- `CAPS`.SNAP: the page holds a snapshot group (R38). -/
def PageKind.snap : PageKind → Bool
  | .measTel | .crosswind | .cleTel | .foc | .prof | .pwmTel | .glTel | .protTel | .therm | .safeTel | .tmon | .can | .mac | .twinTel | .bistTel => true
  | .id | .bup | .clk | .host | .measCtl | .measCh | .cle | .headwind | .ctxWin | .pwmTb | .pwmCh | .pwmGrp | .pwmTrip | .glink | .glPos | .prot | .protSrc | .protCmp | .thermCh | .thermTs | .safe | .safePw | .safeParam | .safeIn | .safeTg | .ptp | .pub | .ethTx | .ethRx | .twin | .dma | .dmaDesc | .dmaCh | .bist | .evrec | .fwim | .sec | .secKey | .secDbg | .canRam => false

/-- `CAPS`.LOCKABLE: the page holds RW/L registers (R38). DEDUCED: the page has an RW/L register with a bit that can be written, SNAP_CTRL of
a page with a snapshot group among them, or its chapter puts a command behind its LOCK or speaks of its LOCK (R327). The header's CTRL and
SNAP_CTRL of a page that gives them no field hold nothing. -/
def PageKind.lockable : PageKind → Bool
  | .clk | .host | .measCtl | .measCh | .measTel | .crosswind | .cle | .cleTel | .headwind | .foc | .prof | .pwmTb | .pwmCh | .pwmGrp | .pwmTrip | .pwmTel | .glink | .glPos | .glTel | .prot | .protSrc | .protCmp | .protTel | .therm | .thermCh | .thermTs | .safe | .safeParam | .safeIn | .safeTg | .safeTel | .tmon | .can | .mac | .ptp | .pub | .ethTx | .twin | .twinTel | .dmaDesc | .dmaCh | .bist | .bistTel | .evrec | .fwim | .sec | .secKey => true
  | .id | .bup | .safePw | .ethRx | .dma | .secDbg | .ctxWin | .canRam => false

/-- The page also needs the safety password (R41). -/
def PageKind.password : PageKind → Bool
  | .safe | .safePw | .safeParam | .safeIn | .safeTg | .safeTel | .tmon => true
  | .id | .bup | .clk | .host | .measCtl | .measCh | .measTel | .crosswind | .cle | .cleTel | .headwind | .ctxWin | .foc | .prof | .pwmTb | .pwmCh | .pwmGrp | .pwmTrip | .pwmTel | .glink | .glPos | .glTel | .prot | .protSrc | .protCmp | .protTel | .therm | .thermCh | .thermTs | .can | .mac | .ptp | .pub | .ethTx | .ethRx | .twin | .twinTel | .dma | .dmaDesc | .dmaCh | .bist | .bistTel | .evrec | .fwim | .sec | .secKey | .secDbg | .canRam => false

/-- Windows carry no page header (R37). -/
def PageKind.header : PageKind → Bool
  | .ctxWin | .canRam => false
  | .id | .bup | .clk | .host | .measCtl | .measCh | .measTel | .crosswind | .cle | .cleTel | .headwind | .foc | .prof | .pwmTb | .pwmCh | .pwmGrp | .pwmTrip | .pwmTel | .glink | .glPos | .glTel | .prot | .protSrc | .protCmp | .protTel | .therm | .thermCh | .thermTs | .safe | .safePw | .safeParam | .safeIn | .safeTg | .safeTel | .tmon | .can | .mac | .ptp | .pub | .ethTx | .ethRx | .twin | .twinTel | .dma | .dmaDesc | .dmaCh | .bist | .bistTel | .evrec | .fwim | .sec | .secKey | .secDbg => true

/-- The header registers of R37 that hold state of their own; BLK_ID, BLK_VER and CAPS are HW constants. -/
def hdrRows : List RegRow := [
  ⟨0x00, 1, 0, 3, .ro, 0, 0xFFFFFFFF⟩, ⟨0x0C, 1, 0, 1, .rwl, 0, 0⟩, ⟨0x10, 1, 0, 2, .ro, 0, 0xFFFFFFFF⟩, ⟨0x18, 1, 0, 1, .rw, 0, 0xFFFFFFFF⟩,
  ⟨0x1C, 1, 0, 1, .w1c, 0, 0xFFFFFFFF⟩, ⟨0x20, 1, 0, 1, .rw, 0, 0xFFFFFFFF⟩, ⟨0x24, 1, 0, 1, .rw, 0, 0xFFFFFFFF⟩,
  ⟨0x28, 1, 0, 1, .rwl, 0, 0xFFFF00F0⟩, ⟨0x2C, 1, 0, 2, .ro, 0, 0xFFFFFFFF⟩]

/-- Registers of the IdP page (20_security_debug_power.md). -/
def rowsId : List RegRow := [
  ⟨0x40, 1, 0x0, 4, .ro, 0x0, 0xFFFFFFFF⟩]

/-- Registers of the Bup page (03_bringup_clocks_reset.md). -/
def rowsBup : List RegRow := [
  ⟨0x40, 1, 0x0, 1, .ro, 0x11, 0xFFFFFFFF⟩,
  ⟨0x44, 1, 0x0, 1, .ro, 0x0, 0xFFFFFFFF⟩,
  ⟨0x48, 1, 0x0, 1, .w1c, 0x1, 0x70FFF⟩,
  ⟨0x4C, 1, 0x0, 1, .ro, 0x0, 0xFFFFFFFF⟩,
  ⟨0x50, 1, 0x0, 1, .ro, 0x0, 0xFFFFFFFF⟩,
  ⟨0x54, 1, 0x0, 1, .ro, 0x0, 0xFFFFFFFF⟩]

/-- Registers of the Clk page (03_bringup_clocks_reset.md). -/
def rowsClk : List RegRow := [
  ⟨0x40, 1, 0x0, 1, .ro, 0x0, 0xFFFFFFFF⟩,
  ⟨0x44, 1, 0x0, 1, .rwl, 0x0, 0x1⟩,
  ⟨0x48, 1, 0x0, 1, .ro, 0x0, 0xFFFFFFFF⟩,
  ⟨0x4C, 1, 0x0, 1, .ro, 0x0, 0xFFFFFFFF⟩,
  ⟨0x50, 1, 0x0, 1, .rwl, 0x0, 0x3⟩,
  ⟨0x54, 1, 0x0, 1, .wo, 0x0, 0xFFFFFFFF⟩,
  ⟨0x58, 1, 0x0, 1, .ro, 0xFF, 0xFFFFFFFF⟩]

/-- Registers of the HostP page (02_register_fabric.md). -/
def rowsHost : List RegRow := [
  ⟨0xC, 1, 0x0, 1, .rwl, 0x0, 0x1⟩,
  ⟨0x120, 1, 0x0, 1, .ro, 0x0, 0xFFFFFFFF⟩,
  ⟨0x124, 1, 0x0, 1, .rwl, 0x0, 0xFFFF⟩,
  ⟨0x100, 1, 0x0, 1, .rwl, 0xFFFFFF8F, 0xFFFFFFFF⟩,
  ⟨0x104, 1, 0x0, 1, .rwl, 0xF8898FFF, 0xFFFFFFFF⟩,
  ⟨0x108, 1, 0x0, 1, .rwl, 0xFFBFFAF, 0xFFFFFFF⟩,
  ⟨0x10C, 1, 0x0, 1, .rwl, 0x0, 0x0⟩]

/-- Registers of the MeasCtl page (04_measurement_chains.md). -/
def rowsMeasCtl : List RegRow := [
  ⟨0xC, 1, 0x0, 1, .rwl, 0x0, 0x1⟩,
  ⟨0x40, 1, 0x0, 1, .wo, 0x0, 0x1⟩,
  ⟨0x44, 1, 0x0, 1, .ro, 0x0, 0xFFFFFFFF⟩,
  ⟨0x48, 1, 0x0, 1, .rwl, 0x0, 0x107⟩,
  ⟨0x4C, 1, 0x0, 1, .rwl, 0x0, 0x100FF⟩,
  ⟨0x50, 1, 0x0, 1, .wo, 0x0, 0x1⟩,
  ⟨0x54, 1, 0x0, 1, .ro, 0x0, 0xFFFFFFFF⟩]

/-- Registers of the MeasCh page (04_measurement_chains.md). -/
def rowsMeasCh : List RegRow := [
  ⟨0x40, 28, 0x10, 1, .rwl, 0x0, 0xF777⟩,
  ⟨0x44, 28, 0x10, 1, .rwl, 0x0, 0xFFFFFF⟩,
  ⟨0x48, 28, 0x10, 1, .rwl, 0x3F800000, 0xFFFFFFFF⟩,
  ⟨0x4C, 28, 0x10, 1, .ro, 0x0, 0xFFFFFFFF⟩,
  ⟨0x200, 16, 0x8, 1, .ro, 0x0, 0xFFFFFFFF⟩,
  ⟨0x204, 16, 0x8, 1, .ro, 0x0, 0xFFFFFFFF⟩]

/-- Registers of the MeasTel page (04_measurement_chains.md). -/
def rowsMeasTel : List RegRow := [
  ⟨0x40, 28, 0x20, 1, .ros, 0x0, 0xFFFFFFFF⟩,
  ⟨0x44, 28, 0x20, 1, .ros, 0x0, 0xFFFFFFFF⟩,
  ⟨0x48, 28, 0x20, 1, .ros, 0x0, 0xFFFFFFFF⟩,
  ⟨0x4C, 28, 0x20, 1, .ros, 0x0, 0xFFFFFFFF⟩,
  ⟨0x50, 28, 0x20, 1, .ros, 0x7FC00000, 0xFFFFFFFF⟩,
  ⟨0x54, 28, 0x20, 1, .ros, 0x7FC00000, 0xFFFFFFFF⟩,
  ⟨0xC, 1, 0x0, 1, .rwl, 0x0, 0x1⟩]

/-- Registers of the Xw page (04_measurement_chains.md). -/
def rowsCrosswind : List RegRow := [
  ⟨0x40, 28, 0x10, 1, .rwl, 0x3140000, 0xFF7F1F1F⟩,
  ⟨0x44, 28, 0x10, 1, .rwl, 0x0, 0xFFFFFFFF⟩,
  ⟨0x48, 28, 0x10, 1, .w1c, 0x0, 0xFFFFFFFF⟩,
  ⟨0x4C, 28, 0x10, 1, .ros, 0x0, 0xFFFFFFFF⟩,
  ⟨0x240, 28, 0x4, 1, .ros, 0x0, 0xFFFFFFFF⟩]

/-- Registers of the Cle page (05_control_law_engine.md). -/
def rowsCle : List RegRow := [
  ⟨0xC, 1, 0x0, 1, .rwl, 0x2, 0x3⟩,
  ⟨0x40, 1, 0x0, 1, .wo, 0x0, 0xF3FF⟩,
  ⟨0x44, 1, 0x0, 1, .ro, 0x0, 0xFFFFFFFF⟩,
  ⟨0x48, 1, 0x0, 1, .ro, 0x2C000000, 0xFFFFFFFF⟩,
  ⟨0x4C, 1, 0x0, 1, .ro, 0x0, 0xFFFFFFFF⟩,
  ⟨0x50, 1, 0x0, 1, .ro, 0x0, 0xFFFFFFFF⟩,
  ⟨0x54, 1, 0x0, 1, .rwl, 0x0, 0x1⟩]

/-- Registers of the CleTel page (05_control_law_engine.md). -/
def rowsCleTel : List RegRow := [
  ⟨0x40, 1, 0x0, 4, .ros, 0x0, 0xFFFFFFFF⟩,
  ⟨0x50, 1, 0x0, 1, .ros, 0x0, 0xFFFFFFFF⟩,
  ⟨0x54, 1, 0x0, 1, .ros, 0x0, 0xFFFFFFFF⟩,
  ⟨0x58, 1, 0x0, 1, .ros, 0x0, 0xFFFFFFFF⟩,
  ⟨0x5C, 1, 0x0, 1, .ros, 0x0, 0xFFFFFFFF⟩,
  ⟨0x60, 1, 0x0, 1, .ros, 0x0, 0xFFFFFFFF⟩,
  ⟨0x64, 1, 0x0, 1, .ro, 0x0, 0xFFFFFFFF⟩,
  ⟨0x68, 1, 0x0, 1, .ro, 0x0, 0xFFFFFFFF⟩,
  ⟨0x70, 1, 0x0, 1, .ros, 0x0, 0xFFFFFFFF⟩,
  ⟨0x74, 1, 0x0, 1, .ros, 0x0, 0xFFFFFFFF⟩,
  ⟨0x78, 1, 0x0, 1, .ros, 0x0, 0xFFFFFFFF⟩,
  ⟨0x7C, 1, 0x0, 1, .ros, 0x0, 0xFFFFFFFF⟩]

/-- Registers of the Hw page (05_control_law_engine.md). -/
def rowsHeadwind : List RegRow := [
  ⟨0x40, 64, 0x20, 1, .rwl, 0x0, 0x3⟩,
  ⟨0x44, 64, 0x20, 1, .rwl, 0x0, 0xFFF⟩,
  ⟨0x48, 64, 0x20, 1, .rwl, 0x0, 0xFFFFFFFF⟩,
  ⟨0x4C, 64, 0x20, 1, .rwl, 0x0, 0x1FFFF⟩,
  ⟨0x50, 64, 0x20, 1, .rwl, 0x0, 0x1FFFF⟩,
  ⟨0x54, 64, 0x20, 1, .ro, 0x0, 0xFFFFFFFF⟩,
  ⟨0x58, 64, 0x20, 1, .ros, 0x0, 0xFFFFFFFF⟩,
  ⟨0x5C, 64, 0x20, 1, .wo, 0x0, 0x1⟩]

/-- Registers of the Ctx page (05_control_law_engine.md). -/
def rowsCtxWin : List RegRow := [
  ⟨0x0, 16, 0x100, 1, .rwl, 0x0, 0x72F⟩,
  ⟨0x4, 16, 0x100, 1, .rwl, 0x0, 0x1FFFFF⟩,
  ⟨0x8, 16, 0x100, 1, .rwl, 0x0, 0x1FFFFF⟩,
  ⟨0xC, 16, 0x100, 1, .rwl, 0x0, 0x17BF⟩,
  ⟨0x10, 16, 0x100, 1, .rwl, 0x0, 0x8FFF8FFF⟩,
  ⟨0x14, 16, 0x100, 1, .rwl, 0x0, 0x8FFF8FFF⟩,
  ⟨0x18, 16, 0x100, 1, .rwl, 0x0, 0x8FFF8FFF⟩,
  ⟨0x1C, 16, 0x100, 1, .rwl, 0x0, 0x8FFF8FFF⟩,
  ⟨0x20, 16, 0x100, 1, .rwl, 0x0, 0xFFF⟩,
  ⟨0x24, 16, 0x100, 1, .rwl, 0x302, 0xFFFFFF03⟩,
  ⟨0x30, 16, 0x100, 1, .rwl, 0x0, 0xFFFFFFFF⟩,
  ⟨0x34, 16, 0x100, 1, .rwl, 0x3CA3D70A, 0xFFFFFFFF⟩,
  ⟨0x38, 16, 0x100, 1, .rwl, 0x3F800000, 0xFFFFFFFF⟩,
  ⟨0x3C, 16, 0x100, 1, .rwl, 0x7F7FFFFF, 0xFFFFFFFF⟩,
  ⟨0x40, 16, 0x100, 1, .rwl, 0xFF7FFFFF, 0xFFFFFFFF⟩,
  ⟨0x44, 16, 0x100, 1, .rwl, 0x0, 0xFFFFFFFF⟩,
  ⟨0x48, 16, 0x100, 1, .rwl, 0x0, 0xFFFFFFFF⟩,
  ⟨0x4C, 16, 0x100, 1, .rwl, 0x0, 0xFFFFFFFF⟩,
  ⟨0x50, 16, 0x100, 16, .rwl, 0x0, 0xFFFFFFFF⟩,
  ⟨0x90, 16, 0x100, 1, .rw, 0x0, 0xFFFFFFFF⟩,
  ⟨0x94, 16, 0x100, 1, .rw, 0x0, 0xFFFFFFFF⟩,
  ⟨0xA0, 16, 0x100, 1, .ro, 0x0, 0xFFFFFFFF⟩,
  ⟨0xA4, 16, 0x100, 1, .ro, 0x0, 0xFFFFFFFF⟩,
  ⟨0xA8, 16, 0x100, 1, .ro, 0x0, 0xFFFFFFFF⟩,
  ⟨0xB0, 16, 0x100, 1, .ros, 0x0, 0xFFFFFFFF⟩,
  ⟨0xB4, 16, 0x100, 1, .ros, 0x0, 0xFFFFFFFF⟩,
  ⟨0xB8, 16, 0x100, 1, .ros, 0x0, 0xFFFFFFFF⟩,
  ⟨0xBC, 16, 0x100, 1, .ros, 0x0, 0xFFFFFFFF⟩,
  ⟨0xC0, 16, 0x100, 8, .ros, 0x0, 0xFFFFFFFF⟩,
  ⟨0xE0, 16, 0x100, 1, .ros, 0x0, 0xFFFFFFFF⟩,
  ⟨0xE4, 16, 0x100, 1, .ros, 0x0, 0xFFFFFFFF⟩,
  ⟨0xE8, 16, 0x100, 1, .ros, 0x0, 0xFFFFFFFF⟩,
  ⟨0xEC, 16, 0x100, 1, .ros, 0x0, 0xFFFFFFFF⟩]

/-- Registers of the Foc page (07_field_control.md). -/
def rowsFoc : List RegRow := [
  ⟨0x40, 1, 0x0, 1, .rwl, 0x10000, 0x1F03FF⟩,
  ⟨0x44, 1, 0x0, 1, .rwl, 0x0, 0x1FF01FF⟩,
  ⟨0x48, 1, 0x0, 1, .rwl, 0x0, 0x8FFF8FFF⟩,
  ⟨0x4C, 1, 0x0, 1, .rwl, 0x0, 0x8FFF⟩,
  ⟨0x50, 1, 0x0, 1, .rwl, 0x0, 0xFFFFFFFF⟩,
  ⟨0x54, 1, 0x0, 1, .rwl, 0x0, 0xFFFFFFFF⟩,
  ⟨0x58, 1, 0x0, 1, .rwl, 0x0, 0xFFFFFFFF⟩,
  ⟨0x5C, 1, 0x0, 1, .rwl, 0x0, 0xFFFFFFFF⟩,
  ⟨0x60, 1, 0x0, 1, .rwl, 0x0, 0xFFFFFFFF⟩,
  ⟨0x64, 1, 0x0, 1, .rwl, 0x0, 0xFFFFFFFF⟩,
  ⟨0x68, 1, 0x0, 1, .rwl, 0x0, 0xFFFFFFFF⟩,
  ⟨0x6C, 1, 0x0, 1, .rw, 0x0, 0xFFFFFFFF⟩,
  ⟨0x70, 1, 0x0, 1, .rw, 0x0, 0xFFFFFFFF⟩,
  ⟨0x74, 1, 0x0, 1, .rwl, 0x0, 0xFFFFFFFF⟩,
  ⟨0x78, 1, 0x0, 1, .rwl, 0x0, 0xFFFFFFFF⟩,
  ⟨0x7C, 1, 0x0, 1, .rwl, 0x0, 0xFFFFFFFF⟩,
  ⟨0x80, 1, 0x0, 1, .rwl, 0x803200, 0xFFFF01⟩,
  ⟨0x84, 1, 0x0, 1, .rwl, 0x41A00000, 0xFFFFFFFF⟩,
  ⟨0x88, 1, 0x0, 1, .rwl, 0x43480000, 0xFFFFFFFF⟩,
  ⟨0x8C, 1, 0x0, 1, .rwl, 0x3E800000, 0xFFFFFFFF⟩,
  ⟨0x90, 1, 0x0, 1, .rwl, 0x47512000, 0xFFFFFFFF⟩,
  ⟨0x94, 1, 0x0, 1, .rwl, 0x208, 0x3FF⟩,
  ⟨0x98, 1, 0x0, 1, .rwl, 0x3DCCCCCD, 0xFFFFFFFF⟩,
  ⟨0x9C, 1, 0x0, 1, .rwl, 0x1900028, 0xFFFFFFFF⟩,
  ⟨0xA0, 1, 0x0, 1, .rwl, 0x0, 0xFFFFFFFF⟩,
  ⟨0xA4, 1, 0x0, 1, .rwl, 0x3D4CCCCD, 0xFFFFFFFF⟩,
  ⟨0xA8, 1, 0x0, 1, .rwl, 0xA0014, 0xFFFFFFFF⟩,
  ⟨0xAC, 1, 0x0, 1, .rwl, 0x42480000, 0xFFFFFFFF⟩,
  ⟨0xB0, 1, 0x0, 1, .rwl, 0x0, 0xFFFFFFFF⟩,
  ⟨0xB4, 1, 0x0, 1, .rwl, 0x43480000, 0xFFFFFFFF⟩,
  ⟨0xB8, 1, 0x0, 1, .rwl, 0x447A0000, 0xFFFFFFFF⟩,
  ⟨0xBC, 1, 0x0, 1, .rwl, 0x64, 0xFFFF⟩,
  ⟨0xC0, 1, 0x0, 1, .rwl, 0x110, 0xFF13⟩,
  ⟨0xC4, 1, 0x0, 1, .rwl, 0x7D0, 0xFFFF⟩,
  ⟨0xC8, 1, 0x0, 1, .wo, 0x0, 0x7F⟩,
  ⟨0xCC, 1, 0x0, 1, .ro, 0x0, 0xFFFFFFFF⟩,
  ⟨0xD0, 1, 0x0, 1, .ro, 0x0, 0xFFFFFFFF⟩,
  ⟨0xD4, 1, 0x0, 1, .ro, 0x0, 0xFFFFFFFF⟩,
  ⟨0xD8, 1, 0x0, 1, .ro, 0x0, 0xFFFFFFFF⟩,
  ⟨0xDC, 1, 0x0, 1, .ro, 0x3F800000, 0xFFFFFFFF⟩,
  ⟨0x100, 1, 0x0, 1, .ros, 0x0, 0xFFFFFFFF⟩,
  ⟨0x104, 1, 0x0, 1, .ros, 0x0, 0xFFFFFFFF⟩,
  ⟨0x108, 1, 0x0, 1, .ros, 0x0, 0xFFFFFFFF⟩,
  ⟨0x10C, 1, 0x0, 1, .ros, 0x0, 0xFFFFFFFF⟩,
  ⟨0x110, 1, 0x0, 1, .ros, 0x0, 0xFFFFFFFF⟩,
  ⟨0x114, 1, 0x0, 1, .ros, 0x0, 0xFFFFFFFF⟩,
  ⟨0x118, 1, 0x0, 1, .ros, 0x0, 0xFFFFFFFF⟩,
  ⟨0x11C, 1, 0x0, 1, .ros, 0x0, 0xFFFFFFFF⟩]

/-- Registers of the Prof page (08_reference_profiles.md). -/
def rowsProf : List RegRow := [
  ⟨0x40, 1, 0x0, 1, .rwl, 0xA00, 0xFF0F⟩,
  ⟨0x44, 1, 0x0, 1, .rwl, 0x0, 0xFFFFFFFF⟩,
  ⟨0x48, 1, 0x0, 1, .rwl, 0x0, 0xFFFFFFFF⟩,
  ⟨0x4C, 1, 0x0, 1, .rwl, 0x0, 0xFFFFFFFF⟩,
  ⟨0x50, 1, 0x0, 1, .rwl, 0x0, 0xFFFFFFFF⟩,
  ⟨0x54, 1, 0x0, 1, .rwl, 0x0, 0xFFFFFFFF⟩,
  ⟨0x58, 1, 0x0, 1, .rwl, 0x0, 0xFFFFFFFF⟩,
  ⟨0x5C, 1, 0x0, 1, .rwl, 0x0, 0xFFFFFFFF⟩,
  ⟨0x60, 1, 0x0, 1, .rwl, 0x0, 0xFFFFFFFF⟩,
  ⟨0x64, 1, 0x0, 1, .rwl, 0x0, 0xFFFFFFFF⟩,
  ⟨0x68, 1, 0x0, 1, .rw, 0x0, 0xFFFFFFFF⟩,
  ⟨0x6C, 1, 0x0, 1, .rw, 0x0, 0xFFFFFFFF⟩,
  ⟨0x70, 1, 0x0, 1, .rw, 0x0, 0xFFFFFFFF⟩,
  ⟨0x74, 1, 0x0, 1, .rwl, 0x0, 0xFFFFFFFF⟩,
  ⟨0x78, 1, 0x0, 1, .rwl, 0x3F800000, 0xFFFFFFFF⟩,
  ⟨0x7C, 1, 0x0, 1, .rwl, 0x0, 0xFFFFFFFF⟩,
  ⟨0x80, 1, 0x0, 1, .rwl, 0x64, 0xFFFFF⟩,
  ⟨0x84, 1, 0x0, 1, .wo, 0x0, 0x1F⟩,
  ⟨0x88, 1, 0x0, 1, .ro, 0x0, 0xFFFFFFFF⟩,
  ⟨0xA0, 1, 0x0, 9, .ro, 0x0, 0xFFFFFFFF⟩,
  ⟨0x100, 1, 0x0, 1, .ros, 0x0, 0xFFFFFFFF⟩,
  ⟨0x104, 1, 0x0, 1, .ros, 0x0, 0xFFFFFFFF⟩,
  ⟨0x108, 1, 0x0, 1, .ros, 0x0, 0xFFFFFFFF⟩,
  ⟨0x10C, 1, 0x0, 1, .ros, 0x0, 0xFFFFFFFF⟩,
  ⟨0x110, 1, 0x0, 1, .ros, 0x0, 0xFFFFFFFF⟩,
  ⟨0x114, 1, 0x0, 1, .ros, 0x0, 0xFFFFFFFF⟩,
  ⟨0x118, 1, 0x0, 1, .ros, 0x0, 0xFFFFFFFF⟩,
  ⟨0x11C, 1, 0x0, 1, .ros, 0x0, 0xFFFFFFFF⟩]

/-- Registers of the Tb page (09_pwm_modulators.md). -/
def rowsPwmTb : List RegRow := [
  ⟨0x40, 8, 0x20, 1, .rwl, 0x6, 0xF⟩,
  ⟨0x44, 8, 0x20, 1, .rwl, 0x3E80, 0x1FFFFF⟩,
  ⟨0x48, 8, 0x20, 1, .rwl, 0x0, 0x3FFFFF⟩,
  ⟨0x4C, 8, 0x20, 1, .rwl, 0x320, 0x3FFFFF⟩,
  ⟨0x50, 8, 0x20, 1, .wo, 0x0, 0xFFF⟩,
  ⟨0x54, 8, 0x20, 1, .ro, 0x0, 0xFFFFFFFF⟩,
  ⟨0x58, 8, 0x20, 1, .ro, 0x0, 0xFFFFFFFF⟩,
  ⟨0x140, 1, 0x0, 1, .wo, 0x0, 0xFF⟩,
  ⟨0x144, 1, 0x0, 1, .wo, 0x0, 0x1FF⟩]

/-- Registers of the Ch page (09_pwm_modulators.md). -/
def rowsPwmCh : List RegRow := [
  ⟨0x40, 52, 0x10, 1, .rw, 0x0, 0xFFFFFF⟩,
  ⟨0x44, 52, 0x10, 1, .rwl, 0x0, 0x3⟩,
  ⟨0x48, 52, 0x10, 1, .ro, 0x0, 0xFFFFFFFF⟩,
  ⟨0x4C, 52, 0x10, 1, .ro, 0x0, 0xFFFFFFFF⟩]

/-- Registers of the Grp page (09_pwm_modulators.md). -/
def rowsPwmGrp : List RegRow := [
  ⟨0x40, 4, 0x40, 1, .rwl, 0x100, 0x803F0337⟩,
  ⟨0x140, 2, 0x40, 1, .rwl, 0x30, 0x803F0337⟩,
  ⟨0x44, 4, 0x40, 1, .rwl, 0xC80, 0x1FFFF⟩,
  ⟨0x144, 2, 0x40, 1, .rwl, 0x0, 0x1FFFF⟩,
  ⟨0x48, 4, 0x40, 1, .rwl, 0xC80, 0x1FFFF⟩,
  ⟨0x148, 2, 0x40, 1, .rwl, 0x0, 0x1FFFF⟩,
  ⟨0x4C, 4, 0x40, 1, .rwl, 0xC80, 0x1FFFF⟩,
  ⟨0x14C, 2, 0x40, 1, .rwl, 0x0, 0x1FFFF⟩,
  ⟨0x50, 6, 0x40, 1, .rwl, 0x1900000, 0xFFFFFFFF⟩,
  ⟨0x54, 6, 0x40, 1, .rw, 0x0, 0x1⟩,
  ⟨0x58, 6, 0x40, 1, .rw, 0x0, 0xFFFFFFFF⟩,
  ⟨0x5C, 6, 0x40, 1, .rw, 0x0, 0xFFFFFFFF⟩,
  ⟨0x60, 6, 0x40, 1, .rw, 0x0, 0xFFFFFFFF⟩,
  ⟨0x64, 6, 0x40, 1, .ro, 0x0, 0xFFFFFFFF⟩]

/-- Registers of the Trip page (09_pwm_modulators.md). -/
def rowsPwmTrip : List RegRow := [
  ⟨0x40, 1, 0x0, 8, .rwl, 0x0, 0x303FF⟩,
  ⟨0x60, 1, 0x0, 1, .ro, 0x0, 0xFFFFFFFF⟩,
  ⟨0x64, 1, 0x0, 1, .wo, 0x0, 0xFF⟩]

/-- Registers of the PwmTel page (09_pwm_modulators.md). -/
def rowsPwmTel : List RegRow := [
  ⟨0x40, 8, 0x10, 1, .ros, 0x0, 0xFFFFFFFF⟩,
  ⟨0x44, 8, 0x10, 1, .ros, 0x0, 0xFFFFFFFF⟩,
  ⟨0x48, 8, 0x10, 1, .ros, 0x0, 0xFFFFFFFF⟩,
  ⟨0xC0, 6, 0x10, 1, .ros, 0x0, 0xFFFFFFFF⟩,
  ⟨0xC4, 6, 0x10, 1, .ros, 0x0, 0xFFFFFFFF⟩,
  ⟨0xC8, 6, 0x10, 1, .ros, 0x0, 0xFFFFFFFF⟩,
  ⟨0x120, 8, 0x4, 1, .ros, 0x0, 0xFFFFFFFF⟩]

/-- Registers of the Gl page (10_gate_links.md). -/
def rowsGlink : List RegRow := [
  ⟨0x40, 1, 0x0, 1, .ro, 0x0, 0xFFFFFFFF⟩,
  ⟨0x44, 1, 0x0, 1, .ro, 0x0, 0xFFFFFFFF⟩,
  ⟨0x48, 1, 0x0, 1, .ro, 0x0, 0xFFFFFFFF⟩,
  ⟨0x4C, 1, 0x0, 1, .ro, 0x0, 0xFFFFFFFF⟩,
  ⟨0x50, 1, 0x0, 1, .rwl, 0x7, 0xF⟩,
  ⟨0x54, 1, 0x0, 1, .rwl, 0x640640, 0xFFFFFFFF⟩,
  ⟨0x58, 1, 0x0, 1, .ro, 0x0, 0xFFFFFFFF⟩,
  ⟨0xC, 1, 0x0, 1, .rwl, 0x0, 0x1⟩]

/-- Registers of the GlPos page (10_gate_links.md). -/
def rowsGlPos : List RegRow := [
  ⟨0x40, 36, 0x10, 1, .rwl, 0x0, 0xF3⟩,
  ⟨0x44, 36, 0x10, 1, .wo, 0x0, 0x7⟩,
  ⟨0x48, 36, 0x10, 1, .ro, 0x0, 0xFFFFFFFF⟩,
  ⟨0x4C, 36, 0x10, 1, .ro, 0x0, 0xFFFFFFFF⟩]

/-- Registers of the GlTel page (10_gate_links.md). -/
def rowsGlTel : List RegRow := [
  ⟨0x40, 36, 0x20, 1, .ros, 0x7FC00000, 0xFFFFFFFF⟩,
  ⟨0x44, 36, 0x20, 1, .ros, 0x7FC00000, 0xFFFFFFFF⟩,
  ⟨0x48, 36, 0x20, 1, .ros, 0x7FC00000, 0xFFFFFFFF⟩,
  ⟨0x4C, 36, 0x20, 1, .ros, 0x0, 0xFFFFFFFF⟩,
  ⟨0x50, 36, 0x20, 1, .ros, 0x0, 0xFFFFFFFF⟩,
  ⟨0x54, 36, 0x20, 1, .ros, 0x0, 0xFFFFFFFF⟩,
  ⟨0x58, 36, 0x20, 1, .ros, 0x0, 0xFFFFFFFF⟩,
  ⟨0x4C0, 6, 0x4, 1, .ros, 0x0, 0xFFFFFFFF⟩]

/-- Registers of the Prot page (11_power_stage_protection.md). -/
def rowsProt : List RegRow := [
  ⟨0x40, 1, 0x0, 1, .rwl, 0x0, 0x8FFF⟩,
  ⟨0x44, 1, 0x0, 1, .rwl, 0x0, 0xFFFFFFFF⟩,
  ⟨0x48, 1, 0x0, 1, .rwl, 0x0, 0xFFFFFFFF⟩,
  ⟨0x4C, 1, 0x0, 1, .rwl, 0x0, 0xFFFFFFFF⟩,
  ⟨0x50, 1, 0x0, 1, .rwl, 0x0, 0xFFFFFFFF⟩,
  ⟨0x54, 1, 0x0, 1, .rwl, 0x0, 0xFFFFFFFF⟩,
  ⟨0x58, 1, 0x0, 1, .rwl, 0x140000, 0x1FF1F13⟩,
  ⟨0x5C, 1, 0x0, 1, .rwl, 0x0, 0xFFFFFFFF⟩,
  ⟨0x60, 1, 0x0, 1, .rwl, 0x640000, 0xFFFF000F⟩,
  ⟨0x64, 1, 0x0, 1, .wo, 0x0, 0x1⟩,
  ⟨0x68, 1, 0x0, 1, .rwl, 0xA006403, 0xFFFFFFFF⟩,
  ⟨0x6C, 1, 0x0, 1, .wo, 0x0, 0xFFFFFFFF⟩,
  ⟨0x70, 1, 0x0, 1, .rwl, 0x640, 0xFFFF⟩,
  ⟨0x74, 1, 0x0, 1, .rwl, 0x1, 0x3F⟩,
  ⟨0x78, 1, 0x0, 1, .rwl, 0x0, 0xFFFFFFFF⟩,
  ⟨0x7C, 1, 0x0, 1, .rwl, 0x42700000, 0xFFFFFFFF⟩,
  ⟨0x80, 1, 0x0, 1, .wo, 0x0, 0x3⟩,
  ⟨0x84, 1, 0x0, 1, .ro, 0x0, 0xFFFFFFFF⟩,
  ⟨0x88, 1, 0x0, 1, .rwl, 0x0, 0xF⟩,
  ⟨0x8C, 1, 0x0, 1, .ro, 0x0, 0xFFFFFFFF⟩,
  ⟨0xC, 1, 0x0, 1, .rwl, 0x0, 0x1⟩]

/-- Registers of the ProtSrc page (11_power_stage_protection.md). -/
def rowsProtSrc : List RegRow := [
  ⟨0x40, 41, 0x10, 1, .rwl, 0x5, 0xF⟩,
  ⟨0x2D0, 1, 0x10, 1, .rwl, 0x1, 0xF⟩,
  ⟨0x2E0, 4, 0x10, 1, .rwl, 0x9, 0xF⟩,
  ⟨0x320, 1, 0x10, 1, .rwl, 0xF, 0xF⟩,
  ⟨0x330, 1, 0x10, 1, .rwl, 0x3, 0xF⟩,
  ⟨0x340, 1, 0x10, 1, .rwl, 0x1, 0xF⟩,
  ⟨0x44, 49, 0x10, 1, .rwl, 0xFFFFFFFF, 0xFFFFFFFF⟩,
  ⟨0x48, 49, 0x10, 1, .rwl, 0xFFFF, 0xFFFFF⟩,
  ⟨0x4C, 49, 0x10, 1, .ro, 0x0, 0xFFFFFFFF⟩,
  ⟨0x400, 1, 0x0, 1, .ro, 0x0, 0xFFFFFFFF⟩,
  ⟨0x404, 1, 0x0, 1, .ro, 0x0, 0xFFFFFFFF⟩,
  ⟨0x408, 1, 0x0, 1, .wo, 0x0, 0xFFFFFFFF⟩,
  ⟨0x40C, 1, 0x0, 1, .wo, 0x0, 0x1FFFF⟩]

/-- Registers of the ProtCmp page (11_power_stage_protection.md). -/
def rowsProtCmp : List RegRow := [
  ⟨0x40, 32, 0x10, 1, .rwl, 0x0, 0x7⟩,
  ⟨0x44, 32, 0x10, 1, .rwl, 0xFFFF, 0xFFFF⟩,
  ⟨0x48, 32, 0x10, 1, .rwl, 0x0, 0xFFFF⟩,
  ⟨0x4C, 32, 0x10, 1, .ro, 0x0, 0xFFFFFFFF⟩]

/-- Registers of the ProtTel page (11_power_stage_protection.md). -/
def rowsProtTel : List RegRow := [
  ⟨0x40, 1, 0x0, 1, .ros, 0x7FC00000, 0xFFFFFFFF⟩,
  ⟨0x44, 1, 0x0, 1, .ros, 0x7FC00000, 0xFFFFFFFF⟩,
  ⟨0x48, 1, 0x0, 1, .ros, 0x0, 0xFFFFFFFF⟩,
  ⟨0x4C, 1, 0x0, 1, .ros, 0x0, 0xFFFFFFFF⟩,
  ⟨0x50, 1, 0x0, 1, .ros, 0x0, 0xFFFFFFFF⟩,
  ⟨0x100, 49, 0x4, 1, .ros, 0x0, 0xFFFFFFFF⟩]

/-- Registers of the Therm page (13_thermal_management.md). -/
def rowsTherm : List RegRow := [
  ⟨0x40, 1, 0x0, 1, .ro, 0x0, 0xFFFFFFFF⟩,
  ⟨0x44, 1, 0x0, 1, .rwl, 0x3E8, 0xFFFF⟩,
  ⟨0x48, 1, 0x0, 4, .rwl, 0x7F7FFFFF, 0xFFFFFFFF⟩,
  ⟨0x58, 1, 0x0, 1, .rwl, 0x461C4000, 0xFFFFFFFF⟩,
  ⟨0x5C, 1, 0x0, 1, .rwl, 0x3E4CCCCD, 0xFFFFFFFF⟩,
  ⟨0x60, 1, 0x0, 1, .rwl, 0x0, 0x7F13⟩,
  ⟨0x64, 1, 0x0, 1, .wo, 0x0, 0xFFFFFFFF⟩,
  ⟨0x68, 1, 0x0, 1, .ro, 0x0, 0xFFFFFFFF⟩,
  ⟨0x6C, 1, 0x0, 1, .wo, 0x0, 0xFFFFFFFF⟩,
  ⟨0x70, 1, 0x0, 1, .ro, 0x0, 0xFFFFFFFF⟩,
  ⟨0x74, 1, 0x0, 1, .ro, 0x0, 0xFFFFFFFF⟩,
  ⟨0x78, 1, 0x0, 1, .ro, 0x0, 0xFFFFFFFF⟩,
  ⟨0x7C, 1, 0x0, 1, .ro, 0x0, 0xFFFFFFFF⟩,
  ⟨0x80, 1, 0x0, 3, .ro, 0x0, 0xFFFFFFFF⟩,
  ⟨0x8C, 1, 0x0, 1, .ro, 0x0, 0xFFFFFFFF⟩,
  ⟨0x100, 96, 0x4, 1, .ros, 0x7FC00000, 0xFFFFFFFF⟩,
  ⟨0x280, 4, 0x4, 1, .ros, 0x0, 0xFFFFFFFF⟩]

/-- Registers of the ThermCh page (13_thermal_management.md). -/
def rowsThermCh : List RegRow := [
  ⟨0x40, 96, 0x20, 1, .rwl, 0x1400, 0xFFF1⟩,
  ⟨0x44, 96, 0x20, 1, .rwl, 0xFF7FFFFF, 0xFFFFFFFF⟩,
  ⟨0x48, 96, 0x20, 1, .rwl, 0xFF7FFFFE, 0xFFFFFFFF⟩,
  ⟨0x4C, 96, 0x20, 1, .rwl, 0x7F7FFFFD, 0xFFFFFFFF⟩,
  ⟨0x50, 96, 0x20, 1, .rwl, 0x7F7FFFFE, 0xFFFFFFFF⟩,
  ⟨0x54, 96, 0x20, 1, .rwl, 0x7F7FFFFF, 0xFFFFFFFF⟩,
  ⟨0x58, 96, 0x20, 1, .rwl, 0x0, 0xFFFFFFFF⟩,
  ⟨0x5C, 96, 0x20, 1, .ro, 0x0, 0xFFFFFFFF⟩]

/-- Registers of the ThermTs page (13_thermal_management.md). -/
def rowsThermTs : List RegRow := [
  ⟨0x40, 16, 0x10, 1, .rwl, 0x0, 0x33⟩,
  ⟨0x44, 16, 0x10, 1, .rwl, 0x3F810625, 0xFFFFFFFF⟩,
  ⟨0x48, 16, 0x10, 1, .rwl, 0x0, 0xFFFFFFFF⟩]

/-- Registers of the Safe page (12_safety_functions.md). -/
def rowsSafe : List RegRow := [
  ⟨0x40, 1, 0x0, 1, .ro, 0x0, 0xFFFFFFFF⟩,
  ⟨0x44, 1, 0x0, 1, .ro, 0x0, 0xFFFFFFFF⟩,
  ⟨0x48, 1, 0x0, 1, .rw, 0x0, 0xF⟩,
  ⟨0x4C, 1, 0x0, 1, .wo, 0x0, 0x3⟩,
  ⟨0x50, 1, 0x0, 1, .rw, 0x0, 0x1⟩,
  ⟨0x54, 1, 0x0, 1, .ro, 0x0, 0xFFFFFFFF⟩,
  ⟨0x58, 1, 0x0, 1, .wo, 0x0, 0xFFFFFFFF⟩,
  ⟨0x5C, 1, 0x0, 1, .ro, 0x0, 0xFFFFFFFF⟩,
  ⟨0x60, 1, 0x0, 1, .ro, 0x0, 0xFFFFFFFF⟩,
  ⟨0x64, 1, 0x0, 1, .wo, 0x0, 0x3⟩,
  ⟨0x68, 1, 0x0, 1, .ro, 0x0, 0xFFFFFFFF⟩]

/-- Registers of the SafePw page (12_safety_functions.md). -/
def rowsSafePw : List RegRow := [
  ⟨0x40, 1, 0x0, 8, .wo, 0x0, 0xFFFFFFFF⟩,
  ⟨0x60, 1, 0x0, 1, .wo, 0x0, 0xFFFF3F03⟩,
  ⟨0x64, 1, 0x0, 1, .ro, 0x0, 0xFFFFFFFF⟩,
  ⟨0x68, 1, 0x0, 1, .ro, 0x0, 0xFFFFFFFF⟩,
  ⟨0x6C, 1, 0x0, 1, .rw, 0x0, 0x7F⟩,
  ⟨0x70, 1, 0x0, 6, .ro, 0x0, 0xFFFFFFFF⟩]

/-- Registers of the Param page (12_safety_functions.md). -/
def rowsSafeParam : List RegRow := [
  ⟨0x40, 2, 0x80, 1, .rwl, 0x10000, 0x1F03FF⟩,
  ⟨0x44, 2, 0x80, 1, .rwl, 0x3E8, 0xFFFF⟩,
  ⟨0x48, 2, 0x80, 1, .rwl, 0x0, 0xFFFFFFFF⟩,
  ⟨0x4C, 2, 0x80, 1, .rwl, 0x0, 0xFFFFFFFF⟩,
  ⟨0x50, 2, 0x80, 1, .rwl, 0x0, 0xFFFFFFFF⟩,
  ⟨0x54, 2, 0x80, 4, .rwl, 0x0, 0xFFFFFFFF⟩,
  ⟨0x64, 2, 0x80, 1, .rwl, 0x0, 0xFFFF⟩,
  ⟨0x68, 2, 0x80, 1, .rwl, 0x0, 0xFFFFFFFF⟩,
  ⟨0x6C, 2, 0x80, 1, .rwl, 0x0, 0x1F1F1F⟩,
  ⟨0x70, 2, 0x80, 1, .rwl, 0x0, 0x1F1F1F⟩,
  ⟨0x74, 2, 0x80, 1, .rwl, 0x0, 0xFFFFFFFF⟩,
  ⟨0x78, 2, 0x80, 1, .rwl, 0x0, 0xFFFFFFFF⟩,
  ⟨0x7C, 2, 0x80, 1, .rwl, 0x0, 0xFFFFFFFF⟩,
  ⟨0x80, 2, 0x80, 1, .rwl, 0x0, 0xFFFFFFFF⟩,
  ⟨0x84, 2, 0x80, 1, .rwl, 0x64, 0xFFFF⟩,
  ⟨0x88, 2, 0x80, 1, .rwl, 0x0, 0xFFFF⟩,
  ⟨0x8C, 2, 0x80, 1, .rwl, 0x0, 0xFFFF⟩,
  ⟨0x90, 2, 0x80, 1, .ro, 0x0, 0xFFFFFFFF⟩,
  ⟨0x400, 1, 0x0, 1, .rwl, 0x0, 0xFFFF⟩]

/-- Registers of the SafeIn page (12_safety_functions.md). -/
def rowsSafeIn : List RegRow := [
  ⟨0x40, 16, 0x10, 1, .rwl, 0x5010000, 0xFFFFFFF7⟩,
  ⟨0x44, 16, 0x10, 1, .ro, 0x0, 0xFFFFFFFF⟩,
  ⟨0x400, 1, 0x0, 1, .rwl, 0x1F40064, 0x3FFFFFF⟩]

/-- Registers of the SafeTg page (12_safety_functions.md). -/
def rowsSafeTg : List RegRow := [
  ⟨0x40, 8, 0x20, 1, .rwl, 0x1000, 0xDF771⟩,
  ⟨0x44, 8, 0x20, 1, .rwl, 0x0, 0xFFFFFFFF⟩,
  ⟨0x48, 8, 0x20, 1, .rwl, 0x640064, 0xFFFFFFFF⟩,
  ⟨0x4C, 8, 0x20, 1, .ro, 0x0, 0xFFFFFFFF⟩]

/-- Registers of the SafeTel page (12_safety_functions.md). -/
def rowsSafeTel : List RegRow := [
  ⟨0x40, 1, 0x0, 1, .ros, 0x7FC00000, 0xFFFFFFFF⟩,
  ⟨0x44, 1, 0x0, 1, .ros, 0x7FC00000, 0xFFFFFFFF⟩,
  ⟨0x48, 8, 0x4, 1, .ros, 0x0, 0xFFFFFFFF⟩,
  ⟨0x68, 8, 0x4, 1, .ros, 0x0, 0xFFFFFFFF⟩]

/-- Registers of the Tmon page (12_safety_functions.md). -/
def rowsTmon : List RegRow := [
  ⟨0x40, 2, 0x40, 1, .rwl, 0x0, 0x1F1F0007⟩,
  ⟨0x44, 2, 0x40, 1, .rwl, 0x0, 0xFFFFFFFF⟩,
  ⟨0x48, 2, 0x40, 1, .rwl, 0x0, 0xFFFFFFFF⟩,
  ⟨0x4C, 2, 0x40, 1, .rwl, 0x0, 0xFFFFFFFF⟩,
  ⟨0x50, 2, 0x40, 1, .rwl, 0x0, 0xFFFFFFFF⟩,
  ⟨0x54, 2, 0x40, 1, .rwl, 0x0, 0xFFFFFFFF⟩,
  ⟨0x58, 2, 0x40, 1, .rwl, 0x0, 0xFFFFFFFF⟩,
  ⟨0x5C, 2, 0x40, 1, .rwl, 0x0, 0xFFFFFFFF⟩,
  ⟨0x60, 2, 0x40, 1, .rwl, 0x0, 0xFFFFFFFF⟩,
  ⟨0x64, 2, 0x40, 1, .rwl, 0x0, 0xFFFFFFFF⟩,
  ⟨0x68, 2, 0x40, 1, .ro, 0x0, 0xFFFFFFFF⟩,
  ⟨0x6C, 2, 0x40, 1, .ros, 0x7FC00000, 0xFFFFFFFF⟩,
  ⟨0x70, 2, 0x40, 1, .ros, 0x7FC00000, 0xFFFFFFFF⟩,
  ⟨0x74, 2, 0x40, 1, .ros, 0x7FC00000, 0xFFFFFFFF⟩,
  ⟨0x78, 2, 0x40, 1, .ros, 0x0, 0xFFFFFFFF⟩]

/-- Registers of the Can page (15_message_buses.md). -/
def rowsCan : List RegRow := [
  ⟨0x40, 1, 0x0, 1, .rwl, 0x0, 0x7F7FFF1F⟩,
  ⟨0x44, 1, 0x0, 1, .rwl, 0x0, 0xF0F1F1F⟩,
  ⟨0x48, 1, 0x0, 1, .rwl, 0x0, 0x7F01⟩,
  ⟨0x4C, 1, 0x0, 1, .ro, 0x0, 0xFFFFFFFF⟩,
  ⟨0x50, 1, 0x0, 1, .wo, 0x0, 0x1⟩,
  ⟨0x54, 1, 0x0, 1, .rwl, 0x0, 0xFFFFFFFF⟩,
  ⟨0x58, 1, 0x0, 1, .rwl, 0x0, 0xFFFFFFFF⟩,
  ⟨0x100, 1, 0x0, 1, .ros, 0x0, 0xFFFFFFFF⟩,
  ⟨0x104, 1, 0x0, 1, .ros, 0x0, 0xFFFFFFFF⟩,
  ⟨0x108, 1, 0x0, 1, .ros, 0x0, 0xFFFFFFFF⟩,
  ⟨0x10C, 1, 0x0, 1, .ros, 0x0, 0xFFFFFFFF⟩,
  ⟨0x110, 1, 0x0, 1, .ros, 0x0, 0xFFFFFFFF⟩,
  ⟨0xC, 1, 0x0, 1, .rwl, 0x0, 0xF⟩]

/-- Registers of the Mac page (15_message_buses.md). -/
def rowsMac : List RegRow := [
  ⟨0x40, 1, 0x0, 1, .rwl, 0x0, 0xFFFFFFFF⟩,
  ⟨0x44, 1, 0x0, 1, .rwl, 0x0, 0xFFFF⟩,
  ⟨0x48, 1, 0x0, 1, .rwl, 0x0, 0xFFFFFFFF⟩,
  ⟨0x4C, 1, 0x0, 1, .rwl, 0x0, 0x1FFFF⟩,
  ⟨0x50, 1, 0x0, 4, .rwl, 0x0, 0x3FFFFFFF⟩,
  ⟨0x60, 1, 0x0, 1, .rwl, 0x0, 0xFFFF⟩,
  ⟨0x64, 1, 0x0, 1, .wo, 0x0, 0xFFFF07FF⟩,
  ⟨0x68, 1, 0x0, 1, .ro, 0x0, 0xFFFFFFFF⟩,
  ⟨0x100, 1, 0x0, 1, .ros, 0x0, 0xFFFFFFFF⟩,
  ⟨0x104, 1, 0x0, 1, .ros, 0x0, 0xFFFFFFFF⟩,
  ⟨0x108, 1, 0x0, 1, .ros, 0x0, 0xFFFFFFFF⟩,
  ⟨0x10C, 1, 0x0, 1, .ros, 0x0, 0xFFFFFFFF⟩,
  ⟨0x110, 1, 0x0, 1, .ros, 0x0, 0xFFFFFFFF⟩,
  ⟨0xC, 1, 0x0, 1, .rwl, 0x0, 0xF⟩]

/-- Registers of the Ptp page (15_message_buses.md). -/
def rowsPtp : List RegRow := [
  ⟨0x40, 1, 0x0, 1, .ro, 0x0, 0xFFFFFFFF⟩,
  ⟨0x44, 1, 0x0, 1, .ro, 0x0, 0xFFFFFFFF⟩,
  ⟨0x48, 1, 0x0, 1, .ro, 0x0, 0xFFFFFFFF⟩,
  ⟨0x4C, 1, 0x0, 1, .rwl, 0x8000000, 0xFFFFFFFF⟩,
  ⟨0x50, 1, 0x0, 1, .wo, 0x0, 0xFFFFFFFF⟩,
  ⟨0x54, 1, 0x0, 1, .wo, 0x0, 0xFFFFFFFF⟩,
  ⟨0x58, 1, 0x0, 1, .ro, 0x0, 0xFFFFFFFF⟩,
  ⟨0x5C, 1, 0x0, 1, .ro, 0x0, 0xFFFFFFFF⟩]

/-- Registers of the Pub page (15_message_buses.md). -/
def rowsPub : List RegRow := [
  ⟨0x40, 16, 0x10, 1, .rwl, 0x0, 0xFFFF7F37⟩,
  ⟨0x44, 16, 0x10, 1, .rwl, 0x0, 0xFFFFFFFF⟩,
  ⟨0x48, 16, 0x10, 1, .ro, 0x0, 0xFFFFFFFF⟩,
  ⟨0x4C, 16, 0x10, 1, .ro, 0x0, 0xFFFFFFFF⟩]

/-- Registers of the EthTx page (15_message_buses.md). -/
def rowsEthTx : List RegRow := [
  ⟨0x40, 1, 0x0, 1, .rwl, 0x0, 0x1⟩,
  ⟨0x44, 1, 0x0, 1, .wo, 0x0, 0xF⟩,
  ⟨0x48, 1, 0x0, 1, .ro, 0x1, 0xFFFFFFFF⟩,
  ⟨0x4C, 1, 0x0, 1, .rw, 0x0, 0x7FF⟩,
  ⟨0x50, 1, 0x0, 1, .rw, 0x0, 0x1FFFF⟩,
  ⟨0x54, 1, 0x0, 1, .ro, 0x0, 0xFFFFFFFF⟩,
  ⟨0x58, 1, 0x0, 1, .ro, 0x0, 0xFFFFFFFF⟩,
  ⟨0x5C, 1, 0x0, 1, .ro, 0x0, 0xFFFFFFFF⟩,
  ⟨0x100, 1, 0x0, 384, .rw, 0x0, 0xFFFFFFFF⟩]

/-- Registers of the EthRx page (15_message_buses.md). -/
def rowsEthRx : List RegRow := [
  ⟨0x44, 1, 0x0, 1, .wo, 0x0, 0xF⟩,
  ⟨0x48, 1, 0x0, 1, .ro, 0x1, 0xFFFFFFFF⟩,
  ⟨0x4C, 1, 0x0, 1, .ro, 0x0, 0xFFFFFFFF⟩,
  ⟨0x50, 1, 0x0, 1, .ro, 0x0, 0xFFFFFFFF⟩,
  ⟨0x54, 1, 0x0, 1, .ro, 0x0, 0xFFFFFFFF⟩,
  ⟨0x58, 1, 0x0, 1, .ro, 0x0, 0xFFFFFFFF⟩,
  ⟨0x5C, 1, 0x0, 1, .ro, 0x0, 0xFFFFFFFF⟩,
  ⟨0x100, 1, 0x0, 384, .ro, 0x0, 0xFFFFFFFF⟩]

/-- Registers of the Twin page (14_twin_operation.md). -/
def rowsTwin : List RegRow := [
  ⟨0x40, 1, 0x0, 1, .rwl, 0x0, 0x1113⟩,
  ⟨0x44, 1, 0x0, 1, .wo, 0x0, 0x1F⟩,
  ⟨0x48, 1, 0x0, 1, .ro, 0x0, 0xFFFFFFFF⟩,
  ⟨0x4C, 1, 0x0, 1, .ro, 0x0, 0xFFFFFFFF⟩,
  ⟨0x50, 1, 0x0, 1, .ro, 0x0, 0xFFFFFFFF⟩,
  ⟨0x54, 1, 0x0, 1, .ro, 0x8000000, 0xFFFFFFFF⟩,
  ⟨0x58, 1, 0x0, 1, .wo, 0x0, 0xFFFF⟩,
  ⟨0x5C, 1, 0x0, 1, .ro, 0x0, 0xFFFFFFFF⟩,
  ⟨0x60, 1, 0x0, 1, .rwl, 0x0, 0xFFFFFFFF⟩,
  ⟨0x64, 1, 0x0, 1, .rwl, 0x0, 0xFFFF⟩]

/-- Registers of the TwinTel page (14_twin_operation.md). -/
def rowsTwinTel : List RegRow := [
  ⟨0x40, 1, 0x0, 1, .ros, 0x0, 0xFFFFFFFF⟩,
  ⟨0x44, 1, 0x0, 1, .ros, 0x0, 0xFFFFFFFF⟩,
  ⟨0x48, 1, 0x0, 1, .ros, 0x0, 0xFFFFFFFF⟩,
  ⟨0x4C, 1, 0x0, 1, .ros, 0x0, 0xFFFFFFFF⟩,
  ⟨0x50, 1, 0x0, 1, .ros, 0x0, 0xFFFFFFFF⟩,
  ⟨0x54, 1, 0x0, 1, .ros, 0x0, 0xFFFFFFFF⟩]

/-- Registers of the Dma page (no register of its own). -/
def rowsDma : List RegRow := [
]

/-- Registers of the DmaDesc page (16_dma_engine.md). -/
def rowsDmaDesc : List RegRow := [
  ⟨0x40, 64, 0x20, 1, .rwl, 0x0, 0x7FFF⟩,
  ⟨0x44, 64, 0x20, 1, .rwl, 0x0, 0xFFFFFF⟩,
  ⟨0x48, 64, 0x20, 1, .rwl, 0x0, 0xFFFFFF⟩,
  ⟨0x4C, 64, 0x20, 1, .rwl, 0x0, 0xFFFFFFFF⟩,
  ⟨0x50, 64, 0x20, 1, .rwl, 0x0, 0xFFFF⟩,
  ⟨0x54, 64, 0x20, 1, .rwl, 0x0, 0xFFFFFFFF⟩,
  ⟨0x58, 64, 0x20, 1, .rwl, 0x0, 0xFFFFFFFF⟩,
  ⟨0x5C, 64, 0x20, 1, .rwl, 0x0, 0xFFFFFFFF⟩]

/-- Registers of the DmaCh page (16_dma_engine.md). -/
def rowsDmaCh : List RegRow := [
  ⟨0x40, 16, 0x20, 1, .rwl, 0x0, 0x7F7F⟩,
  ⟨0x44, 16, 0x20, 1, .wo, 0x0, 0x3⟩,
  ⟨0x48, 16, 0x20, 1, .ro, 0x0, 0xFFFFFFFF⟩,
  ⟨0x4C, 16, 0x20, 1, .ro, 0x0, 0xFFFFFFFF⟩,
  ⟨0x50, 16, 0x20, 1, .ro, 0x0, 0xFFFFFFFF⟩,
  ⟨0x54, 16, 0x20, 1, .ro, 0x0, 0xFFFFFFFF⟩,
  ⟨0x58, 16, 0x20, 1, .ro, 0x0, 0xFFFFFFFF⟩]

/-- Registers of the Bist page (17_bist_repair.md). -/
def rowsBist : List RegRow := [
  ⟨0x40, 1, 0x0, 1, .wo, 0x0, 0xFF⟩,
  ⟨0x44, 1, 0x0, 1, .ro, 0x0, 0xFFFFFFFF⟩,
  ⟨0x48, 1, 0x0, 1, .ro, 0x0, 0xFFFFFFFF⟩,
  ⟨0x4C, 1, 0x0, 1, .ro, 0x0, 0xFFFFFFFF⟩,
  ⟨0x50, 1, 0x0, 1, .ro, 0x0, 0xFFFFFFFF⟩,
  ⟨0x54, 1, 0x0, 1, .ro, 0x0, 0xFFFFFFFF⟩,
  ⟨0x58, 1, 0x0, 1, .ro, 0x0, 0xFFFFFFFF⟩,
  ⟨0x5C, 1, 0x0, 1, .wo, 0x0, 0xFFFFFFFF⟩]

/-- Registers of the BistTel page (17_bist_repair.md). -/
def rowsBistTel : List RegRow := [
  ⟨0x40, 1, 0x0, 1, .ros, 0x0, 0xFFFFFFFF⟩,
  ⟨0x44, 1, 0x0, 1, .ros, 0x0, 0xFFFFFFFF⟩,
  ⟨0x48, 1, 0x0, 1, .ros, 0x0, 0xFFFFFFFF⟩,
  ⟨0x4C, 1, 0x0, 1, .ros, 0x0, 0xFFFFFFFF⟩,
  ⟨0x50, 1, 0x0, 1, .ros, 0x0, 0xFFFFFFFF⟩,
  ⟨0x54, 1, 0x0, 1, .ros, 0x0, 0xFFFFFFFF⟩]

/-- Registers of the Evrec page (18_event_recorder.md). -/
def rowsEvrec : List RegRow := [
  ⟨0x40, 1, 0x0, 1, .ro, 0x0, 0xFFFFFFFF⟩,
  ⟨0x44, 1, 0x0, 1, .rw, 0x0, 0xFFFFFFFF⟩,
  ⟨0x48, 1, 0x0, 1, .ro, 0x0, 0xFFFFFFFF⟩,
  ⟨0x4C, 1, 0x0, 1, .rwl, 0x40A, 0xFFF⟩,
  ⟨0x50, 1, 0x0, 1, .rwl, 0x40A, 0xFFF⟩,
  ⟨0x54, 1, 0x0, 1, .rwl, 0x202, 0xFFF⟩,
  ⟨0x58, 1, 0x0, 1, .rwl, 0x640410, 0xFFFF0FFF⟩,
  ⟨0x5C, 1, 0x0, 4, .rwl, 0x0, 0xF7FF⟩,
  ⟨0x6C, 1, 0x0, 4, .ro, 0x0, 0xFFFFFFFF⟩,
  ⟨0x7C, 1, 0x0, 1, .wo, 0x0, 0x1F⟩,
  ⟨0x80, 1, 0x0, 1, .rw, 0x0, 0xFF⟩,
  ⟨0x84, 1, 0x0, 1, .ro, 0x0, 0xFFFFFFFF⟩,
  ⟨0x88, 1, 0x0, 1, .wo, 0x0, 0xFFFFFFFF⟩,
  ⟨0x8C, 1, 0x0, 1, .ro, 0x0, 0xFFFFFFFF⟩,
  ⟨0xA0, 1, 0x0, 8, .ro, 0x0, 0xFFFFFFFF⟩]

/-- Registers of the Fwim page (19_firmware_images.md). -/
def rowsFwim : List RegRow := [
  ⟨0x40, 1, 0x0, 1, .wo, 0x0, 0xFF⟩,
  ⟨0x44, 1, 0x0, 1, .ro, 0x0, 0xFFFFFFFF⟩,
  ⟨0x48, 1, 0x0, 1, .rw, 0x0, 0x3FF⟩,
  ⟨0x4C, 1, 0x0, 1, .rw, 0x0, 0xFFFFFFFF⟩,
  ⟨0x50, 1, 0x0, 1, .ro, 0x0, 0xFFFFFFFF⟩,
  ⟨0x54, 1, 0x0, 1, .ro, 0x0, 0xFFFFFFFF⟩,
  ⟨0x58, 1, 0x0, 1, .ro, 0x0, 0xFFFFFFFF⟩,
  ⟨0x5C, 1, 0x0, 1, .ro, 0x0, 0xFFFFFFFF⟩,
  ⟨0x60, 1, 0x0, 1, .ro, 0x0, 0xFFFFFFFF⟩,
  ⟨0x64, 1, 0x0, 1, .ro, 0x0, 0xFFFFFFFF⟩,
  ⟨0x68, 1, 0x0, 1, .ro, 0x0, 0xFFFFFFFF⟩,
  ⟨0x6C, 1, 0x0, 1, .rw, 0x0, 0xFF⟩]

/-- Registers of the Sec page (20_security_debug_power.md). -/
def rowsSec : List RegRow := [
  ⟨0x40, 1, 0x0, 1, .ro, 0x0, 0xFFFFFFFF⟩,
  ⟨0x44, 1, 0x0, 1, .wo, 0x0, 0xFFFFFFFF⟩,
  ⟨0x48, 1, 0x0, 1, .wo, 0x0, 0x3⟩,
  ⟨0x4C, 1, 0x0, 1, .ro, 0x0, 0xFFFFFFFF⟩,
  ⟨0x50, 1, 0x0, 1, .rwl, 0x1C, 0x1F⟩,
  ⟨0x54, 1, 0x0, 1, .w1c, 0x0, 0x11F⟩,
  ⟨0x58, 1, 0x0, 1, .ro, 0x0, 0xFFFFFFFF⟩,
  ⟨0x5C, 1, 0x0, 1, .wo, 0x0, 0xFFFF0003⟩]

/-- Registers of the SecKey page (20_security_debug_power.md). -/
def rowsSecKey : List RegRow := [
  ⟨0x40, 1, 0x0, 16, .wo, 0x0, 0xFFFFFFFF⟩,
  ⟨0x80, 1, 0x0, 1, .rwl, 0x0, 0x113⟩,
  ⟨0x84, 1, 0x0, 1, .ro, 0x0, 0xFFFFFFFF⟩,
  ⟨0x88, 1, 0x0, 4, .ro, 0x0, 0xFFFFFFFF⟩]

/-- Registers of the SecDbg page (20_security_debug_power.md). -/
def rowsSecDbg : List RegRow := [
  ⟨0x40, 1, 0x0, 1, .wo, 0x0, 0x707⟩,
  ⟨0x44, 1, 0x0, 1, .ro, 0x0, 0xFFFFFFFF⟩,
  ⟨0x48, 1, 0x0, 8, .ro, 0x0, 0xFFFFFFFF⟩,
  ⟨0x68, 1, 0x0, 16, .wo, 0x0, 0xFFFFFFFF⟩,
  ⟨0xA8, 1, 0x0, 1, .rw, 0x0, 0xF⟩,
  ⟨0xAC, 1, 0x0, 1, .ro, 0x0, 0xFFFFFFFF⟩]

/-- Registers of the Obj page (15_message_buses.md). -/
def rowsCanRam : List RegRow := [
  ⟨0x0, 32, 0x80, 1, .rwl, 0x0, 0x7F01FF1F⟩,
  ⟨0x4, 32, 0x80, 1, .rwl, 0x0, 0x3FFFFFFF⟩,
  ⟨0x8, 32, 0x80, 1, .rwl, 0x0, 0x1FFFFFFF⟩,
  ⟨0xC, 32, 0x80, 1, .wo, 0x0, 0xF⟩,
  ⟨0x10, 32, 0x80, 1, .ro, 0x1, 0xFFFFFFFF⟩,
  ⟨0x14, 32, 0x80, 1, .rw, 0x0, 0xFFFFFFFF⟩,
  ⟨0x18, 32, 0x80, 1, .rw, 0x0, 0x18F⟩,
  ⟨0x1C, 32, 0x80, 1, .ro, 0x0, 0xFFFFFFFF⟩,
  ⟨0x40, 32, 0x80, 16, .rw, 0x0, 0xFFFFFFFF⟩]

/-- The registers of a page kind beside the header. -/
def PageKind.rows : PageKind → List RegRow
  | .id => rowsId
  | .bup => rowsBup
  | .clk => rowsClk
  | .host => rowsHost
  | .measCtl => rowsMeasCtl
  | .measCh => rowsMeasCh
  | .measTel => rowsMeasTel
  | .crosswind => rowsCrosswind
  | .cle => rowsCle
  | .cleTel => rowsCleTel
  | .headwind => rowsHeadwind
  | .ctxWin => rowsCtxWin
  | .foc => rowsFoc
  | .prof => rowsProf
  | .pwmTb => rowsPwmTb
  | .pwmCh => rowsPwmCh
  | .pwmGrp => rowsPwmGrp
  | .pwmTrip => rowsPwmTrip
  | .pwmTel => rowsPwmTel
  | .glink => rowsGlink
  | .glPos => rowsGlPos
  | .glTel => rowsGlTel
  | .prot => rowsProt
  | .protSrc => rowsProtSrc
  | .protCmp => rowsProtCmp
  | .protTel => rowsProtTel
  | .therm => rowsTherm
  | .thermCh => rowsThermCh
  | .thermTs => rowsThermTs
  | .safe => rowsSafe
  | .safePw => rowsSafePw
  | .safeParam => rowsSafeParam
  | .safeIn => rowsSafeIn
  | .safeTg => rowsSafeTg
  | .safeTel => rowsSafeTel
  | .tmon => rowsTmon
  | .can => rowsCan
  | .mac => rowsMac
  | .ptp => rowsPtp
  | .pub => rowsPub
  | .ethTx => rowsEthTx
  | .ethRx => rowsEthRx
  | .twin => rowsTwin
  | .twinTel => rowsTwinTel
  | .dma => rowsDma
  | .dmaDesc => rowsDmaDesc
  | .dmaCh => rowsDmaCh
  | .bist => rowsBist
  | .bistTel => rowsBistTel
  | .evrec => rowsEvrec
  | .fwim => rowsFwim
  | .sec => rowsSec
  | .secKey => rowsSecKey
  | .secDbg => rowsSecDbg
  | .canRam => rowsCanRam

/-- Does offset `o` fall on row `r`? -/
def RegRow.at (r : RegRow) (o : Nat) : Bool :=
  decide (r.off ≤ o) &&
    (if r.st1 = 0 then decide (o - r.off < 4 * r.n2)
     else decide ((o - r.off) / r.st1 < r.n1) && decide ((o - r.off) % r.st1 < 4 * r.n2))

/-- The row of a page that covers offset `o`. -/
def PageKind.rowAt (k : PageKind) (o : Nat) : Option RegRow :=
  match k.rows.find? (·.at o) with
  | some r => some r
  | none => if k.header then hdrRows.find? (·.at o) else none

/-- The row of the register at word address `a`; none for a reserved offset or an unmapped address. -/
def regRow (a : Nat) : Option RegRow :=
  match pageKind (a / 4096) with
  | some k => k.rowAt (a % 4096)
  | none => none

/-- The reset value of the register at `a`; `BUP.IRQ_EN` resets to 7 (R68), unlisted addresses read zero. -/
def rst (a : Nat) : Word :=
  if a = 0x1018 then 7 else
  match regRow a with
  | some r => word r.rst
  | none => 0

/-- Is the register at `a` one a snapshot copies (RO/S)? -/
def isRos (a : Nat) : Bool :=
  match regRow a with
  | some r => decide (r.acc = .ros)
  | none => false

end Sys2Proof.Machine

namespace Sys2Proof.Machine.IdP

/-- The page number. -/
def page : Nat := 0x0
/-- 20 R38. -/
def UNIQUE_ID (j : Nat) : Nat := 0x40 + 4 * j

end Sys2Proof.Machine.IdP

namespace Sys2Proof.Machine.Bup

/-- The page number. -/
def page : Nat := 0x1
/-- 03 R68. -/
def STATE : Nat := 0x1040
/-- 03 R68. -/
def FAIL : Nat := 0x1044
/-- 03 R68. -/
def RST_CAUSE : Nat := 0x1048
/-- 03 R68. -/
def RST_COUNT : Nat := 0x104C
/-- 03 R68. -/
def READY : Nat := 0x1050
/-- 03 R68. -/
def BU_TIME : Nat := 0x1054

end Sys2Proof.Machine.Bup

namespace Sys2Proof.Machine.Clk

/-- The page number. -/
def page : Nat := 0x10
/-- 03 R73. -/
def PLL_STATUS : Nat := 0x10040
/-- 03 R73. -/
def REF_CFG : Nat := 0x10044
/-- 03 R73. -/
def WATCH_ISL : Nat := 0x10048
/-- 03 R73. -/
def WATCH_ROOT : Nat := 0x1004C
/-- 03 R73. -/
def CLKOUT_CFG : Nat := 0x10050
/-- 03 R73. -/
def SWRST : Nat := 0x10054
/-- 03 R73. -/
def GATE_STATUS : Nat := 0x10058

end Sys2Proof.Machine.Clk

namespace Sys2Proof.Machine.HostP

/-- The page number. -/
def page : Nat := 0x20
/-- 02 R502. -/
def CTRL : Nat := 0x2000C
/-- 02 R56. -/
def IRQ_SUMMARY : Nat := 0x20120
/-- 02 R56. -/
def IRQ_CFG : Nat := 0x20124
/-- 02 R56, R57. -/
def IRQ_ROUTE0 : Nat := 0x20100
/-- 02 R56, R57. -/
def IRQ_ROUTE1 : Nat := 0x20104
/-- 02 R56, R57. -/
def IRQ_ROUTE2 : Nat := 0x20108
/-- 02 R56, R57. -/
def IRQ_ROUTE3 : Nat := 0x2010C

end Sys2Proof.Machine.HostP

namespace Sys2Proof.Machine.MeasCtl

/-- The page number. -/
def page (m : Nat) : Nat := 0x40 + 0x10 * m
/-- 04 R103. -/
def CTRL (m : Nat) : Nat := 0x4000C + 0x10000 * m
/-- 04 R103. -/
def CAL_CMD (m : Nat) : Nat := 0x40040 + 0x10000 * m
/-- 04 R103. -/
def CAL_STATUS (m : Nat) : Nat := 0x40044 + 0x10000 * m
/-- 04 R103. -/
def SDCLK_CFG (m : Nat) : Nat := 0x40048 + 0x10000 * m
/-- 04 R103. -/
def TRIG_CFG (m : Nat) : Nat := 0x4004C + 0x10000 * m
/-- 04 R103. -/
def TRIG_SW (m : Nat) : Nat := 0x40050 + 0x10000 * m
/-- 04 R103. -/
def TRIG_SEQ (m : Nat) : Nat := 0x40054 + 0x10000 * m

end Sys2Proof.Machine.MeasCtl

namespace Sys2Proof.Machine.MeasCh

/-- The page number. -/
def page (m : Nat) : Nat := 0x41 + 0x10 * m
/-- 04 R105. -/
def CH_CFG (m : Nat) (c : Nat) : Nat := 0x41040 + 0x10000 * m + 0x10 * c
/-- 04 R105. -/
def CH_OFS (m : Nat) (c : Nat) : Nat := 0x41044 + 0x10000 * m + 0x10 * c
/-- 04 R105. -/
def CH_GAIN (m : Nat) (c : Nat) : Nat := 0x41048 + 0x10000 * m + 0x10 * c
/-- 04 R105. -/
def CH_STATUS (m : Nat) (c : Nat) : Nat := 0x4104C + 0x10000 * m + 0x10 * c
/-- 04 R105. -/
def CONV_OFS (m : Nat) (c : Nat) : Nat := 0x41200 + 0x10000 * m + 0x8 * c
/-- 04 R105. -/
def CONV_GAIN (m : Nat) (c : Nat) : Nat := 0x41204 + 0x10000 * m + 0x8 * c

end Sys2Proof.Machine.MeasCh

namespace Sys2Proof.Machine.MeasTel

/-- The page number. -/
def page (m : Nat) : Nat := 0x42 + 0x10 * m
/-- 04 R106. -/
def SUM_LO (m : Nat) (c : Nat) : Nat := 0x42040 + 0x10000 * m + 0x20 * c
/-- 04 R106. -/
def SUM_HI (m : Nat) (c : Nat) : Nat := 0x42044 + 0x10000 * m + 0x20 * c
/-- 04 R106. -/
def COUNT (m : Nat) (c : Nat) : Nat := 0x42048 + 0x10000 * m + 0x20 * c
/-- 04 R106. -/
def INVALID (m : Nat) (c : Nat) : Nat := 0x4204C + 0x10000 * m + 0x20 * c
/-- 04 R106. -/
def MIN (m : Nat) (c : Nat) : Nat := 0x42050 + 0x10000 * m + 0x20 * c
/-- 04 R106. -/
def MAX (m : Nat) (c : Nat) : Nat := 0x42054 + 0x10000 * m + 0x20 * c
/-- 04 R106. -/
def CTRL (m : Nat) : Nat := 0x4200C + 0x10000 * m

end Sys2Proof.Machine.MeasTel

namespace Sys2Proof.Machine.Xw

/-- The page number. -/
def page : Nat := 0x43
/-- 04 R107. -/
def CW_PAIR (c : Nat) : Nat := 0x43040 + 0x10 * c
/-- 04 R107. -/
def CW_BAND (c : Nat) : Nat := 0x43044 + 0x10 * c
/-- 04 R107. -/
def CW_STAT (c : Nat) : Nat := 0x43048 + 0x10 * c
/-- 04 R107. -/
def CW_MAXDIFF (c : Nat) : Nat := 0x4304C + 0x10 * c
/-- 04 R107. -/
def CW_DISAG (c : Nat) : Nat := 0x43240 + 0x4 * c

end Sys2Proof.Machine.Xw

namespace Sys2Proof.Machine.Cle

/-- The page number. -/
def page : Nat := 0x80
/-- 05 R138. -/
def CTRL : Nat := 0x8000C
/-- 05 R138. -/
def CMD : Nat := 0x80040
/-- 05 R138. -/
def CMD_LAST : Nat := 0x80044
/-- 05 R138. -/
def UTIL : Nat := 0x80048
/-- 05 R138. -/
def FAST_USE : Nat := 0x8004C
/-- 05 R138. -/
def IN_USE : Nat := 0x80050
/-- 06 R157. -/
def SPEC_CTRL : Nat := 0x80054

end Sys2Proof.Machine.Cle

namespace Sys2Proof.Machine.CleTel

/-- The page number. -/
def page : Nat := 0x81
/-- 05 R139. -/
def LANE_BUSY0 (j : Nat) : Nat := 0x81040 + 4 * j
/-- 05 R139. -/
def LANE_BIST : Nat := 0x81050
/-- 05 R139. -/
def WAIT_MAX : Nat := 0x81054
/-- 05 R139. -/
def RUNS : Nat := 0x81058
/-- 05 R139. -/
def OVERRUNS : Nat := 0x8105C
/-- 05 R139. -/
def MISSES : Nat := 0x81060
/-- 05 R139. -/
def TICK_LO : Nat := 0x81064
/-- 05 R139. -/
def TICK_HI : Nat := 0x81068
/-- 06 R158. -/
def SPEC_HITS_ALL : Nat := 0x81070
/-- 06 R158. -/
def SPEC_SQUASH_ALL : Nat := 0x81074
/-- 06 R158. -/
def SPEC_CAUSES_ALL : Nat := 0x81078
/-- 06 R158. -/
def SPEC_PRE_ABANDON : Nat := 0x8107C

end Sys2Proof.Machine.CleTel

namespace Sys2Proof.Machine.Hw

/-- The page number. -/
def page : Nat := 0x82
/-- 05 R136. -/
def HW_CFG (c : Nat) : Nat := 0x82040 + 0x20 * c
/-- 05 R136. -/
def HW_DEST (c : Nat) : Nat := 0x82044 + 0x20 * c
/-- 05 R136. -/
def HW_SAFE (c : Nat) : Nat := 0x82048 + 0x20 * c
/-- 05 R136. -/
def HW_EXT_A (c : Nat) : Nat := 0x8204C + 0x20 * c
/-- 05 R136. -/
def HW_EXT_B (c : Nat) : Nat := 0x82050 + 0x20 * c
/-- 05 R136. -/
def HW_STAT (c : Nat) : Nat := 0x82054 + 0x20 * c
/-- 05 R136. -/
def HW_OUT (c : Nat) : Nat := 0x82058 + 0x20 * c
/-- 05 R136. -/
def HW_CMD (c : Nat) : Nat := 0x8205C + 0x20 * c

end Sys2Proof.Machine.Hw

namespace Sys2Proof.Machine.Ctx

/-- 05 R119. -/
def LAW_CFG (c : Nat) : Nat := 0xA0000 + 0x100 * c
/-- 05 R119. -/
def PERIOD (c : Nat) : Nat := 0xA0004 + 0x100 * c
/-- 05 R119. -/
def PHASE (c : Nat) : Nat := 0xA0008 + 0x100 * c
/-- 05 R119. -/
def GROUP (c : Nat) : Nat := 0xA000C + 0x100 * c
/-- 05 R119. -/
def SRC01 (c : Nat) : Nat := 0xA0010 + 0x100 * c
/-- 05 R119. -/
def SRC23 (c : Nat) : Nat := 0xA0014 + 0x100 * c
/-- 05 R119. -/
def SRC45 (c : Nat) : Nat := 0xA0018 + 0x100 * c
/-- 05 R119. -/
def SPSRC (c : Nat) : Nat := 0xA001C + 0x100 * c
/-- 05 R119. -/
def DEST (c : Nat) : Nat := 0xA0020 + 0x100 * c
/-- 05 R119. -/
def DETECT (c : Nat) : Nat := 0xA0024 + 0x100 * c
/-- 05 R119. -/
def SOFT_RATE (c : Nat) : Nat := 0xA0030 + 0x100 * c
/-- 05 R119. -/
def SPEC_BAND (c : Nat) : Nat := 0xA0034 + 0x100 * c
/-- 05 R119. -/
def RATED (c : Nat) : Nat := 0xA0038 + 0x100 * c
/-- 05 R119. -/
def LIM_HI (c : Nat) : Nat := 0xA003C + 0x100 * c
/-- 05 R119. -/
def LIM_LO (c : Nat) : Nat := 0xA0040 + 0x100 * c
/-- 05 R119. -/
def FAULT_OUT (c : Nat) : Nat := 0xA0044 + 0x100 * c
/-- 05 R119. -/
def FREEZE_FLOOR (c : Nat) : Nat := 0xA0048 + 0x100 * c
/-- 05 R119. -/
def ACT_DELTA (c : Nat) : Nat := 0xA004C + 0x100 * c
/-- 05 R119. -/
def COEF0 (c : Nat) (j : Nat) : Nat := 0xA0050 + 0x100 * c + 4 * j
/-- 05 R119. -/
def TARGET (c : Nat) : Nat := 0xA0090 + 0x100 * c
/-- 05 R119. -/
def TARGET_D (c : Nat) : Nat := 0xA0094 + 0x100 * c
/-- 05 R119. -/
def STATE (c : Nat) : Nat := 0xA00A0 + 0x100 * c
/-- 05 R119. -/
def COUNTS (c : Nat) : Nat := 0xA00A4 + 0x100 * c
/-- 05 R119. -/
def CFG_CRC (c : Nat) : Nat := 0xA00A8 + 0x100 * c
/-- 05 R119. -/
def OUT (c : Nat) : Nat := 0xA00B0 + 0x100 * c
/-- 05 R119. -/
def OUT_D (c : Nat) : Nat := 0xA00B4 + 0x100 * c
/-- 05 R119. -/
def SETPT (c : Nat) : Nat := 0xA00B8 + 0x100 * c
/-- 05 R119. -/
def SETPT_D (c : Nat) : Nat := 0xA00BC + 0x100 * c
/-- 05 R119. -/
def ISTATE0 (c : Nat) (j : Nat) : Nat := 0xA00C0 + 0x100 * c + 4 * j
/-- 06 R156. -/
def SPEC_HITS (c : Nat) : Nat := 0xA00E0 + 0x100 * c
/-- 06 R156. -/
def SPEC_SQUASHES (c : Nat) : Nat := 0xA00E4 + 0x100 * c
/-- 06 R156. -/
def SPEC_CAUSES (c : Nat) : Nat := 0xA00E8 + 0x100 * c
/-- 06 R156. -/
def SPEC_DEV_MAX (c : Nat) : Nat := 0xA00EC + 0x100 * c

end Sys2Proof.Machine.Ctx

namespace Sys2Proof.Machine.Foc

/-- The page number. -/
def page (m : Nat) : Nat := 0x100 + 0x1 * m
/-- 07 R188. -/
def CFG (m : Nat) : Nat := 0x100040 + 0x1000 * m
/-- 07 R188. -/
def CUR_CTX (m : Nat) : Nat := 0x100044 + 0x1000 * m
/-- 07 R188. -/
def VSRC_AB (m : Nat) : Nat := 0x100048 + 0x1000 * m
/-- 07 R188. -/
def VSRC_C (m : Nat) : Nat := 0x10004C + 0x1000 * m
/-- 07 R188. -/
def LD_LS (m : Nat) : Nat := 0x100050 + 0x1000 * m
/-- 07 R188. -/
def LQ_LR (m : Nat) : Nat := 0x100054 + 0x1000 * m
/-- 07 R188. -/
def LM (m : Nat) : Nat := 0x100058 + 0x1000 * m
/-- 07 R188. -/
def RS (m : Nat) : Nat := 0x10005C + 0x1000 * m
/-- 07 R188. -/
def RR (m : Nat) : Nat := 0x100060 + 0x1000 * m
/-- 07 R188. -/
def PSI (m : Nat) : Nat := 0x100064 + 0x1000 * m
/-- 07 R188. -/
def I_MAX (m : Nat) : Nat := 0x100068 + 0x1000 * m
/-- 07 R188. -/
def TORQUE_REF (m : Nat) : Nat := 0x10006C + 0x1000 * m
/-- 07 R188. -/
def SPEED_REF (m : Nat) : Nat := 0x100070 + 0x1000 * m
/-- 07 R188. -/
def SPEED_RATE (m : Nat) : Nat := 0x100074 + 0x1000 * m
/-- 07 R188. -/
def TQ_RATE (m : Nat) : Nat := 0x100078 + 0x1000 * m
/-- 07 R188. -/
def STOP_RATE (m : Nat) : Nat := 0x10007C + 0x1000 * m
/-- 07 R188. -/
def TQ_CFG (m : Nat) : Nat := 0x100080 + 0x1000 * m
/-- 07 R188. -/
def OBS_WC (m : Nat) : Nat := 0x100084 + 0x1000 * m
/-- 07 R188. -/
def PLL_BW (m : Nat) : Nat := 0x100088 + 0x1000 * m
/-- 07 R188. -/
def LOS_RES (m : Nat) : Nat := 0x10008C + 0x1000 * m
/-- 07 R188. -/
def LOS_ACCEL (m : Nat) : Nat := 0x100090 + 0x1000 * m
/-- 07 R188. -/
def LOS_CFG (m : Nat) : Nat := 0x100094 + 0x1000 * m
/-- 07 R188. -/
def IPD_AMP (m : Nat) : Nat := 0x100098 + 0x1000 * m
/-- 07 R188. -/
def IPD_TIME (m : Nat) : Nat := 0x10009C + 0x1000 * m
/-- 07 R188. -/
def IPD_ILIM (m : Nat) : Nat := 0x1000A0 + 0x1000 * m
/-- 07 R188. -/
def IPD_CONTRAST (m : Nat) : Nat := 0x1000A4 + 0x1000 * m
/-- 07 R188. -/
def CATCH_TIME (m : Nat) : Nat := 0x1000A8 + 0x1000 * m
/-- 07 R188. -/
def EMF_MIN (m : Nat) : Nat := 0x1000AC + 0x1000 * m
/-- 07 R188. -/
def SEARCH_I (m : Nat) : Nat := 0x1000B0 + 0x1000 * m
/-- 07 R188. -/
def SEARCH_FMAX (m : Nat) : Nat := 0x1000B4 + 0x1000 * m
/-- 07 R188. -/
def SEARCH_RATE (m : Nat) : Nat := 0x1000B8 + 0x1000 * m
/-- 07 R188. -/
def MAG_TIME (m : Nat) : Nat := 0x1000BC + 0x1000 * m
/-- 07 R188. -/
def ASC_CFG (m : Nat) : Nat := 0x1000C0 + 0x1000 * m
/-- 07 R188. -/
def MIN_CLEAR (m : Nat) : Nat := 0x1000C4 + 0x1000 * m
/-- 07 R188. -/
def CMD (m : Nat) : Nat := 0x1000C8 + 0x1000 * m
/-- 07 R188. -/
def MSTATE (m : Nat) : Nat := 0x1000CC + 0x1000 * m
/-- 07 R188. -/
def IPD_RESULT (m : Nat) : Nat := 0x1000D0 + 0x1000 * m
/-- 07 R188. -/
def CATCH_SPEED (m : Nat) : Nat := 0x1000D4 + 0x1000 * m
/-- 07 R188. -/
def CATCH_EMF (m : Nat) : Nat := 0x1000D8 + 0x1000 * m
/-- 07 R188. -/
def MOD_LIM (m : Nat) : Nat := 0x1000DC + 0x1000 * m
/-- 07 R190. -/
def SPEED_M (m : Nat) : Nat := 0x100100 + 0x1000 * m
/-- 07 R190. -/
def SPEED_E (m : Nat) : Nat := 0x100104 + 0x1000 * m
/-- 07 R190. -/
def TORQUE_EST (m : Nat) : Nat := 0x100108 + 0x1000 * m
/-- 07 R190. -/
def FLUX_EST (m : Nat) : Nat := 0x10010C + 0x1000 * m
/-- 07 R190. -/
def RESID_MAX (m : Nat) : Nat := 0x100110 + 0x1000 * m
/-- 07 R190. -/
def LIMITED_CNT (m : Nat) : Nat := 0x100114 + 0x1000 * m
/-- 07 R190. -/
def LOS_CNT (m : Nat) : Nat := 0x100118 + 0x1000 * m
/-- 07 R190. -/
def POS_M (m : Nat) : Nat := 0x10011C + 0x1000 * m

end Sys2Proof.Machine.Foc

namespace Sys2Proof.Machine.Prof

/-- The page number. -/
def page (m : Nat) : Nat := 0x120 + 0x1 * m
/-- 08 R206. -/
def PCFG (m : Nat) : Nat := 0x120040 + 0x1000 * m
/-- 08 R206. -/
def A1 (m : Nat) : Nat := 0x120044 + 0x1000 * m
/-- 08 R206. -/
def A2 (m : Nat) : Nat := 0x120048 + 0x1000 * m
/-- 08 R206. -/
def D2 (m : Nat) : Nat := 0x12004C + 0x1000 * m
/-- 08 R206. -/
def D1 (m : Nat) : Nat := 0x120050 + 0x1000 * m
/-- 08 R206. -/
def V_START (m : Nat) : Nat := 0x120054 + 0x1000 * m
/-- 08 R206. -/
def V_BREAK (m : Nat) : Nat := 0x120058 + 0x1000 * m
/-- 08 R206. -/
def V_MAX (m : Nat) : Nat := 0x12005C + 0x1000 * m
/-- 08 R206. -/
def V_DBREAK (m : Nat) : Nat := 0x120060 + 0x1000 * m
/-- 08 R206. -/
def V_STOP (m : Nat) : Nat := 0x120064 + 0x1000 * m
/-- 08 R206. -/
def TGT_LO (m : Nat) : Nat := 0x120068 + 0x1000 * m
/-- 08 R206. -/
def TGT_HI (m : Nat) : Nat := 0x12006C + 0x1000 * m
/-- 08 R206. -/
def TGT_SPEED (m : Nat) : Nat := 0x120070 + 0x1000 * m
/-- 08 R206. -/
def POS_TOL (m : Nat) : Nat := 0x120074 + 0x1000 * m
/-- 08 R206. -/
def UNIT (m : Nat) : Nat := 0x120078 + 0x1000 * m
/-- 08 R206. -/
def LULL_SPEED (m : Nat) : Nat := 0x12007C + 0x1000 * m
/-- 08 R206. -/
def LULL_CFG (m : Nat) : Nat := 0x120080 + 0x1000 * m
/-- 08 R206. -/
def PCMD (m : Nat) : Nat := 0x120084 + 0x1000 * m
/-- 08 R206. -/
def PSTATE (m : Nat) : Nat := 0x120088 + 0x1000 * m
/-- 08 R206. -/
def ACT_A1 (m : Nat) (j : Nat) : Nat := 0x1200A0 + 0x1000 * m + 4 * j
/-- 08 R208. -/
def POS_LO (m : Nat) : Nat := 0x120100 + 0x1000 * m
/-- 08 R208. -/
def POS_HI (m : Nat) : Nat := 0x120104 + 0x1000 * m
/-- 08 R208. -/
def SPEED (m : Nat) : Nat := 0x120108 + 0x1000 * m
/-- 08 R208. -/
def ACCEL (m : Nat) : Nat := 0x12010C + 0x1000 * m
/-- 08 R208. -/
def REM (m : Nat) : Nat := 0x120110 + 0x1000 * m
/-- 08 R208. -/
def MISS_CNT (m : Nat) : Nat := 0x120114 + 0x1000 * m
/-- 08 R208. -/
def REV_CNT (m : Nat) : Nat := 0x120118 + 0x1000 * m
/-- 08 R208. -/
def LULL_CNT (m : Nat) : Nat := 0x12011C + 0x1000 * m

end Sys2Proof.Machine.Prof

namespace Sys2Proof.Machine.Tb

/-- The page number. -/
def page : Nat := 0x140
/-- 09 R231. -/
def TB_CFG (c : Nat) : Nat := 0x140040 + 0x20 * c
/-- 09 R231. -/
def TB_PRD (c : Nat) : Nat := 0x140044 + 0x20 * c
/-- 09 R231. -/
def TB_PHASE (c : Nat) : Nat := 0x140048 + 0x20 * c
/-- 09 R231. -/
def TB_TRIG (c : Nat) : Nat := 0x14004C + 0x20 * c
/-- 09 R231. -/
def TB_SHIFT (c : Nat) : Nat := 0x140050 + 0x20 * c
/-- 09 R231. -/
def TB_STAT (c : Nat) : Nat := 0x140054 + 0x20 * c
/-- 09 R231. -/
def TB_CNT (c : Nat) : Nat := 0x140058 + 0x20 * c
/-- 09 R231. -/
def TB_START : Nat := 0x140140
/-- 09 R231. -/
def TB_STOP : Nat := 0x140144

end Sys2Proof.Machine.Tb

namespace Sys2Proof.Machine.Ch

/-- The page number. -/
def page : Nat := 0x141
/-- 09 R232. -/
def CH_CMP (c : Nat) : Nat := 0x141040 + 0x10 * c
/-- 09 R232. -/
def CH_FORCE (c : Nat) : Nat := 0x141044 + 0x10 * c
/-- 09 R232. -/
def CH_STAT (c : Nat) : Nat := 0x141048 + 0x10 * c
/-- 09 R232. -/
def CH_ACT (c : Nat) : Nat := 0x14104C + 0x10 * c

end Sys2Proof.Machine.Ch

namespace Sys2Proof.Machine.Grp

/-- The page number. -/
def page : Nat := 0x142
/-- 09 R233. -/
def GRP_CFG (c : Nat) : Nat := 0x142040 + 0x40 * c
/-- 09 R233. -/
def GRP_DTA (c : Nat) : Nat := 0x142044 + 0x40 * c
/-- 09 R233. -/
def GRP_DTB (c : Nat) : Nat := 0x142048 + 0x40 * c
/-- 09 R233. -/
def GRP_DTC (c : Nat) : Nat := 0x14204C + 0x40 * c
/-- 09 R233. -/
def GRP_TIMING (c : Nat) : Nat := 0x142050 + 0x40 * c
/-- 09 R233. -/
def GRP_HOLD (c : Nat) : Nat := 0x142054 + 0x40 * c
/-- 09 R233. -/
def GRP_REFA (c : Nat) : Nat := 0x142058 + 0x40 * c
/-- 09 R233. -/
def GRP_REFB (c : Nat) : Nat := 0x14205C + 0x40 * c
/-- 09 R233. -/
def GRP_REFC (c : Nat) : Nat := 0x142060 + 0x40 * c
/-- 09 R233. -/
def GRP_STAT (c : Nat) : Nat := 0x142064 + 0x40 * c

end Sys2Proof.Machine.Grp

namespace Sys2Proof.Machine.Trip

/-- The page number. -/
def page : Nat := 0x143
/-- 09 R234. -/
def TRIP_CFG0 (j : Nat) : Nat := 0x143040 + 4 * j
/-- 09 R234. -/
def TRIP_STAT : Nat := 0x143060
/-- 09 R234. -/
def TRIP_CLR : Nat := 0x143064

end Sys2Proof.Machine.Trip

namespace Sys2Proof.Machine.PwmTel

/-- The page number. -/
def page : Nat := 0x144
/-- 09 R235. -/
def UPDATES (c : Nat) : Nat := 0x144040 + 0x10 * c
/-- 09 R235. -/
def LATE (c : Nat) : Nat := 0x144044 + 0x10 * c
/-- 09 R235. -/
def SHIFTS (c : Nat) : Nat := 0x144048 + 0x10 * c
/-- 09 R235. -/
def DROP_CNT (c : Nat) : Nat := 0x1440C0 + 0x10 * c
/-- 09 R235. -/
def CLAMP_CNT (c : Nat) : Nat := 0x1440C4 + 0x10 * c
/-- 09 R235. -/
def NP_PASS (c : Nat) : Nat := 0x1440C8 + 0x10 * c
/-- 09 R235. -/
def TRIP_CNT (c : Nat) : Nat := 0x144120 + 0x4 * c

end Sys2Proof.Machine.PwmTel

namespace Sys2Proof.Machine.Gl

/-- The page number. -/
def page : Nat := 0x160
/-- 10 R261. -/
def UP_MASK0 : Nat := 0x160040
/-- 10 R261. -/
def UP_MASK1 : Nat := 0x160044
/-- 10 R261. -/
def LOST_MASK0 : Nat := 0x160048
/-- 10 R261. -/
def LOST_MASK1 : Nat := 0x16004C
/-- 10 R261. -/
def MEAS_ROT : Nat := 0x160050
/-- 10 R261. -/
def BS_CFG : Nat := 0x160054
/-- 10 R261. -/
def BS_STAT : Nat := 0x160058
/-- 10 R261. -/
def CTRL : Nat := 0x16000C

end Sys2Proof.Machine.Gl

namespace Sys2Proof.Machine.GlPos

/-- The page number. -/
def page : Nat := 0x161
/-- 10 R262. -/
def GL_CFG (c : Nat) : Nat := 0x161040 + 0x10 * c
/-- 10 R262. -/
def GL_CMD (c : Nat) : Nat := 0x161044 + 0x10 * c
/-- 10 R262. -/
def GL_STAT (c : Nat) : Nat := 0x161048 + 0x10 * c
/-- 10 R262. -/
def GL_DRV (c : Nat) : Nat := 0x16104C + 0x10 * c

end Sys2Proof.Machine.GlPos

namespace Sys2Proof.Machine.GlTel

/-- The page number. -/
def page : Nat := 0x162
/-- 10 R263. -/
def VCE_ON (c : Nat) : Nat := 0x162040 + 0x20 * c
/-- 10 R263. -/
def TEMP (c : Nat) : Nat := 0x162044 + 0x20 * c
/-- 10 R263. -/
def SUPPLY (c : Nat) : Nat := 0x162048 + 0x20 * c
/-- 10 R263. -/
def UL_BAD (c : Nat) : Nat := 0x16204C + 0x20 * c
/-- 10 R263. -/
def LINK_ERR (c : Nat) : Nat := 0x162050 + 0x20 * c
/-- 10 R263. -/
def DESAT_CNT (c : Nat) : Nat := 0x162054 + 0x20 * c
/-- 10 R263. -/
def IDENT (c : Nat) : Nat := 0x162058 + 0x20 * c
/-- 10 R263. -/
def BS_CLAMP (c : Nat) : Nat := 0x1624C0 + 0x4 * c

end Sys2Proof.Machine.GlTel

namespace Sys2Proof.Machine.Prot

/-- The page number. -/
def page : Nat := 0x180
/-- 11 R290. -/
def DCL_CFG : Nat := 0x180040
/-- 11 R290. -/
def OV1_ON : Nat := 0x180044
/-- 11 R290. -/
def OV1_OFF : Nat := 0x180048
/-- 11 R290. -/
def OV2 : Nat := 0x18004C
/-- 11 R290. -/
def ESC_LVL : Nat := 0x180050
/-- 11 R290. -/
def OV3 : Nat := 0x180054
/-- 11 R290. -/
def CHOP_CFG : Nat := 0x180058
/-- 11 R290. -/
def CHOP_DV : Nat := 0x18005C
/-- 11 R290. -/
def ESC_CFG : Nat := 0x180060
/-- 11 R290. -/
def ESC_CLR : Nat := 0x180064
/-- 11 R290. -/
def RETRY_CFG : Nat := 0x180068
/-- 11 R290. -/
def LOCKOUT_CLR : Nat := 0x18006C
/-- 11 R290. -/
def TWO_LEG_WIN : Nat := 0x180070
/-- 11 R290. -/
def DIS_CFG : Nat := 0x180074
/-- 11 R290. -/
def DIS_I : Nat := 0x180078
/-- 11 R290. -/
def DIS_END : Nat := 0x18007C
/-- 11 R290. -/
def DIS_CMD : Nat := 0x180080
/-- 11 R290. -/
def DIS_STAT : Nat := 0x180084
/-- 11 R290. -/
def DESAT_CFG : Nat := 0x180088
/-- 11 R290. -/
def FORCE_STAT : Nat := 0x18008C
/-- 11 R290. -/
def CTRL : Nat := 0x18000C

end Sys2Proof.Machine.Prot

namespace Sys2Proof.Machine.ProtSrc

/-- The page number. -/
def page : Nat := 0x181
/-- 11 R291. -/
def SRC_CFG (c : Nat) : Nat := 0x181040 + 0x10 * c
/-- 11 R291. -/
def MASK_LO (c : Nat) : Nat := 0x181044 + 0x10 * c
/-- 11 R291. -/
def MASK_HI (c : Nat) : Nat := 0x181048 + 0x10 * c
/-- 11 R291. -/
def SRC_STAT (c : Nat) : Nat := 0x18104C + 0x10 * c
/-- 11 R291. -/
def SRC_LATCH0 : Nat := 0x181400
/-- 11 R291. -/
def SRC_LATCH1 : Nat := 0x181404
/-- 11 R291. -/
def SRC_CLR0 : Nat := 0x181408
/-- 11 R291. -/
def SRC_CLR1 : Nat := 0x18140C

end Sys2Proof.Machine.ProtSrc

namespace Sys2Proof.Machine.ProtCmp

/-- The page number. -/
def page : Nat := 0x182
/-- 11 R292. -/
def CMP_CFG (c : Nat) : Nat := 0x182040 + 0x10 * c
/-- 11 R292. -/
def CMP_HI (c : Nat) : Nat := 0x182044 + 0x10 * c
/-- 11 R292. -/
def CMP_LO (c : Nat) : Nat := 0x182048 + 0x10 * c
/-- 11 R292. -/
def CMP_STAT (c : Nat) : Nat := 0x18204C + 0x10 * c

end Sys2Proof.Machine.ProtCmp

namespace Sys2Proof.Machine.ProtTel

/-- The page number. -/
def page : Nat := 0x183
/-- 11 R293. -/
def VDC_MIN : Nat := 0x183040
/-- 11 R293. -/
def VDC_MAX : Nat := 0x183044
/-- 11 R293. -/
def CHOP_FRAC : Nat := 0x183048
/-- 11 R293. -/
def CHOP_STARTS : Nat := 0x18304C
/-- 11 R293. -/
def RETRIES : Nat := 0x183050
/-- 11 R293. -/
def LATCH_CNT (c : Nat) : Nat := 0x183100 + 0x4 * c

end Sys2Proof.Machine.ProtTel

namespace Sys2Proof.Machine.Therm

/-- The page number. -/
def page : Nat := 0x1A0
/-- 13 R349. -/
def THR_STAT : Nat := 0x1A0040
/-- 13 R349. -/
def GRACE : Nat := 0x1A0044
/-- 13 R349. -/
def TQ_FULL0 (j : Nat) : Nat := 0x1A0048 + 4 * j
/-- 13 R349. -/
def DR_RATE : Nat := 0x1A0058
/-- 13 R349. -/
def DR_FLOOR : Nat := 0x1A005C
/-- 13 R349. -/
def THR_CAN : Nat := 0x1A0060
/-- 13 R349. -/
def REARM : Nat := 0x1A0064
/-- 13 R349. -/
def REARM_STAT : Nat := 0x1A0068
/-- 13 R349. -/
def SD_ACK : Nat := 0x1A006C
/-- 13 R349. -/
def SD_SEQ : Nat := 0x1A0070
/-- 13 R349. -/
def SD_TIME : Nat := 0x1A0074
/-- 13 R349. -/
def SD_CAUSE : Nat := 0x1A0078
/-- 13 R349. -/
def SD_VALUE : Nat := 0x1A007C
/-- 13 R349. -/
def SD_MASK0 (j : Nat) : Nat := 0x1A0080 + 4 * j
/-- 13 R349. -/
def ROUND_CNT : Nat := 0x1A008C
/-- 13 R349. -/
def HK_VAL (c : Nat) : Nat := 0x1A0100 + 0x4 * c
/-- 13 R349. -/
def DR_LIM (c : Nat) : Nat := 0x1A0280 + 0x4 * c

end Sys2Proof.Machine.Therm

namespace Sys2Proof.Machine.ThermCh

/-- The page number. -/
def page : Nat := 0x1A1
/-- 13 R350. -/
def HK_CFG (c : Nat) : Nat := 0x1A1040 + 0x20 * c
/-- 13 R350. -/
def LOW_TRIP (c : Nat) : Nat := 0x1A1044 + 0x20 * c
/-- 13 R350. -/
def LOW_WARN (c : Nat) : Nat := 0x1A1048 + 0x20 * c
/-- 13 R350. -/
def HIGH_WARN (c : Nat) : Nat := 0x1A104C + 0x20 * c
/-- 13 R350. -/
def HIGH_DERATE (c : Nat) : Nat := 0x1A1050 + 0x20 * c
/-- 13 R350. -/
def HIGH_TRIP (c : Nat) : Nat := 0x1A1054 + 0x20 * c
/-- 13 R350. -/
def HYST (c : Nat) : Nat := 0x1A1058 + 0x20 * c
/-- 13 R350. -/
def HK_STAT (c : Nat) : Nat := 0x1A105C + 0x20 * c

end Sys2Proof.Machine.ThermCh

namespace Sys2Proof.Machine.ThermTs

/-- The page number. -/
def page : Nat := 0x1A2
/-- 13 R351. -/
def TS_CFG (c : Nat) : Nat := 0x1A2040 + 0x10 * c
/-- 13 R351. -/
def TS_P0 (c : Nat) : Nat := 0x1A2044 + 0x10 * c
/-- 13 R351. -/
def TS_P1 (c : Nat) : Nat := 0x1A2048 + 0x10 * c

end Sys2Proof.Machine.ThermTs

namespace Sys2Proof.Machine.Safe

/-- The page number. -/
def page : Nat := 0x200
/-- 12 R327. -/
def GRP_STATE : Nat := 0x200040
/-- 12 R327. -/
def DEMANDS : Nat := 0x200044
/-- 12 R327. -/
def HOST_DEMAND : Nat := 0x200048
/-- 12 R327. -/
def REL_CMD : Nat := 0x20004C
/-- 12 R327. -/
def BRK_REQ : Nat := 0x200050
/-- 12 R327. -/
def LO_CAUSE : Nat := 0x200054
/-- 12 R327. -/
def LO_KEY : Nat := 0x200058
/-- 12 R327. -/
def LO_STAT : Nat := 0x20005C
/-- 12 R327. -/
def PARAM_CRC : Nat := 0x200060
/-- 12 R327. -/
def PARAM_CMD : Nat := 0x200064
/-- 12 R327. -/
def PROOF_HRS : Nat := 0x200068

end Sys2Proof.Machine.Safe

namespace Sys2Proof.Machine.SafePw

/-- The page number. -/
def page : Nat := 0x201
/-- 12 R328. -/
def PW_BUF0 (j : Nat) : Nat := 0x201040 + 4 * j
/-- 12 R328. -/
def PW_CMD : Nat := 0x201060
/-- 12 R328. -/
def PW_STAT : Nat := 0x201064
/-- 12 R328. -/
def LOG_CNT : Nat := 0x201068
/-- 12 R328. -/
def LOG_SEL : Nat := 0x20106C
/-- 12 R328. -/
def LOG_E0 (j : Nat) : Nat := 0x201070 + 4 * j

end Sys2Proof.Machine.SafePw

namespace Sys2Proof.Machine.Param

/-- The page number. -/
def page : Nat := 0x202
/-- 12 R329. -/
def GCFG (c : Nat) : Nat := 0x202040 + 0x80 * c
/-- 12 R329. -/
def SS1_T (c : Nat) : Nat := 0x202044 + 0x80 * c
/-- 12 R329. -/
def SS1_DEC (c : Nat) : Nat := 0x202048 + 0x80 * c
/-- 12 R329. -/
def SS1_MARGIN (c : Nat) : Nat := 0x20204C + 0x80 * c
/-- 12 R329. -/
def SSTILL (c : Nat) : Nat := 0x202050 + 0x80 * c
/-- 12 R329. -/
def SLS_LIM0 (c : Nat) (j : Nat) : Nat := 0x202054 + 0x80 * c + 4 * j
/-- 12 R329. -/
def SLS_ENTRY (c : Nat) : Nat := 0x202064 + 0x80 * c
/-- 12 R329. -/
def SDI_TOL (c : Nat) : Nat := 0x202068 + 0x80 * c
/-- 12 R329. -/
def SPD_CUR (c : Nat) : Nat := 0x20206C + 0x80 * c
/-- 12 R329. -/
def SPD_VOLT (c : Nat) : Nat := 0x202070 + 0x80 * c
/-- 12 R329. -/
def I_MIN (c : Nat) : Nat := 0x202074 + 0x80 * c
/-- 12 R329. -/
def V_MIN (c : Nat) : Nat := 0x202078 + 0x80 * c
/-- 12 R329. -/
def PSI_S (c : Nat) : Nat := 0x20207C + 0x80 * c
/-- 12 R329. -/
def SPD_TOL (c : Nat) : Nat := 0x202080 + 0x80 * c
/-- 12 R329. -/
def UNK_TIME (c : Nat) : Nat := 0x202084 + 0x80 * c
/-- 12 R329. -/
def SBC_DELAY (c : Nat) : Nat := 0x202088 + 0x80 * c
/-- 12 R329. -/
def PROOF_INT (c : Nat) : Nat := 0x20208C + 0x80 * c
/-- 12 R329. -/
def CB_CRC (c : Nat) : Nat := 0x202090 + 0x80 * c
/-- 12 R329. -/
def GUARD_PERIOD : Nat := 0x202400

end Sys2Proof.Machine.Param

namespace Sys2Proof.Machine.SafeIn

/-- The page number. -/
def page : Nat := 0x203
/-- 12 R330. -/
def SI_CFG (c : Nat) : Nat := 0x203040 + 0x10 * c
/-- 12 R330. -/
def SI_STAT (c : Nat) : Nat := 0x203044 + 0x10 * c
/-- 12 R330. -/
def TP_CFG : Nat := 0x203400

end Sys2Proof.Machine.SafeIn

namespace Sys2Proof.Machine.SafeTg

/-- The page number. -/
def page : Nat := 0x204
/-- 12 R331. -/
def TG_CFG (c : Nat) : Nat := 0x204040 + 0x20 * c
/-- 12 R331. -/
def TG_SEED (c : Nat) : Nat := 0x204044 + 0x20 * c
/-- 12 R331. -/
def TG_PERIOD (c : Nat) : Nat := 0x204048 + 0x20 * c
/-- 12 R331. -/
def TG_STAT (c : Nat) : Nat := 0x20404C + 0x20 * c

end Sys2Proof.Machine.SafeTg

namespace Sys2Proof.Machine.SafeTel

/-- The page number. -/
def page : Nat := 0x205
/-- 12 R332. -/
def SPEED0 : Nat := 0x205040
/-- 12 R332. -/
def SPEED1 : Nat := 0x205044
/-- 12 R332. -/
def TG_ONE_SIDED (c : Nat) : Nat := 0x205048 + 0x4 * c
/-- 12 R332. -/
def TG_BAD (c : Nat) : Nat := 0x205068 + 0x4 * c

end Sys2Proof.Machine.SafeTel

namespace Sys2Proof.Machine.Tmon

/-- The page number. -/
def page : Nat := 0x220
/-- 12 R333. -/
def TM_CFG (c : Nat) : Nat := 0x220040 + 0x40 * c
/-- 12 R333. -/
def TM_BAND_ABS (c : Nat) : Nat := 0x220044 + 0x40 * c
/-- 12 R333. -/
def TM_BAND_REL (c : Nat) : Nat := 0x220048 + 0x40 * c
/-- 12 R333. -/
def TM_LIMIT (c : Nat) : Nat := 0x22004C + 0x40 * c
/-- 12 R333. -/
def TM_WC (c : Nat) : Nat := 0x220050 + 0x40 * c
/-- 12 R333. -/
def TM_RS (c : Nat) : Nat := 0x220054 + 0x40 * c
/-- 12 R333. -/
def LOSS_C (c : Nat) : Nat := 0x220058 + 0x40 * c
/-- 12 R333. -/
def LOSS_R (c : Nat) : Nat := 0x22005C + 0x40 * c
/-- 12 R333. -/
def LOSS_F (c : Nat) : Nat := 0x220060 + 0x40 * c
/-- 12 R333. -/
def W_MIN (c : Nat) : Nat := 0x220064 + 0x40 * c
/-- 12 R333. -/
def TM_STAT (c : Nat) : Nat := 0x220068 + 0x40 * c
/-- 12 R333. -/
def TM_T1 (c : Nat) : Nat := 0x22006C + 0x40 * c
/-- 12 R333. -/
def TM_T2 (c : Nat) : Nat := 0x220070 + 0x40 * c
/-- 12 R333. -/
def TM_TSTAR (c : Nat) : Nat := 0x220074 + 0x40 * c
/-- 12 R333. -/
def TM_DEV (c : Nat) : Nat := 0x220078 + 0x40 * c

end Sys2Proof.Machine.Tmon

namespace Sys2Proof.Machine.Can

/-- The page number. -/
def page (m : Nat) : Nat := 0x240 + 0x1 * m
/-- 15 R389. -/
def NBT (m : Nat) : Nat := 0x240040 + 0x1000 * m
/-- 15 R389. -/
def DBT (m : Nat) : Nat := 0x240044 + 0x1000 * m
/-- 15 R389. -/
def TDC (m : Nat) : Nat := 0x240048 + 0x1000 * m
/-- 15 R389. -/
def ECR (m : Nat) : Nat := 0x24004C + 0x1000 * m
/-- 15 R389. -/
def RECOVER (m : Nat) : Nat := 0x240050 + 0x1000 * m
/-- 15 R389. -/
def TG_MAP0 (m : Nat) : Nat := 0x240054 + 0x1000 * m
/-- 15 R389. -/
def TG_MAP1 (m : Nat) : Nat := 0x240058 + 0x1000 * m
/-- 15 R389. -/
def RX_FRAMES (m : Nat) : Nat := 0x240100 + 0x1000 * m
/-- 15 R389. -/
def TX_FRAMES (m : Nat) : Nat := 0x240104 + 0x1000 * m
/-- 15 R389. -/
def ERR_FRAMES (m : Nat) : Nat := 0x240108 + 0x1000 * m
/-- 15 R389. -/
def DROPPED (m : Nat) : Nat := 0x24010C + 0x1000 * m
/-- 15 R389. -/
def OVERFLOWS (m : Nat) : Nat := 0x240110 + 0x1000 * m
/-- 15 R389. -/
def CTRL (m : Nat) : Nat := 0x24000C + 0x1000 * m

end Sys2Proof.Machine.Can

namespace Sys2Proof.Machine.Mac

/-- The page number. -/
def page (m : Nat) : Nat := 0x280 + 0x1 * m
/-- 15 R394. -/
def MAC_LO (m : Nat) : Nat := 0x280040 + 0x1000 * m
/-- 15 R394. -/
def MAC_HI (m : Nat) : Nat := 0x280044 + 0x1000 * m
/-- 15 R394. -/
def MCAST_LO (m : Nat) : Nat := 0x280048 + 0x1000 * m
/-- 15 R394. -/
def MCAST_HI (m : Nat) : Nat := 0x28004C + 0x1000 * m
/-- 15 R394. -/
def RX_FILT0 (m : Nat) (j : Nat) : Nat := 0x280050 + 0x1000 * m + 4 * j
/-- 15 R394. -/
def TG_SLOT (m : Nat) : Nat := 0x280060 + 0x1000 * m
/-- 15 R394. -/
def MDIO_CMD (m : Nat) : Nat := 0x280064 + 0x1000 * m
/-- 15 R394. -/
def MDIO_STAT (m : Nat) : Nat := 0x280068 + 0x1000 * m
/-- 15 R394. -/
def RX_FRAMES (m : Nat) : Nat := 0x280100 + 0x1000 * m
/-- 15 R394. -/
def TX_FRAMES (m : Nat) : Nat := 0x280104 + 0x1000 * m
/-- 15 R394. -/
def RX_BAD (m : Nat) : Nat := 0x280108 + 0x1000 * m
/-- 15 R394. -/
def RX_FILTERED (m : Nat) : Nat := 0x28010C + 0x1000 * m
/-- 15 R394. -/
def RX_OVERFLOW (m : Nat) : Nat := 0x280110 + 0x1000 * m
/-- 15 R394. -/
def CTRL (m : Nat) : Nat := 0x28000C + 0x1000 * m

end Sys2Proof.Machine.Mac

namespace Sys2Proof.Machine.Ptp

/-- The page number. -/
def page : Nat := 0x282
/-- 15 R395. -/
def PTP_NS : Nat := 0x282040
/-- 15 R395. -/
def PTP_S_LO : Nat := 0x282044
/-- 15 R395. -/
def PTP_S_HI : Nat := 0x282048
/-- 15 R395. -/
def PTP_RATE : Nat := 0x28204C
/-- 15 R395. -/
def PTP_STEP_NS : Nat := 0x282050
/-- 15 R395. -/
def PTP_STEP_S : Nat := 0x282054
/-- 15 R395. -/
def PTP_EPOCH_NS : Nat := 0x282058
/-- 15 R395. -/
def PTP_EPOCH_S : Nat := 0x28205C

end Sys2Proof.Machine.Ptp

namespace Sys2Proof.Machine.Pub

/-- The page number. -/
def page : Nat := 0x283
/-- 15 R398. -/
def PUB_CFG (c : Nat) : Nat := 0x283040 + 0x10 * c
/-- 15 R398. -/
def PUB_SRC (c : Nat) : Nat := 0x283044 + 0x10 * c
/-- 15 R398. -/
def PUB_STAT (c : Nat) : Nat := 0x283048 + 0x10 * c
/-- 15 R398. -/
def PUB_CNT (c : Nat) : Nat := 0x28304C + 0x10 * c

end Sys2Proof.Machine.Pub

namespace Sys2Proof.Machine.EthTx

/-- The page number. -/
def page (m i : Nat) : Nat := 0x290 + 0x10 * m + i
/-- 15 R394. -/
def SLOT_CFG (m i : Nat) : Nat := 0x290040 + 0x10000 * m + 0x1000 * i
/-- 15 R394. -/
def SLOT_CMD (m i : Nat) : Nat := 0x290044 + 0x10000 * m + 0x1000 * i
/-- 15 R394. -/
def SLOT_STAT (m i : Nat) : Nat := 0x290048 + 0x10000 * m + 0x1000 * i
/-- 15 R394. -/
def SLOT_LEN (m i : Nat) : Nat := 0x29004C + 0x10000 * m + 0x1000 * i
/-- 15 R394. -/
def SLOT_TAG (m i : Nat) : Nat := 0x290050 + 0x10000 * m + 0x1000 * i
/-- 15 R394. -/
def TS_NS (m i : Nat) : Nat := 0x290054 + 0x10000 * m + 0x1000 * i
/-- 15 R394. -/
def TS_S_LO (m i : Nat) : Nat := 0x290058 + 0x10000 * m + 0x1000 * i
/-- 15 R394. -/
def TS_S_HI (m i : Nat) : Nat := 0x29005C + 0x10000 * m + 0x1000 * i
/-- 15 R394. -/
def FRAME (m i : Nat) (j : Nat) : Nat := 0x290100 + 0x10000 * m + 0x1000 * i + 4 * j

end Sys2Proof.Machine.EthTx

namespace Sys2Proof.Machine.EthRx

/-- The page number. -/
def page (m i : Nat) : Nat := 0x298 + 0x10 * m + i
/-- 15 R394. -/
def SLOT_CMD (m i : Nat) : Nat := 0x298044 + 0x10000 * m + 0x1000 * i
/-- 15 R394. -/
def SLOT_STAT (m i : Nat) : Nat := 0x298048 + 0x10000 * m + 0x1000 * i
/-- 15 R394. -/
def SLOT_LEN (m i : Nat) : Nat := 0x29804C + 0x10000 * m + 0x1000 * i
/-- 15 R394. -/
def SLOT_TAG (m i : Nat) : Nat := 0x298050 + 0x10000 * m + 0x1000 * i
/-- 15 R394. -/
def TS_NS (m i : Nat) : Nat := 0x298054 + 0x10000 * m + 0x1000 * i
/-- 15 R394. -/
def TS_S_LO (m i : Nat) : Nat := 0x298058 + 0x10000 * m + 0x1000 * i
/-- 15 R394. -/
def TS_S_HI (m i : Nat) : Nat := 0x29805C + 0x10000 * m + 0x1000 * i
/-- 15 R394. -/
def FRAME (m i : Nat) (j : Nat) : Nat := 0x298100 + 0x10000 * m + 0x1000 * i + 4 * j

end Sys2Proof.Machine.EthRx

namespace Sys2Proof.Machine.Twin

/-- The page number. -/
def page : Nat := 0x2C0
/-- 14 R376. -/
def CFG : Nat := 0x2C0040
/-- 14 R376. -/
def CMD : Nat := 0x2C0044
/-- 14 R376. -/
def STATE : Nat := 0x2C0048
/-- 14 R376. -/
def PEER : Nat := 0x2C004C
/-- 14 R376. -/
def LINK_DELAY : Nat := 0x2C0050
/-- 14 R376. -/
def MIRROR_LOAD : Nat := 0x2C0054
/-- 14 R376. -/
def TB_SYNC : Nat := 0x2C0058
/-- 14 R376. -/
def SKEW : Nat := 0x2C005C
/-- 14 R376. -/
def TRIP_SHARE0 : Nat := 0x2C0060
/-- 14 R376. -/
def TRIP_SHARE1 : Nat := 0x2C0064

end Sys2Proof.Machine.Twin

namespace Sys2Proof.Machine.TwinTel

/-- The page number. -/
def page : Nat := 0x2C1
/-- 14 R377. -/
def SLOTS_BAD : Nat := 0x2C1040
/-- 14 R377. -/
def RETRIES : Nat := 0x2C1044
/-- 14 R377. -/
def MIRROR_LATE : Nat := 0x2C1048
/-- 14 R377. -/
def MIRROR_AGE_MAX : Nat := 0x2C104C
/-- 14 R377. -/
def TAKEOVERS : Nat := 0x2C1050
/-- 14 R377. -/
def TAKEOVER_NS : Nat := 0x2C1054

end Sys2Proof.Machine.TwinTel

namespace Sys2Proof.Machine.Dma

/-- The page number. -/
def page : Nat := 0x300

end Sys2Proof.Machine.Dma

namespace Sys2Proof.Machine.DmaDesc

/-- The page number. -/
def page (m : Nat) : Nat := 0x301 + 0x1 * m
/-- 16 R414. -/
def D_CTL (m : Nat) (c : Nat) : Nat := 0x301040 + 0x1000 * m + 0x20 * c
/-- 16 R414. -/
def D_SRC (m : Nat) (c : Nat) : Nat := 0x301044 + 0x1000 * m + 0x20 * c
/-- 16 R414. -/
def D_DST (m : Nat) (c : Nat) : Nat := 0x301048 + 0x1000 * m + 0x20 * c
/-- 16 R414. -/
def D_CNT01 (m : Nat) (c : Nat) : Nat := 0x30104C + 0x1000 * m + 0x20 * c
/-- 16 R414. -/
def D_CNT2 (m : Nat) (c : Nat) : Nat := 0x301050 + 0x1000 * m + 0x20 * c
/-- 16 R414. -/
def D_STEP0 (m : Nat) (c : Nat) : Nat := 0x301054 + 0x1000 * m + 0x20 * c
/-- 16 R414. -/
def D_STEP1 (m : Nat) (c : Nat) : Nat := 0x301058 + 0x1000 * m + 0x20 * c
/-- 16 R414. -/
def D_STEP2 (m : Nat) (c : Nat) : Nat := 0x30105C + 0x1000 * m + 0x20 * c

end Sys2Proof.Machine.DmaDesc

namespace Sys2Proof.Machine.DmaCh

/-- The page number. -/
def page : Nat := 0x303
/-- 16 R415. -/
def CH_CFG (c : Nat) : Nat := 0x303040 + 0x20 * c
/-- 16 R415. -/
def CH_CMD (c : Nat) : Nat := 0x303044 + 0x20 * c
/-- 16 R415. -/
def CH_STAT (c : Nat) : Nat := 0x303048 + 0x20 * c
/-- 16 R415. -/
def CH_COUNT (c : Nat) : Nat := 0x30304C + 0x20 * c
/-- 16 R415. -/
def CH_RUNS (c : Nat) : Nat := 0x303050 + 0x20 * c
/-- 16 R415. -/
def CH_MISS (c : Nat) : Nat := 0x303054 + 0x20 * c
/-- 16 R415. -/
def CH_SGEN (c : Nat) : Nat := 0x303058 + 0x20 * c

end Sys2Proof.Machine.DmaCh

namespace Sys2Proof.Machine.Bist

/-- The page number. -/
def page : Nat := 0x320
/-- 17 R430. -/
def BIST_CMD : Nat := 0x320040
/-- 17 R430. -/
def HOST_STAT : Nat := 0x320044
/-- 17 R430. -/
def LAST_FAIL : Nat := 0x320048
/-- 17 R430. -/
def SIG_LO : Nat := 0x32004C
/-- 17 R430. -/
def SIG_HI : Nat := 0x320050
/-- 17 R430. -/
def RETIRED : Nat := 0x320054
/-- 17 R430. -/
def REPAIR_STAT : Nat := 0x320058
/-- 17 R430. -/
def FUSE_CMD : Nat := 0x32005C

end Sys2Proof.Machine.Bist

namespace Sys2Proof.Machine.BistTel

/-- The page number. -/
def page : Nat := 0x321
/-- 17 R431. -/
def SLICES : Nat := 0x321040
/-- 17 R431. -/
def CYCLES : Nat := 0x321044
/-- 17 R431. -/
def MISMATCHES : Nat := 0x321048
/-- 17 R431. -/
def ECC_CORR : Nat := 0x32104C
/-- 17 R431. -/
def ECC_UNCORR : Nat := 0x321050
/-- 17 R431. -/
def ANA_SKIP : Nat := 0x321054

end Sys2Proof.Machine.BistTel

namespace Sys2Proof.Machine.Evrec

/-- The page number. -/
def page : Nat := 0x340
/-- 18 R443. -/
def WR_SEQ : Nat := 0x340040
/-- 18 R443. -/
def RD_SEQ : Nat := 0x340044
/-- 18 R443. -/
def FILL : Nat := 0x340048
/-- 18 R443. -/
def RATE_FAULT : Nat := 0x34004C
/-- 18 R443. -/
def RATE_WARN : Nat := 0x340050
/-- 18 R443. -/
def RATE_INFO : Nat := 0x340054
/-- 18 R443. -/
def STORM_CFG : Nat := 0x340058
/-- 18 R443. -/
def ROUTE0 (j : Nat) : Nat := 0x34005C + 4 * j
/-- 18 R443. -/
def LOSS0 (j : Nat) : Nat := 0x34006C + 4 * j
/-- 18 R443. -/
def CNT_CLR : Nat := 0x34007C
/-- 18 R443. -/
def NV_SEL : Nat := 0x340080
/-- 18 R443. -/
def NV_CNT : Nat := 0x340084
/-- 18 R443. -/
def NV_CLR : Nat := 0x340088
/-- 18 R443. -/
def SRC_USED : Nat := 0x34008C
/-- 18 R443. -/
def NV_E0 (j : Nat) : Nat := 0x3400A0 + 4 * j

end Sys2Proof.Machine.Evrec

namespace Sys2Proof.Machine.Fwim

/-- The page number. -/
def page : Nat := 0x360
/-- 19 R458. -/
def FW_CMD : Nat := 0x360040
/-- 19 R458. -/
def FW_STAT : Nat := 0x360044
/-- 19 R458. -/
def BLK_NUM : Nat := 0x360048
/-- 19 R458. -/
def BLK_CRC : Nat := 0x36004C
/-- 19 R458. -/
def BLK_DONE : Nat := 0x360050
/-- 19 R458. -/
def SLOT0_VER : Nat := 0x360054
/-- 19 R458. -/
def SLOT1_VER : Nat := 0x360058
/-- 19 R458. -/
def ARB_CTR : Nat := 0x36005C
/-- 19 R458. -/
def REFUSED_SRC : Nat := 0x360060
/-- 19 R458. -/
def TRIAL_TIME : Nat := 0x360064
/-- 19 R458. -/
def LAST_FAIL : Nat := 0x360068
/-- 19 R458. -/
def RUN_FMT : Nat := 0x36006C

end Sys2Proof.Machine.Fwim

namespace Sys2Proof.Machine.Sec

/-- The page number. -/
def page : Nat := 0x380
/-- 20 R477. -/
def LC_STATE : Nat := 0x380040
/-- 20 R477. -/
def LC_CMD : Nat := 0x380044
/-- 20 R477. -/
def PWR_CMD : Nat := 0x380048
/-- 20 R477. -/
def PWR_STAT : Nat := 0x38004C
/-- 20 R477. -/
def WAKE_CFG : Nat := 0x380050
/-- 20 R477. -/
def WAKE_STAT : Nat := 0x380054
/-- 20 R477. -/
def PWR_DOM : Nat := 0x380058
/-- 20 R477. -/
def KEY_REVOKE : Nat := 0x38005C

end Sys2Proof.Machine.Sec

namespace Sys2Proof.Machine.SecKey

/-- The page number. -/
def page : Nat := 0x381
/-- 20 R478. -/
def KEY_BUF0 (j : Nat) : Nat := 0x381040 + 4 * j
/-- 20 R478. -/
def KEY_CMD : Nat := 0x381080
/-- 20 R478. -/
def KEY_STAT : Nat := 0x381084
/-- 20 R478. -/
def KEY_FP0 (j : Nat) : Nat := 0x381088 + 4 * j

end Sys2Proof.Machine.SecKey

namespace Sys2Proof.Machine.SecDbg

/-- The page number. -/
def page : Nat := 0x382
/-- 20 R479. -/
def DBG_CMD : Nat := 0x382040
/-- 20 R479. -/
def DBG_STAT : Nat := 0x382044
/-- 20 R479. -/
def DBG_CHAL0 (j : Nat) : Nat := 0x382048 + 4 * j
/-- 20 R479. -/
def DBG_RESP0 (j : Nat) : Nat := 0x382068 + 4 * j
/-- 20 R479. -/
def DBG_HALT : Nat := 0x3820A8
/-- 20 R479. -/
def DBG_HSTAT : Nat := 0x3820AC

end Sys2Proof.Machine.SecDbg

namespace Sys2Proof.Machine.Obj

/-- 15 R383. -/
def OBJ_CFG (c : Nat) : Nat := 0x400000 + 0x80 * c
/-- 15 R383. -/
def OBJ_ID (c : Nat) : Nat := 0x400004 + 0x80 * c
/-- 15 R383. -/
def OBJ_MASK (c : Nat) : Nat := 0x400008 + 0x80 * c
/-- 15 R383. -/
def OBJ_CMD (c : Nat) : Nat := 0x40000C + 0x80 * c
/-- 15 R383. -/
def OBJ_STAT (c : Nat) : Nat := 0x400010 + 0x80 * c
/-- 15 R383. -/
def OBJ_RXID (c : Nat) : Nat := 0x400014 + 0x80 * c
/-- 15 R383. -/
def OBJ_DLC (c : Nat) : Nat := 0x400018 + 0x80 * c
/-- 15 R383. -/
def OBJ_TS (c : Nat) : Nat := 0x40001C + 0x80 * c
/-- 15 R383. -/
def OBJ_DATA0 (c : Nat) (j : Nat) : Nat := 0x400040 + 0x80 * c + 4 * j

end Sys2Proof.Machine.Obj
end

