-- ==== Sys2Proof/Machine/Parts.lean ====
section
/-! DEFINITION. The block's hidden state, one record per part of the device: what the chapters give the machine
beside its registers. Every record's default is its state right after a power-on reset. -/

namespace Sys2Proof.Machine

/-- One event a block has raised and the recorder has not yet taken (R433). -/
structure Event where
  cls : EvClass
  page : Nat
  code : Nat
  obj : Nat
  detail : Word
  at_ : Nat
  tick : Nat
  marker : Bool
  deriving DecidableEq, Repr

/-- The register fabric: lock timers (R42), snapshot bookkeeping (R47-R50), value production times. -/
structure FabState where
  /-- page -> instant of the opening or the last accepted RW/L write (R42) -/
  lockAt : List (Nat × Nat) := []
  /-- page -> instant of the TAKE or automatic take of the copy in progress (R48) -/
  takeAt : List (Nat × Nat) := []
  /-- boundary of the joint copy of both telemetry groups in progress: the instant of its take (R102) -/
  joint : Option Nat := none
  /-- page -> engine tick of the last automatic snapshot or of the write of AUTO (R47) -/
  autoAt : List (Nat × Nat) := []
  /-- page -> production instant of the oldest value in the current snapshot, plus one; none where no value counts (R50) -/
  oldest : List (Nat × Nat) := []
  /-- page * 64 + reader -> the generation last read, plus one (R49) -/
  seen : List (Nat × Nat) := []
  /-- register address -> instant its live value was produced (R50) -/
  stamp : List (Nat × Nat) := []
  deriving DecidableEq, Repr

/-- The host port: what RESULT reports, the last answer on the wire, and the line set (R502, R53, R54). -/
structure HostState where
  resCode : RefCode := .none
  resCount : Nat := 0
  resOffset : Nat := 0
  /-- bytes of the answer to the last frame; empty for none -/
  answer : List Byte := []
  /-- QUAD as it stood at the last chip-select assertion (R502) -/
  quad : Bool := false
  deriving DecidableEq, Repr

/-- One reset the island noted (R71): its `RST_CAUSE` bit and instant. -/
structure ResetNote where
  cause : Nat
  at_ : Nat
  deriving DecidableEq, Repr

/-- Supplies, bring-up and clocks (R59-R79). -/
structure BringState where
  /-- rails below their release threshold since a brown-out: 0 VCORE, 1 VIO, 2 VANA, 3 VAUX18, 4 the island's 1.1 V (R60) -/
  railsLow : List Nat := [0, 1, 2, 3, 4]
  /-- the pads hold the outputs as R59 lists them -/
  padHold : Bool := true
  /-- instant the present bring-up state was entered -/
  since : Nat := 0
  /-- cycles of bring-up before the present state, REF_WAIT left out (R68 BU_TIME) -/
  spent : Nat := 0
  refPresent : Bool := false
  /-- the IRQ pins drive (R65) -/
  irqDrive : Bool := false
  /-- instant of engine tick 0: the entry to SERVICE (R47), or as the twin's tick adopted at an attachment puts it (R358) -/
  tick0 : Int := 0
  /-- number of the last 1 ms epoch that has passed (R110) -/
  epoch : Nat := 0
  /-- a TAP instruction holds bring-up in SUPPLY_CHECK (R466) -/
  tapHold : Bool := false
  /-- the reference in use, taken at each system reset from the held register (R72) -/
  refInUse : Nat := 0
  /-- consecutive failing windows of the root domain's and of the island's watch (R75) -/
  rootFails : Nat := 0
  islFails : Nat := 0
  /-- the watch has reacted and waits for a passing window (R75) -/
  rootReacted : Bool := false
  islReacted : Bool := false
  /-- instants the present windows began; the island's watch pauses between a reset and ISLAND_START (R75) -/
  rootWinAt : Nat := 0
  islWinAt : Nat := 0
  rootWatch : Bool := false
  islWatch : Bool := false
  /-- system resets the island noted and holds for the next SERVICE (R71) -/
  notes : List ResetNote := []
  notesLost : Nat := 0
  /-- instants of the last power-on reset and of the last PAGE_INIT -/
  porAt : Nat := 0
  initAt : Nat := 0
  /-- the fused default of the reference selection (R11, R72): the spec gives no value, DESIGN CHOICE the crystal -/
  fuseRef : Nat := 0
  /-- the island notes resets: from ISLAND_START after a power-on or island reset (R71) -/
  islNotes : Bool := false
  deriving DecidableEq, Repr

/-- The value of one source number (R80, R117): what a selector reads. -/
structure SrcVal where
  value : Word := 0
  valid : Bool := false
  /-- deliveries so far, to tell a fresh value from an old one (R129) -/
  count : Nat := 0
  /-- sample instant, trigger sequence number and collision mark of a measured value (R83) -/
  at_ : Nat := 0
  seq : Nat := 0
  handed : Bool := false
  /-- instant the value was delivered, and the value before it, which a profile source shows until the cycle after (R193) -/
  deliv : Nat := 0
  old : Word := 0
  deriving DecidableEq, Repr

/-- The value last written to a destination number (field control and profile inputs, R164, R192). -/
structure InVal where
  value : Word := 0
  written : Bool := false
  at_ : Nat := 0
  deriving DecidableEq, Repr

/-- One corrected sample of a channel (R92, R95). -/
structure Smp where
  seq : Nat
  at_ : Nat
  value : Word
  valid : Bool
  /-- a sample of a calibrating chain (R91) -/
  cal : Bool := false
  deriving DecidableEq, Repr

/-- One channel's conversion at a trigger, not yet released (R82, R85): what was in force at the trigger. -/
structure ConvTag where
  /-- 28 * chain + channel -/
  chan : Nat
  seq : Nat
  at_ : Nat
  ofs : Word
  gain : Word
  /-- the chain was calibrating (R91) -/
  cal : Bool := false
  /-- the stored calibration factors of a SAR converter, once a calibration has completed (R90) -/
  factors : Option (Word × Word) := none
  /-- decimation N of a sigma-delta channel (R85) -/
  n : Nat := 0
  /-- instant the conversion ends: 200 ns, or the filter delay D, after the trigger -/
  due : Nat := 0
  deriving DecidableEq, Repr

/-- One conversion result that waits for correction and the Crosswind stage (R14). -/
structure ReadyItem where
  seq : Nat
  at_ : Nat
  /-- instant the conversion ended -/
  doneAt : Nat
  /-- each channel's conversion and its code -/
  codes : List (ConvTag × Int)
  deriving DecidableEq, Repr

/-- A gain write that waits for the next trigger (R93). -/
structure GainPend where
  chan : Nat
  ofs : Word
  gain : Word
  at_ : Nat
  /-- the offset was pending at the write -/
  pend : Bool := false
  deriving DecidableEq, Repr

/-- A sample of a set after the boundary of the telemetry copy in progress: the new window's (R100). -/
structure LateSample where
  /-- 28 * chain + channel -/
  chan : Nat
  value : Word
  valid : Bool
  at_ : Nat
  deriving DecidableEq, Repr

/-- Hidden state of a channel (28 * chain + channel). -/
structure ChanState where
  /-- consecutive samples outside the open-wire limit, and inside it while OPEN_WIRE is set (R89) -/
  owOut : Nat := 0
  owIn : Nat := 0
  /-- settling since this instant; `exact` where the reference came back (R87, R88) -/
  settle : Option Nat := none
  settleExact : Bool := false
  /-- an offset written that no gain write has taken up (R93) -/
  ofsNew : Bool := false
  deriving DecidableEq, Repr

/-- Hidden state of a Crosswind pair: samples that wait for the other side (R96). -/
structure PairState where
  waitA : List Smp := []
  waitB : List Smp := []
  /-- sequence number of the last comparison and its verdict (R148) -/
  cmpSeq : Option Nat := none
  disagreed : Bool := false
  deriving DecidableEq, Repr

/-- The measurement chains (R80-R108). -/
structure MeasState where
  /-- instant of the last trigger that started conversions; none before the first -/
  lastTrig : Option Nat := none
  /-- the SAR conversions of that trigger are under way -/
  converting : Bool := false
  /-- the present set was handed on by a collision (R83) -/
  handed : Bool := false
  /-- the SAR and sigma-delta conversions under way (R81, R85) -/
  sarTags : List ConvTag := []
  sdTags : List ConvTag := []
  ready : List ReadyItem := []
  gains : List GainPend := []
  chans : List (Nat × ChanState) := []
  pairs : List (Nat × PairState) := []
  /-- instants of the last calibration starts of chains A and B (R90) -/
  calAt : List (Nat × Nat) := []
  /-- samples that wait for a telemetry copy in progress (R100) -/
  late : List LateSample := []
  /-- chains whose calibration factors are stored (R90) -/
  factored : List Nat := []
  /-- calibrations completed so far, to name the factors -/
  calRuns : Nat := 0
  /-- REFA, REFB found outside their range by the last Breeze round (R88) -/
  refBad : List Nat := []
  deriving DecidableEq, Repr

/-- Hidden state of a timebase (R210-R218). Instants are CLK_CLE cycles. -/
structure TbHid where
  /-- instant of carrier position 0 of the present period; later than the boundary by a shift (R216) -/
  base : Int := 0
  /-- instant of the last update event -/
  lastUpd : Int := 0
  updCount : Nat := 0
  /-- number of the update event whose trigger has fired (R217) -/
  trigIdx : Nat := 0
  /-- triggers fired so far (R146) -/
  fired : Nat := 0
  /-- cycle in which the present timing took hold (R217) -/
  timingAt : Int := 0
  /-- pending shift of TB_SHIFT (R216) -/
  shiftN : Nat := 0
  /-- cycle of the last late write that LATE counted: the writes of one cycle count once (R236) -/
  lateAt : Option Nat := none
  deriving DecidableEq, Repr

/-- Hidden state of a leg, or of a single-switch channel of groups 4-5 (R222-R225). -/
structure LegHid where
  /-- an update event has given the leg its values since the group or timebase began -/
  live : Bool := false
  /-- state control asks for -/
  ctl : Nat := 0
  /-- state the leg takes after precedence, before dead time; none while what is asked of it is no leg state (R224) -/
  phys : Option Nat := none
  /-- target of a P-N passage and the instant it began, in 1/8 cycle (R224) -/
  npTo : Option Nat := none
  npAt8 : Int := 0
  /-- last compare edge, in 1/8 cycle -/
  mark8 : Int := 0
  /-- active compare value in 1/8 cycle, and the states below and above it (R222); `none` before the first reload -/
  c8 : Option Nat := none
  stX : Nat := 0
  stY : Nat := 0
  /-- a pulse is being dropped until this instant, in 1/8 cycle (R225) -/
  skip8 : Option Int := none
  /-- last edge of a test vector, in 1/8 cycle (R178) -/
  ipd8 : Int := 0
  /-- instant state 1 of a LEG-mode leg began, and the refresh that waits or holds (R259) -/
  oneAt : Option Nat := none
  refresh : Bool := false
  deriving DecidableEq, Repr

/-- Hidden state of a compare channel. -/
structure ChHid where
  /-- governing authority in the code of CH_STAT.RANK, and its order within rank 3a (R28, R288) -/
  gov : Nat := 0
  ord : Nat := 0
  /-- the level that authority has asked for; it stands until the authority's release takes effect (R30) -/
  asks : Bool := false
  /-- instant of the last turn-off in 1/8 cycle; none while it has never been on -/
  offAt8 : Option Int := none
  /-- dead time, in 1/8 cycle, of the turn-on that waits -/
  pendDt8 : Nat := 0
  /-- control holds off until values later than this instant become active (R30) -/
  holdOff : Option Nat := none
  deriving DecidableEq, Repr

/-- Who asks for a forced state. -/
inductive ForceTag where
  /-- protection: discharge (group), chopper, escalation, chopper fault, DESAT away, bootstrap, thermal shutdown, cold block (R288) -/
  | discharge | chopper | chopFault | escalation | desatAway | bootstrap | thermal | cold
  /-- the safety island and the torque monitor, rank 3b -/
  | island
  /-- field control and Lull, rank 3c -/
  | machine
  deriving DecidableEq, Repr

/-- One forced state of rank 3a (code 3), 3b (4) or 3c (5): the channels it wants on and off (R28, R29). -/
structure Force where
  rank : Nat
  order : Nat
  tag : ForceTag
  id : Nat
  on : List Nat
  off : List Nat
  /-- its changes act at their own instants: the test vectors of an initial position detection (R178) -/
  live : Bool := false
  deriving DecidableEq, Repr

/-- A level change of a channel on its way to the pins and links: its computed instant in 1/8 cycle (R17), the cycle
in which it became fixed (R242), whether it bypasses the transport lead (R20), and whether a frame has carried it. -/
structure Edge where
  chan : Nat
  on : Bool
  at8 : Int
  fixedAt : Nat := 0
  direct : Bool := false
  sent : Bool := false
  deriving DecidableEq, Repr

/-- A shadow write staged in the window of a reload (R213). -/
structure Staged where
  tb : Nat
  addr : Nat
  val : Word
  /-- landing instant (R30) -/
  at_ : Nat
  deriving DecidableEq, Repr

/-- Hidden state of a TRIP pin (R228). -/
structure TripHid where
  pin : Bool := true
  /-- changes of the synchronised level since the one the filter took last, oldest first: instant and level -/
  line : List (Nat × Bool) := []
  filt : Bool := true
  deriving DecidableEq, Repr

/-- The PWM modulators (R210-R236). -/
structure PwmState where
  tbs : List (Nat × TbHid) := []
  /-- leg key 4 * group + leg -/
  legs : List (Nat × LegHid) := []
  chs : List (Nat × ChHid) := []
  forces : List Force := []
  staged : List Staged := []
  /-- reference register address -> landing instant of the value in the shadow, and of the active value (R30) -/
  shStamp : List (Nat × Nat) := []
  actStamp : List (Nat × Nat) := []
  /-- level changes not yet executed at their pin or driver -/
  edges : List Edge := []
  trips : List (Nat × TripHid) := []
  deriving DecidableEq, Repr

/-- What the device gathers during a training (R247). -/
structure TrainRec where
  /-- instant of the first TRAIN frame -/
  at_ : Nat
  clear : Bool
  /-- started by an automatic retry of source 46 (R276) -/
  retry : Bool := false
  /-- good answers so far, and the round trips of INDEX 16-63 in 1/8 cycle -/
  good : Nat := 0
  early : Bool := false
  rts : List Nat := []
  badUp : Bool := false
  badIndex : Bool := false
  badVersion : Bool := false
  /-- LATCHED in the first NORMAL uplink after INDEX 63 -/
  after : Option Bool := none
  deriving DecidableEq, Repr

/-- What a grid frame asks the driver for: its SEQ, its CMD, the INDEX of a TRAIN frame, and whether it is a DRIVE frame (R240). -/
structure Asked where
  seq : Nat
  cmd : Nat
  idx : Option Nat := none
  drive : Bool := false
  deriving DecidableEq, Repr

/-- A gate position on the device side (R237-R256). -/
structure GlHid where
  /-- SEQ of the last grid frame, and what the last eight frames asked for, newest first -/
  seq : Nat := 7
  asked : List Asked := []
  /-- the last downlink frame and its start -/
  frame : Nat := 0
  frameAt : Nat := 0
  /-- grid frames resume at this instant after an ALL_OFF frame (R238) -/
  resume : Nat := 0
  train : Option TrainRec := none
  /-- consecutive bad or missing uplinks, and the instant of the last good one (R253, R262) -/
  bad : Nat := 0
  goodAt : Option Nat := none
  /-- whether the direct pin carries the channel: (instant of a change, new value), oldest first (R254) -/
  carryLog : List (Nat × Bool) := []
  deriving DecidableEq, Repr

/-- The gate links, device side. -/
structure GlState where
  pos : List (Nat × GlHid) := []
  /-- the last grid instant with frames, and the quantity of MEAS_ROT it carried; none before the first -/
  gridAt : Option Nat := none
  quant : Option Nat := none
  /-- filtered BSUV levels that are active (R260) -/
  bsuv : List Nat := []
  /-- edges already carried by a frame before their own instant: (channel, 1/8 cycle) (R242) -/
  ahead : List (Nat × Int) := []
  deriving DecidableEq, Repr

/-- The states of a driver's port (R249). -/
inductive DrvPhase where
  | untrained | training | armed | holdover | pin | latched
  deriving DecidableEq, Repr

/-- One port of a driver. -/
structure DrvPort where
  phase : DrvPhase := .untrained
  /-- state before the training under way -/
  before : DrvPhase := .untrained
  /-- next TRAIN INDEX expected, and what the sequence carries -/
  next : Nat := 0
  clear : Bool := false
  hold : Nat := 0
  fbArm : Bool := false
  /-- SEQ of the last good downlink frame; none since power-up -/
  seq : Option Nat := none
  /-- consecutive bad or missing frames, and link loss (R250) -/
  bad : Nat := 0
  lost : Bool := true
  /-- the last good DRIVE or STANDBY frame was a STANDBY -/
  standby : Bool := true
  /-- the last uplink frame: its start, and the frame as it stands; none before the first grid frame (R244, R245) -/
  upAt : Option Nat := none
  uplink : Nat := 0
  /-- it answers a TRAIN frame, its MEAS word, and its LINK_ERR -/
  upTrain : Bool := false
  upMeas : Nat := 0
  upErr : Bool := false
  /-- MEAS selection of the last good frame -/
  cmd : Nat := 0
  deriving DecidableEq, Repr

/-- The instants at which a driver detected what it reports now (R252). -/
structure DrvSeen where
  desat : Nat := 0
  uvPos : Nat := 0
  uvNeg : Nat := 0
  ot : Nat := 0
  deriving DecidableEq, Repr

/-- A driver of the Plynmin Gate Link (R249-R257). -/
structure Driver where
  port0 : DrvPort := {}
  port1 : DrvPort := {}
  owner : Option Nat := none
  lastOwner : Nat := 0
  level : Bool := false
  /-- edges received and not yet executed, in 1/8 cycle -/
  edges : List (Int × Bool) := []
  desat : Bool := false
  /-- desaturation present now, as against since the driver last left LATCHED -/
  desatNow : Bool := false
  uvPos : Bool := false
  uvNeg : Bool := false
  ot : Bool := false
  seen : DrvSeen := {}
  /-- a soft turn-off is in progress until this instant (R244) -/
  softTill : Nat := 0
  /-- an ALL_OFF frame turns the gate off at this instant, softly or not (R251) -/
  offAt : Option (Nat × Bool) := none
  holdAt : Nat := 0
  /-- in PIN, an ALL_OFF at this instant holds the gate off until the pin's next rising edge (R251) -/
  pinHeld : Option Nat := none
  /-- fall-back waits since this instant for the pin to equal the driven level (R255) -/
  pinWait : Option Nat := none
  deriving DecidableEq, Repr

/-- A set latch of the Squall path: its source, instant, originating objects and the channels OWN names (R265, R269). -/
structure Latch where
  src : Nat
  at_ : Nat
  objs : List Nat
  chans : List Nat
  deriving DecidableEq, Repr

/-- Power-stage protection (R265-R294). -/
structure ProtState where
  /-- the set latches, in the order they set -/
  lats : List Latch := []
  /-- automatic clears: (source, instant) (R276) -/
  tries : List (Nat × Nat) := []
  /-- latches that do not clear automatically: past MAX, or a retry training failed (R276) -/
  noRetry : List Nat := []
  /-- positions the retry of source 46 is training -/
  retrain : List Nat := []
  /-- desaturation reports: (group, leg, instant) (R273) -/
  desats : List (Nat × Nat × Nat) := []
  /-- chopper response window: start, DC-link value then, response seen (R281) -/
  chopAt : Option Nat := none
  chopVal : Word := 0
  chopSeen : Bool := false
  /-- the window has ended without a comparator response and waits for the next sample set -/
  chopJudge : Bool := false
  /-- filtered CHFLT pins that are active -/
  chflt : List Nat := []
  /-- escalation step 1 (R282) -/
  escAt : Option Nat := none
  /-- start of the discharge (R285) -/
  disAt : Nat := 0
  /-- cycles with the chopper forced on in this telemetry window, and since when it is on (R293) -/
  chopOn : Nat := 0
  chopSince : Option Nat := none
  /-- side of the active short circuit per machine: 0 lower, 1 upper; alternation stopped (R284) -/
  ascSide : List (Nat × Nat) := []
  ascStop : List Nat := []
  deriving DecidableEq, Repr

/-! ### The control law engine -/

/-- What a run works out at its dispatch and puts in place at its commit (R112, R123). -/
structure RunRes where
  out' : Word := 0
  outD : Word := 0
  setpt : Word := 0
  setptD : Word := 0
  /-- ISTATE0-ISTATE7 -/
  ist : List Word := []
  /-- the reference set for the compare group -/
  ga : Word := 0
  gb : Word := 0
  gc : Word := 0
  /-- raw output before the clamp (R115) -/
  uraw : Word := 0
  /-- the feedback of R130 -/
  fb : Word := 0
  /-- both axes stand at their targets (R125) -/
  done : Bool := false
  /-- the machine whose M_LIM reduced the voltage (R174) -/
  limited : Bool := false
  deriving DecidableEq, Repr

/-- A run of a context, from its release to its commit or its end without one. -/
structure Run where
  relAt : Nat
  fast : Bool
  /-- target reload and commit deadline (R110); for a PERIODIC run the deadline is its next release -/
  target : Int := 0
  deadline : Int
  /-- number of the timebase's trigger that released it -/
  trig : Nat := 0
  /-- sample instant of the set it consumes; none where its trigger fired no common trigger -/
  smpAt : Option Nat := none
  /-- the set was handed on by a collision (R83) -/
  handed : Bool := false
  /-- selectors whose value of that set has been delivered -/
  got : List (Nat × SrcVal) := []
  readyAt : Option Nat := none
  /-- the run counts as a hit or a squash (R142); the cause that arose so far, and when -/
  counted : Bool := false
  cause : Nat := 0
  causeAt : Nat := 0
  /-- dispatched: lane, end of the band check, end of the commit stage, state then -/
  started : Bool := false
  lane : Nat := 0
  bandAt : Nat := 0
  doneAt : Nat := 0
  st : Nat := 0
  /-- LAW and DEST of the record as dispatched (R112) -/
  law : Nat := 0
  dest : Nat := 0
  hit : Bool := false
  res : RunRes := {}
  /-- the full computation, for a hit that is squashed during its band check (R153) -/
  full : RunRes := {}
  deriving DecidableEq, Repr

/-- A freeze window (R130): the feedback of its runs so far, oldest first, and the least and greatest OUT. -/
structure FreezeWin where
  fbs : List Word := []
  lo : Word := 0
  hi : Word := 0
  deriving DecidableEq, Repr

/-- The speculative buffer (R146). -/
structure SpecBuf where
  yhat : List Word
  outQ : Word
  outD : Word
  sens : List Word
  setQ : Word
  setD : Word
  /-- the trigger expected, as the number of the timebase's trigger: the one that takes the next TRIG_SEQ for TB; and the target reload -/
  trig : Nat
  target : Int
  /-- a parity error stands in the buffer (R148) -/
  bad : Bool := false
  deriving DecidableEq, Repr

/-- A precompute under way (R143). -/
structure PreRun where
  /-- segments and cycles that remain -/
  segs : Nat
  cycles : Nat
  /-- a segment is on a lane -/
  onLane : Bool := false
  /-- the set-points as they stood at the start of the first segment -/
  sets : Option (Word × Word) := none
  deriving DecidableEq, Repr

/-- Hidden state of a context. -/
structure CtxHid where
  run : Option Run := none
  /-- FAST: instant of the last trigger or of the last miss for want of one (R129) -/
  trigAt : Nat := 0
  /-- PERIODIC: engine tick of the last release, and of the ENABLE -/
  relTick : Option Nat := none
  enTick : Nat := 0
  /-- the release whose run last committed (R134) -/
  ranTick : Option Nat := none
  /-- release of the first run that committed since the CLOSE (R180) -/
  closedAt : Option Nat := none
  /-- state before HELD -/
  before : Nat := 3
  /-- the first run after an accepted CLOSE is still to come (R125) -/
  first : Bool := false
  /-- deliveries of each selector's source at the previous run, and the sample instant it consumed (R129) -/
  seen : List (Nat × Nat) := []
  lastSmp : Option Nat := none
  /-- last valid values of SP_Q (6) and SP_D (7), and those lost (R127) -/
  spLast : List (Nat × Word) := []
  spLost : List Nat := []
  frz : FreezeWin := {}
  /-- the selectors' values of the last two sample sets, newest first (R144) -/
  y1 : List Word := []
  y2 : List Word := []
  /-- M_LIM reduced the voltage of the last run (R174) -/
  limited : Bool := false
  /-- raw output of the last computed run (R115) -/
  uraw : Word := 0
  /-- target reload and trigger number of the last run -/
  lastTarget : Int := 0
  lastTrig : Nat := 0
  spec : Option SpecBuf := none
  pre : Option PreRun := none
  /-- precomputes started so far: names the one a lane works on -/
  preGen : Nat := 0
  /-- the next run is the first after a takeover (R153) -/
  takeover : Bool := false
  /-- runs that have committed (R356) -/
  runs : Nat := 0
  deriving DecidableEq, Repr

/-- A lane at work: a run (`gen` none) or a segment of a precompute. -/
structure Lane where
  ctx : Nat
  gen : Option Nat := none
  last : Bool := false
  till : Nat
  deriving DecidableEq, Repr

/-- Hidden state of a Headwind group (R133-R135). -/
structure HwHid where
  /-- engine tick of the release last evaluated -/
  evalTick : Option Nat := none
  /-- RESUME accepted; competition resumes at the next release -/
  resume : Bool := false
  deriving DecidableEq, Repr

/-- The control law engine (R109-R159). -/
structure CleState where
  /-- the active profile (R26) -/
  profile : Nat := 2
  /-- lane -> what it works on; a lane that is free is not listed -/
  lanes : List (Nat × Lane) := []
  /-- lane -> busy cycles in the telemetry window -/
  busy : List (Nat × Nat) := []
  /-- the lane out for a BIST slice, since when, and cycles so spent in the window (R113) -/
  bistLane : Option Nat := none
  bistAt : Nat := 0
  bistCycles : Nat := 0
  ctxs : List (Nat × CtxHid) := []
  hws : List (Nat × HwHid) := []
  /-- compare group -> OUT and OUT_D of the run that last committed to it (R125) -/
  grpOut : List (Nat × (Word × Word)) := []
  deriving DecidableEq, Repr

/-! ### Field control -/

/-- Hidden state of a machine (R162-R187). -/
structure MachHid where
  /-- the last trigger of its timebase, and whether its update is still to come (R162) -/
  trigAt : Nat := 0
  trigNew : Bool := false
  /-- instant of its last update -/
  updAt : Nat := 0
  /-- PLL angle and speed, observed flux, rotor flux of the current model (R170), slip, and the angle predicted for the last sample -/
  theta : Word := 0
  omega : Word := 0
  psiA : Word := 0
  psiB : Word := 0
  psiRa : Word := 0
  psiRb : Word := 0
  slip : Word := 0
  thPred : Word := 0
  /-- source values that the next trigger delivers, in the order of R163 -/
  outs : List Word := []
  /-- T*, rate-limited SPEED_REF, POS_M, last residual -/
  tq : Word := 0
  spd : Word := 0
  pos : Word := 0
  resid : Word := 0
  /-- speeds of the last eight updates, newest first; consecutive residuals above LOS_RES (R184) -/
  hist : List Word := []
  los : Nat := 0
  /-- instant of the last recatch, and a recatch that waits for the update event -/
  recatchAt : Option Nat := none
  recatch : Bool := false
  /-- instants of the last change of state, the START, and the last write that cleared or could clear TQ_STALE -/
  since : Nat := 0
  startAt : Nat := 0
  /-- MODE and DIR_HINT of the START -/
  mode : Nat := 0
  hint : Bool := false
  /-- the current contexts are to be closed once no run of theirs is outstanding, and the stop state released at the next update event; or
  opened at the next update event; closed by field control (R176) -/
  closePend : Bool := false
  relPend : Bool := false
  openPend : Bool := false
  closed : Bool := false
  /-- target reload of the last run counted in LIMITED_CNT (R174) -/
  limAt : Option Int := none
  /-- currents of the test pulses so far, and the trigger that ends the next (R178) -/
  ipd : List Word := []
  pulse : Option Nat := none
  /-- first trigger of the catch window, and its back-EMF samples, oldest first: instant, alpha, beta (R181) -/
  emfAt : Option Nat := none
  emf : List (Nat × Word × Word) := []
  /-- search frequency and the last P (R183) -/
  freq : Word := 0
  power : Option Word := none
  /-- the short circuit's last change of side, and one that waits for the update event (R185) -/
  ascAt : Nat := 0
  ascDue : Bool := false
  deriving DecidableEq, Repr

/-! ### Reference profiles -/

/-- Hidden state of a profile channel (R191-R205). -/
structure ProfHid where
  pos : Word64 := 0
  v : Word := 0
  /-- direction of travel: -1, 0 or 1; ramping down to turn round, and the turnaround tick (R195) -/
  dir : Int := 0
  rev : Bool := false
  turn : Bool := false
  /-- targets latched by the last MOVE -/
  tgt : Word64 := 0
  tgtV : Word := 0
  /-- engine tick of the last tick -/
  tickAt : Nat := 0
  /-- a set that waits for a boundary, and one that governs from the next tick (R199) -/
  waitSet : Option (List Word) := none
  nextSet : Option (List Word) := none
  /-- instant the Lull dwell began (R203) -/
  dwellAt : Option Nat := none
  /-- the state in which the channel put its machine -/
  lullState : Nat := 1
  /-- STOP has dropped the move of a WAKE -/
  dropped : Bool := false
  deriving DecidableEq, Repr

/-! ### DMA -/

/-- The access of a channel that has no answer yet (R406-R409): the TAKE, the wait for READY, the first SNAP_GEN read, a source
read, the second SNAP_GEN read, a destination write, the fence. -/
inductive DmaPhase where
  | take | ready | genBefore | read | genAfter | write | fence
  deriving DecidableEq, Repr

/-- A run of a DMA channel. -/
structure DmaRun where
  slot : Nat
  phase : DmaPhase := .read
  /-- the eight words of the descriptor as loaded -/
  desc : List Word := []
  /-- source elements read and destination elements written so far (R406) -/
  reads : Nat := 0
  writes : Nat := 0
  /-- bytes read and not yet written, oldest first -/
  hold : List Nat := []
  /-- snapshot transfer: words read, first GEN, repetitions so far, the record to write, its GEN -/
  buf : List Word := []
  gen : Nat := 0
  tries : Nat := 0
  out' : List Word := []
  /-- destination elements applied -/
  count : Nat := 0
  /-- elements that wait to land together: address, width, words (R112, R213) -/
  batch : List (Int × Nat × List Word) := []
  strict : Bool := false
  abort : Bool := false
  /-- a write to another block region was refused, and its answer comes after completion (R410) -/
  posted : Bool := false
  /-- instant the outstanding access was issued (R411) -/
  at_ : Nat := 0
  /-- the outstanding access has gone to the follower; its answer: refusal code and words (R372) -/
  asked : Bool := false
  answer : Option (Nat × List Word) := none
  deriving DecidableEq, Repr

/-! ### The safety island -/

/-- Hidden state of an inverter group of the island (R299-R318). -/
structure SafeGrp where
  /-- start of SS1 and |ω| then; the brake was released then -/
  ss1At : Nat := 0
  w0 : Word := 0
  brkKeep : Bool := false
  /-- the group follows its torque monitor's reaction in lock-out (R318) -/
  viaTm : Bool := false
  /-- the next release must be manual (R300) -/
  manual : Bool := false
  /-- a release waits for the end of the cycle -/
  relReq : Bool := false
  /-- STO outputs go off at this instant (R306) -/
  stoDue : Option Nat := none
  /-- last entry to STOPPED (R326) -/
  stoppedAt : Nat := 0
  /-- ASC_HELD: entry, and whether the short circuit is confirmed -/
  ascAt : Nat := 0
  ascOk : Bool := false
  /-- UNKNOWN since; last known speed; angles of the last cycle; up to eight angle changes (R302) -/
  unk : Option Nat := none
  speed : Word := 0
  angI : Option Word := none
  angV : Option Word := none
  deltas : List Word := []
  /-- consecutive cycles above SPD_TOL (R303) -/
  div : Nat := 0
  /-- SLS: limit demanded, instant of the demand and |ω| then -/
  slsLim : Option Word := none
  slsAt : Nat := 0
  slsW0 : Word := 0
  /-- SDI: demanded directions and travel (negative forbidden, positive forbidden) -/
  sdiNeg : Option Word := none
  sdiPos : Option Word := none
  /-- torque monitor: flux estimate and the last ten values of T1, T2 and T* (R317) -/
  psiA : Word := 0
  psiB : Word := 0
  t1s : List Word := []
  t2s : List (Option Word) := []
  tss : List Word := []
  deriving DecidableEq, Repr

/-- One channel of a safe input (R309, R310). -/
structure SafeChan where
  raw : Bool := false
  filt : Bool := false
  count : Nat := 0
  /-- level before the present test pulse -/
  pre : Bool := false
  deriving DecidableEq, Repr

/-- A safe input (R309-R312). -/
structure SafeIn where
  a : SafeChan := {}
  b : SafeChan := {}
  active : Bool := false
  disAt : Option Nat := none
  disFault : Bool := false
  /-- failures of the test-pulse check in this period and in the last, and the detected fault (R310) -/
  badNow : Bool := false
  badLast : Bool := false
  tpFault : Bool := false
  /-- start of the present press or activity; opened since, and by which channels; last opening (R311, R312) -/
  actAt : Option Nat := none
  opened : Bool := false
  seenA : Bool := false
  seenB : Bool := false
  openAt : Nat := 0
  deriving DecidableEq, Repr

/-- One accepted copy of a telegram (R315). -/
structure TgCopy where
  seq : Nat
  time : Nat
  data : List Word
  copy : Nat
  at_ : Nat
  deriving DecidableEq, Repr

/-- A telegram connection (R313-R316). -/
structure TgConn where
  /-- the last agreed pair, pairs that take effect at the end of the cycle, and single copies that wait -/
  agreed : Option TgCopy := none
  next : List TgCopy := []
  held : List TgCopy := []
  /-- instant of the last agreed pair, or of the connection's start -/
  agreedAt : Nat := 0
  lost : Bool := false
  /-- sending: SEQ, instant of the last telegram, and its bytes with COPY 0 -/
  txSeq : Nat := 0
  txAt : Nat := 0
  txBytes : List Byte := []
  deriving DecidableEq, Repr

/-- The safety island's hidden state. -/
structure IslandState where
  /-- the island is restarting: the lock-out causes it will latch at the end of its self-test, bit c for cause c (R63), and since
  when -/
  restart : Option Nat := none
  restartAt : Nat := 0
  /-- the island runs its cycles; instant of the last (R297) -/
  run : Bool := false
  cycleAt : Nat := 0
  /-- STO0A/B and STO1A/B off (R28, R59) -/
  stoOff0 : Bool := true
  stoOff1 : Bool := true
  /-- BRKA/B low: brake applied -/
  brake : Bool := true
  /-- outputs whose read-back differed in the last cycle: bits 0-5 STO0A, STO0B, STO1A, STO1B, BRKA, BRKB -/
  outBad : Word := 0
  grps : List (Nat × SafeGrp) := []
  ins : List (Nat × SafeIn) := []
  tgs : List (Nat × TgConn) := []
  /-- test pulse: the next output, the start of the present period, the output low now and until when -/
  tpNext : Nat := 0
  tpPeriod : Nat := 0
  tpOut : Nat := 0
  tpTill : Nat := 0
  /-- LO_KEY accepted at (R321) -/
  keyAt : Option Nat := none
  /-- the last self-test, and the last check of the stored parameter set, failed -/
  selfBad : Bool := false
  paramBad : Bool := false
  cbBad : Bool := false
  /-- the password: salt and hash, failures in a row, block until (R323) -/
  pwSalt : List Byte := []
  pwHash : Option (List Byte) := none
  pwFails : Nat := 0
  pwBlock : Option Nat := none
  /-- the open session: USER, and the instant of its opening or last accepted write -/
  session : Option Nat := none
  sessAt : Nat := 0
  /-- a parameter set has been committed; a commit under way: its instant (R324) -/
  setExists : Bool := false
  commitAt : Option Nat := none
  /-- the set the commit under way writes, CB_CRC captured, and the USER of the session -/
  commitSet : List (Nat × Word) := []
  commitCb : Word := 0
  commitUser : Nat := 0
  /-- the change log, newest first, and the entries written so far (R325) -/
  log : List (List Word) := []
  logSeq : Nat := 0
  /-- operating seconds before instant 0 -/
  opBase : Nat := 0
  deriving DecidableEq, Repr

/-! ### Thermal management -/

/-- Hidden state of a housekeeping channel: rounds with an invalid value, and with HIGH_TRIP set, in a row (R338, R340). -/
structure HkHid where
  bad : Nat := 0
  trips : Nat := 0
  deriving DecidableEq, Repr

/-- The thermal manager (R335-R348). -/
structure ThermState where
  /-- the Breeze round runs; the slot under way (96 is the closing slot) and its start -/
  run : Bool := false
  slot : Nat := 0
  slotAt : Nat := 0
  /-- the round is halted (R339) -/
  halted : Bool := false
  chans : List (Nat × HkHid) := []
  /-- references found outside their range in this round: 1 REFA, 2 REFB (R88) -/
  refBad : List Nat := []
  /-- grace timers that run: machine, instant of expiry (R342) -/
  grace : List (Nat × Nat) := []
  /-- thermal shutdowns since the first power-up (R346) -/
  sdSeq : Nat := 0
  deriving DecidableEq, Repr

/-! ### Message buses -/

/-- A frame on a CAN bus. -/
structure CanFrame where
  id : Nat
  xtd : Bool
  rtr : Bool
  fdf : Bool
  brs : Bool
  esi : Bool
  dlc : Nat
  data : List Nat
  deriving DecidableEq, Repr

/-- Hidden state of a CAN channel (R378-R389). -/
structure CanHid where
  /-- the object whose attempt is on the bus, and an ABORT that lets that attempt finish (R386) -/
  onBus : Option Nat := none
  abort : Bool := false
  /-- RECOVER accepted since bus-off began (R381) -/
  recover : Bool := false
  /-- instant EN was last cleared: the last bit sampled (R389) -/
  lastBit : Nat := 0
  /-- failed and good attempts of the present transmission of each object; next entry of each queue, counted from its head -/
  tries : List (Nat × Nat) := []
  next : List (Nat × Nat) := []
  /-- the last frame sent without error -/
  sent : Option CanFrame := none
  deriving DecidableEq, Repr

/-- Hidden state of a MAC (R390-R394). -/
structure MacHid where
  /-- the management transfer under way is a read -/
  mdioRead : Bool := false
  /-- next receive slot in ring order -/
  rxNext : Nat := 0
  /-- instant EN was last cleared: the last bit sampled (R389, R394) -/
  lastBit : Nat := 0
  /-- the last frame sent, from the destination address to the FCS (R390, R392) -/
  sent : List Nat := []
  deriving DecidableEq, Repr

/-- Hidden state of a publication entry (R397, R398). -/
structure PubHid where
  /-- instant of the enable or of the last expiry -/
  since : Nat := 0
  /-- waits for READY of the snapshot it took -/
  waiting : Bool := false
  /-- a record has been sent -/
  sent : Bool := false
  /-- times the GEN read before and after the words differed at the last expiry -/
  moved : Nat := 0
  deriving DecidableEq, Repr

/-- The PTP clock (R393): 2^-24 ns units, as it stood at CLK_ETH cycle `cyc`. -/
structure PtpHid where
  base : Nat := 0
  cyc : Nat := 0
  /-- latched seconds, and the nanoseconds of the next step -/
  latched : Nat := 0
  stepNs : Word := 0
  /-- the clock before its last changes of offset or rate, newest first: first CLK_ETH cycle, value there, rate -/
  past : List (Nat × Nat × Word) := []
  deriving DecidableEq, Repr

/-- The message buses. -/
structure BusState where
  cans : List (Nat × CanHid) := []
  macs : List (Nat × MacHid) := []
  /-- alarm records sent so far on CAN channels 0-3 and MACs 4-5 (R396) -/
  alarms : List (Nat × Nat) := []
  pubs : List (Nat × PubHid) := []
  ptp : PtpHid := {}
  deriving DecidableEq, Repr

/-! ### Built-in self-test -/

/-- Built-in self-test and repair (R417-R430). -/
structure BistState where
  /-- the slice in progress, the number of the next, and the engine tick of the last start -/
  cur : Option Nat := none
  next : Nat := 0
  lastTick : Option Nat := none
  /-- a test of the present cycle failed -/
  cycleBad : Bool := false
  /-- end of the last slice (R431) -/
  endAt : Nat := 0
  /-- SAR converter (16 * chain + converter) -> instant of its last completed check -/
  checked : List (Nat × Nat) := []
  /-- converter or cell -> checks failed in a row (R423) -/
  fails : List (Nat × Nat) := []
  /-- a host test: portion and instant of the write (R427) -/
  host : Option (Nat × Nat) := none
  /-- soft repairs are being programmed into fuses since (R429) -/
  fuseAt : Option Nat := none
  deriving DecidableEq, Repr

/-! ### Event recorder -/

/-- The token bucket of one source (R437): tokens in units of 1 / 800 000 000, the instant they were counted, events that wait, and
the last of them. -/
structure EvBucket where
  tok : Nat
  at_ : Nat
  tally : Nat := 0
  last : Event
  deriving DecidableEq, Repr

/-- What a summary period has gathered (R441): events by class, entries, events lost, SEQ of the first entry and of the latest
SAFETY entry, and events by kind. -/
structure EvPeriod where
  at_ : Nat := 0
  byClass : List Nat := [0, 0, 0, 0]
  entries : Nat := 0
  lost : Nat := 0
  first : Option Word := none
  safety : Option Word := none
  kinds : List (Nat × Nat) := []
  deriving DecidableEq, Repr

/-- The event recorder (R433-R443). -/
structure EvState where
  /-- source -> bucket, in rising order of sources -/
  srcs : List (Nat × EvBucket) := []
  /-- events lost since the last LOST marker (R436) -/
  owed : Nat := 0
  /-- entries that wait for non-volatile memory, oldest first, and the instant the first one's write began (R438) -/
  nvQueue : List (List Word) := []
  nvAt : Nat := 0
  nvClear : Bool := false
  /-- the regions FIRST, oldest first, and LAST, newest first -/
  nvFirst : List (List Word) := []
  nvLast : List (List Word) := []
  /-- the 10 ms window: engine tick of its start, alarm-routed entries, route failures; quiet windows in a row (R440, R442) -/
  winTick : Nat := 0
  winCount : Nat := 0
  winFails : Nat := 0
  quiet : Nat := 0
  /-- storm mode since; summaries sent; the period in progress -/
  storm : Option Nat := none
  sums : Nat := 0
  period : EvPeriod := {}
  /-- a SAFETY entry ends the period with the CLK_FAB cycle in progress (R441) -/
  ending : Bool := false
  deriving DecidableEq, Repr

/-! ### The Karend Link -/

/-- A bulk message that waits for its slot, or a WRITE or READ_REQ without an answer yet (R356): its type, the bytes of BULK in
use, what asked for it, and when it last went out. -/
structure TwinMsg where
  kind : Nat
  bulk : List Nat
  mseq : Nat := 0
  /-- the port whose access this is; none for a copy; a forwarded write is not a remote access of that port -/
  port : Option Port := none
  fwd : Bool := false
  /-- first address, for a WRITE or READ_REQ -/
  addr : Nat := 0
  /-- DMA channel whose access this is -/
  dma : Option Nat := none
  /-- due for retransmission -/
  again : Bool := false
  sentAt : Nat := 0
  /-- part of a configuration copy -/
  copy : Bool := false
  deriving DecidableEq, Repr

/-- A mirror record that reached the standby too late for the next dispatch of its object (R362). -/
structure HeldRec where
  kind : Nat
  obj : Nat
  /-- the dispatch it came too late for has begun -/
  passed : Bool := false
  bulk : List Nat
  /-- instant of the commit at the active -/
  at_ : Nat
  deriving DecidableEq, Repr

/-- A host read of the follower's space that waits for its answers: address, words asked for, and what has arrived
(R372). -/
structure RemoteRead where
  addr : Nat
  words : Nat
  got : List Word := []
  code : Nat := 0
  deriving DecidableEq, Repr

/-- A host write of the follower's space: its first address, the words acknowledged, and the words still to go after the one under
way (R372). -/
structure RemoteWrite where
  addr : Nat
  count : Nat := 0
  rest : List Word
  deriving DecidableEq, Repr

/-- The Karend Link and the pair (R353-R377). -/
structure TwinState where
  /-- next SLOTSEQ, start of the last slot sent, and its bytes 2-79 -/
  seq : Nat := 0
  slotAt : Option Nat := none
  slot : List Nat := []
  /-- bulk messages that wait, oldest first; WRITE and READ_REQ messages without an answer; next MSEQ -/
  queue : List TwinMsg := []
  asked : List TwinMsg := []
  mseq : Nat := 0
  /-- which of the last nine slots carried a WRITE or READ_REQ, newest first -/
  used : List Bool := []
  /-- SLOTSEQ of the last good slot; bad or missing slots in a row, and the start of the first -/
  rxSeq : Option Nat := none
  rxAt : Nat := 0
  bad : Nat := 0
  badAt : Nat := 0
  /-- MSEQs applied lately, with the answer given -/
  done : List (Nat × TwinMsg) := []
  /-- state before ATTACH or SERVE; the instant of the ATTACH; attachment steps passed: 0 none, 1 lanes, 2 HELLO, 3 copy sent -/
  before : Nat := 0
  attAt : Nat := 0
  step : Nat := 0
  /-- the twin asks for RECOVERY service (R360) -/
  recover : Bool := false
  /-- this device, in RECOVERY, is served (R360) -/
  served : Bool := false
  /-- the offer in progress: start of its slot; offers so far; a SWAP, a declared fault (R367) -/
  offer : Option Nat := none
  offers : Nat := 0
  swap : Option Port := none
  decl : Bool := false
  /-- a DETACH that ends the pair at the next slot (R359) -/
  detach : Bool := false
  /-- the standby takes the offer in the slot that starts at this instant -/
  takeAt : Option Nat := none
  /-- STANDBY frames in place of DRIVE: in force from `since`, the opposite before it (R361, R367) -/
  passive : Bool := false
  since : Nat := 0
  /-- positions whose DRIVE was refused (R368) -/
  noDrive : List Nat := []
  /-- positions whose first DRIVE frame is still to come, with the moves so far (R369) -/
  resync : List (Nat × Nat) := []
  /-- instant of a takeover whose 2 us run, and whether TAKEOVER_NS is still to be measured -/
  tookAt : Option Nat := none
  timing : Bool := false
  /-- the twin's latches as its last good slot showed them, and its STO outputs: bit g off (R355) -/
  peerLatch : Nat := 0
  peerSto : Nat := 0
  /-- eligibility (R364): configuration CRC differs, a forwarded write was refused, two late records of one object in a row, a
  position of the active that is not UP here, skew above 2.5 ns; objects whose last record was late -/
  crcBad : Bool := false
  refused : Bool := false
  lateTwo : Bool := false
  upBad : Bool := false
  skewBad : Bool := false
  late : List Nat := []
  held : List HeldRec := []
  /-- the host's read and write of the follower's space in progress -/
  read : Option RemoteRead := none
  write : Option RemoteWrite := none
  /-- a timebase of the twin runs, as its last HELLO said -/
  peerRuns : Bool := false
  deriving DecidableEq, Repr

/-! ### Firmware images -/

/-- Image slots and the Updraft handover (R445-R459). -/
structure FwState where
  /-- states of slots 0 and 1 as R445 codes them, and the active slot -/
  st0 : Nat := 0
  st1 : Nat := 0
  active : Nat := 0
  /-- contents: 2^20 * slot + word index -> word; programmed blocks: 1024 * slot + number -/
  img : List (Nat × Word) := []
  prog : List Nat := []
  /-- the two copies of the boot record (R451), empty where none has been written; the copy written last, what it held before,
  and when the write began -/
  boot0 : List Word := []
  boot1 : List Word := []
  bootLast : Nat := 1
  bootOld : List Word := []
  bootAt : Option Nat := none
  /-- the anti-rollback fuse counter (R450) -/
  arb : Nat := 0
  /-- the session: holding port, and the instant of its opening or last accepted BLOCK (R447) -/
  holder : Option Port := none
  sessAt : Nat := 0
  eraseAt : Option Nat := none
  /-- block being programmed, since when (R448) -/
  progAt : Option (Nat × Nat) := none
  verifyAt : Option Nat := none
  /-- reference instant of the handover under way, and whether it is the return to pair 0 (R453, R455) -/
  actAt : Nat := 0
  back : Bool := false
  /-- engine tick at which a failed return is tried again (R455) -/
  retryTick : Option Nat := none
  /-- start of the trial timer (R453) -/
  trialAt : Option Nat := none
  /-- a fall-back waits for the next epoch to resume pair 0 (R456) -/
  resume : Bool := false
  /-- the device's words of the state record (R455) -/
  stateRec : List Word := []
  /-- pair 0's answer to the last image record (R448) -/
  answer : List Nat := []
  deriving DecidableEq, Repr

/-! ### Lifecycle, debug and power -/

/-- Lifecycle, keys, debug and power states (R460-R480). -/
structure SecState where
  /-- the lifecycle change being programmed and its instant (R461) -/
  lcAt : Option (Nat × Nat) := none
  /-- programmed public keys: index -> sixteen words -/
  keys : List (Nat × List Word) := []
  /-- the key command being programmed: index, words where PROGRAM, SET_DBG, instant (R463) -/
  keyAt : Option (Nat × Option (List Word) × Bool × Nat) := none
  /-- instant of the last CHAL whose nonce is still valid (R468) -/
  nonceAt : Option Nat := none
  /-- level of the AUTH under verification, and its instant -/
  authAt : Option (Nat × Nat) := none
  /-- level by grant, a RETURN grant, consecutive failures, the block of CHAL -/
  grant : Nat := 0
  returnOk : Bool := false
  fails : Nat := 0
  blockAt : Option Nat := none
  /-- the TAP instruction selected (R465) -/
  tap : Nat := 1
  /-- OFF accepted, draining since (R474); PWRDN_N driven low -/
  offAt : Option Nat := none
  pwrdn : Bool := false
  /-- the debug access register: refusal code and read data of the debug port's last access (R44, R465, R467) -/
  dbgCode : RefCode := .none
  dbgData : Word := 0
  deriving DecidableEq, Repr

end Sys2Proof.Machine
end

