-- ==== Sys2Proof/Machine/State.lean ====
section
/-! DEFINITION. The state of the block, as plain data: the queue of waiting commands, the registers (visible, live,
in force, committed), the memory windows and the hidden state of every part; the reasons a step can stop; and the
state right after power-on. -/

namespace Sys2Proof.Machine

/-- Why a step stops with a fault: never. Every command of the table has an effect the manual gives, or leaves only a value open, and no
command raises a fault. -/
inductive Fault where
  deriving DecidableEq, Repr

/-- Why a command has no meaning. -/
inductive Refusal where
  /-- A command without a meaning in this model. Safe: the model stops. -/
  | notModelled (mnemonic : String)
  deriving DecidableEq, Repr

/-- The state of the device. -/
structure State where
  /-- commands that wait, first in first out -/
  pending : List Instr := []
  part : Part := .sep9640
  /-- CLK_CLE cycles that have passed since the first power-up -/
  now : Nat := 0
  /-- visible registers: address -> word, canonical against the reset map -/
  regs : List (Nat × Word) := []
  /-- live values behind the RO/S registers (R10, R48) -/
  live : List (Nat × Word) := []
  /-- values in force of shadowed and pending registers -/
  active : List (Nat × Word) := []
  /-- the committed safety parameter set (R324) -/
  committed : List (Nat × Word) := []
  /-- bytes of the event ring and the staging window -/
  mem : List Host.Cell := []
  /-- events raised and not yet taken by the recorder -/
  evq : List Event := []
  /-- the model's own counter of free values -/
  free : Nat := 0
  fab : FabState := {}
  host : HostState := {}
  bu : BringState := {}
  isl : IslandState := {}
  /-- values of the source numbers (R80, R117) -/
  srcs : List (Nat × SrcVal) := []
  /-- values last written to destination numbers (R120) -/
  inputs : List (Nat × InVal) := []
  meas : MeasState := {}
  pwm : PwmState := {}
  gl : GlState := {}
  /-- the drivers behind the gate positions -/
  drivers : List (Nat × Driver) := []
  prot : ProtState := {}
  cle : CleState := {}
  /-- machines 0-3 -/
  foc : List (Nat × MachHid) := []
  /-- profile channels 0-3 -/
  prof : List (Nat × ProfHid) := []
  /-- runs of the DMA channels -/
  dma : List (Nat × Option DmaRun) := []
  bus : BusState := {}
  therm : ThermState := {}
  twin : TwinState := {}
  bist : BistState := {}
  ev : EvState := {}
  fw : FwState := {}
  sec : SecState := {}
  deriving DecidableEq, Repr

/-- The state right after a first power-up: bring-up stands in SUPPLY_CHECK (R64), every register at its reset value,
no memory byte written, an empty queue. The manual describes two parts (R1); DESIGN CHOICE: this state is a SEP9640's, and a state with
`part := .sep9624` is the other part's. -/
def State.reset : State := {}

end Sys2Proof.Machine
end

