-- ==== Sys2Proof/Machine/Ops.lean ====
section
/-! DEFINITION. The named operations over the state: register access, bit fields, time, events, interrupts, refusals
and locks. Every meaning is written over these. -/

namespace Sys2Proof.Machine

/-! ### Bit fields -/

/-- Ones in bits [hi:lo]. -/
def fmask (hi lo : Nat) : Word := word ((2 ^ (hi + 1 - lo) - 1) * 2 ^ lo)

/-- The field [hi:lo] of a word, as a number. -/
def fld (w : Word) (hi lo : Nat) : Nat := w.toNat / 2 ^ lo % 2 ^ (hi + 1 - lo)

/-- Bit `i` of a word. -/
def bit (w : Word) (i : Nat) : Bool := w.getLsbD i

/-- The word with field [hi:lo] holding `v` (modulo the field's width). -/
def setFld (w : Word) (hi lo v : Nat) : Word :=
  (w &&& ~~~(fmask hi lo)) ||| (word (v % 2 ^ (hi + 1 - lo) * 2 ^ lo))

/-- The word with bit `i` at `b`. -/
def setBit (w : Word) (i : Nat) (b : Bool) : Word := setFld w i i (bitN b)

/-- A field value placed at bit `lo`. -/
def at' (v lo : Nat) : Nat := v * 2 ^ lo

/-! ### Addresses -/

/-- The page number of an address. -/
def pageOf (a : Nat) : Nat := a / 4096

/-- The header registers of page `p` (R37). -/
def hCTRL (p : Nat) : Nat := p * 4096 + 0x0C
def hSTATUS (p : Nat) : Nat := p * 4096 + 0x10
def hIRQ_RAW (p : Nat) : Nat := p * 4096 + 0x14
def hIRQ_EN (p : Nat) : Nat := p * 4096 + 0x18
def hIRQ_PEND (p : Nat) : Nat := p * 4096 + 0x1C
def hLOCK (p : Nat) : Nat := p * 4096 + 0x20
def hERRINFO (p : Nat) : Nat := p * 4096 + 0x24
def hSNAP_CTRL (p : Nat) : Nat := p * 4096 + 0x28
def hSNAP_GEN (p : Nat) : Nat := p * 4096 + 0x2C
def hAGE (p : Nat) : Nat := p * 4096 + 0x30

/-- The first page of each block's region, in block order (R33). -/
def blockBases : List Nat :=
  [0x000, 0x001, 0x010, 0x020, 0x040, 0x050, 0x080, 0x100, 0x120, 0x140, 0x160, 0x180, 0x1A0, 0x200, 0x220, 0x240,
    0x280, 0x2C0, 0x300, 0x320, 0x340, 0x360, 0x380]

/-- The block index of a page (R33). -/
def blockOf (p : Nat) : Nat := (blockBases.filter (· ≤ p)).length - 1

/-- The page number within the block's region (R433). -/
def pageInBlock (p : Nat) : Nat := p - blockBases.getD (blockOf p) 0

/-- The page whose header serves the register at `a`: the window of contexts is served by `CLE` (R118), an object of
the CAN message RAM by its channel's page (R382), the event ring by `EVREC` and the staging window by `FWIM`. -/
def homePage (a : Nat) : Nat :=
  if 0x0A0000 ≤ a ∧ a < 0x0C0000 then 0x080
  else if 0x400000 ≤ a ∧ a < 0x410000 then 0x240 + (a - 0x400000) / 0x4000
  else if 0x480000 ≤ a ∧ a < 0x4C0000 then 0x340
  else if 0x700000 ≤ a ∧ a < 0x800000 then 0x360
  else pageOf a

/-- Does the event ring or the staging window hold `a` (R35)? -/
def inWindow (a : Nat) : Bool := decide ((0x480000 ≤ a ∧ a < 0x4C0000) ∨ (0x700000 ≤ a ∧ a < 0x800000))

/-- Does a chapter define the address `a` (R34)? -/
def isMapped (a : Nat) : Bool := (pageKind (pageOf a)).isSome || inWindow a

/-- The one canonical form of a memory of bytes: addresses strictly rise and no byte listed is zero, the value an unlisted address reads as. -/
def Memory.wf (m : List Host.Cell) : Bool := KMap.wf (fun _ => (0 : Byte)) m

/-! ### Registers -/

namespace State

/-- The visible register at `a`. -/
def rd (s : State) (a : Nat) : Word := KMap.get rst s.regs a

/-- Put `v` into the visible register at `a`. -/
def wr (s : State) (a : Nat) (v : Word) : State := { s with regs := KMap.set rst s.regs a v }

/-- The live value behind the RO/S register at `a`. -/
def rdL (s : State) (a : Nat) : Word := KMap.get rst s.live a

/-- Put `v` into the live value at `a`. -/
def wrL (s : State) (a : Nat) (v : Word) : State := { s with live := KMap.set rst s.live a v }

/-- The value in force of the shadowed register at `a`. -/
def rdA (s : State) (a : Nat) : Word := KMap.get rst s.active a

/-- Put `v` in force at `a`. -/
def wrA (s : State) (a : Nat) (v : Word) : State := { s with active := KMap.set rst s.active a v }

/-- The committed parameter at `a` (R324). -/
def rdC (s : State) (a : Nat) : Word := KMap.get rst s.committed a

/-- Field [hi:lo] of the register at `a`. -/
def rdF (s : State) (a hi lo : Nat) : Nat := fld (s.rd a) hi lo

/-- Bit `i` of the register at `a`. -/
def rdB (s : State) (a i : Nat) : Bool := bit (s.rd a) i

/-- Put `v` into field [hi:lo] of the register at `a`. -/
def wrF (s : State) (a hi lo v : Nat) : State := s.wr a (setFld (s.rd a) hi lo v)

/-- Put `b` into bit `i` of the register at `a`. -/
def wrB (s : State) (a i : Nat) (b : Bool) : State := s.wrF a i i (bitN b)

/-- A counter register that wraps modulo 2^32. -/
def inc (s : State) (a : Nat) : State := s.wr a (s.rd a + 1)

/-- A live counter that saturates at 0xFFFF_FFFF. -/
def incL (s : State) (a : Nat) : State :=
  s.wrL a (if s.rdL a = 0xFFFFFFFF then 0xFFFFFFFF else s.rdL a + 1)

/-- A field counter that saturates at its largest value. -/
def incSat (s : State) (a hi lo : Nat) : State :=
  s.wrF a hi lo (min (s.rdF a hi lo + 1) (2 ^ (hi + 1 - lo) - 1))

/-! ### Memory windows -/

/-- One byte of the event ring or the staging window; a byte nothing has written reads zero (DESIGN CHOICE). -/
def rdByte (s : State) (a : Nat) : Byte := KMap.get (fun _ => 0) s.mem a

/-- Store one byte. -/
def wrByte (s : State) (a : Nat) (b : Byte) : State := { s with mem := KMap.set (fun _ => 0) s.mem a b }

/-- A word of a window, most significant byte at the lowest address (DEDUCED from R383 and R406). -/
def rdMem (s : State) (a : Nat) : Word :=
  word ((s.rdByte a).toNat * 2 ^ 24 + (s.rdByte (a + 1)).toNat * 2 ^ 16 + (s.rdByte (a + 2)).toNat * 2 ^ 8
    + (s.rdByte (a + 3)).toNat)

/-- Store a word of a window. -/
def wrMem (s : State) (a : Nat) (v : Word) : State :=
  (((s.wrByte a ((v >>> 24).setWidth 8)).wrByte (a + 1) ((v >>> 16).setWidth 8)).wrByte (a + 2)
    ((v >>> 8).setWidth 8)).wrByte (a + 3) (v.setWidth 8)

/-! ### Time -/

/-- `n` CLK_CLE cycles pass. -/
def tick (s : State) (n : Nat) : State := { s with now := s.now + n }

/-- Time reaches instant `t`; it never runs backwards. -/
def reach (s : State) (t : Nat) : State := { s with now := max s.now t }

/-- The engine tick of R110: CLK_CLE cycles since the entry to SERVICE; 0 before it. -/
def engine (s : State) : Nat := ((s.now : Int) - s.bu.tick0).toNat

/-- The instant of an engine tick. -/
def ofTick (s : State) (t : Nat) : Nat := (s.bu.tick0 + t).toNat

/-- The bring-up state code (R64). -/
def phase (s : State) : Nat := s.rdF Bup.STATE 3 0

/-- Is the device in SERVICE? -/
def inService (s : State) : Bool := decide (s.phase = 9)

/-- Whole microseconds since the last power-on reset: the island's event time (R433). -/
def micros (s : State) : Nat := (s.now - s.bu.porAt) / 800

/-- The next free value: an undefined word, and the state with the counter advanced. -/
def fresh (s : State) : Word × State := (Config.freeWord s.free, { s with free := s.free + 1 })

/-- Stamp the value at `a` as produced now (R50). -/
def stampNow (s : State) (a : Nat) : State :=
  { s with fab := { s.fab with stamp := KMap.set (fun _ => 0) s.fab.stamp a s.now } }

/-- The instant the value at `a` was produced, or began to count (R50): at the latest when its page took its reset value, which
on the island's pages is not at a system reset. -/
def stampOf (s : State) (a : Nat) : Nat :=
  let t := KMap.get (fun _ => 0) s.fab.stamp a
  let b := blockOf (pageOf a)
  if t = 0 then (if b = 13 ∨ b = 14 then s.bu.porAt else s.bu.initAt) else t

/-- Put a live value and stamp it. -/
def produce (s : State) (a : Nat) (v : Word) : State := (s.wrL a v).stampNow a

/-! ### Interrupts (R40) -/

/-- Put `new` into IRQ_RAW of page `p`; every rising edge of RAW AND EN sets its pending bit. -/
def putRaw (s : State) (p : Nat) (new : Word) : State :=
  let edge := new &&& ~~~(s.rd (hIRQ_RAW p)) &&& s.rd (hIRQ_EN p)
  (s.wr (hIRQ_RAW p) new).wr (hIRQ_PEND p) (s.rd (hIRQ_PEND p) ||| edge)

/-- Set or clear the level of one raw condition. -/
def raw (s : State) (p i : Nat) (b : Bool) : State := s.putRaw p (setBit (s.rd (hIRQ_RAW p)) i b)

/-- A raw condition that rises and falls again at once: its pending bit sets where it is enabled (R40). DESIGN CHOICE for the conditions the
manual calls neither pulsed nor live, TRIG_COLLIDE, CAL_DONE and CAL_FAIL of R103 among them: an occurrence has no duration. -/
def pulse (s : State) (p i : Nat) : State :=
  if s.rdB (hIRQ_RAW p) i then s else (s.raw p i true).wr (hIRQ_RAW p) (s.rd (hIRQ_RAW p))

/-! ### Events (R433) -/

/-- Raise an event for the recorder. -/
def emit (s : State) (c : EvClass) (page code obj : Nat) (detail : Word) : State :=
  { s with evq := s.evq ++ [{ cls := c, page := page, code := code, obj := obj, detail := detail, at_ := s.now,
                              tick := if s.inService then s.engine % 2 ^ 32 else 0, marker := false }] }

/-! ### Refusals (R43-R45) -/

/-- Record a refusal of `port` in ERRINFO of page `p`; STATUS.REFUSED and IRQ_RAW[30] follow (R40, R45). -/
def refuseAt (s : State) (p : Nat) (port : Port) (c : RefCode) (off : Nat) : State :=
  let ovr := if s.rd (hERRINFO p) = 0 then 0 else 1
  (s.wr (hERRINFO p) (word (at' c.num 24 + at' port.num 20 + at' ovr 19 + off % 4096))).raw p 30 true

end State

/-- What a register operation answers: the state and the refusal code (NONE where it is accepted). -/
abbrev Reply := State × RefCode

/-- A write that is accepted. -/
def accept (s : State) : Reply := (s, .none)

/-- A write that is refused: the state is left alone. -/
def deny (s : State) (c : RefCode) : Reply := (s, c)

/-- `op` where `ok` holds, else a refusal with `c`. -/
def need (ok : Bool) (c : RefCode) (op : State → Reply) (s : State) : Reply :=
  if ok then op s else deny s c

end Sys2Proof.Machine
end

