-- ==== Sys2Proof/Machine/TwinBase.lean ====
section
/-! DEFINITION. The base of twin operation (R353-R369): the role of the device, the queue of bulk messages, forwarded writes,
mirror records, and which gate positions the device drives. -/

namespace Sys2Proof.Machine

/-! ### Role (R357) -/

/-- STATE.STATE: 0 SOLO, 1 ATTACHING, 2 WARD_ACTIVE, 3 WARD_STANDBY, 4 TANDEM_MASTER, 5 TANDEM_FOLLOWER, 6 SPLIT, 7 SERVING,
8 RECOVERY_LINK. -/
def twinState (s : State) : Nat := s.rdF Twin.STATE 3 0

/-- Is the device in TANDEM? -/
def inTandem (s : State) : Bool := decide (twinState s = 4 ∨ twinState s = 5)

/-- Is the device half of a WARD pair? -/
def inWard (s : State) : Bool := decide (twinState s = 2 ∨ twinState s = 3)

/-- The mirrored pages: `CLE`, `FOC`, `PROF`, `PWM`, `PROT` and `THERM`, without telemetry and sensor pages (R363). -/
def mirroredPage (p : Nat) : Bool :=
  decide (p = 0x080 ∨ p = 0x082 ∨ (0x0A0 ≤ p ∧ p < 0x0C0) ∨ (0x100 ≤ p ∧ p < 0x104) ∨ (0x120 ≤ p ∧ p < 0x124)
    ∨ (0x140 ≤ p ∧ p < 0x144) ∨ (0x180 ≤ p ∧ p < 0x183) ∨ p = 0x1A0 ∨ p = 0x1A1)

/-- Does the pair bar a write of `port` to page `p`: mirrored pages of a standby from other ports, and a follower's pages
from its own host port (R357, R363)? -/
def twinBars (s : State) (port : Port) (p : Nat) : Bool :=
  (decide (twinState s = 3 ∧ port ≠ .twin) && mirroredPage p) ||
    decide (twinState s = 5 ∧ port = .host ∧ p ≠ 0x000 ∧ p ≠ 0x001 ∧ p ≠ 0x2C0 ∧ p ≠ 0x2C1)

/-- Does the device drive position or pin `n` at instant `f` (R256, R357, R361, R367, R368)? -/
def ownsAt (s : State) (n f : Nat) : Bool :=
  !(if f < s.twin.since then !s.twin.passive else s.twin.passive) && !s.twin.noDrive.contains n

/-! ### Bulk messages (R356) -/

/-- Three bytes of a number, most significant first. -/
def bytes3 (n : Nat) : List Nat := [n / 65536 % 256, n / 256 % 256, n % 256]

/-- A message joins the queue. -/
def twinSend (m : TwinMsg) (s : State) : State := { s with twin := { s.twin with queue := s.twin.queue ++ [m] } }

/-- A WRITE message of one to seven entries (R356). -/
def twinWriteMsg (port : Option Port) (dma : Option Nat) (fwd copy : Bool) (l : List (Nat × Word)) (s : State) : State :=
  let q := s.twin.mseq
  let body := [q / 256 % 256, q % 256, l.length] ++ l.flatMap (fun e => bytes3 e.1 ++ wordBytes e.2)
  let a := match l.head? with | some e => e.1 | none => 0
  twinSend { kind := 5, bulk := body, mseq := q, port := port, addr := a, dma := dma, fwd := fwd, copy := copy }
    { s with twin := { s.twin with mseq := (q + 1) % 65536 } }

/-- A READ_REQ message of one to fourteen words (R356). -/
def twinReadMsg (port : Port) (dma : Option Nat) (a n : Nat) (s : State) : State :=
  let q := s.twin.mseq
  twinSend { kind := 6, bulk := [q / 256 % 256, q % 256] ++ bytes3 a ++ [n], mseq := q, port := some port, addr := a, dma := dma }
    { s with twin := { s.twin with mseq := (q + 1) % 65536 } }

/-- An accepted write goes on to the twin: a mirrored page of a WARD active (R363), and the profile of a TANDEM master
(R27). -/
def forward (port : Port) (a : Nat) (v : Word) (s : State) : State :=
  if (decide (twinState s = 2 ∧ port ≠ .twin) && mirroredPage (pageOf a)) || decide (twinState s = 4 ∧ a = Cle.CTRL) then
    twinWriteMsg (some port) none true false [(a, v)] s
  else s

/-- Does an access at `a` go to the twin: all of it for a TANDEM master (R36), the FWIM page and the staging window of a twin that is
served (R360)? -/
def remoteOpen (s : State) (a : Nat) : Bool :=
  decide (0x800000 ≤ a ∧ a < 0x1000000) &&
    (decide (twinState s = 4) || (decide (twinState s = 7) && decide (pageOf a = 0xB60 ∨ 0xF00000 ≤ a)))

/-! ### Answers of the host port (R53) -/

/-- Bytes with their CRC-16. -/
def withCrc (l : List Nat) : List Byte :=
  let c := Crc.crc16 l
  (l ++ [c / 256, c % 256]).map (BitVec.ofNat 8)

/-- The answer to a READ: STATUS, words, CRC. -/
def readAnswer (code : Nat) (ws : List Word) : List Byte := withCrc (code :: wordsBytes ws)

/-- What RESULT reports, and the answer on the wire. -/
def putResult (c : RefCode) (n off : Nat) (s : State) : State :=
  { s with host := { s.host with resCode := c, resCount := n, resOffset := off, answer := [] } }
def putAnswer (l : List Byte) (s : State) : State := { s with host := { s.host with answer := l } }

/-- The host's accesses of the twin end with `code`: the read is answered with zeros for what is missing, the write with the words
acknowledged. -/
def endRemote (c : RefCode) (s : State) : State :=
  let s1 := match s.twin.read with
    | some r => putAnswer (readAnswer c.num (r.got ++ List.replicate (r.words - r.got.length) 0)) s
    | none => s
  let s2 := match s.twin.write with
    | some w => putResult c w.count ((w.addr + 4 * w.count) % 4096) s1
    | none => s1
  { s2 with twin := { s2.twin with read := none, write := none } }

/-! ### Mirror records (R362) -/

/-- The active sends a record of an object: header of four bytes, then words. -/
def mirrorSend (kind : Nat) (head : List Nat) (ws : List Word) (s : State) : State :=
  if twinState s = 2 then twinSend { kind := kind, bulk := head ++ wordsBytes ws } s else s

/-- Word `j` of a record. -/
def recWord (b : List Nat) (j : Nat) : Word := bytesWord ((b.drop (4 + 4 * j)).take 4)

/-- A record is in place: the greatest delay from commit to application (R377). -/
def noteAge (at_ : Nat) (s : State) : State :=
  s.wrL TwinTel.MIRROR_AGE_MAX (word (max (s.rdL TwinTel.MIRROR_AGE_MAX).toNat (s.now - at_)))

/-- At a dispatch of an object: late records whose own dispatch has passed are applied, the others wait for the next. -/
def takeHeld (kind obj : Nat) (apply : List Nat → State → State) (s : State) : State :=
  let mine (r : HeldRec) : Bool := decide (r.kind = kind ∧ r.obj = obj)
  let due := s.twin.held.filter (fun r => mine r && r.passed)
  let rest := (s.twin.held.filter (fun r => !(mine r && r.passed))).map (fun r => if mine r then { r with passed := true } else r)
  due.foldl (fun t r => noteAge r.at_ (apply r.bulk t)) { s with twin := { s.twin with held := rest } }

/-- CTX_MIRROR of context `n`: STATE, OUT, OUT_D, SETPT, SETPT_D and ISTATE0-ISTATE7. -/
def mirrorCtx (n run : Nat) (s : State) : State :=
  let ws := [s.rd (Ctx.STATE n), s.rdL (Ctx.OUT n), s.rdL (Ctx.OUT_D n), s.rdL (Ctx.SETPT n), s.rdL (Ctx.SETPT_D n)]
    ++ (List.range 8).map (fun j => s.rdL (Ctx.ISTATE0 n j))
  if s.rdF (Ctx.STATE n) 2 0 = 0 then s
  else mirrorSend 1 [n / 256, n % 256, run / 256 % 256, run % 256] ws s

/-- A context that leaves IDLE by a record is released and timed from now on. -/
def wakeCtx (n : Nat) (s : State) : State :=
  if s.rdF (Ctx.STATE n) 2 0 ≠ 0 then s
  else
    let h : CtxHid := KMap.get (fun _ => {}) s.cle.ctxs n
    { s with cle := { s.cle with ctxs := KMap.set (fun _ => {}) s.cle.ctxs n { h with relTick := none, enTick := s.engine, trigAt := s.now } } }

/-- The standby's copy of a context takes a record. -/
def applyCtx (n : Nat) (b : List Nat) (s : State) : State :=
  let s1 := (wakeCtx n s).wr (Ctx.STATE n) (recWord b 0)
  let s2 := (((s1.wrL (Ctx.OUT n) (recWord b 1)).wrL (Ctx.OUT_D n) (recWord b 2)).wrL (Ctx.SETPT n) (recWord b 3)).wrL (Ctx.SETPT_D n)
    (recWord b 4)
  (List.range 8).foldl (fun t j => t.wrL (Ctx.ISTATE0 n j) (recWord b (5 + j))) s2

/-- GRP_MIRROR of group `g`: HW_STAT and HW_OUT. -/
def mirrorGrp (g : Nat) (s : State) : State := mirrorSend 4 [g, 0, 0, 0] [s.rd (Hw.HW_STAT g), s.rdL (Hw.HW_OUT g)] s

/-- The standby's copy of a group takes a record. -/
def applyGrp (g : Nat) (b : List Nat) (s : State) : State := (s.wr (Hw.HW_STAT g) (recWord b 0)).wrL (Hw.HW_OUT g) (recWord b 1)

/-! ### Declared faults (R367) -/

/-- The active declares a fault. -/
def declareFault (s : State) : State :=
  if twinState s = 2 then { s with twin := { s.twin with decl := true } } else s

/-- After a takeover the first status that names this device as owner ends the measurement of TAKEOVER_NS (R377). -/
def ownerSeen (s : State) : State :=
  if s.twin.timing then
    (s.wrL TwinTel.TAKEOVER_NS (word ((s.now - s.twin.badAt) * 5 / 4))) |> fun t => { t with twin := { t.twin with timing := false } }
  else s

end Sys2Proof.Machine
end

