-- ==== Sys2Proof/Machine/Fabric.lean ====
section
/-! DEFINITION. The register fabric (R32-R52): the gate every write passes, locks, refusal records, interrupt
registers, and the bookkeeping of snapshots and freshness. -/

namespace Sys2Proof.Machine

/-! ### The safety parameter set -/

/-- The pages whose RW/L registers belong to the safety parameter set (R319, R324). -/
def paramPage (p : Nat) : Bool := decide (p = 0x202 ∨ p = 0x203 ∨ p = 0x204 ∨ p = 0x220)

/-- Is `a` a register of the safety parameter set: RW/L, in the block's own part of such a page? -/
def paramReg (a : Nat) : Bool :=
  paramPage (pageOf a) && decide (0x40 ≤ a % 4096) &&
    (match regRow a with
      | some r => decide (r.acc = .rwl)
      | none => false)

/-- The edit copy: what the parameter registers hold beside their reset values (R324). -/
def editCopy (s : State) : List (Nat × Word) := s.regs.filter (fun e => paramReg e.1)

/-- Is the start-up guard test complete: on the SEP9624 every enabled input with GUARD has TESTED (R312)? -/
def guardDone (s : State) : Bool :=
  decide (s.part = .sep9640) ||
    (List.range 16).all (fun k => !bit (s.rdC (SafeIn.SI_CFG k)) 0 || !bit (s.rdC (SafeIn.SI_CFG k)) 2
      || s.rdB (SafeIn.SI_STAT k) 5)

/-- The state of group `g` of the island (R299): 0 STOPPED, 1 SS1, 2 RELEASED, 3 ASC_HELD. -/
def grpState (s : State) (g : Nat) : Nat := s.rdF Safe.GRP_STATE (4 * g + 3) (4 * g)

/-- Hidden state of group `g` of the island. -/
def sgOf (s : State) (g : Nat) : SafeGrp := KMap.get (fun _ => {}) s.isl.grps g

/-- STATUS of the island's control page (R327). -/
def safeStatus (s : State) : Word :=
  let b (x : Bool) (i : Nat) : Nat := at' (bitN x) i
  let i := s.isl
  word (b (decide (s.rdF Safe.LO_CAUSE 7 0 ≠ 0)) 0 + b i.session.isSome 1 + b i.pwHash.isSome 2 + b (guardDone s) 3
    + b i.stoOff0 4 + b i.stoOff1 5 + b i.brake 6 + b (decide (grpState s 0 = 1)) 7 + b (decide (grpState s 1 = 1)) 8
    + b (sgOf s 0).slsLim.isSome 9 + b (sgOf s 1).slsLim.isSome 10
    + b ((sgOf s 0).sdiNeg.isSome || (sgOf s 0).sdiPos.isSome) 11 + b ((sgOf s 1).sdiNeg.isSome || (sgOf s 1).sdiPos.isSome) 12
    + b (s.pwm.forces.any (fun f => decide (f.tag = .island))) 13 + b (decide (editCopy s ≠ s.committed)) 14)

/-! ### The gate of every write -/

/-- The power state (R471): 0 RUN, 1 HOLD, 2 SLEEP, 3 OFF. -/
def pwrState (s : State) : Nat := s.rdF Sec.PWR_STAT 1 0

/-- Put the power state; PWR_CHG pulses. -/
def pwrGo (st : Nat) (s : State) : State := (s.wr Sec.PWR_STAT (word st)).pulse Sec.page 3

/-- The device wakes for cause `k` of WAKE_STAT, or abandons a pending SLEEP. -/
def wake (k : Nat) (s : State) : State :=
  let s1 := s.wrB Sec.WAKE_STAT k true
  if pwrState s = 2 then (pwrGo 0 s1).pulse Sec.page 0
  else if s.rdB Sec.PWR_STAT 2 then (if pwrState s = 0 then s1.wr Sec.PWR_STAT 0 else pwrGo 0 s1)
  else s

/-- An event of kind `k` of WAKE_CFG wakes the device where it is enabled. -/
def wakeOn (k : Nat) (s : State) : State := if s.rdB Sec.WAKE_CFG k then wake k s else s

/-- The same where some condition of `mask` has risen in IRQ_RAW of page `p` since `old`. -/
def wakeRisen (k p : Nat) (mask : Word) (old s : State) : State :=
  if s.rd (hIRQ_RAW p) &&& ~~~(old.rd (hIRQ_RAW p)) &&& mask ≠ 0 then wakeOn k s else s

/-- The debug level (R467, R468): a grant in FIELD; FULL in every other lifecycle state and in RECOVERY (R476). -/
def dbgLevel (s : State) : Nat := if s.rdF Sec.LC_STATE 1 0 = 2 ∧ s.phase ≠ 10 then s.sec.grant else 3

/-- Pages that answer BUSY: every page in OFF, all but `ID`, `BUP` and `SEC` while OFF drains (R474), those that do not answer in the
present bring-up state (R55, R65, R67), those of the island while it restarts (R63), its parameter pages while a commit is written
(R324), `BIST` while fuses are programmed (R429), and pages of `SEC` during a lifecycle change or an AUTH (R461, R468). -/
def busyPage (s : State) (p : Nat) : Bool :=
  if pwrState s = 3 then true
  else if p ≤ 0x001 then false
  else if s.sec.offAt.isSome ∧ blockOf p ≠ 22 then true
  else if (s.sec.lcAt.isSome ∧ p = 0x380) ∨ (s.sec.authAt.isSome ∧ p = 0x382) then true
  else if s.isl.restart.isSome ∧ (blockOf p = 13 ∨ blockOf p = 14) then true
  else if s.isl.commitAt.isSome ∧ paramPage p then true
  else if s.bist.fuseAt.isSome ∧ p = 0x320 then true
  else
    match s.phase with
    | 9 => false
    | 10 => !(decide (0x2C0 ≤ p ∧ p < 0x300) || decide (0x360 ≤ p ∧ p < 0x400) || decide (0x700 ≤ p ∧ p < 0x800))
    | _ => true

/-- Is the page's LOCK open? -/
def lockOpen (s : State) (p : Nat) : Bool := s.rdB (hLOCK p) 0

/-- An accepted RW/L write restarts the page's second (R42). -/
def touchLock (p : Nat) (s : State) : State :=
  { s with fab := { s.fab with lockAt := KMap.set (fun _ => 0) s.fab.lockAt p s.now } }

/-- On the island's parameter pages it also restarts the session's minute (R323). -/
def touchSession (p : Nat) (s : State) : State :=
  if paramPage p then { s with isl := { s.isl with sessAt := s.now } } else s

/-- The instant an open LOCK of page `p` closes by itself: 1 s after the later of its opening and the last accepted
RW/L write (R42). -/
def lockDue (s : State) (p : Nat) : Nat := KMap.get (fun _ => 0) s.fab.lockAt p + 800000000

/-- The page that records a refusal: the page that holds the register (R45), or `HOST` for an unmapped address and for a host write that
a page not in service refuses (R34, R503). -/
def refusalPage (port : Port) (a : Nat) (c : RefCode) (s : State) : Nat :=
  if !isMapped a ∨ (port = .host ∧ c = .busy ∧ busyPage s (homePage a)) then 0x020 else homePage a

/-- Record a refused write (R45, R503). -/
def recordRefusal (port : Port) (a : Nat) (c : RefCode) (s : State) : State :=
  s.refuseAt (refusalPage port a c s) port c (a % 4096)

/-- Does an access to no page answer BUSY: during bring-up (R55), in OFF, and at a follower's own host port (R357)? -/
def busyUnmapped (s : State) (port : Port) (p : Nat) : Bool :=
  decide (s.phase ≠ 9 ∧ s.phase ≠ 10) || decide (pwrState s = 3) || twinBars s port p

/-- Is the register at `a` of access RW/L, so that it needs the page's LOCK (R10)? On `MEASB`, CTRL and TRIG_CFG are
read-only (R103); SNAP_CTRL looks at the LOCK itself (R47). -/
def needsLock (a : Nat) : Bool :=
  decide (a ≠ 0x5000C ∧ a ≠ 0x5004C) &&
  match pageKind (pageOf a), regRow a with
  | some k, some r => decide (r.acc = .rwl) && (!k.header || (k.lockable && decide (a % 4096 ≠ 0x28)))
  | _, _ => false

/-- Does the debug level bar a write of port 5 (R467)? Below HALT_SUP only DBG_CMD and DBG_RESP may be written. -/
def dbgBars (s : State) (a : Nat) : Bool :=
  decide (dbgLevel s < 2) && !(decide (a = SecDbg.DBG_CMD) || decide (SecDbg.DBG_RESP0 0 ≤ a ∧ a ≤ SecDbg.DBG_RESP0 15))

/-- Why the fabric itself refuses a write to `a`: no page there, a debug level that bars it, a page that is busy, a closed LOCK, or, on the island's
parameter pages, no session (R323). -/
def gateCode (s : State) (port : Port) (a : Nat) : RefCode :=
  if !isMapped a then (if busyUnmapped s port (pageOf a) then .busy else .outOfRange)
  else if port = .debug ∧ dbgBars s a then .denied
  else if busyPage s (homePage a) || twinBars s port (pageOf a) then .busy
  else if needsLock a ∧ !lockOpen s (homePage a) then .locked
  else if needsLock a ∧ paramPage (homePage a) ∧ s.isl.session.isNone then .keyRequired
  else .none

/-- A write of `v` by `port` to the register at `a` whose behaviour is `op`, without the record of a refusal: refused by the gate or by
`op` itself, or done, which restarts the LOCK's second where it was RW/L. -/
def gate (port : Port) (a : Nat) (v : Word) (op : State → Reply) (s : State) : Reply :=
  match gateCode s port a with
  | .none =>
    match op s with
    | (t, .none) => (forward port a v (if needsLock a then touchSession (homePage a) (touchLock (homePage a) t) else t), .none)
    | (t, c) => (t, c)
  | c => (s, c)

/-- What an access of the debug port leaves in its debug access register: its refusal code, and the word a read gave (R44, R467). -/
def debugNote (port : Port) (c : RefCode) (w : Word) (s : State) : State :=
  if port = .debug then { s with sec := { s.sec with dbgCode := c, dbgData := w } } else s

/-- The record of a refused write joins its reply (R45); the debug port also finds the code in its access register (R44). -/
def recorded (port : Port) (a : Nat) (r : Reply) : Reply :=
  match r.2 with
  | .none => (debugNote port .none 0 r.1, .none)
  | c => (debugNote port c 0 (recordRefusal port a c r.1), c)

/-- A gated write with the record of its refusal. -/
def gated (port : Port) (a : Nat) (v : Word) (op : State → Reply) (s : State) : Reply := recorded port a (gate port a v op s)

/-- What a write to a register with no behaviour of its own leaves in it (R9, R10). -/
def plainValue (r : RegRow) (old v : Word) : Word :=
  match r.acc with
  | .rw | .rwl => v &&& word r.mask
  | .w1c => old &&& ~~~v
  | .ro | .ros | .wo => old

/-- A write to a register with no behaviour of its own; a reserved offset ignores it (R9). -/
def plainWrite (a : Nat) (v : Word) (s : State) : Reply :=
  match regRow a with
  | some r => accept (s.wr a (plainValue r (s.rd a) v))
  | none => accept s

/-! ### LOCK (R41, R42) -/

/-- The key of R41. -/
def lockKey : Word := 0x6F70656E

/-- Close the LOCK of page `p`. -/
def closeLock (p : Nat) (s : State) : State := s.wr (hLOCK p) 0

/-- Open the LOCK of page `p`. -/
def openLock (p : Nat) (s : State) : State := touchLock p (s.wr (hLOCK p) 1)

/-! ### STATUS (R39) -/

/-- STATE as MSTATE of machine `m` shows it: machine 1 shows machine 0's state while that has DUAL (R161). -/
def shownState (s : State) (m : Nat) : Nat :=
  if m = 1 ∧ s.rdB (Foc.CFG 0) 2 then s.rdF (Foc.MSTATE 0) 3 0 else s.rdF (Foc.MSTATE m) 3 0

/-- The device-wide condition of strict DMA completion (R409). -/
def dmaStrict (s : State) : Bool := !s.inService || decide (s.rdF Sec.LC_STATE 1 0 = 0 ∨ s.rdF Sec.LC_STATE 1 0 = 3) || s.bist.host.isSome

/-- The block's own STATUS bits, with those that copy a state: the engine's profile (R138), a machine's state (R188),
a profile channel's state (R206), the island's (R327), the pair's (R376) and the DMA's STRICT (R413). -/
def blockStatus (s : State) (p : Nat) : Word :=
  let w := s.rd (hSTATUS p)
  if p = Safe.page then safeStatus s
  else if p = Cle.page then setFld w 2 1 s.cle.profile
  else if p = Twin.page then setFld w 3 0 (twinState s)
  else if p = Dma.page then setBit w 0 (dmaStrict s)
  else if 0x100 ≤ p ∧ p ≤ 0x103 then setFld w 3 0 (shownState s (p - 0x100))
  else if 0x120 ≤ p ∧ p ≤ 0x123 then setFld w 2 0 (s.rdF (Prof.PSTATE (p - 0x120)) 2 0)
  else w

/-- STATUS.BUSY of page `p` (R39): 1 on every page until the cycle that enters SERVICE (R66), also on `ID` and `BUP`, which answer before it
(R55); later while the page does not answer. -/
def statusBusy (s : State) (p : Nat) : Bool := decide (s.phase ≠ 9) || busyPage s p

/-- STATUS of page `p`: the block's own bits, and BUSY, OPEN, REFUSED and DOLDRUMS. -/
def statusWord (s : State) (p : Nat) : Word :=
  setBit (setBit (setBit (setBit (blockStatus s p) 31 (statusBusy s p)) 30 (lockOpen s p)) 29
    (decide (s.rd (hERRINFO p) ≠ 0))) 28 (s.rdB (hSNAP_GEN p) 27)

/-- Raise an event whose DETAIL is the page's STATUS (R433). -/
def emitPage (c : EvClass) (p code obj : Nat) (s : State) : State := s.emit c p code obj (statusWord s p)

/-! ### ERRINFO, IRQ_PEND, IRQ_EN -/

/-- Any write to ERRINFO clears it; STATUS.REFUSED and IRQ_RAW[30] follow (R40, R45). -/
def clearErr (p : Nat) (s : State) : Reply := accept ((s.wr (hERRINFO p) 0).raw p 30 false)

/-- A W1C write to IRQ_PEND (R40). A rise in the same cycle (`again`) wins over the clear (R58). -/
def clearPend (p : Nat) (v again : Word) (s : State) : Reply :=
  accept (s.wr (hIRQ_PEND p) ((s.rd (hIRQ_PEND p) &&& ~~~v) ||| (again &&& s.rd (hIRQ_EN p))))

/-- A write to IRQ_EN; DESIGN CHOICE: all 32 bits are stored, also those for which the page defines no condition. Every newly enabled bit whose raw condition stands sets its pending bit (R40). -/
def writeIrqEn (p : Nat) (v : Word) (s : State) : Reply :=
  let edge := v &&& ~~~(s.rd (hIRQ_EN p)) &&& s.rd (hIRQ_RAW p)
  accept ((s.wr (hIRQ_EN p) v).wr (hIRQ_PEND p) (s.rd (hIRQ_PEND p) ||| edge))

/-! ### Interrupt pins (R56) -/

/-- Has the page a header (R37)? -/
def headed (p : Nat) : Bool := match pageKind p with | some k => k.header | none => false

/-- Is block `b` active: is any IRQ_PEND bit of any of its pages set? Only a listed register can be non-zero. The records of the context
window carry no header. -/
def blockActive (s : State) (b : Nat) : Bool :=
  s.regs.any (fun e => decide (e.1 % 4096 = 0x1C) && decide (e.2 ≠ 0) && decide (blockOf (pageOf e.1) = b) && headed (pageOf e.1))

/-- HOST.IRQ_SUMMARY: bit n shows whether block n is active (R56). -/
def irqSummary (s : State) : Word :=
  word ((List.range 23).foldl (fun acc b => acc + bitN (blockActive s b) * 2 ^ b) 0)

/-- The routing entry of block `b`: bit 3 EN, bits [2:0] PIN (R56). -/
def irqEntry (s : State) (b : Nat) : Nat := s.rdF (0x20100 + 4 * (b / 8)) (4 * (b % 8) + 3) (4 * (b % 8))

/-- Is IRQ pin `n` asserted (R56)? A TANDEM follower's pins stay deasserted (R371). -/
def irqAsserted (s : State) (n : Nat) : Bool :=
  decide (twinState s ≠ 5) && (List.range 23).any (fun b => decide (irqEntry s b = 8 + n) && blockActive s b)

/-- The level of IRQ pin `n`: none while it is high-impedance: before FUSE_LOAD ends (R65), or deasserted as an open drain; else by POL
(R56). -/
def irqLevel (s : State) (n : Nat) : Option Bool :=
  if !s.bu.irqDrive then none
  else if s.rdB HostP.IRQ_CFG (8 + n) && !irqAsserted s n then none
  else some (irqAsserted s n == s.rdB HostP.IRQ_CFG n)

/-! ### Snapshots (R47-R50) -/

/-- Has the page a snapshot group? -/
def hasSnap (p : Nat) : Bool :=
  match pageKind p with
  | some k => k.snap
  | none => false

/-- Does the register at `a` belong to the snapshot group of page `p`? The CLE group also holds every context's and
every Headwind group's RO/S registers (R139). -/
def inGroup (p a : Nat) : Bool :=
  isRos a && (decide (pageOf a = p) || (decide (p = 0x081) && (decide (0x0A0 ≤ pageOf a ∧ pageOf a < 0x0C0) || decide (pageOf a = 0x082))))

/-- Is a copy in progress (NOTREADY)? -/
def copying (s : State) (p : Nat) : Bool := s.rdB (hSNAP_GEN p) 25

/-- Start an atomic copy of page `p`'s group, merging with one in progress (R48). -/
def startCopy (p : Nat) (s : State) : State :=
  if hasSnap p && !copying s p then
    let s1 := (s.wrB (hSNAP_GEN p) 24 false).wrB (hSNAP_GEN p) 25 true
    { s1 with fab := { s1.fab with takeAt := KMap.set (fun _ => 0) s1.fab.takeAt p s1.now } }
  else s

/-- A take of page `p`: with JOINT_SNAP a take of the `MEASA` telemetry group that starts a copy also takes that of `MEASB`, a copy of
`MEASB` in progress becoming part of the joint copy, at the joint boundary; one that merges into a copy of `MEASA` takes nothing more
(R102). -/
def takeSnap (p : Nat) (s : State) : State :=
  if p = 0x042 ∧ s.rdB (MeasCtl.CTRL 0) 0 ∧ !copying s p then
    let s1 := startCopy 0x052 (startCopy p s)
    { s1 with fab := { s1.fab with joint := some s1.now } }
  else startCopy p s

/-- The count in AGE: whole microseconds since the oldest value of the current snapshot was produced (R50); 0 where none of its
values counts. -/
def ageOf (s : State) (p : Nat) : Nat :=
  let t := KMap.get (fun _ => 0) s.fab.oldest p
  if s.rdF (hSNAP_GEN p) 23 0 = 0 ∨ t = 0 then 0 else min ((s.now + 1 - t) / 800) 0xFFFFFFFF

/-- DOLDRUMS of page `p` follows AGE and the limit in microseconds; IRQ_RAW[31] follows it (R40, R50). -/
def setDoldrums (p limit : Nat) (s : State) : State :=
  let d := decide (s.rdF (hSNAP_GEN p) 23 0 ≠ 0) && decide (limit < ageOf s p)
  (s.wrB (hSNAP_GEN p) 27 d).raw p 31 d

/-- The next generation number: 0xFF_FFFF is followed by 1 (R47). -/
def nextGen (g : Nat) : Nat := if g = 0xFFFFFF then 1 else g + 1

/-- A write to SNAP_CTRL (R47): with TAKE the snapshot is requested whatever the LOCK; AGE_LIMIT and AUTO change
only under an open LOCK. -/
def writeSnapCtrl (p : Nat) (v : Word) (s : State) : Reply :=
  if !hasSnap p then accept s else
  let take := bit v 0
  if !lockOpen s p then (if take then accept (takeSnap p s) else deny s .locked)
  else if paramPage p ∧ s.isl.session.isNone then (if take then accept (takeSnap p s) else deny s .keyRequired)
  else
    let s1 := touchSession p <| touchLock p (s.wr (hSNAP_CTRL p) (v &&& 0xFFFF00F0))
    let s2 := if s.rdF (hSNAP_CTRL p) 7 4 = fld v 7 4 then s1
      else { s1 with fab := { s1.fab with autoAt := KMap.set (fun _ => 0) s1.fab.autoAt p s1.engine } }
    accept (if take then takeSnap p s2 else s2)

/-- The engine tick of the next automatic snapshot of page `p` (R47). -/
def autoDue (s : State) (p : Nat) : Nat :=
  let period := 800000 * 2 ^ (s.rdF (hSNAP_CTRL p) 7 4 - 1)
  (KMap.get (fun _ => 0) s.fab.autoAt p / period + 1) * period

/-- Read SNAP_GEN for one reader: GEN and flags, with REPEAT where the reader has read this generation (R49). -/
def readSnapGen (p : Nat) (r : Reader) (s : State) : Word × State :=
  let key := p * 64 + r.num
  let g := s.rdF (hSNAP_GEN p) 23 0
  let rep := decide (KMap.get (fun _ => 0) s.fab.seen key = g + 1)
  (setBit (s.rd (hSNAP_GEN p)) 26 rep,
    if hasSnap p then { s with fab := { s.fab with seen := KMap.set (fun _ => 0) s.fab.seen key (g + 1) } } else s)

end Sys2Proof.Machine
end

