-- ==== Sys2Proof/Machine/Float.lean ====
section
/-! DEFINITION. binary32 and binary64 of IEEE 754-2019, rounding to nearest with ties to even: exact arithmetic on
integers, one rounding at the end. -/

namespace Sys2Proof.Machine

/-- A format: precision with the hidden bit, and the number of exponent bits. -/
structure Fmt where
  p : Nat
  eb : Nat
  deriving DecidableEq, Repr

/-- binary32. -/
def f32 : Fmt := ⟨24, 8⟩

/-- binary64. -/
def f64 : Fmt := ⟨53, 11⟩

/-- A datum: NaN, an infinity, or (-1)^neg * m * 2^e. -/
inductive Fp where
  | nan
  | inf (neg : Bool)
  | fin (neg : Bool) (m : Nat) (e : Int)
  deriving DecidableEq, Repr

namespace Fmt

/-- The exponent of the least subnormal. -/
def qmin (f : Fmt) : Int := 3 - (2 ^ (f.eb - 1) : Nat) - f.p

/-- The bits of a datum. -/
def unpack (f : Fmt) (b : Nat) : Fp :=
  let frac := b % 2 ^ (f.p - 1)
  let ex := b / 2 ^ (f.p - 1) % 2 ^ f.eb
  let neg := decide (b / 2 ^ (f.p - 1 + f.eb) % 2 = 1)
  if ex = 2 ^ f.eb - 1 then (if frac = 0 then .inf neg else .nan)
  else if ex = 0 then .fin neg frac f.qmin
  else .fin neg (frac + 2 ^ (f.p - 1)) (f.qmin + (ex - 1 : Nat))

/-- The sign bit's weight. -/
def signBit (f : Fmt) : Nat := 2 ^ (f.p - 1 + f.eb)

/-- Infinity's bits. -/
def infBits (f : Fmt) (neg : Bool) : Nat := bitN neg * f.signBit + (2 ^ f.eb - 1) * 2 ^ (f.p - 1)

/-- A quiet NaN; its sign and payload are open. -/
def nanOf (f : Fmt) (a b : Nat) : Nat :=
  let x := Config.nanBits a b
  bitN (decide (x % 2 = 1)) * f.signBit + (2 ^ f.eb - 1) * 2 ^ (f.p - 1) + 2 ^ (f.p - 2) + x / 2 % 2 ^ (f.p - 2)

/-- Round (-1)^neg * m * 2^e, with `sticky` for a further non-zero remainder below, to nearest, ties to even. -/
def round (f : Fmt) (neg : Bool) (m : Nat) (e : Int) (sticky : Bool) : Nat :=
  if m = 0 then bitN neg * f.signBit
  else
    let len : Int := (m.log2 : Int) + 1
    let q : Int := max (e + len - f.p) f.qmin
    let mant : Nat :=
      if q ≤ e then m * 2 ^ (e - q).toNat
      else
        let d := (q - e).toNat
        let t := m / 2 ^ d
        let r := m % 2 ^ d
        let h := 2 ^ (d - 1)
        if h < r ∨ (r = h ∧ (sticky ∨ t % 2 = 1)) then t + 1 else t
    let body : Nat :=
      if mant < 2 ^ (f.p - 1) then mant
      else ((q - f.qmin).toNat + 1) * 2 ^ (f.p - 1) + (mant - 2 ^ (f.p - 1))
    if (2 ^ f.eb - 1) * 2 ^ (f.p - 1) ≤ body then f.infBits neg else bitN neg * f.signBit + body

/-- The signed integer m at sign neg. -/
def signed (neg : Bool) (m : Nat) : Int := if neg then -(m : Int) else m

/-- a + b. -/
def add (f : Fmt) (a b : Nat) : Nat :=
  match f.unpack a, f.unpack b with
  | .nan, _ => f.nanOf a b
  | _, .nan => f.nanOf a b
  | .inf s, .inf t => if s = t then f.infBits s else f.nanOf a b
  | .inf s, .fin _ _ _ => f.infBits s
  | .fin _ _ _, .inf t => f.infBits t
  | .fin s m e, .fin t n g =>
    let q := min e g
    let z : Int := signed s (m * 2 ^ (e - q).toNat) + signed t (n * 2 ^ (g - q).toNat)
    if z = 0 then bitN (s && t) * f.signBit else f.round (decide (z < 0)) z.natAbs q false

/-- The datum with its sign turned. -/
def neg (f : Fmt) (a : Nat) : Nat := if a / f.signBit % 2 = 1 then a - f.signBit else a + f.signBit

/-- The datum with its sign cleared. -/
def abs (f : Fmt) (a : Nat) : Nat := a % f.signBit

/-- a - b. -/
def sub (f : Fmt) (a b : Nat) : Nat := f.add a (f.neg b)

/-- a * b. -/
def mul (f : Fmt) (a b : Nat) : Nat :=
  match f.unpack a, f.unpack b with
  | .nan, _ => f.nanOf a b
  | _, .nan => f.nanOf a b
  | .inf s, .inf t => f.infBits (s != t)
  | .inf s, .fin t n _ => if n = 0 then f.nanOf a b else f.infBits (s != t)
  | .fin s m _, .inf t => if m = 0 then f.nanOf a b else f.infBits (s != t)
  | .fin s m e, .fin t n g => f.round (s != t) (m * n) (e + g) false

/-- a / b. -/
def div (f : Fmt) (a b : Nat) : Nat :=
  match f.unpack a, f.unpack b with
  | .nan, _ => f.nanOf a b
  | _, .nan => f.nanOf a b
  | .inf _, .inf _ => f.nanOf a b
  | .inf s, .fin t _ _ => f.infBits (s != t)
  | .fin s _ _, .inf t => bitN (s != t) * f.signBit
  | .fin s m e, .fin t n g =>
    if n = 0 then (if m = 0 then f.nanOf a b else f.infBits (s != t))
    else
      let k := 2 * f.p + 2
      let x := m * 2 ^ k
      f.round (s != t) (x / n) (e - g - k) (decide (x % n ≠ 0))

/-- The integer square root, one bit at a time from bit `k` down. -/
def isqrt (x : Nat) : Nat → Nat → Nat
  | 0, r => if (r + 1) * (r + 1) ≤ x then r + 1 else r
  | k + 1, r => isqrt x k (if (r + 2 ^ (k + 1)) * (r + 2 ^ (k + 1)) ≤ x then r + 2 ^ (k + 1) else r)

/-- The square root. -/
def sqrt (f : Fmt) (a : Nat) : Nat :=
  match f.unpack a with
  | .nan => f.nanOf a 0
  | .inf s => if s then f.nanOf a 0 else f.infBits false
  | .fin s m e =>
    if m = 0 then a
    else if s then f.nanOf a 0
    else
      let k := 2 * f.p + (e % 2).toNat
      let x := m * 2 ^ k
      let r := isqrt x (2 * f.p) 0
      f.round false r ((e - k) / 2) (decide (r * r ≠ x))

/-- The order of two data that are not NaN: -1, 0 or 1; zeros are equal. -/
def order (f : Fmt) (a b : Nat) : Option Int :=
  match f.unpack a, f.unpack b with
  | .nan, _ => none
  | _, .nan => none
  | .inf s, .inf t => some (if s = t then 0 else if s then -1 else 1)
  | .inf s, .fin _ _ _ => some (if s then -1 else 1)
  | .fin _ _ _, .inf t => some (if t then 1 else -1)
  | .fin s m e, .fin t n g =>
    let q := min e g
    let z : Int := signed s (m * 2 ^ (e - q).toNat) - signed t (n * 2 ^ (g - q).toNat)
    some (if z < 0 then -1 else if z = 0 then 0 else 1)

/-- a < b; false where either is NaN. -/
def lt (f : Fmt) (a b : Nat) : Bool := decide (f.order a b = some (-1))

/-- a ≤ b; false where either is NaN. -/
def le (f : Fmt) (a b : Nat) : Bool := decide (f.order a b = some (-1) ∨ f.order a b = some 0)

/-- Is the datum finite? -/
def isFin (f : Fmt) (a : Nat) : Bool :=
  match f.unpack a with
  | .fin _ _ _ => true
  | _ => false

/-- An integer, rounded. -/
def ofInt (f : Fmt) (z : Int) : Nat := f.round (decide (z < 0)) z.natAbs 0 false

/-- n * 2^e, rounded. -/
def ofScaled (f : Fmt) (z : Int) (e : Int) : Nat := f.round (decide (z < 0)) z.natAbs e false

/-- The quotient n / d of two integers, rounded once (d > 0). -/
def ofRatio (f : Fmt) (z : Int) (d : Nat) : Nat :=
  let k := 2 * f.p + 2 + d.log2
  let x := z.natAbs * 2 ^ k
  f.round (decide (z < 0)) (x / d) (-(k : Int)) (decide (x % d ≠ 0))

/-- The largest integer not above the datum; 0 for NaN and infinities. -/
def floor (f : Fmt) (a : Nat) : Int :=
  match f.unpack a with
  | .fin s m e => if 0 ≤ e then signed s (m * 2 ^ e.toNat) else Int.fdiv (signed s m) (2 ^ (-e).toNat : Nat)
  | _ => 0

/-- The nearest integer, ties to even; 0 for NaN and infinities. -/
def nearest (f : Fmt) (a : Nat) : Int :=
  match f.unpack a with
  | .fin s m e =>
    if 0 ≤ e then signed s (m * 2 ^ e.toNat)
    else
      let d := (-e).toNat
      let t := m / 2 ^ d
      let r := m % 2 ^ d
      let h := 2 ^ (d - 1)
      signed s (if h < r ∨ (r = h ∧ t % 2 = 1) then t + 1 else t)
  | _ => 0

/-- A datum of one format rounded to another. -/
def convert (f g : Fmt) (a : Nat) : Nat :=
  match f.unpack a with
  | .nan => g.nanOf a 0
  | .inf s => g.infBits s
  | .fin s m e => g.round s m e false

end Fmt

/-! ### binary32 on words -/

namespace F

def add (a b : Word) : Word := word (f32.add a.toNat b.toNat)
def sub (a b : Word) : Word := word (f32.sub a.toNat b.toNat)
def mul (a b : Word) : Word := word (f32.mul a.toNat b.toNat)
def div (a b : Word) : Word := word (f32.div a.toNat b.toNat)
def sqrt (a : Word) : Word := word (f32.sqrt a.toNat)
def neg (a : Word) : Word := word (f32.neg a.toNat)
def abs (a : Word) : Word := word (f32.abs a.toNat)
def lt (a b : Word) : Bool := f32.lt a.toNat b.toNat
def le (a b : Word) : Bool := f32.le a.toNat b.toNat
def eq (a b : Word) : Bool := decide (f32.order a.toNat b.toNat = some 0)
def isFin (a : Word) : Bool := f32.isFin a.toNat
def isNan (a : Word) : Bool := decide (f32.unpack a.toNat = .nan)
def ofNat (n : Nat) : Word := word (f32.ofInt n)
def ofInt (z : Int) : Word := word (f32.ofInt z)
/-- z / d, rounded once. -/
def ratio (z : Int) (d : Nat) : Word := word (f32.ofRatio z d)
/-- The smaller; the other one where one is NaN. -/
def min (a b : Word) : Word := if isNan a then b else if isNan b then a else if le a b then a else b
/-- The larger; the other one where one is NaN. -/
def max (a b : Word) : Word := if isNan a then b else if isNan b then a else if le b a then a else b
/-- a held within [lo, hi], the upper bound applied last. -/
def clamp (a lo hi : Word) : Word :=
  let x := if lt a lo then lo else a
  if lt hi x then hi else x
/-- a * b + c with two roundings. -/
def mac (a b c : Word) : Word := add (mul a b) c
/-- The quiet NaN of the registers' reset values. -/
def qnan : Word := 0x7FC00000
def one : Word := 0x3F800000
def two : Word := 0x40000000
def half : Word := 0x3F000000
/-- Is the value above zero? -/
def pos (a : Word) : Bool := lt 0 a
/-- Is the value finite and not negative? -/
def nonneg (a : Word) : Bool := isFin a && le 0 a
/-- Is the value below zero? -/
def isNeg (a : Word) : Bool := lt a 0
/-- -1, 0 or 1 as a word. -/
def sgn (a : Word) : Word := if lt a 0 then neg one else if lt 0 a then one else 0
/-- pi, rounded to binary32. -/
def pi : Word := 0x40490FDB
def twoPi : Word := 0x40C90FDB

end F

/-! ### binary64 on double words -/

namespace D

def add (a b : Word64) : Word64 := BitVec.ofNat 64 (f64.add a.toNat b.toNat)
def sub (a b : Word64) : Word64 := BitVec.ofNat 64 (f64.sub a.toNat b.toNat)
def mul (a b : Word64) : Word64 := BitVec.ofNat 64 (f64.mul a.toNat b.toNat)
def div (a b : Word64) : Word64 := BitVec.ofNat 64 (f64.div a.toNat b.toNat)
def neg (a : Word64) : Word64 := BitVec.ofNat 64 (f64.neg a.toNat)
def abs (a : Word64) : Word64 := BitVec.ofNat 64 (f64.abs a.toNat)
def lt (a b : Word64) : Bool := f64.lt a.toNat b.toNat
def le (a b : Word64) : Bool := f64.le a.toNat b.toNat
def isFin (a : Word64) : Bool := f64.isFin a.toNat
/-- The binary32 word as binary64, exact. -/
def of32 (a : Word) : Word64 := BitVec.ofNat 64 (f32.convert f64 a.toNat)
/-- Rounded to binary32. -/
def to32 (a : Word64) : Word := word (f64.convert f32 a.toNat)
/-- Low and high words of a double word. -/
def lo (a : Word64) : Word := word a.toNat
def hi (a : Word64) : Word := word (a.toNat / 2 ^ 32)
/-- The double word of its two words. -/
def mk (l h : Word) : Word64 := BitVec.ofNat 64 (h.toNat * 2 ^ 32 + l.toNat)

end D

end Sys2Proof.Machine
end

