-- ==== Sys2Proof/Machine/Operands.lean ====
section
/-! DEFINITION. What a selector can name and what it reads: the source numbers of R80, R117, R163, R192, R343, R279
and R308, the fields of a context record (R119, R120), and which channels are in use (R94). -/

namespace Sys2Proof.Machine

/-! ### Context records -/

/-- The state of context `n` (R120): 0 IDLE, 1 OPEN, 2 CLOSING, 3 CLOSED, 4 HELD, 5 FAULT. -/
def ctxState (s : State) (n : Nat) : Nat := s.rdF (Ctx.STATE n) 2 0

/-- CLOSING, CLOSED or HELD: the context drives its output (R123). -/
def ctxLive (s : State) (n : Nat) : Bool := decide (2 ≤ ctxState s n ∧ ctxState s n ≤ 4)

/-- The law code of context `n`. -/
def ctxLaw (s : State) (n : Nat) : Nat := s.rdF (Ctx.LAW_CFG n) 3 0

/-- Codes 0x4-0x6 are the FAST laws (R114). -/
def lawFast (l : Nat) : Bool := decide (4 ≤ l ∧ l ≤ 6)

/-- Is context `n` of class FAST? -/
def ctxFast (s : State) (n : Nat) : Bool := lawFast (ctxLaw s n)

/-- The timebase that releases a FAST context. -/
def ctxTb (s : State) (n : Nat) : Nat := s.rdF (Ctx.LAW_CFG n) 10 8

/-- `PERIOD` in CLK_CLE cycles. -/
def ctxPeriod (s : State) (n : Nat) : Nat := s.rdF (Ctx.PERIOD n) 20 0

/-- The word that holds source `k` (0-5), or the set-point sources (6 SP_Q, 7 SP_D). -/
def srcWord (s : State) (n k : Nat) : Word :=
  match k / 2 with
  | 0 => s.rd (Ctx.SRC01 n)
  | 1 => s.rd (Ctx.SRC23 n)
  | 2 => s.rd (Ctx.SRC45 n)
  | _ => s.rd (Ctx.SPSRC n)

/-- The source number in selector `k` of context `n`, where it is enabled. -/
def ctxSrc (s : State) (n k : Nat) : Option Nat :=
  let w := srcWord s n k
  if k % 2 = 0 then (if bit w 15 then some (fld w 11 0) else none)
  else (if bit w 31 then some (fld w 27 16) else none)

/-- Every source number an enabled selector of context `n` holds. -/
def ctxSources (s : State) (n : Nat) : List Nat := (List.range 8).filterMap (ctxSrc s n)

/-- The contexts that are not IDLE. Only a listed STATE register can be non-zero. -/
def busyCtxs (s : State) : List Nat :=
  s.regs.filterMap (fun e =>
    if 0x0A0000 ≤ e.1 ∧ e.1 < 0x0C0000 ∧ e.1 % 256 = 0xA0 ∧ fld e.2 2 0 ≠ 0 then some ((e.1 - 0x0A0000) / 256) else none)

/-- The selectors a law needs valid and fresh on every run (R114). The ramp reads SRC0 on its first run only. -/
def lawRequired (l : Nat) : List Nat :=
  if l = 4 ∨ l = 5 then [0, 1, 2, 3, 4]
  else if l = 6 then [0, 1, 2, 3, 4, 5]
  else if l = 7 then [0, 1]
  else if l = 0xA ∨ l = 0 then []
  else [0]

/-! ### Machines, timebases, profile channels -/

/-- The state of machine `m` (R176); 0 is OFF. -/
def machState (s : State) (m : Nat) : Nat := s.rdF (Foc.MSTATE m) 3 0

/-- The timebase of machine `m`. -/
def machTb (s : State) (m : Nat) : Nat := s.rdF (Foc.CFG m) 6 4

/-- Is timebase `t` running? -/
def tbRun (s : State) (t : Nat) : Bool := s.rdB (Tb.TB_STAT t) 0

/-- The state of profile channel `ch` (R202); 0 is OFF. -/
def profState (s : State) (ch : Nat) : Nat := s.rdF (Prof.PSTATE ch) 2 0

/-! ### Source numbers -/

/-- Is measurement channel `c` of chain `x` enabled? -/
def chanEn (s : State) (x c : Nat) : Bool := s.rdB (MeasCh.CH_CFG x c) 0

/-- Is Crosswind pair `k` enabled? -/
def pairEn (s : State) (k : Nat) : Bool := s.rdB (Xw.CW_PAIR k) 16

/-- May a selector hold source number `n`? The refusal the selecting block gives (R80, R94, R117). -/
def srcSelect (s : State) (n : Nat) : RefCode :=
  if n < 0x40 then
    (if 28 ≤ n % 32 then .outOfRange else if chanEn s (n / 32) (n % 32) then .none else .notInState)
  else if n < 0x5C then (if pairEn s (n - 0x40) then .none else .notInState)
  else if n < 0x100 then .outOfRange
  else if n < 0x340 then .none
  else if n < 0x400 then .outOfRange
  else if n < 0x480 then (if n % 32 ≤ 14 then .none else .outOfRange)
  else if n < 0x500 then (if n < 0x4C0 ∧ n % 16 ≤ 1 then .none else .outOfRange)
  else if n < 0x600 then (if n < 0x540 ∧ n % 16 ≤ 5 then .none else .outOfRange)
  else if n < 0x700 then (if n ≤ 0x603 then .none else .outOfRange)
  else if n < 0x800 then (if n ≤ 0x701 then .none else .outOfRange)
  else if n < 0x900 then (if n ≤ 0x805 then .none else .outOfRange)
  else .outOfRange

/-- The stored value of source number `n`. -/
def srcStored (s : State) (n : Nat) : SrcVal := KMap.get (fun _ => {}) s.srcs n

/-- The value last written to destination number `n`. -/
def inputOf (s : State) (n : Nat) : InVal := KMap.get (fun _ => {}) s.inputs n

/-- Is a Headwind group active: is its slot-0 member CLOSING, CLOSED or HELD (R132)? -/
def hwActive (s : State) (g : Nat) : Bool := s.rdB (Hw.HW_STAT g) 0

/-- What a selector that holds source number `n` reads now: the stored value, valid while the source's own rule
holds (R94, R117, R163, R192, R279, R308, R343). -/
def srcNow (s : State) (n : Nat) : SrcVal :=
  let v := srcStored s n
  if n < 0x40 then { v with valid := v.valid && chanEn s (n / 32) (n % 32) }
  else if n < 0x100 then { v with valid := v.valid && pairEn s (n - 0x40) }
  else if n < 0x300 then { v with valid := ctxLive s (n - 0x100) }
  else if n < 0x400 then { v with valid := hwActive s (n - 0x300) }
  else if n < 0x480 then
    let m := (n - 0x400) / 32
    let k := n % 32
    let st := machState s m
    let set := decide (k = 3 ∨ k = 4 ∨ k = 6 ∨ k = 7)
    let drives := decide (4 ≤ st ∧ st ≤ 7) || (decide (st = 3) && decide (s.rdF (Foc.CFG m) 1 0 = 1))
    { v with
      value := if set && !drives then 0 else v.value
      valid := tbRun s (machTb s m) && decide (st ≠ 0) && (decide (k < 5 ∨ 7 < k) || s.rdB (Foc.CFG m) 2) }
  else if n < 0x500 then
    let m := (n - 0x480) / 16
    { v with value := (inputOf s n).value, valid := tbRun s (machTb s m) && decide (machState s m ≠ 0) }
  else if n < 0x600 then
    { v with value := if v.deliv < s.now then v.value else v.old, valid := decide (profState s ((n - 0x500) / 16) ≠ 0) }
  else if n < 0x700 then { v with valid := s.rdB Bup.READY 4 && decide (v.count ≠ 0) && decide (s.now ≤ v.deliv + 3276800) }
  else if n = 0x700 then { v with valid := v.valid && decide (s.now < v.at_ + 80000) }
  else if n < 0x800 then { v with value := s.rd Prot.OV2, valid := s.rdB Prot.CTRL 0 }
  else v

/-- Deliver a value to source number `n` (valid or not), now. -/
def setSrc (n : Nat) (v : Word) (ok : Bool) (s : State) : State :=
  let o := srcStored s n
  let w : SrcVal := { o with value := v, valid := ok, count := o.count + 1, at_ := s.now, deliv := s.now, old := o.value }
  { s with srcs := KMap.set (fun _ => {}) s.srcs n w }

/-- Deliver a measured value of a trigger's set to source number `n` (R83, R95). -/
def setSmp (n : Nat) (v : Word) (ok : Bool) (seq at_ : Nat) (s : State) : State :=
  let o := srcStored s n
  let w : SrcVal :=
    { value := v, valid := ok, count := o.count + 1, at_ := at_, seq := seq, handed := false, deliv := s.now }
  { s with srcs := KMap.set (fun _ => {}) s.srcs n w }

/-- Write a value to destination number `n` (R164, R192). A write of a machine's input 0 clears TQ_STALE (R166). -/
def putInput (n : Nat) (v : Word) (s : State) : State :=
  let s1 : State := { s with inputs := KMap.set (fun _ => {}) s.inputs n { value := v, written := true, at_ := s.now } }
  if 0x480 ≤ n ∧ n < 0x4C0 ∧ n % 16 = 0 then s1.wrB (Foc.MSTATE ((n - 0x480) / 16)) 25 false else s1

/-- Does source number `n` name channel `c` of chain `x`, directly or through a Crosswind pair? -/
def srcUses (s : State) (x c n : Nat) : Bool :=
  decide (n = 32 * x + c) ||
    (decide (0x40 ≤ n ∧ n < 0x5C) &&
      decide ((if x = 0 then s.rdF (Xw.CW_PAIR (n - 0x40)) 4 0 else s.rdF (Xw.CW_PAIR (n - 0x40)) 12 8) = c))

/-- The source numbers of the observer of machine `m` (R165): SRC0-SRC2 and SRC4 of its current contexts, and the
phase-voltage channels. -/
def observerSources (s : State) (m : Nat) : List Nat :=
  let c1 := s.rdF (Foc.CUR_CTX m) 8 0
  let c2 := s.rdF (Foc.CUR_CTX m) 24 16
  let one (n : Nat) : List Nat := [0, 1, 2, 4].filterMap (ctxSrc s n)
  let va := s.rd (Foc.VSRC_AB m)
  let vc := s.rd (Foc.VSRC_C m)
  one c1 ++ (if s.rdB (Foc.CFG m) 2 then one c2 else []) ++ (if bit va 15 then [fld va 11 0] else [])
    ++ (if bit va 31 then [fld va 27 16] else []) ++ (if bit vc 15 then [fld vc 11 0] else [])

/-- Does the observer of some machine with a running timebase use a source that satisfies `p` (R94)? -/
def observerUses (s : State) (p : Nat → Bool) : Bool :=
  (List.range 4).any (fun m => decide (machState s m ≠ 0) && tbRun s (machTb s m) && (observerSources s m).any p)

/-- `CH_STATUS`.IN_USE (R94): a source, directly or through a pair, of a live context or of a running observer. -/
def inUse (s : State) (x c : Nat) : Bool :=
  (busyCtxs s).any (fun n => ctxLive s n && (ctxSources s n).any (srcUses s x c)) || observerUses s (srcUses s x c)

/-- Is Crosswind pair `k`'s paired value a source of a live context or of a running observer (R99)? -/
def pairInUse (s : State) (k : Nat) : Bool :=
  (busyCtxs s).any (fun n => ctxLive s n && (ctxSources s n).any (fun x => decide (x = 0x40 + k)))
    || observerUses s (fun x => decide (x = 0x40 + k))

/-- Is any channel of chain `x` in `l` in use? -/
def anyInUse (s : State) (x : Nat) (l : List Nat) : Bool := l.any (inUse s x)

end Sys2Proof.Machine
end

