-- ==== Sys2Proof/Machine/Flags.lean ====
section
/-! DEFINITION. The status bits and interrupt conditions the blocks share: `BUP.READY` (R78), and the levels that
follow "any channel", "any pair", "any context". Also the forms in which a command's meaning answers. -/

namespace Sys2Proof.Machine

/-- A command that ends in the next state. -/
abbrev Out := Host.Outcome State Fault Refusal

/-- The next state of a register operation: the reply's state, whatever its code. -/
def replied (r : Reply) : Out := .next r.1

/-- An event that happens only while `cond` holds; else there is no such event and nothing changes. -/
def when' (cond : Bool) (f : State → State) (s : State) : State := if cond then f s else s

/-- Put bit `i` of `BUP.READY` (R78). -/
def setReady (i : Nat) (b : Bool) (s : State) : State := s.wrB Bup.READY i b

/-- `BUP.READY`.REF_A or REF_B: every enabled channel of chain `x` has REF_SETTLED; 1 while none is enabled (R88). -/
def refAllSettled (s : State) (x : Nat) : Bool :=
  (List.range 28).all (fun c => !chanEn s x c || s.rdB (MeasCh.CH_STATUS x c) 0)

/-- REF_A or REF_B follows its condition. -/
def updRef (x : Nat) (s : State) : State := setReady (2 + x) (refAllSettled s x) s

/-- The hidden state of channel `c` of chain `x`. -/
def chanOf (s : State) (x c : Nat) : ChanState := KMap.get (fun _ => {}) s.meas.chans (28 * x + c)

/-- Does channel `c` of chain `x` select an external reference that is out of range? REF 1 is REFA, 2 REFB. -/
def refLost (s : State) (x c : Nat) : Bool := s.meas.refBad.any (fun r => decide (s.rdF (MeasCh.CH_CFG x c) 2 1 = r))

/-- Is REF_SETTLED of channel `c` cleared under R88: from the round that finds its reference outside the range until it sets again? -/
def refCleared (s : State) (x c : Nat) : Bool :=
  let h := chanOf s x c
  refLost s x c || (h.settle.isSome && h.settleExact)

/-- `IRQ_RAW` OPEN_WIRE, SD_STUCK and REF_LOST of chain `x` follow any channel's condition (R103). -/
def measLevels (x : Nat) (s : State) : State :=
  let any (i : Nat) : Bool := (List.range 28).any (fun c => s.rdB (MeasCh.CH_STATUS x c) i)
  let lost := (List.range 16).any (refCleared s x)
  ((s.raw (MeasCtl.page x) 2 (any 1)).raw (MeasCtl.page x) 3 (any 2)).raw (MeasCtl.page x) 4 lost

/-- `IRQ_RAW` DISAGREE and REACTED of Crosswind follow any pair's bit (R107). -/
def xwLevels (s : State) : State :=
  let any (i : Nat) : Bool := (List.range 28).any (fun k => s.rdB (Xw.CW_STAT k) i)
  (s.raw Xw.page 0 (any 0)).raw Xw.page 1 (any 1)

/-- Is any context in a state or with a cause that satisfies `p`? -/
def anyCtx (s : State) (p : Word → Bool) : Bool := (busyCtxs s).any (fun n => p (s.rd (Ctx.STATE n)))

/-- `CLE.IRQ_RAW` HELD, FAULT, FB_LOST, FROZEN and CFG follow the contexts; IN_USE and FAST_USE are read live (R138). -/
def cleLevels (s : State) : State :=
  let s1 := s.raw Cle.page 0 (anyCtx s (fun w => decide (fld w 2 0 = 4)))
  let s2 := s1.raw Cle.page 1 (anyCtx s (fun w => decide (fld w 2 0 = 5)))
  let s3 := s2.raw Cle.page 2 (anyCtx s (fun w => bit w 9))
  let s4 := s3.raw Cle.page 3 (anyCtx s (fun w => bit w 10))
  s4.raw Cle.page 5 (anyCtx s (fun w => bit w 11))

end Sys2Proof.Machine
end

