-- ==== Sys2Proof/Machine/Meas.lean ====
section
/-! DEFINITION. The redundant measurement chains (R80-R108): the common trigger, conversions, references and open
wires, calibration, correction, and the writes of the chain, channel and Crosswind pages. -/

namespace Sys2Proof.Machine

/-! ### Helpers -/

/-- Put the hidden state of channel `c` of chain `x`. -/
def putChan (x c : Nat) (h : ChanState) (s : State) : State :=
  { s with meas := { s.meas with chans := KMap.set (fun _ => {}) s.meas.chans (28 * x + c) h } }

/-- The hidden state of Crosswind pair `k`. -/
def pairOf (s : State) (k : Nat) : PairState := KMap.get (fun _ => {}) s.meas.pairs k

/-- Put the hidden state of pair `k`. -/
def putPair (k : Nat) (h : PairState) (s : State) : State :=
  { s with meas := { s.meas with pairs := KMap.set (fun _ => {}) s.meas.pairs k h } }

/-- Is chain `x` calibrating? -/
def calibrating (s : State) (x : Nat) : Bool := decide (s.rdF (MeasCtl.CAL_STATUS x) 1 0 = 1)

/-- The division of CLK_ADC that a DIV field selects (R104). -/
def sdDiv (d : Nat) : Nat := [4, 5, 8, 10, 16].getD d 16

/-- The decimation an OSR field selects (R105). -/
def sdN (o : Nat) : Nat := 16 * 2 ^ o

/-- The filter delay D of decimation `n` in CLK_CLE cycles at modulator divider `d`: (1.5 N + 2) modulator periods (R85). -/
def sdDelay (n d : Nat) : Nat := (3 * n / 2 + 2) * (10 * d)

/-- z / d rounded to the nearest integer, ties to even (d > 0). -/
def divEven (z : Int) (d : Nat) : Int :=
  let q := Int.fdiv z d
  let r := 2 * (z - q * d)
  if r > d ∨ (r = d ∧ q % 2 ≠ 0) then q + 1 else q

/-- `z` held within [lo, hi]. -/
def clampI (lo hi z : Int) : Int := max lo (min hi z)

/-- A signed value of the low `n` bits of a word. -/
def signedOf (n v : Nat) : Int := if v % 2 ^ n < 2 ^ (n - 1) then (v % 2 ^ n : Nat) else (v % 2 ^ n : Nat) - (2 ^ n : Nat)

/-! ### The common trigger (R82, R83) -/

/-- Gains written at least one cycle before the trigger take effect with their offsets, in the order written. PEND of their channels
then stays only for an offset not yet in force: one written since, or one that a waiting gain carries (R93). -/
def applyGains (s : State) : State :=
  let go := s.meas.gains.filter (fun g => decide (g.at_ < s.now))
  let wait := s.meas.gains.filter (fun g => !decide (g.at_ < s.now))
  let s1 := go.foldl (fun t g =>
    let x := g.chan / 28
    let c := g.chan % 28
    let left := (chanOf t x c).ofsNew || wait.any (fun p => decide (p.chan = g.chan) && p.pend)
    ((t.wrA (MeasCh.CH_OFS x c) g.ofs).wrA (MeasCh.CH_GAIN x c) g.gain).wrB (MeasCh.CH_STATUS x c) 5
      (t.rdB (MeasCh.CH_STATUS x c) 5 && left)) s
  { s1 with meas := { s1.meas with gains := wait } }

/-- The stored factors of converter `c` of chain `x`, once a calibration has completed (R90). -/
def convFactors (s : State) (x c : Nat) : Option (Word × Word) :=
  if c < 16 ∧ s.meas.factored.contains x then some (s.rd (MeasCh.CONV_OFS x c), s.rd (MeasCh.CONV_GAIN x c)) else none

/-- The conversion of channel `c` of chain `x` that this trigger begins. -/
def convTag (s : State) (seq x c : Nat) : ConvTag :=
  let n := sdN (s.rdF (MeasCh.CH_CFG x c) 10 8)
  { chan := 28 * x + c, seq := seq, at_ := s.now, ofs := s.rdA (MeasCh.CH_OFS x c), gain := s.rdA (MeasCh.CH_GAIN x c)
    cal := calibrating s x
    factors := convFactors s x c
    n := if c < 16 then 0 else n
    due := s.now + (if c < 16 then 160 else sdDelay n (sdDiv (s.rdF (MeasCtl.SDCLK_CFG x) 2 0))) }

/-- The conversions this trigger begins on the enabled channels of both chains among `chans`: SAR holds (R81) or sigma-delta outputs
tagged (R85). -/
def tagsNow (s : State) (seq : Nat) (chans : List Nat) : List ConvTag :=
  (List.range 2).flatMap (fun x => (chans.filter (chanEn s x)).map (convTag s seq x))

/-- A trigger less than 200 ns after the previous one receives the previous set (R83). -/
def triggerCollides (s : State) : Bool :=
  match s.meas.lastTrig with
  | some t => decide (s.now < t + 160)
  | none => false

/-- The common trigger from source `tb` (0-7 a timebase, 0xF software); `checking` while a check conversion is under way
(R423). -/
def commonTrigger (tb : Nat) (checking : Bool) (s : State) : State :=
  if triggerCollides s || checking then
    let s1 := (s.incSat (MeasCtl.TRIG_SEQ 0) 31 24).pulse (MeasCtl.page 0) 5
    { s1 with meas := { s1.meas with handed := true } }
  else
    let seq := (s.rdF (MeasCtl.TRIG_SEQ 0) 15 0 + 1) % 65536
    let s1 := applyGains ((s.wrF (MeasCtl.TRIG_SEQ 0) 15 0 seq).wrF (MeasCtl.TRIG_SEQ 0) 19 16 tb)
    { s1 with meas := { s1.meas with
        lastTrig := some s1.now
        converting := true
        handed := false
        sarTags := tagsNow s1 seq (List.range 16)
        sdTags := s1.meas.sdTags ++ tagsNow s1 seq ((List.range 12).map (16 + ·)) } }

/-- A write of TRIG_SW.FIRE (R82); without SW_EN it fires nothing. -/
def trigSwWrite (checking : Bool) (v : Word) (s : State) : Reply :=
  accept (if bit v 0 && s.rdB (MeasCtl.TRIG_CFG 0) 16 then commonTrigger 0xF checking s else s)

/-! ### Conversions -/

/-- The SAR conversions end 200 ns after the hold (R81): `levels` are the 32 inputs, chain A first, in 1/65 536 of
each channel's reference, rounded down. -/
def sarDone (levels : List Int) (s : State) : State :=
  match s.meas.lastTrig with
  | none => s
  | some t =>
    if !s.meas.converting then s else
    let s1 := s.reach (t + 160)
    let codes := s.meas.sarTags.map (fun g => (g, clampI 0 65535 (levels.getD (16 * (g.chan / 28) + g.chan % 28) 0)))
    { s1 with meas := { s1.meas with
        converting := false
        sarTags := []
        ready := s1.meas.ready ++ [{ seq := s.rdF (MeasCtl.TRIG_SEQ 0) 15 0, at_ := t, doneAt := t + 160, codes := codes }] } }

/-- The normalised code of a window whose weighted sum of ones is `ones`, of decimation `n` (R85). -/
def sdCode (n ones : Nat) : Int :=
  clampI (-32768) 32767 (divEven ((2 * (ones : Int) - (n ^ 3 : Nat)) * 32768) (n ^ 3))

/-- `xs` through a boxcar filter of length `n`. -/
def boxcar (n : Nat) (xs : List Nat) : List Nat :=
  (List.range (xs.length + n - 1)).map (fun k => ((xs.drop (k + 1 - n)).take (min (k + 1) n)).sum)

/-- The sinc3 weights of a window of 3N bits: the 3N - 2 coefficients of three cascaded boxcars of length N. DEDUCED: as the window is
centred on the trigger, its first and its last bit weigh 0 (R85). -/
def sdWeights (n : Nat) : List Nat := [0] ++ boxcar n (boxcar n (boxcar n [1])) ++ [0]

/-- The weighted sum of the ones of a window (R85). -/
def sdSum (n : Nat) (bits : List Bool) : Nat := ((sdWeights n).zip bits).foldl (fun t e => if e.2 then t + e.1 else t) 0

/-- The sigma-delta output of channel `c` of chain `x` for its oldest tag is released D after the trigger (R85): `bits` are the window's
3N modulator bits, the oldest first. -/
def sdRelease (x c : Nat) (bits : List Bool) (s : State) : State :=
  match s.meas.sdTags.find? (fun g => decide (g.chan = 28 * x + c)) with
  | none => s
  | some g =>
    let s1 := s.reach g.due
    let item : ReadyItem := { seq := g.seq, at_ := g.at_, doneAt := g.due, codes := [(g, sdCode g.n (sdSum g.n bits))] }
    { s1 with meas := { s1.meas with sdTags := s1.meas.sdTags.erase g, ready := s1.meas.ready ++ [item] } }

/-! ### Correction and validity -/

/-- A code with stored factors (R90). DESIGN CHOICE: how they enter is free; the code keeps its range. -/
def withFactors (factors : Option (Word × Word)) (code : Int) : Int :=
  match factors with
  | some f => clampI 0 65535 (Config.convCode f.1 f.2 code)
  | none => code

/-- The code with the factors in force at its trigger (R90). -/
def factored (g : ConvTag) (code : Int) : Int := withFactors g.factors code

/-- (code - CH_OFS) * CH_GAIN in binary32; CH_OFS has 4 fractional bits (R92). -/
def correct (code : Int) (ofs gain : Word) : Word :=
  F.mul (F.sub (F.ofInt code) (F.ratio (signedOf 24 ofs.toNat) 16)) gain

/-- One step of the open-wire count of a SAR channel on a code (R89): the new hidden state, OPEN_WIRE, and whether
the count leaves the sample valid. -/
def openWireStep (pull code : Nat) (ow : Bool) (h : ChanState) : ChanState × Bool × Bool :=
  let outside := if pull = 1 ∨ pull = 2 then decide (65280 ≤ code) else if pull = 3 ∨ pull = 4 then decide (code ≤ 255) else false
  if pull = 0 then (h, ow, !ow)
  else if ow then
    (if outside then ({ h with owIn := 0 }, true, false)
     else if h.owIn = 7 then ({ h with owIn := 0, owOut := 0 }, false, true)
     else ({ h with owIn := h.owIn + 1 }, true, false))
  else
    (if outside then (if h.owOut = 7 then ({ h with owOut := 0, owIn := 0 }, true, false)
                  else ({ h with owOut := h.owOut + 1 }, false, true))
     else ({ h with owOut := 0 }, false, true))

/-- The window of chain `x`'s telemetry takes in one sample of channel `c` (R100). -/
def takeSample (x c : Nat) (v : Word) (ok : Bool) (at_ : Nat) (s : State) : State :=
  if ok then
    let sum := D.add (D.mk (s.rdL (MeasTel.SUM_LO x c)) (s.rdL (MeasTel.SUM_HI x c))) (D.of32 v)
    let s1 := ((s.wrL (MeasTel.SUM_LO x c) (D.lo sum)).wrL (MeasTel.SUM_HI x c) (D.hi sum)).incL (MeasTel.COUNT x c)
    let s2 := (s1.wrL (MeasTel.MIN x c) (F.min (s1.rdL (MeasTel.MIN x c)) v)).wrL (MeasTel.MAX x c) (F.max (s1.rdL (MeasTel.MAX x c)) v)
    { s2 with fab := { s2.fab with stamp := KMap.set (fun _ => 0) s2.fab.stamp (MeasTel.SUM_LO x c) at_ } }
  else s.incL (MeasTel.INVALID x c)

/-- The telemetry page of chain `x`. -/
def telPage (x : Nat) : Nat := 0x042 + 0x10 * x

/-- The boundary of the copy of chain `x`'s telemetry in progress: sets of later triggers belong to the next window (R100, R102). -/
def telBoundary (s : State) (x : Nat) : Option Nat :=
  if copying s (telPage x) then some (s.fab.joint.getD (KMap.get (fun _ => 0) s.fab.takeAt (telPage x))) else none

/-- Telemetry takes in one sample of channel `c` of chain `x`; one of a set after the boundary of a copy in progress waits for the copy, so
that every set lies in one window (R100). -/
def telemetry (x c : Nat) (v : Word) (ok : Bool) (at_ : Nat) (s : State) : State :=
  match telBoundary s x with
  | some b =>
    if b < at_ then { s with meas := { s.meas with late := s.meas.late ++ [{ chan := 28 * x + c, value := v, valid := ok, at_ := at_ }] } }
    else takeSample x c v ok at_ s
  | none => takeSample x c v ok at_ s

/-- Chain `x`'s window takes in the waiting samples of sets up to instant `b`, all of them for none. -/
def takeLate (x : Nat) (b : Option Nat) (s : State) : State :=
  let now' (l : LateSample) : Bool := decide (l.chan / 28 = x) && (match b with | some t => decide (l.at_ ≤ t) | none => true)
  let s1 : State := { s with meas := { s.meas with late := s.meas.late.filter (fun l => !now' l) } }
  (s.meas.late.filter now').foldl (fun t l => takeSample x (l.chan % 28) l.value l.valid l.at_ t) s1

/-- Is a set of a trigger up to instant `b` still being accumulated in chain `x`: has one of its conversions not been released? -/
def setOpen (s : State) (x b : Nat) : Bool :=
  let of (g : ConvTag) : Bool := decide (g.chan / 28 = x ∧ g.at_ ≤ b)
  s.meas.sarTags.any of || s.meas.sdTags.any of || s.meas.ready.any (fun it => it.codes.any (fun e => of e.1))

/-- Correct one code and deliver the sample to its consumers: open wire, validity, VALID, source value, telemetry
(R89-R92, R95, R100). -/
def releaseCode (g : ConvTag) (code : Int) (s : State) : State × (Nat × Smp) :=
  let x := g.chan / 28
  let c := g.chan % 28
  let v := correct (factored g code) g.ofs g.gain
  let st := s.rd (MeasCh.CH_STATUS x c)
  let step := if c < 16 then openWireStep (s.rdF (MeasCh.CH_CFG x c) 6 4) code.toNat (bit st 1) (chanOf s x c)
    else (chanOf s x c, bit st 1, true)
  let cal := g.cal || calibrating s x
  let ok := !cal && bit st 0 && step.2.2 && !bit st 2 && F.isFin v
  let s1 := (putChan x c step.1 s).wr (MeasCh.CH_STATUS x c) (setBit (setBit st 1 step.2.1) 3 ok)
  let s2 := telemetry x c v ok g.at_ (setSmp (32 * x + c) v ok g.seq g.at_ (measLevels x s1))
  (s2, (g.chan, { seq := g.seq, at_ := g.at_, value := v, valid := ok, cal := cal }))

/-- Correct and deliver every code of one conversion item; the samples feed the Crosswind comparison. A channel that is not enabled
delivers none (R94). -/
def releaseItem (it : ReadyItem) (s : State) : State × List (Nat × Smp) :=
  (it.codes.filter (fun e => chanEn s (e.1.chan / 28) (e.1.chan % 28))).foldl (fun acc e =>
    let r := releaseCode e.1 e.2 acc.1
    (r.1, acc.2 ++ [r.2])) (s, [])

/-- A disabled channel delivers no sample: its conversions under way are dropped (R94). -/
def dropConvs (x c : Nat) (s : State) : State :=
  let other (g : ConvTag) : Bool := decide (g.chan ≠ 28 * x + c)
  { s with meas := { s.meas with
      sarTags := s.meas.sarTags.filter other
      sdTags := s.meas.sdTags.filter other
      ready := s.meas.ready.map (fun it => { it with codes := it.codes.filter (fun e => other e.1) }) } }

/-! ### Sigma-delta pins (R86) -/

/-- A data pin held one level for 64 modulator clocks: STUCK. -/
def sdStuckSet (x c : Nat) (s : State) : State :=
  if chanEn s x c ∧ 16 ≤ c then measLevels x (s.wrB (MeasCh.CH_STATUS x c) 2 true) else s

/-- The pin has changed in 16 consecutive spans of 64 clocks: STUCK clears; not while the clock is stopped. -/
def sdStuckClear (x c : Nat) (s : State) : State :=
  if s.rdB (MeasCh.CH_STATUS x c) 2 ∧ s.rdB (MeasCtl.SDCLK_CFG x) 8 then
    measLevels x (s.wrB (MeasCh.CH_STATUS x c) 2 false) else s

/-- With SDCLK_CFG.EN at 0 every enabled sigma-delta channel of the chain is STUCK. -/
def sdClockStopped (x : Nat) (s : State) : State :=
  measLevels x ((List.range 12).foldl (fun t i => if chanEn t x (16 + i) then t.wrB (MeasCh.CH_STATUS x (16 + i)) 2 true else t) s)

/-! ### References (R87, R88) -/

/-- Start settling channel `c` of chain `x`: REF_SETTLED clears. -/
def startSettle (x c : Nat) (exact : Bool) (s : State) : State :=
  let h := { chanOf s x c with settle := some s.now, settleExact := exact }
  updRef x ((putChan x c h s).wrB (MeasCh.CH_STATUS x c) 0 false)

/-- REF_SETTLED sets: within 2 ms of enabling or a REF change, or 2 ms after the reference's return. -/
def refSettled (x c dt : Nat) (s : State) : State :=
  let h := chanOf s x c
  match h.settle with
  | none => s
  | some t =>
    if refLost s x c then s else
    let due := if h.settleExact then t + 1600000 else min (s.now + dt) (t + 1600000)
    let s1 := s.reach due
    measLevels x (updRef x ((putChan x c { h with settle := none } s1).wrB (MeasCh.CH_STATUS x c) 0 true))

/-- The end of a Breeze round that found the references in `bad` (1 REFA, 2 REFB) outside 2.4 V-4.6 V (R88). -/
def refRound (bad : List Nat) (s : State) : State :=
  let old := s.meas.refBad
  let s1 := { s with meas := { s.meas with refBad := bad } }
  (List.range 2).foldl (fun t x =>
    measLevels x ((List.range 16).foldl (fun u c =>
      if refLost u x c then updRef x (u.wrB (MeasCh.CH_STATUS x c) 0 false)
      else if old.any (fun r => decide (u.rdF (MeasCh.CH_CFG x c) 2 1 = r)) then startSettle x c true u
      else u) t)) s1

/-! ### Channel writes -/

/-- Is channel `c` of chain `x` a side of an enabled pair? -/
def pairSide (s : State) (x c : Nat) : Bool :=
  (List.range 28).any (fun k => pairEn s k && srcUses s x c (0x40 + k))

/-- The range checks of a CH_CFG value (R84, R104, R105). -/
def chCfgRange (s : State) (x c : Nat) (v : Word) : Bool :=
  if c < 16 then decide (fld v 6 4 ≤ 4) && decide (fld v 10 8 = 0) && decide (fld v 15 12 = 0)
  else decide (fld v 2 1 = 0) && decide (fld v 6 4 = 0) && decide (fld v 10 8 ≤ 4)
    && decide (fld v 15 12 + 1 ≤ sdDiv (s.rdF (MeasCtl.SDCLK_CFG x) 2 0))

/-- A write of CH_CFG (R87, R93, R105). -/
def chCfgWrite (x c : Nat) (v : Word) (s : State) : Reply :=
  let old := s.rd (MeasCh.CH_CFG x c)
  if inUse s x c then deny s .notInState
  else if bit old 0 && !bit v 0 && pairSide s x c then deny s .notInState
  else if !chCfgRange s x c v then deny s .outOfRange
  else
    let s1 := s.wr (MeasCh.CH_CFG x c) (v &&& 0x0000F777)
    let h := chanOf s1 x c
    let s2 := if fld old 6 4 = fld v 6 4 then s1 else putChan x c { h with owOut := 0, owIn := 0 } s1
    let turnedOn := bit v 0 && !bit old 0
    let s3 := if turnedOn then s2.stampNow (MeasTel.SUM_LO x c) else s2
    let s4 :=
      if c < 16 then
        (if turnedOn || decide (fld old 2 1 ≠ fld v 2 1) then startSettle x c false s3 else updRef x s3)
      else
        let u := s3.wrB (MeasCh.CH_STATUS x c) 0 (bit v 0)
        updRef x (if turnedOn && !s.rdB (MeasCtl.SDCLK_CFG x) 8 then u.wrB (MeasCh.CH_STATUS x c) 2 true else u)
    accept (measLevels x (if bit v 0 then s4 else dropConvs x c s4))

/-- A write of CH_OFS: held pending, PEND sets (R93). -/
def chOfsWrite (x c : Nat) (v : Word) (s : State) : Reply :=
  if inUse s x c then deny s .notInState
  else accept (putChan x c { chanOf s x c with ofsNew := true }
    ((s.wr (MeasCh.CH_OFS x c) (v &&& 0x00FFFFFF)).wrB (MeasCh.CH_STATUS x c) 5 true))

/-- A write of CH_GAIN: the pending or present offset and the new gain wait for the next trigger, behind gains that wait already
(R93). -/
def chGainWrite (x c : Nat) (v : Word) (s : State) : Reply :=
  if inUse s x c then deny s .notInState
  else
    let s1 := s.wr (MeasCh.CH_GAIN x c) v
    let h := chanOf s x c
    let g : GainPend := { chan := 28 * x + c, ofs := s.rd (MeasCh.CH_OFS x c), gain := v, at_ := s.now, pend := h.ofsNew }
    accept (putChan x c { h with ofsNew := false } { s1 with meas := { s1.meas with gains := s1.meas.gains ++ [g] } })

/-! ### Calibration (R90, R91) -/

/-- A write of CAL_CMD.START. -/
def calStart (x : Nat) (v : Word) (s : State) : Reply :=
  if !bit v 0 then accept s
  else if anyInUse s x (List.range 28) || calibrating s x then deny s .notInState
  else
    let s1 := setReady x false (s.wr (MeasCtl.CAL_STATUS x) 1)
    accept { s1 with meas := { s1.meas with calAt := KMap.set (fun _ => 0) s1.meas.calAt x s1.now } }

/-- The instant the last calibration of chain `x` started. -/
def calAt (s : State) (x : Nat) : Nat := KMap.get (fun _ => 0) s.meas.calAt x

/-- Calibration ends 38 ms after its start. `fail` is none, or (SD_PATH, CONV, CODE) of R104. -/
def calDone (x : Nat) (fail : Option (Bool × Nat × Nat)) (s : State) : State :=
  if !calibrating s x then s else
  let s1 := s.reach (calAt s x + 30400000)
  match fail with
  | some (sd, conv, code) =>
    let s2 := s1.wr (MeasCtl.CAL_STATUS x) (word (3 + at' (bitN sd) 3 + at' (conv % 16) 4 + at' (code % 256) 8))
    emitPage .fault (MeasCtl.page x) 1 0 (s2.pulse (MeasCtl.page x) 1)
  | none =>
    let n := s1.meas.calRuns
    let s2 := (List.range 16).foldl (fun t k =>
      (t.wr (MeasCh.CONV_OFS x k) (Config.convOfs n x k)).wr (MeasCh.CONV_GAIN x k) (Config.convGain n x k)) s1
    let s3 := setReady x true (s2.wr (MeasCtl.CAL_STATUS x) 2)
    let done := if s3.meas.factored.contains x then s3.meas.factored else x :: s3.meas.factored
    ({ s3 with meas := { s3.meas with calRuns := n + 1, factored := done } }).pulse (MeasCtl.page x) 0

/-- CAL_STATUS as it reads: ELAPSED counts milliseconds since the last START (R104). -/
def calStatusView (s : State) (x : Nat) : Word :=
  let w := s.rd (MeasCtl.CAL_STATUS x)
  if fld w 1 0 = 0 then w else setFld w 31 16 (min ((s.now - calAt s x) / 800000) 0xFFFF)

/-! ### Writes of the chain control page -/

/-- The chain control page: `MEASB`.TRIG_CFG and TRIG_SEQ are mirrors of `MEASA`'s (R83, R103). -/
def measCtlView (a : Nat) (s : State) : Word :=
  if a = MeasCtl.CAL_STATUS 0 then calStatusView s 0
  else if a = MeasCtl.CAL_STATUS 1 then calStatusView s 1
  else if a = MeasCtl.TRIG_CFG 1 then s.rd (MeasCtl.TRIG_CFG 0)
  else if a = MeasCtl.TRIG_SEQ 1 then s.rd (MeasCtl.TRIG_SEQ 0)
  else s.rd a

/-- A write of SDCLK_CFG (R84, R104). -/
def sdclkWrite (x : Nat) (v : Word) (s : State) : Reply :=
  if anyInUse s x ((List.range 12).map (16 + ·)) then deny s .notInState
  else if 4 < fld v 2 0 then deny s .outOfRange
  else if (List.range 12).any (fun i => chanEn s x (16 + i) && !decide (s.rdF (MeasCh.CH_CFG x (16 + i)) 15 12 + 1 ≤ sdDiv (fld v 2 0))) then
    deny s .outOfRange
  else
    let s1 := s.wr (MeasCtl.SDCLK_CFG x) (v &&& 0x107)
    accept (if bit v 8 then s1 else sdClockStopped x s1)

/-- Must timebase `t` keep firing the trigger: it is running and releases a FAST context that is not IDLE, or is the
timebase of a machine that is not OFF (R104)? -/
def trigNeeded (s : State) (t : Nat) : Bool :=
  tbRun s t && ((busyCtxs s).any (fun n => ctxFast s n && decide (ctxTb s n = t))
    || (List.range 4).any (fun m => decide (machState s m ≠ 0) && decide (machTb s m = t)))

/-- A write of TRIG_CFG on `MEASA` (R104). -/
def trigCfgWrite (v : Word) (s : State) : Reply :=
  let cleared (t : Nat) : Bool := s.rdB (MeasCtl.TRIG_CFG 0) t && !bit v t
  if (List.range 8).any (fun t => cleared t && trigNeeded s t) then deny s .notInState
  else if (anyInUse s 0 (List.range 28) || anyInUse s 1 (List.range 28))
      && !(List.range 8).any (fun t => bit v t && tbRun s t) then deny s .notInState
  else accept (s.wr (MeasCtl.TRIG_CFG 0) (v &&& 0x000100FF))

/-! ### Crosswind writes (R99, R107) -/

/-- Do the paired value of `k` or either of the channels `a` (chain A), `b` (chain B) serve a live consumer? -/
def sidesInUse (s : State) (k a b : Nat) : Bool := pairInUse s k || inUse s 0 a || inUse s 1 b

/-- The range checks of a CW_PAIR value. -/
def cwPairRange (v : Word) : Bool :=
  decide (fld v 4 0 < 28) && decide (fld v 12 8 < 28) && decide (fld v 18 17 ≠ 3) && decide (fld v 22 20 ≤ 3)
    && decide (fld v 31 24 ≠ 0)

/-- A write of CW_PAIR. -/
def cwPairWrite (k : Nat) (v : Word) (s : State) : Reply :=
  let old := s.rd (Xw.CW_PAIR k)
  if (bit old 16 && sidesInUse s k (fld old 4 0) (fld old 12 8))
      || (bit v 16 && sidesInUse s k (fld v 4 0) (fld v 12 8)) then deny s .notInState
  else if !cwPairRange v then deny s .outOfRange
  else if bit v 16 && !(chanEn s 0 (fld v 4 0) && chanEn s 1 (fld v 12 8)) then deny s .outOfRange
  else
    let s1 := s.wr (Xw.CW_PAIR k) (v &&& 0xFF7F1F1F)
    let restart := (bit v 16 && !bit old 16) || decide (fld v 4 0 ≠ fld old 4 0) || decide (fld v 12 8 ≠ fld old 12 8)
    let s2 := if restart then putPair k {} (s1.wr (Xw.CW_STAT k) (s1.rd (Xw.CW_STAT k) &&& 0x2)) else s1
    accept (xwLevels (if bit v 16 && !bit old 16 then s2.stampNow (Xw.CW_MAXDIFF k) else s2))

/-- A write of CW_BAND. -/
def cwBandWrite (k : Nat) (v : Word) (s : State) : Reply :=
  let p := s.rd (Xw.CW_PAIR k)
  if bit p 16 && sidesInUse s k (fld p 4 0) (fld p 12 8) then deny s .notInState
  else if !F.nonneg v then deny s .outOfRange
  else accept (s.wr (Xw.CW_BAND k) v)

/-- A W1C write of CW_STAT.REACTED (R99). -/
def cwStatWrite (k : Nat) (v : Word) (s : State) : Reply :=
  if !bit v 1 then accept s
  else if s.rdB (Xw.CW_STAT k) 0 then deny s .tripPersist
  else accept (xwLevels (s.wrB (Xw.CW_STAT k) 1 false))

/-- Writes of the measurement pages, by kind and address. -/
def measWrite (k : PageKind) (a : Nat) (v : Word) (s : State) : Reply :=
  let x := if pageOf a < 0x050 then 0 else 1
  let o := a % 4096
  match k with
  | .measCtl =>
    if o = 0x40 then calStart x v s
    else if o = 0x48 then sdclkWrite x v s
    else if x = 1 ∧ (o = 0x0C ∨ o = 0x4C ∨ o = 0x50) then accept s
    else if o = 0x4C then trigCfgWrite v s
    else if o = 0x50 then trigSwWrite false v s
    else plainWrite a v s
  | .measCh =>
    if 0x40 ≤ o ∧ o < 0x200 then
      let c := (o - 0x40) / 16
      match o % 16 with
      | 0 => chCfgWrite x c v s
      | 4 => chOfsWrite x c v s
      | 8 => chGainWrite x c v s
      | _ => accept s
    else plainWrite a v s
  | .crosswind =>
    if 0x40 ≤ o ∧ o < 0x200 then
      let c := (o - 0x40) / 16
      match o % 16 with
      | 0 => cwPairWrite c v s
      | 4 => cwBandWrite c v s
      | 8 => cwStatWrite c v s
      | _ => accept s
    else plainWrite a v s
  | _ => plainWrite a v s

/-! ### Reads -/

/-- What a read of a channel register gives where it is not the stored value: CH_STATUS.IN_USE (R94). -/
def measView (a : Nat) (s : State) : Word :=
  let o := a % 4096
  let x := bitN (decide (pageOf a = 0x051))
  if pageOf a = 0x041 + 0x10 * x ∧ 0x40 ≤ o ∧ o < 0x200 ∧ o % 16 = 12 then setBit (s.rd a) 4 (inUse s x ((o - 0x40) / 16)) else s.rd a

/-! ### Meanings -/

/-- TRIG_SW_FIRE (R82). -/
def execTrigSwFire (port : Port) (v : Word) (checking : Bool) (s : State) : Out :=
  replied (gated port (MeasCtl.TRIG_SW 0) v (trigSwWrite checking v) s)

/-- SAR_CONVERSION_DONE (R81). -/
def execSarConversionDone (levels : List Int) (s : State) : Out := .next (sarDone levels s)

/-- SD_FILTER_RELEASE (R85). -/
def execSdFilterRelease (x c : Nat) (bits : List Bool) (s : State) : Out := .next (sdRelease x c bits s)

/-- SD_STUCK_DETECT (R86). -/
def execSdStuckDetect (x c : Nat) (s : State) : Out := .next (sdStuckSet x c s)

/-- SD_STUCK_CLEAR (R86). -/
def execSdStuckClear (x c : Nat) (s : State) : Out := .next (sdStuckClear x c s)

/-- CH_CFG_WRITE (R87, R105). -/
def execChCfgWrite (port : Port) (x c : Nat) (v : Word) (s : State) : Out :=
  replied (gated port (MeasCh.CH_CFG x c) v (chCfgWrite x c v) s)

/-- REF_SETTLE_DONE (R87, R88). -/
def execRefSettleDone (x c dt : Nat) (s : State) : Out := .next (refSettled x c dt s)

/-- CAL_START (R90, R91). -/
def execCalStart (port : Port) (x : Nat) (v : Word) (s : State) : Out :=
  replied (gated port (MeasCtl.CAL_CMD x) v (calStart x v) s)

/-- CAL_DONE (R90, R91). -/
def execCalDone (x : Nat) (fail : Option (Bool × Nat × Nat)) (s : State) : Out := .next (calDone x fail s)

/-- CH_OFS_WRITE (R93). -/
def execChOfsWrite (port : Port) (x c : Nat) (v : Word) (s : State) : Out :=
  replied (gated port (MeasCh.CH_OFS x c) v (chOfsWrite x c v) s)

/-- CH_GAIN_WRITE (R93). -/
def execChGainWrite (port : Port) (x c : Nat) (v : Word) (s : State) : Out :=
  replied (gated port (MeasCh.CH_GAIN x c) v (chGainWrite x c v) s)

/-- CW_PAIR_WRITE (R99). -/
def execCwPairWrite (port : Port) (k : Nat) (v : Word) (s : State) : Out :=
  replied (gated port (Xw.CW_PAIR k) v (cwPairWrite k v) s)

end Sys2Proof.Machine
end

