-- ==== Sys2Proof/Machine/PwmBase.lean ====
section
/-! DEFINITION. The base of the PWM modulators (R17, R28-R30, R210-R230): carrier timing, groups and legs, the
resolution of the authorities over each channel, dead time, and the shadow window. -/

namespace Sys2Proof.Machine

/-! ### Timebases -/

/-- Hidden state of timebase `t`. -/
def tbOf (s : State) (t : Nat) : TbHid := KMap.get (fun _ => {}) s.pwm.tbs t

/-- Put the hidden state of timebase `t`. -/
def putTb (t : Nat) (h : TbHid) (s : State) : State :=
  { s with pwm := { s.pwm with tbs := KMap.set (fun _ => {}) s.pwm.tbs t h } }

/-- The counting mode: 0 up, 1 down, 2 up-down (R210). -/
def tbMode (s : State) (t : Nat) : Nat := s.rdF (Tb.TB_CFG t) 1 0

/-- UPD: bit 0 the period boundary, bit 1 the mid-period (R211). -/
def tbUpd (s : State) (t : Nat) : Nat := s.rdF (Tb.TB_CFG t) 3 2

/-- The carrier period of mode `cnt` and count `prd` in cycles (R210). -/
def carrierOf (cnt prd : Nat) : Nat := if cnt = 2 then 2 * prd else prd

/-- The count in force, and the carrier period in force. -/
def tbPrd (s : State) (t : Nat) : Nat := fld (s.rdA (Tb.TB_PRD t)) 20 0
def tbCarrier (s : State) (t : Nat) : Nat := carrierOf (tbMode s t) (tbPrd s t)

/-- The update interval U of a carrier period under a UPD field (R211). -/
def updInterval (carrier upd : Nat) : Nat := if upd = 3 then carrier / 2 else carrier

/-- The trigger lead in force. -/
def tbLead (s : State) (t : Nat) : Nat := s.rdF (Tb.TB_TRIG t) 21 0

/-- The first update event of a running timebase after instant `x`, by the timing in force. A pending shift holds the counter at the
next period boundary, before the update event of that boundary: DEDUCED from R236, where the target reload moves. -/
def updAfter (s : State) (t : Nat) (x : Int) : Int :=
  let h := tbOf s t
  let p : Int := tbCarrier s t
  let u := tbUpd s t
  let next : Int := h.base + p + h.shiftN
  let cand : List Int := (if u % 2 = 1 then [h.base, next] else []) ++ (if 2 ≤ u then [h.base + p / 2, next + p / 2] else [])
  (cand.filter (fun y => decide (x < y))).foldl (fun a y => if a < x + 1 ∨ y < a then y else a) x

/-- The instant of the next update event of a running timebase, whether or not its period boundary is past. -/
def nextUpd (s : State) (t : Nat) : Int := updAfter s t (tbOf s t).lastUpd

/-- The next update event that falls inside the present period, if any. -/
def updInPeriod (s : State) (t : Nat) : Option Int :=
  let h := tbOf s t
  let e := nextUpd s t
  if h.lastUpd < e ∧ e < h.base + tbCarrier s t then some e else none

/-- The carrier position at instant `x` (1/8 cycle) of the present period; 0 while a shift holds the counter (R210,
R216). -/
def carrierPos8 (s : State) (t : Nat) (x : Int) : Nat := (x - 8 * (tbOf s t).base).toNat

/-- The live counter in whole cycles and whether it counts down (R231); a shift holds it at the boundary value. -/
def tbCounter (s : State) (t : Nat) : Nat × Bool :=
  let prd := tbPrd s t
  let pos := min (carrierPos8 s t (8 * s.now) / 8) (tbCarrier s t - 1)
  match tbMode s t with
  | 0 => (pos, false)
  | 1 => (prd - 1 - pos, true)
  | _ => if pos ≤ prd then (pos, decide (pos = prd)) else (2 * prd - pos, true)

/-! ### Groups, legs, channels (R219-R221) -/

def grpEn (s : State) (g : Nat) : Bool := s.rdB (Grp.GRP_CFG g) 31
def grpTb (s : State) (g : Nat) : Nat := s.rdF (Grp.GRP_CFG g) 2 0
def grpTopo (s : State) (g : Nat) : Nat := s.rdF (Grp.GRP_CFG g) 5 4
def grpMode (s : State) (g : Nat) : Nat := s.rdF (Grp.GRP_CFG g) 9 8

/-- Channels of a leg of a topology: 2-level 2, NPC 4, ANPC 6; single switches 1. -/
def legSize (topo : Nat) : Nat :=
  match topo with
  | 0 => 2 | 1 => 4 | 2 => 6 | _ => 1

/-- Legs of group `g`: three of groups 0-3, two single switches of groups 4-5. -/
def grpLegs (g : Nat) : Nat := if g < 4 then 3 else 2

/-- The first channel of group `g` for a BASE field (R220). -/
def grpFirst (g base : Nat) : Nat :=
  if g < 2 then base else if g = 2 then 36 else if g = 3 then 42 else if g = 4 then 48 else 50

/-- The first channel of group `g`. -/
def grpBase (s : State) (g : Nat) : Nat := grpFirst g (s.rdF (Grp.GRP_CFG g) 21 16)

/-- The number of channels of group `g`. -/
def grpSize (s : State) (g : Nat) : Nat := grpLegs g * legSize (grpTopo s g)

/-- Every channel of group `g`. -/
def grpChans (s : State) (g : Nat) : List Nat := (List.range (grpSize s g)).map (grpBase s g + ·)

/-- The channels of leg `x` of group `g`. -/
def legChans (s : State) (g x : Nat) : List Nat :=
  (List.range (legSize (grpTopo s g))).map (grpBase s g + x * legSize (grpTopo s g) + ·)

/-- The enabled group that channel `c` belongs to, with its leg and its place in the leg (R219). -/
def chanGroup (s : State) (c : Nat) : Option (Nat × Nat × Nat) :=
  match (List.range 6).find? (fun g => grpEn s g && decide (grpBase s g ≤ c ∧ c < grpBase s g + grpSize s g)) with
  | some g =>
    let n := legSize (grpTopo s g)
    some (g, (c - grpBase s g) / n, (c - grpBase s g) % n)
  | none => none

/-- The places of a leg that are on in a leg state (R221). -/
def onPlaces (topo state : Nat) : List Nat :=
  match topo, state with
  | 0, 0 => [1]
  | 0, _ => [0]
  | 1, 0 => [2, 3]
  | 1, 1 => [1, 2]
  | 1, _ => [0, 1]
  | 2, 0 => [2, 3, 4]
  | 2, 1 => [1, 2, 4, 5]
  | 2, _ => [0, 1, 5]
  | _, 0 => []
  | _, _ => [0]

/-- Is place `j` in the interlock set of place `i`: off in every state in which `i` is on (R221)? -/
def interlocked (topo i j : Nat) : Bool :=
  decide (i ≠ j) && decide (topo < 3) &&
    (List.range 3).all (fun st => !(onPlaces topo st).contains i || !(onPlaces topo st).contains j)

/-- The channels of the interlock set of channel `c`. -/
def interlockSet (s : State) (c : Nat) : List Nat :=
  match chanGroup s c with
  | some (g, x, i) =>
    ((List.range (legSize (grpTopo s g))).filter (interlocked (grpTopo s g) i)).map
      (grpBase s g + x * legSize (grpTopo s g) + ·)
  | none => []

/-- A channel is idle while it belongs to no group or its timebase is stopped (R219). -/
def chanIdle (s : State) (c : Nat) : Bool :=
  match chanGroup s c with
  | some (g, _, _) => !tbRun s (grpTb s g)
  | none => true

/-- The dead time in force of the leg of channel `c`, in 1/8 cycle; none for single switches (R224). -/
def deadTime8 (s : State) (c : Nat) : Nat :=
  match chanGroup s c with
  | some (g, x, _) =>
    if 4 ≤ g then 0
    else fld (s.rdA (if x = 0 then Grp.GRP_DTA g else if x = 1 then Grp.GRP_DTB g else Grp.GRP_DTC g)) 16 0
  | none => 0

/-- Hidden state of channel `c`. -/
def chOf (s : State) (c : Nat) : ChHid := KMap.get (fun _ => {}) s.pwm.chs c

/-- Put the hidden state of channel `c`. -/
def putCh (c : Nat) (h : ChHid) (s : State) : State :=
  { s with pwm := { s.pwm with chs := KMap.set (fun _ => {}) s.pwm.chs c h } }

/-- Hidden state of leg `x` of group `g`. -/
def legOf (s : State) (g x : Nat) : LegHid := KMap.get (fun _ => {}) s.pwm.legs (4 * g + x)

/-- Put the hidden state of leg `x` of group `g`. -/
def putLeg (g x : Nat) (h : LegHid) (s : State) : State :=
  { s with pwm := { s.pwm with legs := KMap.set (fun _ => {}) s.pwm.legs (4 * g + x) h } }

/-- The register a leg's control values come from: its reference, GRP_REFA for LEG, CH_CMP for single switches. -/
def legRef (s : State) (g x : Nat) : Nat :=
  if 4 ≤ g then Ch.CH_CMP (grpBase s g + x)
  else if grpMode s g = 2 then Grp.GRP_REFA g
  else if x = 0 then Grp.GRP_REFA g
  else if x = 1 then Grp.GRP_REFB g
  else Grp.GRP_REFC g

/-! ### Levels -/

/-- The switch level of channel `c` after precedence and dead time. -/
def chLevel (s : State) (c : Nat) : Bool := s.rdB (Ch.CH_STAT c) 0

/-- Is a turn-on of channel `c` waiting? -/
def chPending (s : State) (c : Nat) : Bool := s.rdB (Ch.CH_STAT c) 1

/-- The instant an edge reaches its pin, in 1/8 cycle: channels 0-35 carry a lead of 240 ns, which an all-off
bypasses (R17, R20). -/
def edgeExec8 (e : Edge) : Int := e.at8 + (if e.direct ∨ 36 ≤ e.chan then 0 else 1536)

/-- The edges of a channel list without those that a later executed edge has replaced. -/
def pruneEdges (now8 : Int) (c : Nat) (l : List Edge) : List Edge :=
  let mine := l.filter (fun e => decide (e.chan = c))
  let done := mine.filter (fun e => decide (edgeExec8 e ≤ now8))
  l.filter (fun e => decide (e.chan ≠ c) || decide (now8 < edgeExec8 e) || decide (done.getLast? = some e))

/-- Channel `c` takes a level at instant `t8` (1/8 cycle); the change travels to its pin and link. A turn-off by rank 1
or 2 acts at once and takes every edge that has not yet executed with it (R20, R251). -/
def setLevel (c : Nat) (b : Bool) (t8 : Int) (s : State) : State :=
  let direct := !b && decide (1 ≤ (chOf s c).gov ∧ (chOf s c).gov ≤ 2)
  if chLevel s c = b && !(direct && s.pwm.edges.any (fun e => decide (e.chan = c ∧ 8 * (s.now : Int) < edgeExec8 e))) then
    s.wrB (Ch.CH_STAT c) 1 false
  else
    let s1 := (s.wrB (Ch.CH_STAT c) 0 b).wrB (Ch.CH_STAT c) 1 false
    let old := pruneEdges (8 * s.now) c s1.pwm.edges
    let keep := if direct then old.filter (fun e => decide (e.chan ≠ c) || decide (edgeExec8 e ≤ 8 * (s.now : Int))) else old
    let e : Edge := { chan := c, on := b, at8 := t8, fixedAt := s.now, direct := direct, sent := direct || s.gl.ahead.contains (c, t8) }
    let s2 : State := { s1 with pwm := { s1.pwm with edges := keep ++ [e] } }
    if b then s2 else putCh c { chOf s2 c with offAt8 := some t8 } s2

/-- The level the pin path of channel `c` shows: that of its latest executed edge. -/
def pinPath (s : State) (c : Nat) : Bool :=
  match (s.pwm.edges.filter (fun e => decide (e.chan = c ∧ edgeExec8 e ≤ 8 * (s.now : Int)))).getLast? with
  | some e => e.on
  | none => false

/-- Is every channel of the interlock set off, and since when at the latest (1/8 cycle)? -/
def interlockClear (s : State) (c : Nat) : Bool × Int :=
  (interlockSet s c).foldl (fun a j =>
    (a.1 && !chLevel s j, match (chOf s j).offAt8 with | some t => max a.2 t | none => a.2)) (true, -8000000000000)

/-- Turn channel `c` on at `t8` once its interlock set has been off for the dead time, else leave it pending. -/
def requestOn (c : Nat) (t8 : Int) (s : State) : State :=
  if chLevel s c || chPending s c then s
  else
    let dt := deadTime8 s c
    let ic := interlockClear s c
    if ic.1 && decide (ic.2 + dt ≤ t8) then setLevel c true t8 s
    else putCh c { chOf s c with pendDt8 := dt } (s.wrB (Ch.CH_STAT c) 1 true)

/-! ### Authorities (R28-R30) -/

/-- Does source `n`'s trip matrix name channel `c` (R265)? -/
def srcMatrix (s : State) (n c : Nat) : Bool :=
  if c < 32 then s.rdB (ProtSrc.MASK_LO n) c else s.rdB (ProtSrc.MASK_HI n) (c - 32)

/-- Does a set latch name channel `c`: by its matrix, or with OWN by its originating objects (R265, R269)? -/
def latchNames (s : State) (l : Latch) (c : Nat) : Bool :=
  if s.rdB (ProtSrc.SRC_CFG l.src) 3 then l.chans.contains c else srcMatrix s l.src c

/-- The channels whose leg is the leg of `c`; `c` alone where it has none. -/
def legMates (s : State) (c : Nat) : List Nat :=
  match chanGroup s c with
  | some (g, x, _) => legChans s g x
  | none => [c]

/-- Rank 2: a latched source names the channel or a switch of its leg; the whole leg stays off (R230). -/
def squallHolds (s : State) (c : Nat) : Bool :=
  s.prot.lats.any (fun l => (legMates s c).any (latchNames s l))

/-- Rank 1: the STO pair of the channel's inverter group is off, here or, in WARD, at the twin (R365). -/
def stoHolds (s : State) (c : Nat) : Bool :=
  match chanGroup s c with
  | some (0, _, _) => s.isl.stoOff0 || (inWard s && decide (s.twin.peerSto % 2 = 1))
  | some (1, _, _) => s.isl.stoOff1 || (inWard s && decide (s.twin.peerSto / 2 % 2 = 1))
  | _ => false

/-- The host force in force on channel `c` (R227): low, high, or held low by another channel's force-high. -/
def hostForce (s : State) (c : Nat) : Option Bool :=
  let f := fld (s.rdA (Ch.CH_FORCE c)) 1 0
  if (interlockSet s c).any (fun j => decide (fld (s.rdA (Ch.CH_FORCE j)) 1 0 = 2)) then some false
  else if f = 1 then some false
  else if f = 2 then some true
  else none

/-- Is source `n` latched? -/
def isLatched (s : State) (n : Nat) : Bool := s.prot.lats.any (fun l => decide (l.src = n))

/-- The compare groups of machine `m` (R161, R220). -/
def machGroups (s : State) (m : Nat) : List Nat :=
  if m = 0 then (if s.rdB (Foc.CFG 0) 2 then [0, 1] else [0])
  else if m = 1 ∧ s.rdB (Foc.CFG 0) 2 then [] else [m]

/-- The channels of the enabled compare groups of machine `m`. -/
def machChans (s : State) (m : Nat) : List Nat :=
  ((machGroups s m).filter (grpEn s)).flatMap (grpChans s)

/-- Does TWO_LEG bar the active short circuits of ranks 3a and 3b on machine `m` (R274)? -/
def ascBarred (s : State) (m : Nat) : Bool :=
  isLatched s 47 && (machChans s m).any (fun c => srcMatrix s 47 c)

/-- Is a forced state an active short circuit of rank 3b that TWO_LEG keeps from taking effect (R274)? -/
def heldAsc (s : State) (f : Force) : Bool := decide (f.rank = 4) && !f.on.isEmpty && ascBarred s f.id

/-- The highest authority beside control that asks for channel `c`: rank code, order, and whether it wants it on. Within one
rank and order off wins (R29). -/
def topRequest (s : State) (c : Nat) : Option (Nat × Nat × Bool) :=
  if stoHolds s c then some (1, 0, false)
  else if squallHolds s c then some (2, 0, false)
  else
    let fs := s.pwm.forces.filter (fun f => (f.on.contains c || f.off.contains c) && !heldAsc s f)
    let best := fs.foldl (fun (a : Option (Nat × Nat)) f =>
      match a with
      | some (r, o) => if f.rank < r ∨ (f.rank = r ∧ f.order < o) then some (f.rank, f.order) else a
      | none => some (f.rank, f.order)) none
    match best with
    | some (r, o) =>
      some (r, o, fs.all (fun f => !(decide (f.rank = r ∧ f.order = o)) || (f.on.contains c && !f.off.contains c)))
    | none =>
      match hostForce s c with
      | some b => some (6, 0, b)
      | none => none

/-- Does (r, o) rank at or above the authority (g, p) that governs now? -/
def outranks (r o g p : Nat) : Bool := decide (g = 0 ∨ g = 7 ∨ r < g ∨ (r = g ∧ o ≤ p))

/-- Does a forced state of rank `r` whose changes act at their own instants name channel `c` (R178)? -/
def liveForce (s : State) (r c : Nat) : Bool :=
  s.pwm.forces.any (fun f => f.live && decide (f.rank = r) && (f.on.contains c || f.off.contains c))

/-- The authority that governs channel `c` from now on, and what it asks. A higher authority takes over at once, ranks 3c and 3d at an
update event; a release waits for the update event E, after which control holds off; an idle channel follows at
once (R30, R227). -/
def govern (s : State) (upd : Bool) (c : Nat) : ChHid :=
  let h := chOf s c
  let idle := chanIdle s c
  let go := upd || idle
  match topRequest s c with
  | some (r, o, b) =>
    if go || (outranks r o h.gov h.ord && (decide (r ≤ 4) || liveForce s h.gov c)) then
      { h with gov := r, ord := o, asks := b, holdOff := none }
    else h
  | none =>
    if idle then { h with gov := 0, ord := 0, holdOff := none }
    else if h.gov = 7 then
      (if upd then
        match h.holdOff with
        | some e =>
          (match chanGroup s c with
            | some (g, x, _) => if e < KMap.get (fun _ => 0) s.pwm.actStamp (legRef s g x) then { h with holdOff := none } else h
            | none => h)
        | none => h
       else h)
    else if h.gov = 0 then { h with gov := 7, ord := 0, holdOff := none }
    else if upd then { h with gov := 7, ord := 0, holdOff := some s.now }
    else h

/-- The level control asks of channel `c`: its place in the state control asks of the leg. -/
def controlWants (s : State) (c : Nat) : Bool :=
  match chanGroup s c with
  | some (g, x, i) => (legOf s g x).live && (onPlaces (grpTopo s g) (legOf s g x).ctl).contains i
  | none => false

/-- The level precedence gives channel `c`: what its governing authority asks. An authority that has let go, or a change of ranks 3c and
3d, waits for the update event, so that what it asked before stands until then (R29, R30). -/
def ruled (s : State) (c : Nat) : Bool :=
  let h := chOf s c
  if h.gov = 7 then h.holdOff.isNone && controlWants s c
  else if h.gov = 0 ∨ h.gov = 1 ∨ h.gov = 2 then false
  else h.asks

/-- The leg state that precedence asks of leg `x` of group `g`, if its channels make one up. -/
def legAsked (s : State) (g x : Nat) : Option Nat :=
  let cs := legChans s g x
  (List.range 3).find? (fun st => (List.range cs.length).all (fun i => ruled s (cs.getD i 0) == (onPlaces (grpTopo s g) st).contains i))

/-- The level channel `c` shall take: during a P-N passage of its leg the state O, else what precedence gives it (R224). -/
def wants (s : State) (c : Nat) : Bool :=
  match chanGroup s c with
  | some (g, x, i) => if (legOf s g x).npTo.isSome then (onPlaces (grpTopo s g) 1).contains i else ruled s c
  | none => ruled s c

/-- CH_STAT shows the authority and whether a host force governs (R232). -/
def showRank (c : Nat) (s : State) : State :=
  let h := chOf s c
  (s.wrF (Ch.CH_STAT c) 6 4 h.gov).wrB (Ch.CH_STAT c) 2
    (decide (h.gov = 6) && decide (fld (s.rdA (Ch.CH_FORCE c)) 1 0 ≠ 0))

/-- NP_LEGS shows whether leg `x` of group `g` is in a P-N passage (R233). -/
def showPassage (g x : Nat) (b : Bool) (s : State) : State := s.wrB (Grp.GRP_STAT g) (16 + x) b

/-- Leg `x` of group `g` follows the state that precedence asks of it at `t8`: a change between P and N passes through O for NP_DWELL, and
a passage whose target is no longer asked, as under a turn-off, is abandoned (R224, R230). -/
def passLeg (t8 : Int) (s : State) (g x : Nat) : State :=
  if grpTopo s g = 0 ∨ 3 ≤ grpTopo s g then s
  else
    let l := legOf s g x
    match legAsked s g x with
    | none => if l.phys.isNone then s else showPassage g x false (putLeg g x { l with phys := none, npTo := none } s)
    | some st =>
      if l.npTo = some st ∨ (l.npTo = none ∧ l.phys = some st) then s
      else if st ≠ 1 ∧ l.phys = some (2 - st) then
        (showPassage g x true (putLeg g x { l with phys := some 1, npTo := some st, npAt8 := t8 } s)).incL (PwmTel.NP_PASS g)
      else showPassage g x false (putLeg g x { l with phys := some st, npTo := none } s)

/-- Is channel `c` the first of its leg in the enabled group it belongs to? -/
def legHead (s : State) (c : Nat) : Option (Nat × Nat) :=
  match chanGroup s c with
  | some (g, x, 0) => some (g, x)
  | _ => none

/-- Resolve the authorities over channels `cs`, whole legs or channels of none, at instant `t8`: `upd c` says that channel's timebase has
an update event now. Every turn-off acts before any turn-on. -/
def resolve (cs : List Nat) (upd : Nat → Bool) (t8 : Int) (s : State) : State :=
  let s1 := cs.foldl (fun t c => putCh c (govern t (upd c) c) t) s
  let s2 := (cs.filterMap (legHead s1)).foldl (fun t e => passLeg t8 t e.1 e.2) (cs.foldl (fun t c => showRank c t) s1)
  let s3 := cs.foldl (fun t c => if wants t c then t else setLevel c false t8 t) s2
  cs.foldl (fun t c => if wants t c then requestOn c t8 t else t) s3

/-- Every channel. -/
def allChans : List Nat := List.range 52

/-- The authorities changed outside an update event: resolve every channel now. -/
def resolveNow (s : State) : State := resolve allChans (fun _ => false) (8 * s.now) s

/-- A forced state stands in place of any of the same tag and identity. -/
def putForce (f : Force) (s : State) : State :=
  let keep := s.pwm.forces.filter (fun g => !decide (g.tag = f.tag ∧ g.id = f.id))
  { s with pwm := { s.pwm with forces := keep ++ [f] } }

/-- Put a forced state in place of any of the same tag and identity, and resolve every channel. -/
def addForce (f : Force) (s : State) : State := resolveNow (putForce f s)

/-- Release the forced state of a tag and identity. -/
def dropForce (tag : ForceTag) (id : Nat) (s : State) : State :=
  let keep := s.pwm.forces.filter (fun g => !decide (g.tag = tag ∧ g.id = id))
  let t : State := { s with pwm := { s.pwm with forces := keep } }
  resolveNow t

/-- Is a forced state of that tag and identity asked for? -/
def hasForce (s : State) (tag : ForceTag) (id : Nat) : Bool := s.pwm.forces.any (fun g => decide (g.tag = tag ∧ g.id = id))

/-! ### The shadow window (R213) -/

/-- Has a write that lands now missed the window of the next reload of timebase `t`? -/
def windowClosed (s : State) (t : Nat) : Bool := tbRun s t && decide (nextUpd s t - 8 ≤ s.now)

/-- Does a write land in the cycle of a reload of timebase `t` that has just happened? It is staged too, and enters the
shadow in the next cycle. -/
def reloadCycle (s : State) (t : Nat) : Bool := tbRun s t && decide ((tbOf s t).lastUpd = s.now)

/-- A staged write shows: its STAGED bit, LATE, and the telemetry's count, which takes the writes of one cycle as one (R236). -/
def markLate (t stat i : Nat) (s : State) : State :=
  let s1 := (s.wrB stat i true).pulse Tb.page 8
  if (tbOf s t).lateAt = some s.now then s1
  else (putTb t { tbOf s1 t with lateAt := some s.now } s1).incL (PwmTel.LATE t)

/-- Put `v` into the shadow register `a`, written at instant `at_`. -/
def intoShadow (a : Nat) (v : Word) (at_ : Nat) (s : State) : State :=
  let s1 := s.wr a v
  { s1 with pwm := { s1.pwm with shStamp := KMap.set (fun _ => 0) s1.pwm.shStamp a at_ } }

/-- A shadow write to `a` of timebase `t`: into the shadow, or staged. `stat` is the register whose bit `i` shows a
staged write. -/
def shadowWrite (t a stat i : Nat) (v : Word) (s : State) : State :=
  if windowClosed s t then
    let s1 := markLate t stat i s
    let w : Staged := { tb := t, addr := a, val := v, at_ := s.now }
    { s1 with pwm := { s1.pwm with staged := s1.pwm.staged ++ [w] } }
  else if reloadCycle s t then intoShadow a v s.now (markLate t stat i s)
  else intoShadow a v s.now s

/-- A shadow write of a group's register. -/
def grpShadow (g a : Nat) (v : Word) (s : State) : State := shadowWrite (grpTb s g) a (Grp.GRP_STAT g) 1 v s

/-- The commit transfer of R154: the whole reference set of group `g` in one step. -/
def groupCommit (g : Nat) (a b c : Word) (s : State) : State :=
  grpShadow g (Grp.GRP_REFC g) c (grpShadow g (Grp.GRP_REFB g) b (grpShadow g (Grp.GRP_REFA g) a s))

/-! ### Leg states -/

/-- The magnitude of a finite binary32 value in units of 2^-149, exact. -/
def exact149 (m : Word) : Nat :=
  match f32.unpack m.toNat with
  | .fin _ k e => k * 2 ^ (e + 149).toNat
  | _ => 0

/-- The compare value of a duty reference in [-1, 1] in 1/8 cycle, with the states below and above it (R222): (C, X, Y). C is the exact
product, rounded once to nearest with ties to even. -/
def dutyCompare (topo prd : Nat) (m : Word) : Nat × Nat × Nat :=
  let k : Int := exact149 m
  let scaled (x : Int) : Nat := (divEven x (2 ^ 149)).toNat
  if topo = 0 then (scaled ((2 ^ 149 + (if F.isNeg m then -k else k)) * prd * 4), 1, 0)
  else if F.isNeg m then (scaled (k * prd * 8), 0, 1)
  else (scaled (k * prd * 8), 2, 1)

/-- Does the leg stand in X at carrier position `p8` (1/8 cycle)? X holds while the counter is below C. -/
def inX (cnt prd c8 p8 : Nat) : Bool :=
  if c8 = 0 then false
  else if 8 * prd ≤ c8 then true
  else
    match cnt with
    | 0 => decide (p8 < c8)
    | 1 => decide (8 * (prd - 1) ≤ p8 + c8)
    | _ => decide (p8 < c8 ∨ 16 * prd < p8 + c8 ∨ (16 * prd = p8 + c8))

/-- The compare edges of leg `x` of group `g` in the present carrier period, in 1/8 cycle (R222). -/
def periodEdges8 (s : State) (g x : Nat) : List Int :=
  let t := grpTb s g
  let b8 : Int := 8 * (tbOf s t).base
  let prd : Int := tbPrd s t
  match (legOf s g x).c8 with
  | none => []
  | some c =>
    if c = 0 ∨ 8 * tbPrd s t ≤ c then []
    else
      match tbMode s t with
      | 0 => [b8 + c]
      | 1 => if (c : Int) ≤ 8 * (prd - 1) then [b8 + 8 * (prd - 1) - c] else []
      | _ => [b8 + c, b8 + 16 * prd - c]

/-- The next compare edge of the leg after its last, in the present period. -/
def nextEdge8 (s : State) (g x : Nat) : Option Int :=
  (periodEdges8 s g x).find? (fun e => decide ((legOf s g x).mark8 < e))

/-- The instant a state that begins at `t8` ends by the values in force, in this carrier period or the next: the next compare edge, or the
counter's wrap in up and down counting. DESIGN CHOICE: a pulse that lasts past an update event is judged by the values in force when it
begins, and at the update event, if it is being dropped, what is left of it by the new ones. -/
def stateEnd8 (s : State) (g x : Nat) (t8 : Int) : Option Int :=
  let t := grpTb s g
  let h := tbOf s t
  let es := periodEdges8 s g x
  let b : Int := h.base + tbCarrier s t + h.shiftN
  let wrap : List Int := if tbMode s t = 2 ∨ es.isEmpty then [] else [8 * b]
  (es ++ wrap ++ es.map (fun e => e + 8 * (b - h.base))).find? (fun e => decide (t8 < e))

/-- Has leg `x` of group `g` a position in SERIAL mode (R243)? -/
def legSerial (s : State) (g x : Nat) : Bool :=
  decide (g < 2) && (legChans s g x).any (fun c => decide (c < 36) && decide (s.rdF (GlPos.GL_CFG c) 1 0 = 1))

/-- Is a pulse of `len` (1/8 cycle) of a state of leg `x` of group `g` dropped? After dead time it would be shorter than MIN_PULSE; with
a position in SERIAL mode the least is 50 ns, and holds for the leg state's own length too (R225, R243). -/
def tooShort (s : State) (g x : Nat) (len : Int) : Bool :=
  let m := 8 * fld (s.rdA (Grp.GRP_TIMING g)) 15 0
  let serial := legSerial s g x
  let least : Int := if serial then max m 320 else m
  let rest := len - deadTime8 s (grpBase s g + x * legSize (grpTopo s g))
  decide (0 < rest ∧ rest < least) || (serial && decide (len < least))

/-- Does control govern a channel of leg `x` of group `g`? -/
def legRuled (s : State) (g x : Nat) : Bool :=
  (legChans s g x).any (fun c => decide ((chOf s c).gov = 7) && (chOf s c).holdOff.isNone)

/-- Control asks leg `x` of group `g` for state `st` at `t8`: while control governs it, a pulse that would be too short is dropped (R225). -/
def legEnter (g x st : Nat) (t8 : Int) (s : State) : State :=
  let l := legOf s g x
  if l.ctl = st then s
  else
    match stateEnd8 s g x t8 with
    | some e =>
      if legRuled s g x && tooShort s g x (e - t8) then
        ((putLeg g x { l with skip8 := some e } s).pulse Grp.page g).incL (PwmTel.DROP_CNT g)
      else putLeg g x { l with ctl := st } s
    | none => putLeg g x { l with ctl := st } s

/-- Is group `g` owned: does a live FAST context name it as destination (R226)? -/
def groupOwned (s : State) (g : Nat) : Bool :=
  (busyCtxs s).any (fun n => ctxLive s n && ctxFast s n && decide (s.rdF (Ctx.DEST n) 11 0 = 0xF00 + g))

/-- The leg state digit of a vector index: base 2 for 2-level, base 3 for 3-level (R116, R223). -/
def indexState (topo idx x : Nat) : Nat := if topo = 0 then idx / 2 ^ x % 2 else idx / 3 ^ x % 3

end Sys2Proof.Machine
end

