-- ==== Sys2Proof/Machine/GlinkBase.lean ====
section
/-! DEFINITION. The base of the gate links (R237-R256): frames, position states, what the masks, levels and pins show,
and the all-off frame. -/

namespace Sys2Proof.Machine

/-- Hidden state of gate position `n`. -/
def posOf (s : State) (n : Nat) : GlHid := KMap.get (fun _ => {}) s.gl.pos n

/-- Put the hidden state of position `n`. -/
def putPos (n : Nat) (h : GlHid) (s : State) : State :=
  { s with gl := { s.gl with pos := KMap.set (fun _ => {}) s.gl.pos n h } }

/-- GL_STAT.STATE of position `n`: 0 OFF, 1 DOWN, 2 TRAINING, 3 UP, 4 LOST, 5 PIN_ONLY (R262). -/
def glState (s : State) (n : Nat) : Nat := s.rdF (GlPos.GL_STAT n) 2 0

/-- GL_CFG.MODE of position `n`: 0 OFF, 1 SERIAL, 2 PIN_ONLY. -/
def glMode (s : State) (n : Nat) : Nat := s.rdF (GlPos.GL_CFG n) 1 0

/-- FALLBACK_ARMED (R261). -/
def fallback (s : State) : Bool := s.rdB Gl.CTRL 0

/-- The bits [hi:0] of a number, most significant first. -/
def bitsMsb (v : Nat) : Nat → List Bool
  | 0 => []
  | n + 1 => decide (v / 2 ^ n % 2 = 1) :: bitsMsb v n

/-- A frame of R240 or R244 from its fields above the CRC: bits [36:6] as a number (R239). -/
def frameWith (body : Nat) : Nat := 5 * 2 ^ 37 + body % 2 ^ 31 * 2 ^ 6 + Crc.crc6 0 (bitsMsb body 31)

/-- The CRC of a 40-bit frame holds (R239). -/
def frameCrcOk (f : Nat) : Bool := decide (Crc.crc6 0 (bitsMsb (f / 2 ^ 6 % 2 ^ 31) 31) = f % 64)

/-- A downlink frame (R240). -/
def downFrame (type seq slot0 slot1 cmd : Nat) : Nat :=
  frameWith (type * 2 ^ 29 + seq % 8 * 2 ^ 26 + slot0 % 4096 * 2 ^ 14 + slot1 % 4096 * 2 ^ 2 + cmd % 4)

/-- Fields of a downlink frame: TYPE, SEQ, SLOT0, SLOT1, CMD. -/
def dType (f : Nat) : Nat := f / 2 ^ 35 % 4
def dSeq (f : Nat) : Nat := f / 2 ^ 32 % 8
def dSlot0 (f : Nat) : Nat := f / 2 ^ 20 % 4096
def dSlot1 (f : Nat) : Nat := f / 2 ^ 8 % 4096
def dCmd (f : Nat) : Nat := f / 2 ^ 6 % 4

/-- Fields of an uplink frame: STATUS [31:22] and MEAS (R244). -/
def uStatus (f : Nat) : Nat := f / 2 ^ 22 % 1024
def uMeas (f : Nat) : Nat := f / 2 ^ 6 % 65536

/-- The last STATUS of position `n` shows bit `i` of GL_DRV: 9 DESAT, 8 UV_POS, 7 UV_NEG, 6 OT, 5 SOFT_OFF, 4 LINK_ERR,
3 LEVEL, 2 PIN_MODE, 1 OWNER, 0 LATCHED (R244, R262). -/
def drvBit (s : State) (n i : Nat) : Bool := s.rdB (GlPos.GL_DRV n) i

/-- Does the pin of position `n` carry its channel (R254)? -/
def carries (s : State) (n : Nat) : Bool :=
  decide (glState s n = 5) || (decide (glMode s n = 1) && fallback s && decide (glState s n = 3 ∨ glState s n = 4))

/-- The value a list of changes (instant, value), oldest first, gives at instant `t`; before the first of them the value is false. -/
def valueAt (l : List (Nat × Bool)) (t : Nat) : Bool :=
  match (l.filter (fun e => decide (e.1 ≤ t))).getLast? with
  | some e => e.2
  | none => false

/-- A change of `carries` of position `n` is noted; the pin follows it 240 ns later (R254). -/
def updCarry (n : Nat) (s : State) : State :=
  let h := posOf s n
  let last := match h.carryLog.getLast? with | some e => e.2 | none => false
  if last = carries s n then s
  else
    let old := h.carryLog.filter (fun e => decide (e.1 + 192 ≤ s.now))
    let new := h.carryLog.filter (fun e => decide (s.now < e.1 + 192))
    putPos n { h with carryLog := (match old.getLast? with | some e => [e] | none => []) ++ new ++ [(s.now, carries s n)] } s

/-- Does the pin of position `n` carry its channel now: did it 240 ns ago (R254)? -/
def carriesNow (s : State) (n : Nat) : Bool := decide (192 ≤ s.now) && valueAt (posOf s n).carryLog (s.now - 192)

/-- The level of direct pin DGn (R254); low on a standby (R361). -/
def dgLevel (s : State) (n : Nat) : Bool :=
  ownsAt s n s.now && (if n < 36 then carriesNow s n && pinPath s n else pinPath s n)

/-- The masks of positions UP and LOST (R261). -/
def glMasks (s : State) : State :=
  let m (st lo k : Nat) : Word :=
    word ((List.range k).foldl (fun acc i => acc + (if glState s (lo + i) = st then 2 ^ i else 0)) 0)
  (((s.wr Gl.UP_MASK0 (m 3 0 32)).wr Gl.UP_MASK1 (m 3 32 4)).wr Gl.LOST_MASK0 (m 4 0 32)).wr Gl.LOST_MASK1 (m 4 32 4)

/-- `IRQ_RAW` LOST follows the positions in LOST, DESAT and DRV_WARN any position's last STATUS (R261). -/
def glLevels (s : State) : State :=
  let ds := (List.range 36).any (fun n => decide (1 ≤ glState s n ∧ glState s n ≤ 4) && drvBit s n 9)
  let wn := (List.range 36).any (fun n => decide (glState s n = 3) && (drvBit s n 8 || drvBit s n 7 || drvBit s n 6))
  let lost := (List.range 36).any (fun n => decide (glState s n = 4))
  ((s.raw Gl.page 2 lost).raw Gl.page 3 ds).raw Gl.page 4 wn

/-- Position `n` takes a state. -/
def setGl (n st : Nat) (s : State) : State :=
  let s1 := if st = 3 ∧ glState s n ≠ 3 then
      (((s.stampNow (GlTel.VCE_ON n)).stampNow (GlTel.TEMP n)).stampNow (GlTel.SUPPLY n)).stampNow (GlTel.IDENT n) else s
  glLevels (glMasks (updCarry n (s1.wrF (GlPos.GL_STAT n) 2 0 st)))

/-- A training of position `n` fails with a TFAIL code: DOWN, TRAIN_FAIL, a WARN event (R247). -/
def glFail (n code : Nat) (s : State) : State :=
  let s1 := setGl n 1 (putPos n { posOf s n with train := none } (s.wrF (GlPos.GL_STAT n) 11 8 code))
  (s1.pulse Gl.page 1).emit .warn GlPos.page (0x20 + code) n (s1.rd (GlPos.GL_STAT n))

/-- An ALL_OFF frame goes out on position `n` from the next bit boundary, carrying the SEQ of the frame it pre-empts; a
training is broken (R19, R238, R240, R247). -/
def allOffFrame (n : Nat) (soft : Bool) (s : State) : State :=
  if glState s n = 0 then s
  else
    let start := (s.now + 1) / 2 * 2
    let h := posOf s n
    let f := downFrame 2 h.seq 0 0 (bitN soft)
    let s1 := putPos n { h with frame := f, frameAt := start, resume := start + 80 } s
    if glState s1 n = 2 then glFail n 6 s1 else s1

end Sys2Proof.Machine
end

