-- ==== Sys2Proof/Machine/TailBase.lean ====
section
/-! DEFINITION. The base of Tailwind (R142-R158): which contexts speculate, the statistics, and the squash of what is
outstanding. -/

namespace Sys2Proof.Machine

/-- Hidden state of context `n`. -/
def ctxOf (s : State) (n : Nat) : CtxHid := KMap.get (fun _ => {}) s.cle.ctxs n

/-- Put the hidden state of context `n`. -/
def putCtx (n : Nat) (h : CtxHid) (s : State) : State :=
  { s with cle := { s.cle with ctxs := KMap.set (fun _ => {}) s.cle.ctxs n h } }

/-- SPRINT and BALANCED speculate (R24). -/
def profileSpec (p : Nat) : Bool := decide (p < 2)

/-- `LAW_CFG`.SPEC_EN. -/
def specEn (s : State) (n : Nat) : Bool := s.rdB (Ctx.LAW_CFG n) 5

/-- `SPEC_CTRL`.OFF. -/
def specOff (s : State) : Bool := s.rdB Cle.SPEC_CTRL 0

/-- A speculating context: its law, SPEC_EN and the active profile (R142). -/
def specCtx (s : State) (n : Nat) : Bool := ctxFast s n && specEn s n && profileSpec s.cle.profile

/-- Segments and cycles of a law's precompute (R114). -/
def preCost (law : Nat) : Nat × Nat :=
  match law with
  | 4 => (3, 224) | 5 => (3, 192) | 6 => (5, 384) | _ => (0, 0)

/-- May a precompute of context `n` start: no run outstanding, CLOSED, or HELD after an overrun (R143, R153, R155)? -/
def preAllowed (s : State) (n : Nat) (held : Bool) : Bool :=
  specCtx s n && !specOff s && s.prot.lats.isEmpty && (ctxOf s n).run.isNone &&
    decide (ctxState s n = 3 ∨ (held = true ∧ ctxState s n = 4))

/-- Release a precompute of context `n`. -/
def startPre (n : Nat) (s : State) : State :=
  let h := ctxOf s n
  let c := preCost (ctxLaw s n)
  putCtx n { h with pre := some { segs := c.1, cycles := c.2 }, spec := none, preGen := h.preGen + 1 } s

/-- Cause `c` has ended a speculation of context `n` in the window (R156, R158). -/
def markCause (n c : Nat) (s : State) : State :=
  (s.wrL (Ctx.SPEC_CAUSES n) (setBit (s.rdL (Ctx.SPEC_CAUSES n)) c true)).wrL CleTel.SPEC_CAUSES_ALL
    (setBit (s.rdL CleTel.SPEC_CAUSES_ALL) c true)

/-- One released run of a speculating context ends as a hit, or as a squash with cause `c` (R142, R156, R158). -/
def countRun (n : Nat) (hit : Bool) (c : Nat) (s : State) : State :=
  if hit then (s.incL (Ctx.SPEC_HITS n)).incL CleTel.SPEC_HITS_ALL
  else
    let s1 := markCause n c ((s.incL (Ctx.SPEC_SQUASHES n)).incL CleTel.SPEC_SQUASH_ALL)
    s1.wrL (Ctx.SPEC_CAUSES n) (setFld (s1.rdL (Ctx.SPEC_CAUSES n)) 28 24 c)

/-- Is `c` a cause from outside the band check (R153)? -/
def outsideCause (c : Nat) : Bool := [5, 6, 7, 0xA, 0xC, 0xE, 0xF].contains c

/-- Cycles that a full computation of a law takes beyond the correction of a hit (R150). -/
def hitGain (law : Nat) : Nat :=
  (match law with | 4 => 176 | 5 => 152 | _ => 304) - 38

/-- A cause that meets run `r` now, of a law computed with `law` (R153). One from outside the band check is recorded in preference to the
band check's own, until the band check is past; of several the first wins, and in one cycle the lowest code. A hit turns into a full
computation. A write after the dispatch leaves the run as it is (R159). -/
def causeRun (c now : Nat) (r : Run) : Run :=
  if !r.counted then r
  else if r.started && (decide (c = 6) || decide (r.bandAt < now)) then r
  else
    let wins := decide (r.cause = 0) || (outsideCause c && !outsideCause r.cause) || decide (r.causeAt = now ∧ c < r.cause)
    let r1 : Run := if wins then { r with cause := c, causeAt := now } else r
    if r.started ∧ r.hit then { r1 with hit := false, res := r.full, doneAt := r.doneAt + hitGain r.law } else r1

/-- Put run `r1` of context `n` in place of `r`: its lane works on for as long as its end moves. -/
def putRun (n : Nat) (r r1 : Run) (s : State) : State :=
  let s1 := putCtx n { ctxOf s n with run := some r1 } s
  if r1.doneAt = r.doneAt then s1
  else { s1 with cle := { s1.cle with
    lanes := s1.cle.lanes.map (fun e =>
      if e.2.ctx = n ∧ e.2.gen = none then (e.1, { e.2 with till := e.2.till + (r1.doneAt - r.doneAt) }) else e) } }

/-- A run of a speculating context is counted once (R142). -/
def countEnd (n : Nat) (r : Run) (s : State) : State :=
  if !r.counted then s else countRun n r.hit r.cause (putCtx n { ctxOf s n with spec := none } s)

/-- The target reload of an outstanding run of context `n` has moved to `e` (R153, R155): its deadline moves with it, and a hit whose band
check is not past is squashed. -/
def moveTarget (e : Int) (n : Nat) (s : State) : State :=
  match (ctxOf s n).run with
  | some r =>
    if !r.fast ∨ r.target = e then s
    else
      let r1 : Run := { r with target := e, deadline := e - 16 }
      putRun n r (if r.started then causeRun 0xD s.now r1 else r1) s
  | none => s

/-- Squash what is outstanding of context `n` with cause `c`: a released run, or the buffer and a precompute, which
restarts from the record as it stands while the context may speculate (R153). -/
def squashCtx (c n : Nat) (s : State) : State :=
  let h := ctxOf s n
  match h.run with
  | some r =>
    putRun n r (causeRun c s.now r) s
  | none =>
    if h.spec.isNone && h.pre.isNone then s
    else
      let s1 := markCause n c (putCtx n { h with spec := none, pre := none } s)
      let again := preAllowed s1 n false
      let s2 := if h.pre.isSome || again then s1.incL CleTel.SPEC_PRE_ABANDON else s1
      if again then startPre n s2 else s2

/-- Every outstanding speculation is squashed with cause `c`. -/
def squashAll (c : Nat) (s : State) : State := s.cle.ctxs.foldl (fun t e => squashCtx c e.1 t) s

end Sys2Proof.Machine
end

