-- ==== Sys2Proof/Machine/ProtBase.lean ====
section
/-! DEFINITION. The base of power-stage protection (R265-R289): causes, latches and lock-out of the Squall path, the
forced states of rank 3a, and what STATUS, FORCE_STAT and the interrupt conditions show. -/

namespace Sys2Proof.Machine

/-- Is protection armed? -/
def armed (s : State) : Bool := s.rdB Prot.CTRL 0

/-- Is any Squall source latched? -/
def anyLatched (s : State) : Bool := !s.prot.lats.isEmpty

/-- Does any latch name channel `c`? -/
def named (s : State) (c : Nat) : Bool := s.prot.lats.any (fun l => latchNames s l c)

/-- The DC-link value as protection last evaluated it (R279). -/
def dcl (s : State) : SrcVal := srcStored s 0x700

/-- 0.99 in binary32. -/
def c099 : Word := 0x3F7D70A4

/-- Is the cause of source `n` active (R265)? -/
def causeActive (s : State) (n : Nat) : Bool :=
  let objs := (s.prot.lats.filter (fun l => decide (l.src = n))).flatMap (·.objs)
  if n < 32 then s.rdB (ProtCmp.CMP_STAT n) 0
  else if n < 40 then s.rdB Trip.TRIP_STAT (8 + (n - 32))
  else match n with
    | 40 => F.le (F.mul c099 (s.rd Prot.OV3)) (dcl s).value && (dcl s).valid
    | 41 => (List.range 28).any (fun k => decide (s.rdF (Xw.CW_PAIR k) 22 20 = 3) && s.rdB (Xw.CW_STAT k) 1)
    | 42 => objs.any (fun c => decide (ctxState s c = 5))
    | 43 => objs.any (fun c => s.rdB (Ctx.STATE c) 9 || s.rdB (Ctx.STATE c) 10)
    | 44 => objs.any (fun m => decide (machState s m = 9) && decide (s.rdF (Foc.MSTATE m) 15 8 = 8))
    | 45 => objs.any (fun p => decide (glState s p = 4))
    | 46 => (List.range 36).any (fun p => drvBit s p 9 && s.prot.lats.any (fun l => decide (l.src = 46) && latchNames s l p))
    | 48 => s.rdB Clk.WATCH_ISL 16
    | _ => false

/-- Tries of source `n` within the preceding WINDOW (R276). -/
def triesOf (s : State) (n : Nat) : Nat :=
  (s.prot.tries.filter (fun t => decide (t.1 = n ∧ s.now ≤ t.2 + s.rdF Prot.RETRY_CFG 31 24 * 800000000))).length

/-- SRC_STAT of source `n` (R291). -/
def srcStat (s : State) (n : Nat) : Word :=
  word (bitN (isLatched s n) + at' (bitN (causeActive s n)) 1 + at' (min (triesOf s n) 255) 8)

/-- LOCKOUT. -/
def lockedOut (s : State) : Bool := s.rdB (hSTATUS Prot.page) 2

/-- CHOP_FAULT. -/
def chopFault (s : State) : Bool := s.rdB (hSTATUS Prot.page) 4

/-- The chopper channels of `CHOP_CFG`.CH. -/
def chopChans (s : State) : List Nat :=
  (if s.rdB Prot.CHOP_CFG 0 then [48] else []) ++ (if s.rdB Prot.CHOP_CFG 1 then [49] else [])

/-- Is a chopper channel forced on? -/
def chopOn (s : State) : Bool :=
  !chopFault s && s.pwm.forces.any (fun f => decide (f.rank = 3) && (f.on.contains 48 || f.on.contains 49))

/-- Is a rank-3a force of order `o` on machine `m` asked for? -/
def rank3a (s : State) (o m : Nat) : Bool :=
  s.pwm.forces.any (fun f => decide (f.rank = 3 ∧ f.order = o ∧ f.id = m))

/-- The forced states that FORCE_STAT shows (R290). -/
def forceStat (s : State) : Word :=
  let per (o : Nat) : Nat := (List.range 4).foldl (fun a m => a + bitN (rank3a s o m) * 2 ^ m) 0
  let bs := (List.range 6).foldl (fun a l => a + bitN (hasForce s .bootstrap l) * 2 ^ l) 0
  word (per 3 + at' (per 2) 4 + at' bs 8 + at' (bitN (chopOn s)) 16 + at' (bitN (hasForce s .chopFault 0)) 17
    + at' (bitN (s.pwm.forces.any (fun f => decide (f.rank = 3) && (f.on.contains 50 || f.on.contains 51)))) 18)

/-- STATUS, FORCE_STAT, the latch registers and the levels of IRQ_RAW follow protection's state; the count of cycles
with the chopper on advances; a response window opens at every off-to-on of the chopper and is gone when it is off (R281, R290, R293). -/
def protShow (s : State) : State :=
  let o := s.rd (hSTATUS Prot.page)
  let l0 := s.prot.lats.foldl (fun (a : Nat) l => if l.src < 32 then a + 2 ^ l.src else a) 0
  let l1 := s.prot.lats.foldl (fun (a : Nat) l => if 32 ≤ l.src then a + 2 ^ (l.src - 32) else a) 0
  let st := word (bitN (armed s) + at' (bitN (anyLatched s)) 1 + at' (bitN (chopOn s)) 3
    + at' (bitN (decide (s.rdF Prot.DIS_STAT 1 0 = 1))) 8
    + at' (match s.prot.lats.head? with | some l => l.src | none => 0) 16 + at' (bitN (decide (1 < s.prot.lats.length))) 22)
  let kept := o &&& 0x2F4
  let s1 := (((s.wr (hSTATUS Prot.page) (st ||| kept)).wr Prot.FORCE_STAT (forceStat s)).wr ProtSrc.SRC_LATCH0
    (word l0)).wr ProtSrc.SRC_LATCH1 (word l1)
  let p := Prot.page
  let s2 := ((((s1.raw p 0 (anyLatched s)).raw p 1 (bit o 2)).raw p 2 (bit o 4)).raw p 3 (bit o 5)).raw p 4 (bit o 7)
  let s3 := wakeRisen 4 p 1 s (((s2.raw p 5 (decide (s.rdF Prot.DIS_STAT 1 0 = 2))).raw p 6
    (decide (s.rdF Prot.DIS_STAT 1 0 = 3))).raw p 8 (isLatched s 47))
  match s3.prot.chopSince, chopOn s with
  | none, true =>
    { s3 with prot := { s3.prot with
      chopSince := some s3.now, chopAt := some s3.now, chopVal := (dcl s3).value, chopSeen := false, chopJudge := false } }
  | some t, false =>
    { s3 with prot := { s3.prot with
      chopSince := none, chopOn := s3.prot.chopOn + (s3.now - t), chopAt := none, chopJudge := false } }
  | _, _ => s3

/-- Put a status bit of protection that has no other home. -/
def protBit (i : Nat) (b : Bool) (s : State) : State := protShow (s.wrB (hSTATUS Prot.page) i b)

/-- Lock-out, with its FAULT event (R276, R277). -/
def protLockout (s : State) : State :=
  if lockedOut s then s else emitPage .fault Prot.page 1 0 (protBit 2 true s)

/-! ### Machines and their switches -/

/-- The leg state of a side: 0 lower (N), 1 upper (P, or 1 for 2-level) (R185, R272). -/
def sideState (topo side : Nat) : Nat := if side = 0 then 0 else if topo = 0 then 1 else 2

/-- The channels of machine `m` that are on in an active short circuit on a side. -/
def sideChans (s : State) (m side : Nat) : List Nat :=
  ((machGroups s m).filter (grpEn s)).flatMap (fun g => (List.range (grpLegs g)).flatMap (fun x =>
    (onPlaces (grpTopo s g) (sideState (grpTopo s g) side)).map (grpBase s g + x * legSize (grpTopo s g) + ·)))

/-- Would the short circuit on a side use a switch whose driver reports a fault, or whose position is lost (R284)? -/
def sideFaulty (s : State) (m side : Nat) : Bool :=
  (sideChans s m side).any (fun c => decide (c < 36) && decide (glMode s c = 1) &&
    (drvBit s c 9 || drvBit s c 8 || drvBit s c 7 || drvBit s c 0 || decide (glState s c = 4)))

/-- The side that `ASC_CFG`.SIDE gives machine `m` now; ALTERNATE starts on the lower side (R185). -/
def ascSide (s : State) (m : Nat) : Nat :=
  match s.rdF (Foc.ASC_CFG m) 1 0 with
  | 0 => 0
  | 1 => 1
  | _ => (KMap.get (fun _ => 0) s.prot.ascSide m) % 2

/-- The forced state of a pulse block on machine `m`. -/
def blockForce (s : State) (rank order : Nat) (tag : ForceTag) (m : Nat) : Force :=
  { rank := rank, order := order, tag := tag, id := m, on := [], off := machChans s m }

/-- The forced state of an active short circuit of machine `m` on a side. -/
def ascForce (s : State) (rank order : Nat) (tag : ForceTag) (m side : Nat) : Force :=
  let on := sideChans s m side
  { rank := rank, order := order, tag := tag, id := m, on := on, off := (machChans s m).filter (fun c => !on.contains c) }

/-- Does an active short circuit stand on machine `m`? -/
def ascOn (s : State) (m : Nat) : Bool :=
  s.pwm.forces.any (fun f => decide (f.id = m) && !f.on.isEmpty && decide (f.rank = 5 ∨ f.rank = 4 ∨ (f.rank = 3 ∧ f.order = 3)))

/-- A short circuit begins on machine `m` where none stands: ALTERNATE starts on the lower side (R185). -/
def ascStart (m : Nat) (s : State) : State :=
  if ascOn s m then s
  else
    { s with
      prot := { s.prot with ascSide := KMap.set (fun _ => 0) s.prot.ascSide m 0, ascStop := s.prot.ascStop.filter (fun k => decide (k ≠ m)) }
      foc := KMap.set (fun _ => {}) s.foc m { KMap.get (fun _ => {}) s.foc m with ascAt := s.now } }

/-- Protection applies an active short circuit to machine `m` on the configured side, or on the healthy one, or blocks
the machine where both sides hold a faulty switch (R284). -/
def protAsc (tag : ForceTag) (m : Nat) (s0 : State) : State :=
  if ascBarred s0 m then s0
  else
    let s := ascStart m s0
    let side := ascSide s m
    if !sideFaulty s m side then protShow (addForce (ascForce s 3 3 tag m side) s)
    else if sideFaulty s m (1 - side) then
      emitPage .fault Prot.page 0xFF m (protShow (addForce (blockForce s 3 2 tag m) s))
    else
      let s1 : State := { s with prot := { s.prot with
        ascSide := KMap.set (fun _ => 0) s.prot.ascSide m (1 - side)
        ascStop := if s.prot.ascStop.contains m then s.prot.ascStop else s.prot.ascStop ++ [m] } }
      protShow ((addForce (ascForce s1 3 3 tag m (1 - side)) s1).pulse Prot.page 9)

/-! ### Chopper and discharge forces -/

/-- The chopper forced state of OV1. -/
def chopForce (s : State) : Force := { rank := 3, order := 5, tag := .chopper, id := 0, on := chopChans s, off := [] }

/-- A discharge with a method: 0 chopper, 1 discharge channels, 2 both, 3 windings (R285). -/
def disForce (s : State) (method : Nat) : Force :=
  let on := (if method = 0 ∨ method = 2 then chopChans s else []) ++ (if method = 1 ∨ method = 2 then [50, 51] else [])
  { rank := 3, order := 5, tag := .discharge, id := 0, on := on, off := [] }

/-- The discharge runs with a method from now on. -/
def disMethod (method : Nat) (s : State) : State :=
  let s1 := s.wr Prot.DIS_STAT (word (1 + at' method 2))
  protShow (if method = 3 then dropForce .discharge 0 s1 else addForce (disForce s1 method) s1)

/-- Is a discharge running? -/
def discharging (s : State) : Bool := decide (s.rdF Prot.DIS_STAT 1 0 = 1)

/-- Milliseconds since the discharge started. -/
def disElapsed (s : State) : Nat := min ((s.now - s.prot.disAt) / 800000) 0xFFFF

/-- The discharge ends: 0 stopped, 2 done, 3 failed (R285). -/
def disEnd (code : Nat) (s : State) : State :=
  let s1 := s.wr Prot.DIS_STAT (word (code + at' (s.rdF Prot.DIS_STAT 3 2) 2 + at' (disElapsed s) 16))
  let s2 := protShow (dropForce .discharge 0 s1)
  if code = 3 then emitPage .fault Prot.page 6 0 s2 else s2

/-! ### Latching -/

/-- The positions an all-off of channels that satisfy `p` reaches: each affected leg stays all off (R230). -/
def allOffPositions (s : State) (p : Nat → Bool) : List Nat :=
  (List.range 36).filter (fun c => (legMates s c).any p)

/-- Send ALL_OFF frames to positions `ps`. -/
def allOffFrames (ps : List Nat) (soft : Bool) (s : State) : State := ps.foldl (fun t n => allOffFrame n soft t) s

/-- Does a latched source with SOFT name position `n` or a switch of its leg? Soft turn-off wins (R267). -/
def softNamed (s : State) (n : Nat) : Bool :=
  s.prot.lats.any (fun l => decide (l.src ≠ 48) && s.rdB (ProtSrc.SRC_CFG l.src) 1 && (legMates s n).any (latchNames s l))

/-- The ALL_OFF frames of a source that has just latched: to every position that was not all off before it, and again to one whose frame
has not started yet and now asks for a soft turn-off (R267). -/
def latchFrames (wasOff : List Nat) (s : State) : State :=
  (allOffPositions s (named s)).foldl (fun t n =>
    let h := posOf t n
    let waits := decide (dType h.frame = 2) && decide (t.now ≤ h.frameAt) && decide (dCmd h.frame = 0)
    if !wasOff.contains n || (softNamed t n && waits) then allOffFrame n (softNamed t n) t else t) s

/-- TWO_LEG cancels every rank-3a active short circuit on the groups its matrix names (R274). -/
def cancelAsc (s : State) : State :=
  let keep := s.pwm.forces.filter (fun f => !(decide (f.rank = 3 ∧ f.order = 3) && ascBarred s f.id))
  { s with pwm := { s.pwm with forces := keep } }

/-- The event of a Squall source: CODE 0x20 + s of the source page, OBJ its originating object (R265, R434). -/
def squallEvent (n obj : Nat) (s : State) : State := s.emit .fault ProtSrc.page (0x20 + n) obj (srcStat s n)

/-- A source's condition arises, from object `obj`, whose channels under OWN are `own` (R265, R267, R269, R276, R277). -/
def latchSource (n obj : Nat) (own : List Nat) (s : State) : State :=
  let cfg := s.rd (ProtSrc.SRC_CFG n)
  if n ≠ 48 ∧ !(armed s && bit cfg 0) then s
  else
    let wasOff := allOffPositions s (named s)
    match s.prot.lats.find? (fun l => decide (l.src = n)) with
    | some l =>
      if bit cfg 3 && !l.objs.contains obj then
        let upd : Latch := { l with objs := l.objs ++ [obj], chans := l.chans ++ own.filter (fun c => !l.chans.contains c) }
        let s1 : State := { s with prot := { s.prot with lats := s.prot.lats.map (fun k => if k.src = n then upd else k) } }
        squallEvent n obj (latchFrames wasOff (protShow (resolveNow s1)))
      else s
    | none =>
      let tries := triesOf s n
      let lock := decide (n = 47) || (bit cfg 2 && decide (n < 47) && decide (s.rdF Prot.RETRY_CFG 7 0 ≤ tries))
      let lat : Latch := { src := n, at_ := s.now, objs := [obj], chans := own }
      let s1 : State := { s with prot := { s.prot with
        lats := s.prot.lats ++ [lat]
        noRetry := if lock then s.prot.noRetry ++ [n] else s.prot.noRetry } }
      let s2 := if n = 47 then cancelAsc s1 else s1
      let s3 := squashAll 5 (latchFrames wasOff (protShow (resolveNow (s2.incL (ProtTel.LATCH_CNT n)))))
      let s4 := squallEvent n obj s3
      if lock then protLockout s4 else s4

/-- Trip latches of the PWM page for sources 32-39; IRQ_RAW of the trip page follows them (R234). -/
def putTripLatch (k : Nat) (b : Bool) (s : State) : State :=
  (s.wrB Trip.TRIP_STAT (16 + k) b).raw Trip.page k b

/-- The latches of the sources in `l` clear; released channels follow R30 (R275). -/
def clearLatches (l : List Nat) (s : State) : State :=
  let s1 : State := { s with prot := { s.prot with
    lats := s.prot.lats.filter (fun k => !l.contains k.src)
    noRetry := s.prot.noRetry.filter (fun n => !l.contains n) } }
  let s2 := l.foldl (fun t n => if 32 ≤ n ∧ n < 40 then putTripLatch (n - 32) false t else t) s1
  protShow (resolveNow s2)

/-- A clear that a WARD active makes by itself goes to the standby too, as a write of SRC_CLR (R365). -/
def shareClear (n : Nat) (s : State) : State :=
  if twinState s = 2 then
    twinWriteMsg none none true false [(if n < 32 then ProtSrc.SRC_CLR0 else ProtSrc.SRC_CLR1, word (2 ^ (n % 32)))] s
  else s

/-- A retried source clears: one try is counted (R276). -/
def retryClear (n : Nat) (s : State) : State :=
  let s1 := shareClear n (clearLatches [n] s)
  let s2 : State := { s1 with prot := { s1.prot with tries := s1.prot.tries ++ [(n, s1.now)], retrain := [] } }
  (s2.pulse Prot.page 7).incL ProtTel.RETRIES

/-- May source `n` clear automatically now: recoverable, latched, WAIT elapsed, no lock-out, its cause inactive (R276)? -/
def retryDue (s : State) (n : Nat) : Bool :=
  s.rdB (ProtSrc.SRC_CFG n) 2 && decide (n < 47) && !lockedOut s && !s.prot.noRetry.contains n &&
    s.prot.lats.any (fun l => decide (l.src = n ∧ l.at_ + s.rdF Prot.RETRY_CFG 23 8 * 800000 ≤ s.now)) && !causeActive s n

/-- The LATCHED positions of the channels that source 46's latch names, which its retry trains first (R276). -/
def latchedPositions (s : State) : List Nat :=
  (List.range 36).filter (fun p => s.prot.lats.any (fun l => decide (l.src = 46) && latchNames s l p) && drvBit s p 0
    && decide (glMode s p = 1) && decide (glState s p ≠ 2 ∧ glState s p ≠ 0))

/-- Every recoverable source clears once its WAIT has run out and its cause is inactive; source 46 once no position is left to train
(R276). -/
def retryScan (s : State) : State :=
  (s.prot.lats.map (·.src)).foldl (fun t n =>
    if retryDue t n ∧ (n ≠ 46 ∨ (t.prot.retrain.isEmpty ∧ (latchedPositions t).isEmpty)) then retryClear n t else t) s

/-- What an accepted write may end of a cause lets retries clear (R276). -/
def scanned (r : Reply) : Reply :=
  match r.2 with
  | .none => (retryScan r.1, .none)
  | _ => r

end Sys2Proof.Machine
end

