-- ==== Sys2Proof/Machine/CleBase.lean ====
section
/-! DEFINITION. The base of the control law engine (R109-R141): states and transitions of a context, feedback loss,
Headwind evaluation and its safe state, admission, and the commands of `CLE.CMD`. -/

namespace Sys2Proof.Machine

/-- √3 in binary32. -/
def sqrt3 : Word := 0x3FDDB3D7

/-! ### Machines and their contexts -/

/-- Hidden state of machine `m`. -/
def machOf (s : State) (m : Nat) : MachHid := KMap.get (fun _ => {}) s.foc m

/-- Put the hidden state of machine `m`. -/
def putMach (m : Nat) (h : MachHid) (s : State) : State := { s with foc := KMap.set (fun _ => {}) s.foc m h }

/-- `CFG`.DUAL of machine `m`. -/
def isDual (s : State) (m : Nat) : Bool := decide (m = 0) && s.rdB (Foc.CFG 0) 2

/-- The current contexts of machine `m`. -/
def machCtxs (s : State) (m : Nat) : List Nat :=
  s.rdF (Foc.CUR_CTX m) 8 0 :: (if isDual s m then [s.rdF (Foc.CUR_CTX m) 24 16] else [])

/-- The machine that names context `n` in CUR_CTX; one that is not OFF before one that is (R174). DESIGN CHOICE where several do: the
lowest. -/
def machOfCtx (s : State) (n : Nat) : Option Nat :=
  let names (m : Nat) : Bool := decide (s.rdF (Foc.CUR_CTX m) 8 0 = n) || (s.rdB (Foc.CFG m) 2 && decide (s.rdF (Foc.CUR_CTX m) 24 16 = n))
  match (List.range 4).find? (fun m => names m && decide (machState s m ≠ 0)) with
  | some m => some m
  | none => (List.range 4).find? names

/-! ### Headwind groups (R132-R135) -/

/-- Hidden state of Headwind group `g`. -/
def hwOf (s : State) (g : Nat) : HwHid := KMap.get (fun _ => {}) s.cle.hws g

/-- Put the hidden state of Headwind group `g`. -/
def putHw (g : Nat) (h : HwHid) (s : State) : State :=
  { s with cle := { s.cle with hws := KMap.set (fun _ => {}) s.cle.hws g h } }

/-- Is context `n` a member of a group, and of which? -/
def ctxMember (s : State) (n : Nat) : Option Nat :=
  if s.rdB (Ctx.GROUP n) 7 then some (s.rdF (Ctx.GROUP n) 5 0) else none

/-- The contexts whose GROUP register makes them members of group `g`. Only a listed register can be non-zero. -/
def hwMembers (s : State) (g : Nat) : List Nat :=
  s.regs.filterMap (fun e =>
    if 0x0A0000 ≤ e.1 ∧ e.1 < 0x0C0000 ∧ e.1 % 256 = 0x0C ∧ bit e.2 7 ∧ fld e.2 5 0 = g then some ((e.1 - 0x0A0000) / 256) else none)

/-- The context member in slot `i`. -/
def hwSlotCtx (s : State) (g i : Nat) : Option Nat :=
  (hwMembers s g).find? (fun n => decide (s.rdF (Ctx.GROUP n) 10 8 = i))

/-- The enabled external member in slot `i`: its register. -/
def hwSlotExt (s : State) (g i : Nat) : Option Word :=
  [s.rd (Hw.HW_EXT_A g), s.rd (Hw.HW_EXT_B g)].find? (fun w => bit w 15 && decide (fld w 14 12 = i))

/-- One competitor of a slot: its value, whether it is a magnitude member, and whether it is a valid one. -/
structure HwSlot where
  val : Word
  mag : Bool
  ok : Bool
  deriving DecidableEq, Repr

/-- What competes in slot `i` of group `g`: a live context with its output, or an enabled external member. -/
def hwCompetitor (s : State) (g i : Nat) : Option HwSlot :=
  match hwSlotCtx s g i with
  | some n => if ctxLive s n then some { val := s.rdL (Ctx.OUT n), mag := s.rdB (Ctx.GROUP n) 12, ok := true } else none
  | none =>
    match hwSlotExt s g i with
    | some w => let v := srcNow s (fld w 11 0); some { val := v.value, mag := bit w 16, ok := v.valid }
    | none => none

/-- Does slot 0 of group `g` compete: is the group active (R132)? -/
def hwLive (s : State) (g : Nat) : Bool :=
  s.rdB (Hw.HW_CFG g) 0 && (match hwSlotCtx s g 0 with | some n => ctxLive s n | none => false)

/-- HW_STAT's live fields, `HW.IRQ_RAW`.SAFE and `CLE.STATUS`.ANY_SAFE_GROUP follow the group. -/
def hwShow (g : Nat) (s : State) : State :=
  let comp := (List.range 8).foldl (fun (a : Nat) i => a + bitN (hwCompetitor s g i).isSome * 2 ^ i) 0
  let flt := (List.range 8).foldl (fun (a : Nat) i =>
    a + bitN (match hwSlotCtx s g i with | some n => decide (ctxState s n = 5) | none => false) * 2 ^ i) 0
  let w := setFld (setFld (setBit (s.rd (Hw.HW_STAT g)) 0 (hwLive s g)) 15 8 comp) 23 16 flt
  let s0 := if bit w 0 && !s.rdB (Hw.HW_STAT g) 0 then s.stampNow (Hw.HW_OUT g) else s
  let s1 := s0.wr (Hw.HW_STAT g) w
  let any := (List.range 64).any (fun k => s1.rdB (Hw.HW_STAT k) 1)
  (s1.raw Hw.page 0 any).wrB (hSTATUS Cle.page) 4 any

/-- Write the output of group `g` to its destination and its source. -/
def hwOutput (g : Nat) (y : Word) (s : State) : State :=
  let s1 := setSrc (0x300 + g) y true (s.produce (Hw.HW_OUT g) y)
  let d := s1.rdF (Hw.HW_DEST g) 11 0
  if d = 0 then s1 else putInput d y s1

/-- Group `g` enters its safe state (R135). -/
def hwSafe (g : Nat) (s : State) : State :=
  hwShow g (putHw g { hwOf s g with resume := false } (s.wrB (Hw.HW_STAT g) 1 true))

/-- HW_STAT follows, and a group that has become inactive writes HW_SAFE once (R135). -/
def hwFollow (g : Nat) (s : State) : State :=
  let was := hwActive s g
  let s1 := hwShow g s
  if was && !hwActive s1 g then hwOutput g (s1.rd (Hw.HW_SAFE g)) s1 else s1

/-! ### Transitions (R123, R124) -/

/-- `CLE.STATUS`.ANY_FAULT and the engine's interrupt levels follow the contexts (R138). -/
def cleShow (s : State) : State :=
  let s1 := cleLevels s
  s1.wrB (hSTATUS Cle.page) 3 (s1.rdB (hIRQ_RAW Cle.page) 1)

/-- M_LIM reduced the voltage of the run of context `n` for reload `tgt`, or did not, or no run stands: LIMITED of its machine shows any of
its contexts, and a period counts once (R174). -/
def showLimited (n : Nat) (b : Bool) (tgt : Int) (s : State) : State :=
  let h := ctxOf s n
  if !b && !h.limited then s
  else
    let s1 := putCtx n { h with limited := b } s
    match machOfCtx s1 n with
    | none => s1
    | some m =>
      let s2 := s1.wrB (Foc.MSTATE m) 24 ((machCtxs s1 m).any (fun k => (ctxOf s1 k).limited))
      if b && decide ((machOf s2 m).limAt ≠ some tgt) then
        putMach m { machOf s2 m with limAt := some tgt } ((s2.pulse (Foc.page m) 4).incL (Foc.LIMITED_CNT m))
      else s2

/-- Context `n` enters state `st`. Leaving CLOSED restarts the freeze window; entries to HELD and FAULT are counted;
CLOSED pulses at the end of CLOSING. -/
def ctxGo (n st : Nat) (s : State) : State :=
  let old := ctxState s n
  let s1 := s.wrF (Ctx.STATE n) 2 0 st
  let s2 := if st = 4 ∧ old ≠ 4 then s1.incSat (Ctx.COUNTS n) 15 0
    else if st = 5 ∧ old ≠ 5 then s1.incSat (Ctx.COUNTS n) 31 16 else s1
  let s3 := if st = 3 ∧ old = 2 then s2.pulse Cle.page 4 else s2
  let h := ctxOf s3 n
  let h1 : CtxHid := if st = 3 then h else { h with frz := {} }
  let h2 : CtxHid := if st = 4 ∧ old ≠ 4 then { h1 with before := old } else h1
  let s4 := cleShow ((if 2 ≤ st ∧ st ≤ 4 then id else showLimited n false 0) (putCtx n h2 s3))
  match ctxMember s4 n with
  | some g => hwFollow g s4
  | none => s4

/-- Latch cause bit `i` of context `n`. -/
def ctxCause (n i : Nat) (s : State) : State := cleShow (s.wrB (Ctx.STATE n) i true)

/-- An event of context `n` on the control page, with its STATE as detail (R434). -/
def ctxEvent (c : EvClass) (code n : Nat) (s : State) : State := s.emit c Cle.page code n (s.rd (Ctx.STATE n))

/-- The channels of the compare group a FAST context names. -/
def ctxChans (s : State) (n : Nat) : List Nat :=
  let d := s.rdF (Ctx.DEST n) 11 0
  if ctxFast s n ∧ 0xF00 ≤ d ∧ d ≤ 0xF05 ∧ grpEn s (d - 0xF00) then grpChans s (d - 0xF00) else []

/-- FAULT_OUT reaches the destination of a PERIODIC context outside a group; a member's group enters its safe state. -/
def ctxSafeOut (n : Nat) (s : State) : State :=
  match ctxMember s n with
  | some g => hwSafe g s
  | none =>
    let d := s.rdF (Ctx.DEST n) 11 0
    if ctxFast s n ∨ d = 0 then s else putInput d (s.rd (Ctx.FAULT_OUT n)) s

/-- The speculation of context `n` ends with cause `c` as it leaves CLOSED: no precompute restarts. -/
def dropSpec (n c : Nat) (s : State) : State := squashCtx c n s

/-- The lane that computes a run of context `n` is free from now on. -/
def freeLane (n : Nat) (s : State) : State :=
  let mine (e : Nat × Lane) : Bool := decide (e.2.ctx = n) && e.2.gen.isNone
  let busy := (s.cle.lanes.filter mine).foldl (fun b e =>
    KMap.set (fun _ => 0) b e.1 (KMap.get (fun _ => 0) b e.1 - (e.2.till - s.now))) s.cle.busy
  { s with cle := { s.cle with lanes := s.cle.lanes.filter (fun e => !mine e), busy := busy } }

/-- The outstanding run of context `n` is given up; one of a speculating context is counted (R142). -/
def dropRun (n : Nat) (s : State) : State :=
  match (ctxOf s n).run with
  | some r =>
    let s1 := countEnd n r (freeLane n s)
    putCtx n { ctxOf s1 n with run := none } s1
  | none => s

/-- Context `n` enters FAULT with cause bit `i` (8 overrun, 11 configuration) (R124, R128, R135). -/
def ctxFault (n i : Nat) (s : State) : State :=
  let s0 := dropSpec n 0xC (ctxGo n 5 (ctxCause n i s))
  let s1 := ctxSafeOut n (dropRun n s0)
  if i = 8 then
    let s2 := ctxEvent .fault 1 n s1
    if ctxFast s2 n then latchSource 42 n (ctxChans s2 n) s2 else s2
  else s1

/-- The reaction of R131 to a lost or frozen feedback (cause bit `i`) of context `n`. -/
def fbReact (n i : Nat) (s : State) : State :=
  let r := s.rdF (Ctx.DETECT n) 1 0
  let s1 := ctxEvent .fault (if i = 9 then 2 else 3) n s
  let s2 := if 1 ≤ r then ctxSafeOut n s1 else s1
  if r = 2 ∧ ctxFast s2 n then latchSource 43 n (ctxChans s2 n) s2 else s2

/-- Feedback loss (bit 9) or freeze (bit 10) of context `n`: latched; a live context opens and reacts; in FAULT the cause
and the reaction join those of the overrun (R129-R131, R128). -/
def fbLost (n i : Nat) (s : State) : State :=
  let st := ctxState s n
  if st = 1 then ctxCause n i s
  else if st = 5 then fbReact n i (ctxCause n i s)
  else if 2 ≤ st ∧ st ≤ 4 then fbReact n i (dropSpec n 0xC (ctxGo n 1 (ctxCause n i s)))
  else s

/-- LIVE_CNT of context `n`. -/
def liveCnt (s : State) (n : Nat) : Nat := s.rdF (Ctx.STATE n) 23 16

/-- LIVE_LIMIT of context `n`. -/
def liveLimit (s : State) (n : Nat) : Nat := s.rdF (Ctx.DETECT n) 15 8

/-- A miss of context `n` (R129): LIVE_CNT increments, and LIVE_CNT at LIVE_LIMIT or above is a feedback loss. -/
def ctxMiss (n : Nat) (s : State) : State :=
  let s1 := (s.incSat (Ctx.STATE n) 23 16).incL CleTel.MISSES
  let s2 := putCtx n { ctxOf s1 n with frz := {} } s1
  if liveLimit s2 n ≤ liveCnt s2 n then fbLost n 9 s2 else s2

/-! ### Admission (R16, R137) -/

/-- Index limit of a profile on this device (R24). -/
def ctxLimit (p : Nat) : Nat :=
  match p with
  | 0 => 512 | 1 => 384 | _ => 256

/-- Cost of a law's run (R114). -/
def lawCost (law : Nat) : Nat :=
  match law with
  | 1 => 24 | 2 => 32 | 3 => 40 | 4 => 176 | 5 => 152 | 6 => 304 | 7 => 48 | 8 => 16 | 9 => 12 | 0xA => 12 | _ => 0

/-- c + 8·s + q of context `n` under profile `p`; every law's run is one segment. -/
def ctxLoad (s : State) (n p : Nat) : Nat :=
  let q := preCost (ctxLaw s n)
  lawCost (ctxLaw s n) + 8 + (if specEn s n && profileSpec p then q.2 + 8 * q.1 else 0)

/-- The sum of two fractions, reduced. -/
def fracAdd (a b : Nat × Nat) : Nat × Nat :=
  let n := a.1 * b.2 + b.1 * a.2
  let d := a.2 * b.2
  let g := max 1 (Nat.gcd n d)
  (n / g, d / g)

/-- U of R137 under profile `p`, as a fraction. -/
def cleLoad (s : State) (p : Nat) : Nat × Nat :=
  (busyCtxs s).foldl (fun a n => if ctxPeriod s n = 0 then a else fracAdd a (ctxLoad s n p, ctxPeriod s n)) (0, 1)

/-- The load rule: U ≤ 2.75 lanes. -/
def loadOk (s : State) (p : Nat) : Bool := let u := cleLoad s p; decide (4 * u.1 ≤ 11 * u.2)

/-- The count rule under profile `p`. -/
def countOk (s : State) (p : Nat) : Bool := (busyCtxs s).all (fun n => decide (n < ctxLimit p))

/-- UTIL.ADMITTED: U in 1/4 096 lane, rounded up (R138). -/
def admitted (s : State) : Nat := let u := cleLoad s s.cle.profile; (u.1 * 4096 + u.2 - 1) / u.2

/-- The profile that governs after the next epoch. -/
def profileNext (s : State) : Nat := s.rdF Cle.CTRL 1 0

/-! ### CFG_CRC (R122) -/

/-- CRC-32C over bytes 0x00-0x8F of the record of context `n` as it stands, each word most significant byte first. -/
def recordCrc (s : State) (n : Nat) : Word :=
  word (Crc.crc32c (wordsBytes ((List.range 36).map (fun k => s.rd (Ctx.LAW_CFG n + 4 * k)))))

/-! ### Commands (R124) -/

/-- The selectors that must be enabled and valid for CLOSE: the required ones, SRC0 of a ramp, and enabled set-point
sources. -/
def closeNeeds (s : State) (n : Nat) : Bool :=
  let req := if ctxLaw s n = 0xA then [0] else lawRequired (ctxLaw s n)
  let ok (k : Nat) : Bool := match ctxSrc s n k with | some x => (srcNow s x).valid | none => false
  decide (ctxLaw s n ≠ 0) && req.all ok && [6, 7].all (fun k => (ctxSrc s n k).isNone || ok k)

/-- The gate of R79 for closing contexts. -/
def closeGate (s : State) : Bool := decide (s.rdF Bup.READY 4 0 = 0x1F)

/-- CLOSE of context `n`. -/
def ctxClose (n : Nat) (s : State) : Reply :=
  if ctxState s n ≠ 1 then deny s .notOpen
  else if !closeGate s || !closeNeeds s n || decide (s.rdF (Ctx.STATE n) 11 8 ≠ 0) then deny s .notInState
  else
    let s1 := squashCtx 6 n (s.wr (Ctx.CFG_CRC n) (recordCrc s n))
    accept (ctxGo n 2 ((putCtx n { ctxOf s1 n with first := true, spLost := [], closedAt := none } s1).stampNow (Ctx.OUT n)))

/-- OPEN of context `n`: the soft-start ramp and the overrun sequence are discarded. -/
def ctxOpen (n : Nat) (s : State) : Reply :=
  if !ctxLive s n then deny s .notInState else accept (squashCtx 6 n (ctxGo n 1 s))

/-- DISABLE of context `n`: a run in progress completes under the old state, one that has not begun is discarded (R124). -/
def ctxDisable (n : Nat) (s : State) : Reply :=
  if ctxState s n ≠ 1 then deny s .notOpen
  else
    let s1 := squashCtx 6 n s
    let begun := match (ctxOf s1 n).run with | some r => r.started | none => false
    let s2 := (if begun then s1 else dropRun n s1).wrF (Ctx.STATE n) 11 8 0
    accept (retryScan (ctxGo n 0 s2))

/-- CLEAR of context `n`. -/
def ctxClear (n : Nat) (s : State) : Reply :=
  let st := ctxState s n
  if st ≠ 5 ∧ st ≠ 1 then deny s .notInState
  else if liveLimit s n ≤ liveCnt s n || decide (recordCrc s n ≠ s.rd (Ctx.CFG_CRC n)) then deny s .tripPersist
  else accept (retryScan (ctxGo n 1 (squashCtx 6 n (s.wrF (Ctx.STATE n) 11 8 0))))

end Sys2Proof.Machine
end

