-- ==== Sys2Proof/Machine/CtxLaw.lean ====
section
/-! DEFINITION. The laws of the engine (R114-R116, R125, R126, R222): what a run works out from its record, its states
and the values of its sources, in binary32, each formula from left to right. -/

namespace Sys2Proof.Machine

/-- What a run reads: the value of a required or enabled selector, and of an enabled and valid optional one. -/
structure LawIn where
  y : List Word
  opt : List (Option Word)
  /-- targets of the q and d axes (R125) -/
  tq : Word
  td : Word
  deriving DecidableEq, Repr

/-- Selector `k` of what a run read. -/
def LawIn.src (i : LawIn) (k : Nat) : Word := i.y.getD k 0

/-- Optional selector `k`, absent where it is not enabled or not valid. -/
def LawIn.maybe (i : LawIn) (k : Nat) : Option Word := i.opt.getD k none

/-- COEFj of context `n`. -/
def coef (s : State) (n j : Nat) : Word := s.rd (Ctx.COEF0 n j)

/-- PERIOD in seconds. -/
def periodT (s : State) (n : Nat) : Word := F.ratio (ctxPeriod s n) 800000000

/-- ISTATEj of context `n`. -/
def istate (s : State) (n j : Nat) : Word := s.rdL (Ctx.ISTATE0 n j)

/-- The clamp to [LIM_LO, LIM_HI]. -/
def limClamp (s : State) (n : Nat) (u : Word) : Word := F.clamp u (s.rd (Ctx.LIM_LO n)) (s.rd (Ctx.LIM_HI n))

/-- `x` moved toward `goal` by at most `up` upward and `down` downward; none is unlimited. -/
def moveTo (x goal : Word) (up down : Option Word) : Word :=
  if F.lt x goal then (match up with | some d => let z := F.add x d; if F.lt z goal then z else goal | none => goal)
  else (match down with | some d => let z := F.sub x d; if F.lt goal z then z else goal | none => goal)

/-- A rate in units per second as a step of one run; 0 is unlimited. -/
def rateStep (rate t : Word) : Option Word := if F.eq rate 0 then none else some (F.mul rate t)

/-- The effective set-point of one axis (R125): the measured value on the first run under a soft-start rate, a step toward
the target while CLOSING, else the target. -/
def softStart (s : State) (n : Nat) (first closing : Bool) (old meas goal : Word) : Word :=
  let rate := s.rd (Ctx.SOFT_RATE n)
  let d := rateStep rate (periodT s n)
  if d.isNone then goal
  else if first then meas
  else if closing then moveTo old goal d d
  else goal

/-- The value now present at the destination of a PI, PID or PR context (R125). -/
def presentOut (s : State) (n : Nat) : Word :=
  match ctxMember s n with
  | some g => s.rdL (Hw.HW_OUT g)
  | none =>
    let d := inputOf s (s.rdF (Ctx.DEST n) 11 0)
    if s.rdF (Ctx.DEST n) 11 0 ≠ 0 ∧ d.written then d.value else 0

/-- I after a run: I + Ki·T·e, and outside a group the tracking term Kt·T·(u - u_raw) (R115, R134). -/
def integrate (s : State) (n : Nat) (i ki kt e u uraw : Word) : Word :=
  let t := periodT s n
  let i1 := F.add i (F.mul (F.mul ki t) e)
  if (ctxMember s n).isSome then i1 else F.add i1 (F.mul (F.mul kt t) (F.sub u uraw))

/-- PI (R115). -/
def lawPi (s : State) (n : Nat) (x : LawIn) (first : Bool) (r : Word) : RunRes :=
  let e := F.sub r (x.src 0)
  let f := (x.maybe 1).getD 0
  let p := F.mul (coef s n 0) e
  let now := presentOut s n
  let i := if first then F.sub (F.sub now p) f else istate s n 0
  let uraw := if first then now else F.add (F.add p i) f
  let u := limClamp s n uraw
  { out' := u, setpt := r, ist := [integrate s n i (coef s n 1) (coef s n 2) e u uraw], uraw := uraw, fb := x.src 0 }

/-- PID with derivative filter (R115). -/
def lawPid (s : State) (n : Nat) (x : LawIn) (first : Bool) (r : Word) : RunRes :=
  let t := periodT s n
  let e := F.sub r (x.src 0)
  let f := (x.maybe 1).getD 0
  let p := F.mul (coef s n 0) e
  let tf := coef s n 3
  let d := if first then 0
    else F.div (F.add (F.mul tf (istate s n 1)) (F.mul (coef s n 2) (F.sub e (istate s n 2)))) (F.add tf t)
  let now := presentOut s n
  let i := if first then F.sub (F.sub now p) f else istate s n 0
  let uraw := if first then now else F.add (F.add (F.add p i) d) f
  let u := limClamp s n uraw
  { out' := u, setpt := r, ist := [integrate s n i (coef s n 1) (coef s n 4) e u uraw, d, e], uraw := uraw, fb := x.src 0 }

/-- Proportional-resonant (R115): 2·wc·Kr·s/(s² + 2·wc·s + w0²) by the Tustin method pre-warped at w0. -/
def lawPr (s : State) (n : Nat) (x : LawIn) (first : Bool) (r : Word) : RunRes :=
  let t := periodT s n
  let e := F.sub r (x.src 0)
  let f := (x.maybe 1).getD 0
  let p := F.mul (coef s n 0) e
  let w0 := coef s n 2
  let wc := coef s n 3
  let half := F.div (F.mul w0 t) F.two
  let k := F.div (F.mul w0 (Config.cos32 half)) (Config.sin32 half)
  let kk := F.mul k k
  let ww := F.mul w0 w0
  let mid := F.mul (F.mul F.two wc) k
  let a0 := F.add (F.add kk mid) ww
  let b := F.div (F.mul mid (coef s n 1)) a0
  let a1 := F.div (F.mul F.two (F.sub ww kk)) a0
  let a2 := F.div (F.add (F.sub kk mid) ww) a0
  let now := presentOut s n
  let xr := if first then F.sub (F.sub now p) f
    else F.sub (F.sub (F.mul b (F.sub e (istate s n 3))) (F.mul a1 (istate s n 0))) (F.mul a2 (istate s n 1))
  let uraw := if first then now else F.add (F.add p xr) f
  let u := limClamp s n uraw
  let old (j : Nat) (v : Word) : Word := if first then v else istate s n j
  { out' := u, setpt := r, ist := [xr, old 0 xr, e, old 2 e], uraw := uraw, fb := x.src 0 }

/-- Observer (R115): the 2 x 2 state update; the output is C·x of the new state. -/
def lawObs (s : State) (n : Nat) (x : LawIn) (first : Bool) : RunRes :=
  let c (j : Nat) : Word := coef s n j
  let x1 := if first then 0 else istate s n 0
  let x2 := if first then 0 else istate s n 1
  let err := F.sub (x.src 0) (F.add (F.mul (c 6) x1) (F.mul (c 7) x2))
  let next (a b g l : Word) : Word := F.add (F.add (F.add (F.mul a x1) (F.mul b x2)) (F.mul g (x.src 1))) (F.mul l err)
  let z1 := next (c 0) (c 1) (c 4) (c 8)
  let z2 := next (c 2) (c 3) (c 5) (c 9)
  { out' := F.add (F.mul (c 6) z1) (F.mul (c 7) z2), ist := [z1, z2], fb := x.src 0 }

/-- Biquad (R115, R126). -/
def lawBiquad (s : State) (n : Nat) (x : LawIn) (first : Bool) : RunRes :=
  let v := x.src 0
  let m (j : Nat) : Word := if first then v else istate s n j
  let y := F.sub (F.sub (F.add (F.add (F.mul (coef s n 0) v) (F.mul (coef s n 1) (m 0))) (F.mul (coef s n 2) (m 1)))
    (F.mul (coef s n 3) (m 2))) (F.mul (coef s n 4) (m 3))
  { out' := y, ist := [v, m 0, y, m 2], fb := v }

/-- Limiter (R115, R126): the clamp narrowed by the dynamic limits, the upper applied last. -/
def lawLimiter (s : State) (n : Nat) (x : LawIn) (first : Bool) : RunRes :=
  let lo := match x.maybe 2 with | some d => F.max (s.rd (Ctx.LIM_LO n)) d | none => s.rd (Ctx.LIM_LO n)
  let hi := match x.maybe 1 with | some d => F.min (s.rd (Ctx.LIM_HI n)) d | none => s.rd (Ctx.LIM_HI n)
  let goal := F.clamp (x.src 0) lo hi
  let t := periodT s n
  let u := if first then goal else moveTo (istate s n 0) goal (rateStep (coef s n 0) t) (rateStep (coef s n 1) t)
  { out' := u, ist := [u], uraw := u, fb := x.src 0 }

/-- Ramp (R115, R126). -/
def lawRamp (s : State) (n : Nat) (x : LawIn) (first : Bool) : RunRes :=
  let t := periodT s n
  let u := limClamp s n (if first then x.src 0
    else moveTo (istate s n 0) x.tq (some (F.mul (coef s n 0) t)) (some (F.mul (coef s n 1) t)))
  { out' := u, setpt := x.tq, ist := [u], uraw := u, fb := x.src 0 }

/-! ### Current laws (R116) -/

/-- d and q of three phase quantities at an angle, amplitude-invariant. -/
def toDq (a b c th : Word) : Word × Word :=
  let al := F.div (F.sub (F.sub (F.mul F.two a) b) c) (F.ofNat 3)
  let be := F.div (F.sub b c) sqrt3
  let co := Config.cos32 th
  let si := Config.sin32 th
  (F.add (F.mul al co) (F.mul be si), F.sub (F.mul be co) (F.mul al si))

/-- The phase quantities of d and q at an angle. -/
def toAbc (d q th : Word) : Word × Word × Word :=
  let co := Config.cos32 th
  let si := Config.sin32 th
  let al := F.sub (F.mul d co) (F.mul q si)
  let be := F.add (F.mul d si) (F.mul q co)
  let h := F.div (F.neg al) F.two
  let g := F.mul (F.div sqrt3 F.two) be
  (al, F.add h g, F.sub h g)

/-- √(d² + q²). -/
def magOf (d q : Word) : Word := F.sqrt (F.add (F.mul d d) (F.mul q q))

/-- The group a FAST context commits to, where it names one. -/
def destGroup (s : State) (n : Nat) : Option Nat :=
  let d := s.rdF (Ctx.DEST n) 11 0
  if 0xF00 ≤ d ∧ d ≤ 0xF05 then some (d - 0xF00) else none

/-- The vector index last committed to the group. -/
def presentIndex (s : State) (n : Nat) : Nat :=
  match destGroup s n with
  | some g => s.rdF (Grp.GRP_REFA g) 4 0
  | none => 0

/-- The horizon of R116 in seconds: from the sample instant to the target reload, the transport lead, and COEF4. -/
def horizon (s : State) (n : Nat) (target : Int) (at_ : Nat) : Word :=
  F.add (F.ratio (target - at_ + 192) 800000000) (coef s n 4)

/-- Everything a current law's computation rests on: the law, its coefficients, period and horizon, the sample, the last
angle, the set-points, and the output held. -/
def currentArgs (s : State) (n : Nat) (h : Word) (y : List Word) (tq td : Word) : List Word :=
  [word (ctxLaw s n)] ++ (List.range 8).map (coef s n) ++ [periodT s n, h] ++ (List.range 6).map (fun k => y.getD k 0)
    ++ [(ctxOf s n).y1.getD 3 0, tq, td, s.rdL (Ctx.OUT n), s.rdL (Ctx.OUT_D n), word (presentIndex s n)]

/-- The deadbeat voltage before its limit, `row` 0 d and 1 q: for a given angle it is linear in the currents and the link voltage
(R116, R151), each of which has its gain; `args` are the inputs with `y` taken as 0 but for the angle. -/
def deadbeatVoltage (args y : List Word) (row : Nat) : Word :=
  [0, 1, 2, 4].foldl (fun a k => F.add a (F.mul (Config.deadbeatGain args row k) (y.getD k 0))) (Config.deadbeatBase args row)

/-- The inputs of a computation with the currents and the link voltage left out. -/
def angleOnly (y : List Word) : List Word := [0, 0, 0, y.getD 3 0]

/-- The voltage vector held to min(COEF5, M_LIM)·SRC4/√3, keeping its angle, and whether M_LIM alone reduced it (R116,
R174). -/
def limitVoltage (s : State) (n : Nat) (d q vdc : Word) : Word × Word × Bool :=
  let c5 := coef s n 5
  let ml := match machOfCtx s n with | some m => s.rd (Foc.MOD_LIM m) | none => c5
  let lim := F.div (F.mul (F.min c5 ml) vdc) sqrt3
  let mag := magOf d q
  if F.lt lim mag then
    let k := F.div lim mag
    (F.mul d k, F.mul q k, F.lt ml c5)
  else (d, q, false)

/-- The three references of R222: the phase voltages over V_dc/2 with the min-max zero-sequence component. -/
def references (d q th vdc : Word) : Word × Word × Word :=
  let p := toAbc d q th
  let h := F.div vdc F.two
  let a := F.div p.1 h
  let b := F.div p.2.1 h
  let c := F.div p.2.2 h
  let z := F.div (F.neg (F.add (F.max a (F.max b c)) (F.min a (F.min b c)))) F.two
  (F.add a z, F.add b z, F.add c z)

/-- What a deadbeat run commits for a voltage before its limit. -/
def deadbeatRes (s : State) (n : Nat) (args : List Word) (d q vdc : Word) (base : RunRes) : RunRes :=
  let v := limitVoltage s n d q vdc
  let r := references v.1 v.2.1 (Config.horizonAngle args) vdc
  { base with out' := v.2.1, outD := v.1, ga := r.1, gb := r.2.1, gc := r.2.2, limited := v.2.2 }

/-- Leg transitions between two vector indices: legs whose state differs (R116). -/
def transitions (levels a b : Nat) : Nat :=
  (if a % levels = b % levels then 0 else 1) + (if a / levels % levels = b / levels % levels then 0 else 1)
    + (if a / (levels * levels) % levels = b / (levels * levels) % levels then 0 else 1)

/-- The candidates of a predictive law: 7 of 2 levels, with the zero vector that needs fewer transitions, 0 on a tie; 27
of 3 levels (R116). -/
def candidates (law present : Nat) : List Nat :=
  if law = 5 then
    (if transitions 2 present 7 < transitions 2 present 0 then [1, 2, 3, 4, 5, 6, 7] else [0, 1, 2, 3, 4, 5, 6])
  else List.range 27

/-- The common-mode voltage of a vector about the middle of the link. -/
def commonMode (law j : Nat) (vdc : Word) : Word :=
  if law = 5 then F.mul (F.ratio (2 * ((j % 2 + j / 2 % 2 + j / 4 % 2 : Nat) : Int) - 3) 6) vdc
  else F.mul (F.ratio (((j % 3 + j / 3 % 3 + j / 9 % 3 : Nat) : Int) - 3) 6) vdc

/-- J of candidate `j` (R116). -/
def candidateCost (s : State) (n : Nat) (args : List Word) (tq td vdc : Word) (j : Nat) : Word :=
  let law := ctxLaw s n
  let ed := F.sub td (Config.candidate args j 0)
  let eq' := F.sub tq (Config.candidate args j 1)
  let levels := if law = 5 then 2 else 3
  let c1 := F.add (F.add (F.mul ed ed) (F.mul eq' eq')) (F.mul (coef s n 5) (F.ofNat (transitions levels (presentIndex s n) j)))
  let c2 := F.add c1 (F.mul (coef s n 6) (F.abs (commonMode law j vdc)))
  if law = 6 then F.add c2 (F.mul (coef s n 7) (F.abs (Config.candidate args j 2))) else c2

/-- The least of a list of (index, cost); the lower index wins a tie. -/
def leastCost (l : List (Nat × Word)) : Option (Nat × Word) :=
  l.foldl (fun a e => match a with | some b => if F.lt e.2 b.2 then some e else a | none => some e) none

/-- The candidates with their costs. -/
def costs (s : State) (n : Nat) (args : List Word) (tq td vdc : Word) : List (Nat × Word) :=
  (candidates (ctxLaw s n) (presentIndex s n)).map (fun j => (j, candidateCost s n args tq td vdc j))

/-- What a predictive run commits for a chosen index and its cost; references B and C keep their values. -/
def fcsRes (s : State) (n idx : Nat) (j : Word) (base : RunRes) : RunRes :=
  let g := (destGroup s n).getD 0
  { base with out' := F.ofNat idx, outD := j, ga := word idx, gb := s.rd (Grp.GRP_REFB g), gc := s.rd (Grp.GRP_REFC g) }

/-- A current law's full computation on its sample (R116); the first run after a CLOSE commits what the group holds
(R125). -/
def lawCurrent (s : State) (n : Nat) (x : LawIn) (first closing : Bool) (target : Int) (at_ : Nat) : RunRes :=
  let dq := toDq (x.src 0) (x.src 1) (x.src 2) (x.src 3)
  let rq := softStart s n first closing (s.rdL (Ctx.SETPT n)) dq.2 x.tq
  let rd := softStart s n first closing (s.rdL (Ctx.SETPT_D n)) dq.1 x.td
  let g := (destGroup s n).getD 0
  let base : RunRes := { setpt := rq, setptD := rd, fb := magOf dq.1 dq.2 }
  if first then
    let last := KMap.get (fun _ => (0, 0)) s.cle.grpOut g
    { base with
      out' := if ctxLaw s n = 4 then last.1 else F.ofNat (presentIndex s n), outD := last.2
      ga := s.rd (Grp.GRP_REFA g), gb := s.rd (Grp.GRP_REFB g), gc := s.rd (Grp.GRP_REFC g) }
  else
    let args := currentArgs s n (horizon s n target at_) x.y rq rd
    if ctxLaw s n = 4 then
      let free := currentArgs s n (horizon s n target at_) (angleOnly x.y) rq rd
      deadbeatRes s n args (deadbeatVoltage free x.y 0) (deadbeatVoltage free x.y 1) (x.src 4) base
    else
      match leastCost (costs s n args rq rd (x.src 4)) with
      | some w => fcsRes s n w.1 w.2 base
      | none => base

/-- A full computation of context `n` (R115, R116, R125, R126). -/
def lawRun (s : State) (n : Nat) (x : LawIn) (first closing : Bool) (target : Int) (at_ : Nat) : RunRes :=
  let r1 := softStart s n first closing (s.rdL (Ctx.SETPT n)) (x.src 0) x.tq
  let reached (r : RunRes) : RunRes := { r with done := F.eq r.setpt x.tq }
  match ctxLaw s n with
  | 1 => reached (lawPi s n x first r1)
  | 2 => reached (lawPid s n x first r1)
  | 3 => reached (lawPr s n x first r1)
  | 7 => { lawObs s n x first with done := true }
  | 8 => { lawBiquad s n x first with done := true }
  | 9 => { lawLimiter s n x first with done := true }
  | 0xA => { lawRamp s n x first with done := true }
  | 0 => {}
  | _ =>
    let r := lawCurrent s n x first closing target at_
    { r with done := F.eq r.setpt x.tq && F.eq r.setptD x.td }

end Sys2Proof.Machine
end

