-- ==== Sys2Proof/Machine/FocBase.lean ====
section
/-! DEFINITION. The base of field control (R160-R187): machine states, stop states, faults, the context commands of field
control, and what an update event and a stopped timebase bring about. -/

namespace Sys2Proof.Machine

/-- Is machine `m` an induction machine? -/
def isIm (s : State) (m : Nat) : Bool := decide (s.rdF (Foc.CFG m) 1 0 = 1)

/-- STOP_END is ASC. -/
def stopAsc (s : State) (m : Nat) : Bool := s.rdB (Foc.ASC_CFG m) 4

/-- The windings discharge that runs on a machine falls back where it may as the machine leaves RUN; else an STO fails it (R286). -/
def disLeftRun (m : Nat) (s : State) : State :=
  if discharging s ∧ s.rdF Prot.DIS_STAT 3 2 = 3 ∧ s.rdF Prot.DIS_CFG 5 4 = m then
    (if s.rdB Prot.DIS_CFG 2 then disMethod 1 s else if (machChans s m).any (stoHolds s) then disEnd 3 s else s)
  else s

/-! ### Test vectors (R178) -/

/-- The order of the twelve test vectors. -/
def ipdOrder : List Nat := [0, 6, 1, 7, 2, 8, 3, 9, 4, 10, 5, 11]

/-- φ_j = j·30°. -/
def ipdAngle (j : Nat) : Word := F.div (F.mul (F.ofNat j) F.pi) (F.ofNat 6)

/-- The duty references of test vector `j` of machine `m`: phase values of magnitude IPD_AMP·V_dc/√3, normalised to V_dc/2, with the
min-max component of R222. -/
def testRefs (s : State) (m j : Nat) : List Word :=
  let k := F.div (F.mul F.two (s.rd (Foc.IPD_AMP m))) sqrt3
  let v := (List.range 3).map (fun x =>
    F.mul k (Config.cos32 (F.sub (ipdAngle j) (F.div (F.mul (F.ofNat x) F.twoPi) (F.ofNat 3)))))
  let hi := F.max (F.max (v.getD 0 0) (v.getD 1 0)) (v.getD 2 0)
  let lo := F.min (F.min (v.getD 0 0) (v.getD 1 0)) (v.getD 2 0)
  v.map (fun x => F.sub x (F.div (F.add hi lo) F.two))

/-- A test pulse on a leg, in 1/8 cycle: its begin and end, and the compare value and states of its sub-periods of 2.5 µs. -/
structure TestLeg where
  begin8 : Int
  end8 : Int
  c8 : Nat
  stX : Nat
  stY : Nat
  deriving DecidableEq, Repr

/-- The test pulse due on leg `x` of group `g`. It fills whole sub-periods within PULSE_LEN and ends so that its last edge reaches the
drivers at its trigger. DESIGN CHOICE: on a dual machine winding set 1 alone is tested, as its currents alone are read. -/
def testLeg (s : State) (g x : Nat) : Option TestLeg :=
  let h := machOf s g
  match h.pulse with
  | some t =>
    if 4 ≤ g ∨ machState s g ≠ 2 ∨ !grpEn s g then none
    else
      let e : Int := 8 * t - (if grpBase s g < 36 then 1536 else 0)
      let n := s.rdF (Foc.IPD_TIME g) 15 0 * 800 / 2000
      let d := dutyCompare (grpTopo s g) 1000 ((testRefs s g (ipdOrder.getD h.ipd.length 0)).getD x 0)
      some { begin8 := e - 16000 * n, end8 := e, c8 := d.1, stX := d.2.1, stY := d.2.2 }
  | none => none

/-- The next edge of a test pulse after instant `x8`: its begin, the compare edges of its sub-periods, its end. -/
def TestLeg.next (p : TestLeg) (x8 : Int) : Option Int :=
  if p.end8 ≤ x8 then none
  else if x8 < p.begin8 then some p.begin8
  else if p.c8 = 0 ∨ 8000 ≤ p.c8 then some p.end8
  else
    let b := p.begin8 + (x8 - p.begin8) / 16000 * 16000
    match [b + p.c8, b + 16000 - p.c8, b + 16000 + p.c8].find? (fun e => decide (x8 < e)) with
    | some e => some (min e p.end8)
    | none => some p.end8

/-- The leg state a test pulse asks for from instant `x8` on; none at its end. -/
def TestLeg.state (p : TestLeg) (x8 : Int) : Option Nat :=
  if p.end8 ≤ x8 ∨ x8 < p.begin8 then none
  else some (if inX 2 1000 p.c8 ((x8 - p.begin8) % 16000).toNat then p.stX else p.stY)

/-- The next edge of a test pulse on leg `x` of group `g`. -/
def nextTest8 (s : State) (g x : Nat) : Option Int :=
  match testLeg s g x with
  | some p => p.next (legOf s g x).ipd8
  | none => none

/-- The edge of a test pulse on leg `x` of group `g` at `e`: the forced state of field control takes the leg along, with dead times. -/
def testEdge (g x : Nat) (e : Int) (s : State) : State :=
  match testLeg s g x with
  | none => s
  | some p =>
    let cs := legChans s g x
    let f := (s.pwm.forces.find? (fun f => decide (f.tag = .machine ∧ f.id = g))).getD (blockForce s 5 0 .machine g)
    let leg := match p.state e with
      | some st => (onPlaces (grpTopo s g) st).map (fun i => cs.getD i 0)
      | none => []
    let on := f.on.filter (fun c => !cs.contains c) ++ leg
    let f1 : Force := { f with on := on, off := (machChans s g).filter (fun c => !on.contains c), live := true }
    resolve cs (fun _ => false) e (putForce f1 (putLeg g x { legOf s g x with ipd8 := e } s))

/-- The test pulses of machine `m` are over: none is due, and one that runs ends (R178). -/
def endPulse (m : Nat) (s : State) : State :=
  let s1 := putMach m { machOf s m with pulse := none } s
  if s1.pwm.forces.any (fun f => f.live && decide (f.tag = .machine ∧ f.id = m)) then
    addForce { blockForce s1 5 0 .machine m with live := true } s1
  else s1

/-! ### States -/

/-- Machine `m` enters state `st` (R176, R188): the inputs reset in OFF (R164). -/
def machGo (m st : Nat) (s0 : State) : State :=
  let old := machState s0 m
  let s := if old = 2 ∧ st ≠ 2 then endPulse m s0 else s0
  if old = st then s
  else
    let s1 := ((if old = 0 then s.stampNow (Foc.SPEED_M m) else s).wrF (Foc.MSTATE m) 3 0 st).pulse (Foc.page m) 0
    let s2 := putMach m { machOf s1 m with since := s1.now } (s1.raw (Foc.page m) 6 (decide (st = 9)))
    let s3 : State := if st = 0 then
        { s2 with inputs := KMap.dropWhere (fun k => decide (k = 0x480 + 16 * m ∨ k = 0x481 + 16 * m)) s2.inputs } else s2
    if old = 6 then disLeftRun m s3 else s3

/-- Open the current contexts of machine `m` that are live (R176). -/
def openCtxs (m : Nat) (s : State) : State :=
  let s1 := (machCtxs s m).foldl (fun t n => if ctxLive t n then (ctxOpen n t).1 else t) s
  putMach m { machOf s1 m with closed := false, openPend := false, closePend := false } s1

/-- Apply the stop state of machine `m`: pulse block, or active short circuit (`asc`). The contexts open at the same
update event, at once while the timebase stands (R176). -/
def enterStop (m : Nat) (asc : Bool) (s0 : State) : State :=
  let s := if asc then ascStart m s0 else s0
  let f := if asc then ascForce s 5 0 .machine m (ascSide s m) else blockForce s 5 0 .machine m
  let s1 := addForce f s
  let s2 := putMach m { machOf s1 m with openPend := true, closePend := false, relPend := false, recatch := false } s1
  if tbRun s2 (machTb s2 m) then s2 else openCtxs m s2

/-- Write CAUSE of machine `m`. -/
def machCause (m c : Nat) (s : State) : State := s.wrF (Foc.MSTATE m) 15 8 c

/-- An event of machine `m`, with MSTATE as detail (R434). -/
def machEvent (cls : EvClass) (code m : Nat) (s : State) : State := s.emit cls (Foc.page m) code m (s.rd (Foc.MSTATE m))

/-- Machine `m` enters FAULT with a cause, and its STOP_END state (R177, R186). -/
def machFault (m c : Nat) (s : State) : State :=
  if machState s m = 0 ∨ machState s m = 9 then s
  else
    let s0 := if machState s m = 2 then s.wrB (Foc.IPD_RESULT m) 24 false else s
    let s1 := enterStop m (stopAsc s0 m) (machGo m 9 (machCause m c s0))
    machEvent .fault (0x20 + c) m s1

/-- A start of machine `m` fails with cause `c` (R177): BLOCKED, the STOP_END state for EMF_ABOVE_LINK, FAULT for
CTX_REFUSED. -/
def startFail (m c : Nat) (s : State) : State :=
  let s1 := machEvent .warn (0x20 + c) m ((machCause m c s).pulse (Foc.page m) 5)
  if c = 7 then machFault m 7 s1
  else
    let asc := decide (c = 4) && stopAsc s1 m
    enterStop m asc (machGo m (if asc then 8 else 1) s1)

/-- Field control closes the current contexts of machine `m`, and will let its stop state go at the next update event (R176); a refusal is
CTX_REFUSED. -/
def closeCtxs (m : Nat) (s : State) : State :=
  let r := (machCtxs s m).foldl (fun (a : State × RefCode) n =>
    if a.2 = .none then (let q := ctxClose n a.1; (if q.2 = .none then q.1 else a.1, q.2)) else a) (s, .none)
  match r.2 with
  | .none =>
    putMach m { machOf r.1 m with closed := true, closePend := false, relPend := true } r.1
  | c => startFail m 7 (openCtxs m (r.1.wrF (Foc.MSTATE m) 23 16 c.num))

/-- Has a current context of machine `m` an outstanding run? -/
def machRuns (s : State) (m : Nat) : Bool := (machCtxs s m).any (fun n => (ctxOf s n).run.isSome)

/-- Machine `m` leaves its stop state: its contexts close between runs (R176). -/
def leaveStop (m : Nat) (s : State) : State :=
  if machRuns s m then putMach m { machOf s m with closePend := true } s else closeCtxs m s

/-- A run of context `n` has ended: a machine that waits for it closes its contexts. -/
def focRunEnd (n : Nat) (s : State) : State :=
  (List.range 4).foldl (fun u m =>
    if (machOf u m).closePend ∧ (machCtxs u m).contains n ∧ !machRuns u m then closeCtxs m u else u) s

/-! ### The modulation limit (R173-R175) -/

/-- The trigger lead, and the carrier period in force, or to be in force, of machine `m`. -/
def machCarrier (s : State) (m : Nat) : Nat :=
  let t := machTb s m
  if tbRun s t then tbCarrier s t else carrierOf (tbMode s t) (s.rdF (Tb.TB_PRD t) 20 0)

/-- The largest dead time in force of machine `m`, in 1/8 cycle. -/
def machDead8 (s : State) (m : Nat) : Nat :=
  (machGroups s m).foldl (fun a g => max a (max (fld (s.rdA (Grp.GRP_DTA g)) 16 0)
    (max (fld (s.rdA (Grp.GRP_DTB g)) 16 0) (fld (s.rdA (Grp.GRP_DTC g)) 16 0)))) 0

/-- M_LIM as a fraction for a MIN_CLEAR in ns: numerator and denominator in 1/40 of a cycle (R173). -/
def modLimit (s : State) (m clear : Nat) : Int × Nat :=
  let t := machTb s m
  let c := 40 * machCarrier s m
  let k := (if tbMode s t = 2 then 4 else 2) / (if s.rdF (Foc.CFG m) 9 8 = 0 then 1 else 2)
  ((c : Int) - k * (40 * tbLead s t + 32 * (clear + 240) + 5 * machDead8 s m : Nat), c)

/-- Is M_LIM below 0.20? -/
def modNarrow (s : State) (m clear : Nat) : Bool := let f := modLimit s m clear; decide (5 * f.1 < f.2)

/-- M_LIM_UPDATE (R173, R175): at every reload of the machine's timebase. -/
def modUpdate (m : Nat) (s : State) : State :=
  let f := modLimit s m (s.rdF (Foc.MIN_CLEAR m) 15 0)
  let s1 := s.wr (Foc.MOD_LIM m) (F.ratio f.1 f.2)
  if modNarrow s1 m (s1.rdF (Foc.MIN_CLEAR m) 15 0) && decide (5 ≤ machState s1 m ∧ machState s1 m ≤ 7) then machFault m 9 s1 else s1

/-! ### Update events and stops -/

/-- Before the update event of timebase `t`: machines that have left a stop state, their contexts closed, let it go; contexts that still
wait for a run close now (R176). -/
def focBeforeUpdate (t : Nat) (s : State) : State :=
  (List.range 4).foldl (fun u m =>
    if machState u m = 0 ∨ machTb u m ≠ t then u
    else if (machOf u m).relPend then dropForce .machine m (putMach m { machOf u m with relPend := false } u)
    else if (machOf u m).closePend then closeCtxs m u
    else u) s

/-- The short circuits of machine `m` take the side that holds now. -/
def ascMove (m : Nat) (s : State) : State :=
  (s.pwm.forces.filter (fun f => decide (f.id = m) && !f.on.isEmpty && decide (f.rank = 5 ∨ f.rank = 4 ∨ (f.rank = 3 ∧ f.order = 3)))).foldl
    (fun u f =>
      let side := ascSide u m
      let g := ascForce u f.rank f.order f.tag m side
      if g = f ∨ (f.rank ≠ 5 ∧ sideFaulty u m side) then u else addForce g u) s

/-- The side of the short circuits of machine `m` changes (R185). -/
def ascFlip (m : Nat) (s : State) : State :=
  let p := KMap.get (fun _ => 0) s.prot.ascSide m
  let s1 : State := { s with prot := { s.prot with ascSide := KMap.set (fun _ => 0) s.prot.ascSide m ((p + 1) % 2) } }
  ascMove m (putMach m { machOf s1 m with ascDue := false, ascAt := s1.now } s1)

/-- Machine `m` enters CATCH for MODE `mode` (R177, R181, R183): the search of an induction machine closes the contexts. -/
def enterCatch (m mode : Nat) (hint : Bool) (s : State) : State :=
  let h := machOf s m
  let fm := s.rd (Foc.SEARCH_FMAX m)
  let s1 := machGo m 3 (putMach m { h with
    recatch := false, mode := mode, hint := hint, emfAt := none, emf := [], power := none, startAt := s.now
    freq := if hint then F.neg fm else fm } s)
  if isIm s m then leaveStop m s1 else s1

/-- After the update event of timebase `t`: M_LIM, contexts that open with their stop state, a waiting recatch, and a change
of the short circuit's side. -/
def focAfterUpdate (t : Nat) (s : State) : State :=
  (List.range 4).foldl (fun u m =>
    if machTb u m ≠ t then u
    else
      let u1 := modUpdate m u
      let u2 := if (machOf u1 m).openPend then openCtxs m u1 else u1
      let h := machOf u2 m
      let u3 := if h.recatch ∧ machState u2 m = 1 then enterCatch m 1 (F.isNeg h.omega) u2 else u2
      if (machOf u3 m).ascDue then ascFlip m u3 else u3) s

/-- Timebase `t` has stopped: its machines fault, at once in their STOP_END state (R187). -/
def focTbStopped (t : Nat) (s : State) : State :=
  (List.range 4).foldl (fun u m => if machState u m ≠ 0 ∧ machTb u m = t then machFault m 0xE u else u) s

end Sys2Proof.Machine
end

