-- ==== Sys2Proof/Machine/DmaBase.lean ====
section
/-! DEFINITION. The base of the DMA engine (R403-R411): descriptors and their load, states of a channel, its triggers, and the end of a
run. -/

namespace Sys2Proof.Machine

/-- The run of DMA channel `k`, if any. -/
def dmaRunOf (s : State) (k : Nat) : Option DmaRun := KMap.get (fun _ => none) s.dma k

/-- Put the run of DMA channel `k`. -/
def putDma (k : Nat) (r : Option DmaRun) (s : State) : State := { s with dma := KMap.set (fun _ => none) s.dma k r }

/-- The state of DMA channel `k`: 0 IDLE, 1 ARMED, 2 BUSY, 3 DONE, 4 FAIL (R415). -/
def dmaState (s : State) (k : Nat) : Nat := s.rdF (DmaCh.CH_STAT k) 2 0

/-- A saturating 32-bit count in a visible register. -/
def incWord (a : Nat) (s : State) : State := s.wr a (if s.rd a = 0xFFFFFFFF then 0xFFFFFFFF else s.rd a + 1)

/-! ### Descriptors (R404, R406, R414) -/

/-- Word `j` of slot `i`. -/
def slotAddr (i j : Nat) : Nat := 0x301040 + 0x1000 * (i / 64) + 0x20 * (i % 64) + 4 * j

/-- Word `j` of the descriptor as loaded. -/
def DmaRun.word (r : DmaRun) (j : Nat) : Word := r.desc.getD j 0

/-- Source and destination widths in bytes. -/
def DmaRun.sw (r : DmaRun) : Nat := 2 ^ fld (r.word 0) 1 0
def DmaRun.dw (r : DmaRun) : Nat := 2 ^ fld (r.word 0) 3 2

/-- The three counts. -/
def DmaRun.c0 (r : DmaRun) : Nat := fld (r.word 3) 15 0 + 1
def DmaRun.c1 (r : DmaRun) : Nat := fld (r.word 3) 31 16 + 1
def DmaRun.c2 (r : DmaRun) : Nat := fld (r.word 4) 15 0 + 1

/-- Destination elements of a pass. -/
def DmaRun.e (r : DmaRun) : Nat := r.c0 * r.sw / r.dw

/-- The signed half word of a step register: source steps in [15:0], destination steps in [31:16]. -/
def DmaRun.step (r : DmaRun) (loop : Nat) (dst : Bool) : Int :=
  let w := r.word (5 + loop)
  let n := if dst then fld w 31 16 else fld w 15 0
  if n < 32768 then n else (n : Int) - 65536

/-- Address offset per count of each loop: a loop's own step follows the inner loops' last position. -/
def DmaRun.stride (r : DmaRun) (dst : Bool) : Int × Int × Int :=
  let n0 : Int := if dst then r.e else r.c0
  let a0 := r.step 0 dst
  let a1 := (n0 - 1) * a0 + r.step 1 dst
  (a0, a1, (n0 - 1) * a0 + ((r.c1 : Int) - 1) * a1 + r.step 2 dst)

/-- The address of element `i` of the source or destination, in the order of R406. -/
def DmaRun.addr (r : DmaRun) (dst : Bool) (i : Nat) : Int :=
  let n0 := if dst then r.e else r.c0
  let a := r.stride dst
  let b : Int := fld (r.word (if dst then 2 else 1)) 23 0
  b + (i % n0 : Nat) * a.1 + (i / n0 % r.c1 : Nat) * a.2.1 + (i / n0 / r.c1 : Nat) * a.2.2

/-- The least and greatest address generated. -/
def DmaRun.bounds (r : DmaRun) (dst : Bool) : Int × Int :=
  let n0 : Int := (if dst then r.e else r.c0 : Nat)
  let a := r.stride dst
  let b : Int := fld (r.word (if dst then 2 else 1)) 23 0
  let m (x n : Int) : Int := x * (n - 1)
  let p := m a.1 n0
  let q := m a.2.1 r.c1
  let t := m a.2.2 r.c2
  (b + min p 0 + min q 0 + min t 0, b + max p 0 + max q 0 + max t 0)

/-- Is the descriptor a snapshot transfer, and does it request the snapshot? -/
def DmaRun.snap (r : DmaRun) : Bool := bit (r.word 0) 6
def DmaRun.take (r : DmaRun) : Bool := bit (r.word 0) 7 && r.snap

/-- The page of the first source word, as it is addressed. -/
def DmaRun.page (r : DmaRun) : Nat := (fld (r.word 1) 23 0) / 4096

/-- The checks of R407 on one side: alignment, steps, and widths below four bytes only in the memory windows. -/
def DmaRun.sideOk (r : DmaRun) (dst : Bool) : Bool :=
  let w : Nat := if dst then r.dw else r.sw
  let b := r.bounds dst
  decide (fld (r.word (if dst then 2 else 1)) 23 0 % w = 0)
    && (List.range 3).all (fun l => decide (r.step l dst % (w : Int) = 0))
    && decide (4 ≤ w ∨ (0x400000 ≤ b.1 ∧ b.2 < 0x800000))

/-- The source words of a snapshot transfer: RO/S registers of one page with a group (R408). -/
def DmaRun.snapOk (s : State) (r : DmaRun) : Bool :=
  let n := r.c0 * r.c1 * r.c2
  decide (r.sw = 4 ∧ r.dw = 4 ∧ n ≤ 64) && (List.range 3).all (fun l => decide (r.step l true = 0))
    && (List.range n).all (fun i =>
      let a := (r.addr false i).toNat
      let b := if remoteOpen s a then a - 0x800000 else a
      decide (0 ≤ r.addr false i ∧ a / 4096 = r.page) && hasSnap (pageOf b) && isRos b)

/-- The checks at a load. -/
def DmaRun.ok (s : State) (r : DmaRun) : Bool :=
  decide (r.c0 * r.sw % r.dw = 0) && r.sideOk false && r.sideOk true && (!r.snap || r.snapOk s)

/-- Destination elements in all: the words of a snapshot record, or those of the loops. -/
def DmaRun.total (r : DmaRun) : Nat := if r.snap then r.out'.length else r.e * r.c1 * r.c2

/-- The access that follows the reads and writes so far; none when every count has reached zero. -/
def DmaRun.next (r : DmaRun) : Option DmaPhase :=
  if r.snap then (if r.out'.isEmpty then some .read else if r.writes < r.total then some .write else none)
  else if r.writes = r.total then none
  else if r.dw ≤ r.hold.length then some .write
  else some .read

/-- The address an access goes to, and whether it writes; none for a fence. -/
def DmaRun.access (r : DmaRun) : Option (Bool × Int) :=
  match r.phase with
  | .take => some (true, hSNAP_CTRL r.page)
  | .ready | .genBefore | .genAfter => some (false, hSNAP_GEN r.page)
  | .read => some (false, r.addr false r.reads)
  | .write => some (true, if r.snap then (fld (r.word 2) 23 0 + 4 * r.writes : Nat) else r.addr true r.writes)
  | .fence => none

/-! ### LOCK expiry between descriptors (R42, R416) -/

/-- May the descriptor under way on channel `k` write page `p`: does the span of its destinations touch it? -/
def dmaWrites (s : State) (k p : Nat) : Bool :=
  match dmaRunOf s k with
  | some r =>
    let lo := (if r.snap then (fld (r.word 2) 23 0 : Int) else (r.bounds true).1).toNat
    let hi := (if r.snap then (fld (r.word 2) 23 0 : Int) else (r.bounds true).2).toNat
    decide (dmaState s k = 2) && (decide (homePage lo = p ∨ homePage hi = p) || decide (pageOf lo ≤ p ∧ p ≤ pageOf hi))
  | none => false

/-- An open LOCK of page `p` whose second is over closes, unless a descriptor that writes the page is under way (R42). -/
def lockExpire (p : Nat) (s : State) : State :=
  if lockOpen s p && decide (lockDue s p ≤ s.now) && !(List.range 16).any (fun k => dmaWrites s k p) then closeLock p s else s

/-- The check between two descriptors. -/
def locksExpire (s : State) : State := s.fab.lockAt.foldl (fun t e => lockExpire e.1 t) s

/-! ### Runs (R405, R411, R413) -/

/-- FAIL and POSTED of the channel page follow the channels. -/
def dmaLevels (s : State) : State :=
  let s1 := (List.range 16).foldl (fun t k => t.raw DmaCh.page k (decide (dmaState t k = 4))) s
  s1.raw DmaCh.page 17 ((List.range 16).any (fun k => s1.rdB (DmaCh.CH_STAT k) 4))

/-- The run of channel `k` ends in FAIL with an error and a refusal code. Messages of an access that is still under way are no longer its
own. -/
def dmaFail (k err code : Nat) (s : State) : State :=
  let n := match dmaRunOf s k with
    | some r => r.count
    | none => 0
  let free (m : TwinMsg) : TwinMsg := if m.dma = some k then { m with dma := none } else m
  let s1 : State := { s with twin := { s.twin with queue := s.twin.queue.map free, asked := s.twin.asked.map free } }
  let s2 := putDma k none ((s1.wrF (DmaCh.CH_STAT k) 2 0 4).wr (DmaCh.CH_COUNT k) (word n))
  locksExpire (dmaLevels ((s2.wrF (DmaCh.CH_STAT k) 23 16 err).wrF (DmaCh.CH_STAT k) 31 24 code))

/-- An access to the twin goes out over the link (R372). -/
def dmaIssue (k : Nat) (v : List Word) (r0 : DmaRun) (s : State) : State :=
  let r : DmaRun := { r0 with at_ := s.now, asked := false, answer := none }
  match r.access with
  | some (w, a) =>
    if 0 ≤ a ∧ remoteOpen s a.toNat then
      let b := a.toNat - 0x800000
      let s1 := putDma k (some { r with asked := true }) s
      if w then twinWriteMsg (some .dma) (some k) false false (v.zipIdx.map (fun e => (b + 4 * e.2, e.1))) s1
      else twinReadMsg .dma (some k) b (if r.phase = .genAfter ∨ (r.phase = .read ∧ r.sw = 8) then 2 else 1) s1
    else putDma k (some r) s
  | none => putDma k (some r) s

/-- The words an element write carries, from the bytes held or the record. -/
def DmaRun.wordsOut (r : DmaRun) : List Word :=
  if r.phase = .take then [1]
  else if r.snap then [r.out'.getD r.writes 0]
  else if r.dw = 8 then [bytesWord (r.hold.take 4), bytesWord ((r.hold.drop 4).take 4)]
  else [bytesWord (r.hold.take r.dw)]

/-- Channel `k` loads the descriptor in `slot` and issues its first access; a check that fails ends the run with ERR_CFG, and the mode is
sampled (R404, R407-R409). -/
def dmaLoad (k slot : Nat) (abort : Bool) (s : State) : State :=
  let strict := dmaStrict s || s.rdB (DmaCh.CH_CFG k) 12
  let r0 : DmaRun := { slot := slot, desc := (List.range 8).map (fun j => s.rd (slotAddr slot j)), strict := strict, abort := abort }
  let r : DmaRun := { r0 with phase := if r0.take then .take else if r0.snap then .genBefore else .read }
  let s1 := (s.wrB (DmaCh.CH_STAT k) 3 strict).wrF (DmaCh.CH_STAT k) 14 8 slot
  if r.ok s then dmaIssue k r.wordsOut r s1 else dmaFail k 1 4 (putDma k (some r) s1)

/-- Channel `k` begins a run at its first slot (R404, R405). -/
def dmaBegin (k : Nat) (s : State) : State :=
  dmaLoad k (s.rdF (DmaCh.CH_CFG k) 6 0) false ((s.wrF (DmaCh.CH_STAT k) 2 0 2).wrF (DmaCh.CH_STAT k) 31 16 0)

/-- A run that is aborted ends once its access has been answered. -/
def dmaStop (k : Nat) (s : State) : State :=
  match dmaRunOf s k with
  | some r => putDma k (some { r with abort := true }) s
  | none => s

/-- The trigger numbered `trig` (1-8 update event of a timebase, 9 epoch): an armed channel begins, a busy one misses it
(R405). -/
def dmaTrigger (trig : Nat) (s : State) : State :=
  (List.range 16).foldl (fun u k =>
    if u.rdF (DmaCh.CH_CFG k) 11 8 ≠ trig then u
    else if dmaState u k = 1 then dmaBegin k u
    else if dmaState u k = 2 then (incWord (DmaCh.CH_MISS k) u).pulse DmaCh.page 16
    else u) s

/-! ### Writes of the DMA pages (R405, R415) -/

/-- START. -/
def dmaStart (k : Nat) (s : State) : Reply :=
  if dmaState s k = 1 ∨ dmaState s k = 2 then deny s .notInState
  else
    let s1 := dmaLevels (s.wrB (DmaCh.CH_STAT k) 4 false)
    accept (if s1.rdF (DmaCh.CH_CFG k) 11 8 = 0 then dmaLevels (dmaBegin k s1) else dmaLevels (s1.wrF (DmaCh.CH_STAT k) 2 0 1))

/-- ABORT. -/
def dmaAbort (k : Nat) (s : State) : Reply :=
  if dmaState s k = 1 then accept (s.wrF (DmaCh.CH_STAT k) 2 0 0)
  else if dmaState s k = 2 then accept (dmaStop k s)
  else accept s

/-- A write of CH_CMD. -/
def dmaCmdWrite (k : Nat) (v : Word) (s : State) : Reply :=
  match fld v 1 0 with
  | 1 => dmaStart k s
  | 2 => dmaAbort k s
  | 3 => deny s .outOfRange
  | _ => accept s

/-- A write of CH_CFG. -/
def dmaCfgWrite (k : Nat) (v : Word) (s : State) : Reply :=
  if 9 < fld v 11 8 then deny s .outOfRange
  else if dmaState s k = 1 ∨ dmaState s k = 2 then deny s .notInState
  else plainWrite (DmaCh.CH_CFG k) v s

/-- Writes of the DMA pages. -/
def dmaWrite (a : Nat) (v : Word) (s : State) : Reply :=
  let o := a % 4096
  let k := (o - 0x40) / 32
  if pageOf a = DmaCh.page ∧ 0x40 ≤ o ∧ o < 0x240 then
    (match o % 32 with
      | 0 => dmaCfgWrite k v s
      | 4 => dmaCmdWrite k v s
      | _ => plainWrite a v s)
  else plainWrite a v s

end Sys2Proof.Machine
end

