-- ==== Sys2Proof/Machine/Pwm.lean ====
section
/-! DEFINITION. The PWM modulators (R210-R236): update events and period boundaries, compare edges, dead time and
passages, starts, stops and shifts, forces, trip pins, and the writes of the PWM pages. -/

namespace Sys2Proof.Machine

/-! ### Update events -/

/-- The groups that name timebase `t`. -/
def tbGroups (s : State) (t : Nat) : List Nat := (List.range 6).filter (fun g => decide (grpTb s g = t))

/-- The channels of the enabled groups of timebase `t`. -/
def tbChans (s : State) (t : Nat) : List Nat := ((tbGroups s t).filter (grpEn s)).flatMap (grpChans s)

/-- Is `a` a shadowed register of group `g`: dead times, timing, references, or the compare values of groups 4-5? -/
def grpShadowReg (s : State) (g a : Nat) : Bool :=
  decide (Grp.GRP_DTA g ≤ a ∧ a ≤ Grp.GRP_TIMING g) || decide (Grp.GRP_REFA g ≤ a ∧ a ≤ Grp.GRP_REFC g)
    || (decide (4 ≤ g) && (grpChans s g).any (fun c => decide (a = Ch.CH_CMP c)))

/-- Copy the shadow values of the registers that satisfy `p` into force, with the instants they landed (R212). -/
def loadShadow (p : Nat → Bool) (s : State) : State :=
  { s with
    active := KMap.copyWhere p s.regs s.active
    pwm := { s.pwm with actStamp := KMap.copyWhere p s.pwm.shStamp s.pwm.actStamp } }

/-- The reload of group `g`: HOLD itself, then, unless it holds, every shadow value of the group. Forces of its channels
are taken in either case (R226, R227). -/
def reloadGroup (g : Nat) (s : State) : State :=
  let hold := s.rdB (Grp.GRP_HOLD g) 0
  let force (a : Nat) : Bool := (grpChans s g).any (fun c => decide (a = Ch.CH_FORCE c))
  let s1 := (s.wrA (Grp.GRP_HOLD g) (s.rd (Grp.GRP_HOLD g))).wrB (Grp.GRP_STAT g) 2 hold
  loadShadow (fun a => force a || (!hold && grpShadowReg s g a)) s1

/-- The largest compare value of an auxiliary leg, in 1/8 cycle, that leaves its bootstrap time to recharge (R258). -/
def bsLimit8 (s : State) (g x : Nat) : Nat :=
  let t := grpTb s g
  let need := 8 * s.rdF Gl.BS_CFG 15 0 + fld (s.rdA (if x = 0 then Grp.GRP_DTA g else if x = 1 then Grp.GRP_DTB g else Grp.GRP_DTC g)) 16 0
  let k := if tbMode s t = 2 then 2 else 1
  8 * tbPrd s t - (need + k - 1) / k

/-- Leg `x` of group `g` takes its compare value and states from the active values (R222, R226, R258). -/
def convertLeg (g x : Nat) (s : State) : State :=
  let t := grpTb s g
  let l := legOf s g x
  if 4 ≤ g then
    let c8 := fld (s.rdA (Ch.CH_CMP (grpBase s g + x))) 23 0
    (putLeg g x { l with c8 := some c8, stX := 1, stY := 0 } s).wr (Ch.CH_ACT (grpBase s g + x)) (word c8)
  else if grpMode s g = 2 then putLeg g x { l with c8 := none } s
  else
    let m := s.rdA (legRef s g x)
    let above := F.lt F.one (F.abs m)
    let mc := F.clamp m (F.neg F.one) F.one
    let s1 := if above then (s.pulse Grp.page (8 + g)).incL (PwmTel.CLAMP_CNT g) else s
    let r := dutyCompare (grpTopo s g) (tbPrd s t) mc
    let limited := decide (g = 2 ∨ g = 3) && decide (bsLimit8 s g x < r.1)
    let c8 := if limited then bsLimit8 s g x else r.1
    let s2 := if limited then s1.incL (GlTel.BS_CLAMP (3 * (g - 2) + x)) else s1
    (legChans s g x).foldl (fun u c => u.wr (Ch.CH_ACT c) (word (c8 % 2 ^ 24)))
      (putLeg g x { l with c8 := some c8, stX := r.2.1, stY := r.2.2 } s2)

/-- The state control asks of leg `x` of group `g` at carrier position `p8` of the values in force. -/
def legWanted (s : State) (g x p8 : Nat) : Nat :=
  let t := grpTb s g
  let l := legOf s g x
  if g < 4 ∧ grpMode s g = 2 then indexState (grpTopo s g) (fld (s.rdA (Grp.GRP_REFA g)) 4 0) x
  else
    match l.c8 with
    | some c => if inX (tbMode s t) (tbPrd s t) c p8 then l.stX else l.stY
    | none => l.ctl

/-- A leg of an auxiliary group in LEG mode whose refresh is due takes state 0 for this interval (R259). -/
def refreshLeg (g x st : Nat) (s : State) : Nat × State :=
  let l := legOf s g x
  if (g = 2 ∨ g = 3) ∧ grpMode s g = 2 then
    if l.refresh then (0, (putLeg g x { l with refresh := false, oneAt := none } s).incL (GlTel.BS_CLAMP (3 * (g - 2) + x)))
    else if st = 1 then
      (st, putLeg g x { l with oneAt := match l.oneAt with | some a => some a | none => some s.now } s)
    else (st, putLeg g x { l with oneAt := none } s)
  else (st, s)

/-- Leg `x` of group `g` at an update event at instant `e`. -/
def reloadLeg (g : Nat) (e : Int) (s : State) (x : Nat) : State :=
  let s1 := convertLeg g x s
  let p8 := carrierPos8 s1 (grpTb s1 g) (8 * e)
  let r := refreshLeg g x (legWanted s1 g x p8) s1
  let s2 := putLeg g x { legOf r.2 g x with mark8 := 8 * e, skip8 := none, live := true } r.2
  legEnter g x r.1 (8 * e) s2

/-- Staged writes of timebase `t` enter the shadow in the cycle after the reload and wait for the next; STAGED shows
only those (R213). -/
def unstage (t : Nat) (s : State) : State :=
  let mine := s.pwm.staged.filter (fun w => decide (w.tb = t))
  let s0 := (tbGroups s t).foldl (fun u g => u.wrB (Grp.GRP_STAT g) 1 false) s
  let s1 := mine.foldl (fun u w => intoShadow w.addr w.val w.at_ u) s0
  let isTb (a : Nat) : Bool := decide (pageOf a = Tb.page)
  let grpOf (a : Nat) : Option Nat :=
    (tbGroups s t).find? (fun g => grpShadowReg s g a || decide (a = Grp.GRP_HOLD g)
      || (grpChans s g).any (fun c => decide (a = Ch.CH_FORCE c)))
  let s2 := mine.foldl (fun u w =>
    if isTb w.addr then u.wrB (Tb.TB_STAT t) 7 true
    else match grpOf w.addr with | some g => u.wrB (Grp.GRP_STAT g) 1 true | none => u) s1
  let s3 := if s2.rd (Tb.TB_PRD t) = s2.rdA (Tb.TB_PRD t) then s2.wrB (Tb.TB_STAT t) 7 false else s2
  { s3 with pwm := { s3.pwm with staged := s3.pwm.staged.filter (fun w => decide (w.tb ≠ t)) } }

/-- The update event of timebase `t` at instant `e`: every shadow value of its groups and channels takes hold in one
step, the legs follow, and the authorities over its channels are resolved anew (R30, R212). -/
def doUpdate (t : Nat) (e : Int) (s : State) : State :=
  let gs := tbGroups s t
  let s1 := gs.foldl (fun u g => reloadGroup g u) s
  let h := tbOf s1 t
  let s2 := (putTb t { h with lastUpd := e, updCount := h.updCount + 1 } s1).incL (PwmTel.UPDATES t)
  let s3 := { s2 with fab := { s2.fab with stamp := KMap.set (fun _ => 0) s2.fab.stamp (PwmTel.UPDATES t) e.toNat } }
  let ruled := (tbChans s3 t).foldl (fun u c => putCh c (govern u true c) u) s3
  let s4 := (gs.filter (grpEn s3)).foldl (fun u g => (List.range (grpLegs g)).foldl (reloadLeg g e) u) ruled
  let s5 := (gs.filter (fun g => grpEn s4 g && decide (grpMode s4 g = 2))).foldl (fun u g =>
    u.wrF (Grp.GRP_STAT g) 12 8 (fld (u.rdA (Grp.GRP_REFA g)) 4 0)) s4
  unstage t (resolve (tbChans s5 t) (fun _ => true) (8 * e) s5)

/-- An update event with what hangs on it: field control before and after the reload, and the DMA channels armed for it
(R173, R176, R405). -/
def fullUpdate (t : Nat) (e : Int) (s : State) : State :=
  dmaTrigger (t + 1) (focAfterUpdate t (doUpdate t e (focBeforeUpdate t s)))

/-- UPDATE_EVENT (R212): the next update event of timebase `t` inside its present period. -/
def updateEvent (t : Nat) (s : State) : State :=
  if !tbRun s t then s else
  match updInPeriod s t with
  | some e => fullUpdate t e (s.reach e.toNat)
  | none => s

/-! ### Period boundaries, starts and stops -/

/-- The synchronisation domain of timebase `t` ends: every other member stands alone (R214). -/
def endDomain (t : Nat) (s : State) : State :=
  let d := s.rdF (Tb.TB_STAT t) 6 4
  (List.range 8).foldl (fun u k =>
    if k ≠ t ∧ tbRun u k ∧ u.rdF (Tb.TB_STAT k) 6 4 = d then u.wrF (Tb.TB_STAT k) 6 4 k else u) s

/-- TB_CNT of a running timebase as a word: the counter and its direction (R231). -/
def cntWord (s : State) (t : Nat) : Word := word ((tbCounter s t).1 + at' (bitN (tbCounter s t).2) 31)

/-- Timebase `t` stops in this cycle (R215): the counter halts where it stands and triggers cease, rank-4 channels turn off, forced
states act at once, and machines on it fault. -/
def stopTb (t : Nat) (s : State) : State :=
  let cs := tbChans s t
  let s1 := ((endDomain t s).wr (Tb.TB_CNT t) (cntWord s t)).wrF (Tb.TB_STAT t) 7 0 0
  let s2 := unstage t (putTb t { tbOf s1 t with shiftN := 0 } s1)
  let s3 := (s2.wrB (hSTATUS Tb.page) t false).pulse Tb.page t
  let s4 := loadShadow (fun a => cs.any (fun c => decide (a = Ch.CH_FORCE c))) s3
  let s5 := (tbGroups s4 t).foldl (fun u g => (List.range (grpLegs g)).foldl (fun v x =>
    let l := legOf v g x
    putLeg g x { phys := l.phys, npTo := l.npTo, npAt8 := l.npAt8 } v) u) s4
  focTbStopped t (resolve cs (fun _ => false) (8 * s5.now) s5)

/-- PERIOD_BOUNDARY (R212, R215, R216): a pending stop, a new PRD, a pending shift; a wrap that is no update event
moves the legs of up and down carriers. -/
def periodBoundary (t : Nat) (s : State) : State :=
  if !tbRun s t then s else
  let h := tbOf s t
  let b : Int := h.base + tbCarrier s t
  let s1 := s.reach b.toNat
  if s1.rdB (Tb.TB_STAT t) 1 then stopTb t (putTb t { h with base := b, shiftN := 0 } s1)
  else
    let newPrd := decide (s1.rd (Tb.TB_PRD t) ≠ s1.rdA (Tb.TB_PRD t))
    let s2 := s1.wrA (Tb.TB_PRD t) (s1.rd (Tb.TB_PRD t))
    let stagedPrd := s2.pwm.staged.any (fun w => decide (w.addr = Tb.TB_PRD t))
    let s3 := s2.wrB (Tb.TB_STAT t) 7 stagedPrd
    let s4 := putTb t { h with
      base := b + h.shiftN, shiftN := 0, timingAt := if newPrd then b else h.timingAt } s3
    let late := (busyCtxs s4).filter (fun n => decide (ctxTb s4 n = t) &&
      (match (ctxOf s4 n).run with | some r => decide (b < r.target) | none => false))
    let s4m := if newPrd then late.foldl (fun u n => moveTarget (updAfter u t (max b h.lastUpd)) n u) s4 else s4
    let s5 := if h.shiftN = 0 then s4m else (s4m.wrB (Tb.TB_STAT t) 2 false).incL (PwmTel.SHIFTS t)
    if tbUpd s5 t % 2 = 1 then s5
    else
      let gs := (tbGroups s5 t).filter (grpEn s5)
      let s6 := gs.foldl (fun u g => (List.range (grpLegs g)).foldl (fun v x =>
        let l := legOf v g x
        if l.c8.isNone then v
        else
          let w := putLeg g x { l with mark8 := 8 * b, skip8 := none } v
          legEnter g x (legWanted w g x 0) (8 * b) w) u) s5
      resolve (tbChans s6 t) (fun _ => false) (8 * b) s6

/-- Does timebase `t` drive any gate position or direct pin? -/
def tbDrives (s : State) (t : Nat) : Bool := (List.range 6).any (fun g => grpEn s g && decide (grpTb s g = t))

/-- Is any SERIAL position of an enabled group of timebase `t` not UP (R248)? -/
def tbLinkDown (s : State) (t : Nat) : Bool :=
  (tbChans s t).any (fun c => decide (c < 36) && decide (glMode s c = 1) && decide (glState s c ≠ 3))

/-- The FAST contexts that are not IDLE and name timebase `t`. -/
def tbFast (s : State) (t : Nat) : List Nat := (busyCtxs s).filter (fun n => ctxFast s n && decide (ctxTb s n = t))

/-- The interval between the triggers of timebase `t`, and the instant of the next one. -/
def trigInterval (s : State) (t : Nat) : Nat := updInterval (tbCarrier s t) (tbUpd s t)
def trigInstant (s : State) (t : Nat) : Int := nextUpd s t - tbLead s t

/-- An instant of which the triggers of timebase `t` are whole intervals away, as it runs now or after its pending shift. -/
def trigPhase (s : State) (shifted : Bool) (t : Nat) : Int :=
  let h := tbOf s t
  h.base + (if shifted then h.shiftN else 0) + (if tbUpd s t = 2 then tbCarrier s t / 2 else 0 : Nat) - tbLead s t

/-- The coincidence rule of R137 and R217 over the running timebases that release FAST contexts, with the triggers of each at
whole intervals from `at_`: one domain, a least common multiple of at most 2^24 cycles, and triggers at least 400 ns apart at every
instance. -/
def placedOk (at_ : Nat → Int) (s : State) : Bool :=
  let l := (List.range 8).filter (fun t => tbRun s t && !(tbFast s t).isEmpty)
  l.all (fun a => l.all (fun b =>
    decide (b ≤ a) ||
      (let ua := trigInterval s a
       let ub := trigInterval s b
       let g := Nat.gcd ua ub
       let d := (at_ a - at_ b) % (g : Int)
       decide (s.rdF (Tb.TB_STAT a) 6 4 = s.rdF (Tb.TB_STAT b) 6 4) && decide (Nat.lcm ua ub ≤ 2 ^ 24)
         && decide (320 ≤ d ∧ d + 320 ≤ g))))

/-- Does the coincidence rule hold now and once every pending shift has taken place (R137, R216)? -/
def coincidenceOk (s : State) : Bool := placedOk (trigPhase s false) s && placedOk (trigPhase s true) s

/-- The timebases a mask names. -/
def maskBits (n : Nat) (v : Word) : List Nat := (List.range n).filter (bit v)

/-- Timebase `t` begins at TB_PHASE now, in the domain numbered `d`; the start counts as an update event (R214). -/
def beginTb (d t : Nat) (s : State) : State :=
  let now : Int := s.now
  let s1 := (s.wrA (Tb.TB_PRD t) (s.rd (Tb.TB_PRD t))).wr (Tb.TB_STAT t) (word (1 + at' d 4))
  let base : Int := now - s.rdF (Tb.TB_PHASE t) 21 0
  (putTb t { tbOf s t with base := base, lastUpd := now - 1, trigIdx := (tbOf s t).updCount,
                           timingAt := now, shiftN := 0 } s1).wrB (hSTATUS Tb.page) t true

/-- A write of TB_START (R79, R214, R248). -/
def tbStartWrite (v : Word) (s : State) : Reply :=
  let l := maskBits 8 v
  if !lockOpen s Tb.page then deny s .locked
  else if pwrState s = 1 ∨ s.rdB SecDbg.DBG_HSTAT 2 then deny s .notInState
  else if l.any (tbRun s) then deny s .notInState
  else if l.any (tbDrives s) && !s.rdB Bup.READY 5 then deny s .notInState
  else if l.any (tbLinkDown s) then deny s .notInState
  else
    let d := l.headD 0
    let s1 := l.foldl (fun u t => beginTb d t u) s
    if !coincidenceOk s1 then deny s .outOfRange
    else accept (l.foldl (fun u t => fullUpdate t u.now u) s1)

/-- A write of TB_STOP (R215). -/
def tbStopWrite (v : Word) (s : State) : Reply :=
  let l := (maskBits 8 v).filter (tbRun s)
  accept (l.foldl (fun u t => if bit v 8 then stopTb t u else u.wrB (Tb.TB_STAT t) 1 true) s)

/-- The outstanding FAST runs of timebase `t` whose target reload is not before its next period boundary follow a shift of `n` cycles
(R236). -/
def shiftTargets (t n : Nat) (s : State) : State :=
  let b : Int := (tbOf s t).base + tbCarrier s t
  (busyCtxs s).foldl (fun u k =>
    match (ctxOf u k).run with
    | some r => if ctxTb u k = t ∧ b ≤ r.target then moveTarget (r.target + n) k u else u
    | none => u) s

/-- A write of TB_SHIFT of timebase `t` (R216). -/
def tbShiftWrite (t : Nat) (v : Word) (s : State) : Reply :=
  let n := fld v 11 0
  if !tbRun s t then deny s .notInState
  else if s.rdB (Tb.TB_STAT t) 2 then deny s .busy
  else if n = 0 then deny s .outOfRange
  else
    let h := tbOf s t
    let after := putTb t { h with shiftN := n } s
    if !coincidenceOk after then deny s .outOfRange
    else accept ((shiftTargets t n after).wrB (Tb.TB_STAT t) 2 true)

/-! ### Writes of the timebase page -/

/-- Is PRD inside the limits of R211 for a counting mode and update selection? -/
def prdOk (cnt upd prd : Nat) : Bool :=
  decide (prd ≤ 2097151) && (if cnt = 2 then decide (4000 ≤ prd) else decide (8000 ≤ prd) && decide (upd < 2 ∨ prd % 2 = 0))

/-- Do a mode, update selection and PRD leave U above LEAD and the carrier period above TB_PHASE (R217, R218)? -/
def tbFits (s : State) (t cnt upd prd : Nat) : Bool :=
  decide (tbLead s t < updInterval (carrierOf cnt prd) upd) && decide (s.rdF (Tb.TB_PHASE t) 21 0 < carrierOf cnt prd)

/-- A write of TB_CFG. -/
def tbCfgWrite (t : Nat) (v : Word) (s : State) : Reply :=
  let cnt := fld v 1 0
  let upd := fld v 3 2
  let prd := s.rdF (Tb.TB_PRD t) 20 0
  if tbRun s t then deny s .notInState
  else if cnt = 3 ∨ upd = 0 ∨ !prdOk cnt upd prd then deny s .outOfRange
  else if !(tbFast s t).isEmpty && decide (updInterval (carrierOf cnt prd) upd ≠ updInterval (carrierOf (tbMode s t) prd) (tbUpd s t)) then
    deny s .notInState
  else if !tbFits s t cnt upd prd then deny s .outOfRange
  else accept (s.wr (Tb.TB_CFG t) (v &&& 0xF))

/-- A write of TB_PRD: a shadow value, taken at a period boundary (R212, R218). -/
def tbPrdWrite (t : Nat) (v : Word) (s : State) : Reply :=
  let prd := fld v 20 0
  if !(tbFast s t).isEmpty then deny s .notInState
  else if !prdOk (tbMode s t) (tbUpd s t) prd || !tbFits s t (tbMode s t) (tbUpd s t) prd then deny s .outOfRange
  else
    let s1 := shadowWrite t (Tb.TB_PRD t) (Tb.TB_STAT t) 7 (v &&& 0x1FFFFF) s
    accept (if tbRun s1 t then s1.wrB (Tb.TB_STAT t) 7 (s1.rdB (Tb.TB_STAT t) 7 || decide (s1.rd (Tb.TB_PRD t) ≠ s1.rdA (Tb.TB_PRD t)))
      else s1)

/-- A write of TB_PHASE. -/
def tbPhaseWrite (t : Nat) (v : Word) (s : State) : Reply :=
  if tbRun s t then deny s .notInState
  else if carrierOf (tbMode s t) (s.rdF (Tb.TB_PRD t) 20 0) ≤ fld v 21 0 then deny s .outOfRange
  else accept (s.wr (Tb.TB_PHASE t) (v &&& 0x3FFFFF))

/-- A write of TB_TRIG: acts from this cycle (R217). -/
def tbTrigWrite (t : Nat) (v : Word) (s : State) : Reply :=
  let lead := fld v 21 0
  let carrier := if tbRun s t then tbCarrier s t else carrierOf (tbMode s t) (s.rdF (Tb.TB_PRD t) 20 0)
  let u := updInterval carrier (tbUpd s t)
  if u ≤ lead then deny s .outOfRange
  else
    let s1 := s.wr (Tb.TB_TRIG t) (v &&& 0x3FFFFF)
    if !coincidenceOk s1 then deny s .outOfRange
    else accept (putTb t { tbOf s1 t with timingAt := s.now } s1)

/-! ### Writes of the group and channel pages -/

/-- Update interval of the timebase of a GRP_CFG value, from its shadow count. -/
def cfgInterval (s : State) (v : Word) : Nat :=
  let t := fld v 2 0
  updInterval (carrierOf (tbMode s t) (s.rdF (Tb.TB_PRD t) 20 0)) (tbUpd s t)

/-- Do the channels of groups 0 and 1 overlap, if group `g` takes the value `v`? -/
def grpOverlap (s : State) (g : Nat) (v : Word) : Bool :=
  let b := fld v 21 16
  let n := 3 * legSize (fld v 5 4)
  let o := 1 - g
  grpEn s o && decide (b < grpBase s o + grpSize s o) && decide (grpBase s o < b + n)

/-- T_REF + DT in 1/8 cycle, of the largest dead time of group `g` (R259). -/
def bsNeed8 (s : State) (g tref : Nat) : Nat :=
  8 * tref + max (s.rdF (Grp.GRP_DTA g) 16 0) (max (s.rdF (Grp.GRP_DTB g) 16 0) (s.rdF (Grp.GRP_DTC g) 16 0))

/-- The range checks of a GRP_CFG value (R3, R220, R233, R259). -/
def grpCfgRange (s : State) (g : Nat) (v : Word) : Bool :=
  let topo := fld v 5 4
  let mode := fld v 9 8
  let en := bit v 31
  let n := 3 * legSize topo
  let limit := if s.part = .sep9624 then 24 else 36
  (if g < 2 then decide (topo < 3) else if g < 4 then decide (topo = 0) else decide (topo = 3))
    && (if g < 4 then decide (mode = 1 ∨ mode = 2) else decide (mode = 0))
    && (!en || decide (2 ≤ g) || (!grpOverlap s g v && decide (fld v 21 16 + n ≤ limit)))
    && (!en || !(decide (g = 2 ∨ g = 3) && decide (mode = 2)) || decide (bsNeed8 s g (s.rdF Gl.BS_CFG 15 0) ≤ 8 * cfgInterval s v))

/-- Channels `cs`, idle by now, take the forces that wait: the last staged one, else that of the shadow (R213, R227). -/
def idleForces (cs : List Nat) (s : State) : State :=
  let names (w : Staged) : Bool := cs.any (fun c => decide (w.addr = Ch.CH_FORCE c))
  let s1 := (s.pwm.staged.filter names).foldl (fun u w => intoShadow w.addr w.val w.at_ u) s
  loadShadow (fun a => cs.any (fun c => decide (a = Ch.CH_FORCE c)))
    { s1 with pwm := { s1.pwm with staged := s1.pwm.staged.filter (fun w => !names w) } }

/-- A write of GRP_CFG; DESIGN CHOICE: NOT_IN_STATE before OUT_OF_RANGE, also on the SEP9624 (R3), since the manual orders neither. Legs and channels of the group start afresh where its membership changes. -/
def grpCfgWrite (g : Nat) (v : Word) (s : State) : Reply :=
  if (busyCtxs s).any (fun n => ctxFast s n && decide (s.rdF (Ctx.DEST n) 11 0 = 0xF00 + g)) then deny s .notInState
  else if !grpCfgRange s g v then deny s .outOfRange
  else
    let v1 := if g < 2 then v &&& 0x803F0337 else v &&& 0x80000337
    let s1 := s.wr (Grp.GRP_CFG g) v1
    let s2 := if s.rd (Grp.GRP_CFG g) = v1 then s1
      else (List.range (grpLegs g)).foldl (fun u x => showPassage g x false (putLeg g x {} u)) s1
    accept (resolveNow (idleForces (allChans.filter (fun c => chanIdle s2 c)) s2))

/-- Rounded up to whole cycles. -/
def ceil8 (x : Nat) : Nat := (x + 7) / 8

/-- A write of GRP_DTA, GRP_DTB or GRP_DTC, at address `a`. -/
def grpDtWrite (g a : Nat) (v : Word) (s : State) : Reply :=
  let dt := fld v 16 0
  let three := decide (g < 2) && decide (grpTopo s g = 1 ∨ grpTopo s g = 2)
  if 4 ≤ g then (if dt ≠ 0 then deny s .outOfRange else accept s)
  else if dt < 64 then deny s .outOfRange
  else if three && decide (s.rdF (Grp.GRP_TIMING g) 31 16 < ceil8 dt) then deny s .outOfRange
  else accept (grpShadow g a (v &&& 0x1FFFF) s)

/-- A write of GRP_TIMING. -/
def grpTimingWrite (g : Nat) (v : Word) (s : State) : Reply :=
  let three := decide (g < 2) && decide (grpTopo s g = 1 ∨ grpTopo s g = 2)
  let dt := ceil8 (bsNeed8 s g 0)
  if three && decide (fld v 31 16 < dt) then deny s .outOfRange
  else accept (grpShadow g (Grp.GRP_TIMING g) v s)

/-- A write of GRP_HOLD (R226). -/
def grpHoldWrite (g : Nat) (v : Word) (s : State) : Reply :=
  if groupOwned s g then deny s .notInState else accept (grpShadow g (Grp.GRP_HOLD g) (v &&& 1) s)

/-- A write of a group's reference number `k` (0 A, 1 B, 2 C) (R225, R233). -/
def grpRefWrite (g k : Nat) (v : Word) (s : State) : Reply :=
  let a := Grp.GRP_REFA g + 4 * k
  let bad := if grpMode s g = 1 then !F.isFin v
    else if grpMode s g = 2 then decide (k = 0) && decide ((if grpTopo s g = 0 then 7 else 26) < fld v 4 0)
    else false
  if groupOwned s g then deny s .notInState
  else if bad then deny s .outOfRange
  else accept (grpShadow g a v s)

/-- The timebase and status register that a shadow write of channel `c` goes by; none for an idle channel. -/
def chanTb (s : State) (c : Nat) : Option (Nat × Nat) :=
  match chanGroup s c with
  | some (g, _, _) => if tbRun s (grpTb s g) then some (grpTb s g, Grp.GRP_STAT g) else none
  | none => none

/-- A write of CH_CMP: channels 48-51 only (R226, R232). -/
def chCmpWrite (c : Nat) (v : Word) (s : State) : Reply :=
  if c < 48 then deny s .outOfRange
  else accept (grpShadow (if c < 50 then 4 else 5) (Ch.CH_CMP c) (v &&& 0xFFFFFF) s)

/-- The host force of channel `c` as last written, staged or in the shadow (R227). -/
def lastForce (s : State) (c : Nat) : Nat :=
  match (s.pwm.staged.filter (fun w => decide (w.addr = Ch.CH_FORCE c))).getLast? with
  | some w => fld w.val 1 0
  | none => s.rdF (Ch.CH_FORCE c) 1 0

/-- A write of CH_FORCE (R3, R227). -/
def chForceWrite (c : Nat) (v : Word) (s : State) : Reply :=
  let f := fld v 1 0
  if f = 3 then deny s .outOfRange
  else if s.part = .sep9624 ∧ 24 ≤ c ∧ c < 36 ∧ f ≠ 0 then deny s .outOfRange
  else if f = 2 ∧ (interlockSet s c).any (fun j => decide (lastForce s j = 2)) then deny s .outOfRange
  else
    match chanTb s c with
    | some (t, stat) => accept (shadowWrite t (Ch.CH_FORCE c) stat 1 (v &&& 3) s)
    | none => accept (resolveNow ((s.wr (Ch.CH_FORCE c) (v &&& 3)).wrA (Ch.CH_FORCE c) (v &&& 3)))

/-! ### Compare edges, dead time, passages -/

/-- The next compare edge of leg `x` of group `g` in the present carrier period. -/
def carrierEdge (g x : Nat) (s : State) : State :=
  match nextEdge8 s g x with
  | none => s
  | some e =>
    let t := grpTb s g
    let s1 := s.reach (Int.toNat ((e + 7) / 8))
    let l := legOf s1 g x
    let s2 := putLeg g x { l with mark8 := e, skip8 := if l.skip8 = some e then none else l.skip8 } s1
    let st := if inX (tbMode s2 t) (tbPrd s2 t) (l.c8.getD 0) (carrierPos8 s2 t e) then l.stX else l.stY
    resolve (legChans s2 g x) (fun _ => false) e (if l.skip8.isSome ∧ l.skip8 ≠ some e then s2 else legEnter g x st e s2)

/-- COMPARE_EDGE (R178, R222): the next compare edge of leg `x` of group `g`, of its carrier or of a test pulse, whichever comes first. -/
def compareEdge (g x : Nat) (s : State) : State :=
  if !(grpEn s g && tbRun s (grpTb s g)) then s else
  match nextTest8 s g x with
  | none => carrierEdge g x s
  | some e =>
    if (match nextEdge8 s g x with | some c => decide (c < e) | none => false) then carrierEdge g x s
    else testEdge g x e (s.reach (Int.toNat ((e + 7) / 8)))

/-- DEAD_TIME_END (R224): the turn-on of channel `c` that waits executes once its interlock set has been off for the
dead time; it is gone where its authority no longer wants it. -/
def deadTimeEnd (c : Nat) (s : State) : State :=
  let ic := interlockClear s c
  if !chPending s c || !ic.1 then s
  else if !wants s c then s.wrB (Ch.CH_STAT c) 1 false
  else
    let e := ic.2 + (chOf s c).pendDt8
    let s1 := s.reach (Int.toNat ((e + 7) / 8))
    setLevel c true (max e (8 * (s.now : Int))) s1

/-- NP_DWELL_END (R224): the passage of leg `x` of group `g` leaves O for its target. -/
def npDwellEnd (g x : Nat) (s : State) : State :=
  let l := legOf s g x
  match l.npTo with
  | none => s
  | some st =>
    let e := l.npAt8 + 8 * fld (s.rdA (Grp.GRP_TIMING g)) 31 16
    let s1 := s.reach (Int.toNat ((e + 7) / 8))
    resolve (legChans s1 g x) (fun _ => false) e (showPassage g x false (putLeg g x { l with phys := some st, npTo := none } s1))

/-! ### Trip pins (R228, R229) -/

/-- Hidden state of TRIP pin `k`. -/
def tripOf (s : State) (k : Nat) : TripHid := KMap.get (fun _ => {}) s.pwm.trips k

/-- Put the hidden state of TRIP pin `k`. -/
def putTrip (k : Nat) (h : TripHid) (s : State) : State :=
  { s with pwm := { s.pwm with trips := KMap.set (fun _ => {}) s.pwm.trips k h } }

/-- The synchronised level of TRIP pin `k` now (R228). -/
def tripSync (s : State) (k : Nat) : Bool :=
  let h := tripOf s k
  match (h.line.filter (fun e => decide (e.1 ≤ s.now))).getLast? with
  | some e => e.2
  | none => match h.line.head? with | some e => !e.2 | none => h.filt

/-- TRIP_STAT shows the filtered level as active or not; a rise of the filtered active level sets the pin's latch while EN is 1, which is
the condition of its Squall source (R228, R265). -/
def tripShow (k : Nat) (s : State) : State :=
  let h := tripOf s k
  let pol := s.rdB (Trip.TRIP_CFG0 k) 17
  let was := s.rdB Trip.TRIP_STAT (8 + k)
  let is := h.filt == pol
  let s1 := s.wrB Trip.TRIP_STAT (8 + k) is
  if is && !was && s1.rdB (Trip.TRIP_CFG0 k) 16 then
    latchSource (32 + k) 0 [] ((putTripLatch k true s1).incL (PwmTel.TRIP_CNT k))
  else s1

/-- TRIP_PIN_EDGE (R228): the pin changes; the synchroniser shows it after at most 2 cycles. -/
def tripPinEdge (k : Nat) (level : Bool) (sync : Nat) (s : State) : State :=
  let h := tripOf s k
  if h.pin = level then s
  else
    let last := match h.line.getLast? with | some e => e.1 | none => 0
    putTrip k { h with pin := level, line := h.line ++ [(max last (s.now + min sync 2), level)] } s

/-- The earliest instant at which the synchronised input has held a level other than `filt` for `n` cycles, one at least, with the
changes from there on. -/
def tripHeld (n : Nat) (filt : Bool) : List (Nat × Bool) → Option (Nat × List (Nat × Bool))
  | [] => none
  | e :: rest =>
    let held := match rest.head? with | some x => decide (e.1 + max n 1 ≤ x.1) | none => true
    if e.2 != filt && held then some (e.1 + n, rest) else tripHeld n filt rest

/-- TRIP_FILTER_QUALIFIED (R228): the synchronised input has held a new level for FILT consecutive cycles; the filter takes it. -/
def tripQualified (k : Nat) (s : State) : State :=
  let h := tripOf s k
  match tripHeld (s.rdF (Trip.TRIP_CFG0 k) 9 0) h.filt h.line with
  | none => s
  | some q => retryScan (tripShow k (putTrip k { h with filt := !h.filt, line := q.2 } (s.reach q.1)))

/-- A write of TRIP_CLR (R229, R275). -/
def tripClrWrite (v : Word) (s : State) : Reply :=
  let l := maskBits 8 v
  if l.any (fun k => s.rdB Trip.TRIP_STAT (8 + k)) then deny s .tripPersist
  else accept (clearLatches (l.map (32 + ·)) s)

/-- A write of TRIP_CFG of pin `k` (R229). -/
def tripCfgWrite (k : Nat) (v : Word) (s : State) : Reply :=
  if s.rdB (Trip.TRIP_CFG0 k) 16 && (List.range 8).any (tbRun s) then deny s .notInState
  else accept (retryScan (tripShow k (s.wr (Trip.TRIP_CFG0 k) (v &&& 0x303FF))))

/-! ### Bootstrap refresh (R259) -/

/-- BS_MAXON_EXPIRY: a LEG-mode auxiliary leg has held state 1 for BS_MAXON; it takes state 0 for the next whole
update interval. -/
def bsMaxon (g x : Nat) (s : State) : State :=
  let l := legOf s g x
  match l.oneAt with
  | some a =>
    if (g = 2 ∨ g = 3) ∧ grpMode s g = 2 then
      putLeg g x { l with refresh := true } (s.reach (a + s.rdF Gl.BS_CFG 31 16 * 800))
    else s
  | none => s

/-! ### Writes by address -/

/-- Writes of the PWM pages, by kind and address. -/
def pwmWrite (k : PageKind) (a : Nat) (v : Word) (s : State) : Reply :=
  let o := a % 4096
  match k with
  | .pwmTb =>
    if o = 0x140 then tbStartWrite v s
    else if o = 0x144 then tbStopWrite v s
    else if 0x40 ≤ o ∧ o < 0x140 then
      let t := (o - 0x40) / 32
      match (o - 0x40) % 32 with
      | 0x00 => tbCfgWrite t v s
      | 0x04 => tbPrdWrite t v s
      | 0x08 => tbPhaseWrite t v s
      | 0x0C => tbTrigWrite t v s
      | 0x10 => tbShiftWrite t v s
      | _ => accept s
    else plainWrite a v s
  | .pwmCh =>
    if 0x40 ≤ o ∧ o < 0x380 then
      let c := (o - 0x40) / 16
      match o % 16 with
      | 0 => chCmpWrite c v s
      | 4 => chForceWrite c v s
      | _ => accept s
    else plainWrite a v s
  | .pwmGrp =>
    if 0x40 ≤ o ∧ o < 0x1C0 then
      let g := (o - 0x40) / 64
      match (o - 0x40) % 64 with
      | 0x00 => grpCfgWrite g v s
      | 0x04 | 0x08 | 0x0C => grpDtWrite g a v s
      | 0x10 => grpTimingWrite g v s
      | 0x14 => grpHoldWrite g v s
      | 0x18 => grpRefWrite g 0 v s
      | 0x1C => grpRefWrite g 1 v s
      | 0x20 => grpRefWrite g 2 v s
      | _ => accept s
    else plainWrite a v s
  | .pwmTrip =>
    if 0x40 ≤ o ∧ o < 0x60 then tripCfgWrite ((o - 0x40) / 4) v s
    else if o = 0x64 then tripClrWrite v s
    else plainWrite a v s
  | _ => plainWrite a v s

/-! ### Reads -/

/-- Does channel `c` wait for the passage of its leg to end (R232)? -/
def waitsPassage (s : State) (c : Nat) : Bool :=
  match chanGroup s c with
  | some (g, x, i) =>
    match (legOf s g x).npTo with
    | some st => !chLevel s c && (onPlaces (grpTopo s g) st).contains i
    | none => false
  | none => false

/-- What a read of a PWM register gives where it is not the stored value. -/
def pwmView (k : PageKind) (a : Nat) (s : State) : Word :=
  let o := a % 4096
  match k with
  | .pwmTb =>
    if 0x40 ≤ o ∧ o < 0x140 ∧ (o - 0x40) % 32 = 0x18 then
      let t := (o - 0x40) / 32
      if tbRun s t then cntWord s t else s.rd a
    else s.rd a
  | .pwmCh =>
    if 0x40 ≤ o ∧ o % 16 = 8 then setBit (s.rd a) 1 (bit (s.rd a) 1 || waitsPassage s ((o - 0x40) / 16)) else s.rd a
  | .pwmTrip =>
    if o = 0x60 then
      (List.range 8).foldl (fun v k => setBit v k (tripSync s k == s.rdB (Trip.TRIP_CFG0 k) 17)) (s.rd a)
    else s.rd a
  | .pwmGrp =>
    if 0x40 ≤ o ∧ (o - 0x40) % 64 = 0x24 then setBit (s.rd a) 0 (groupOwned s ((o - 0x40) / 64)) else s.rd a
  | _ => s.rd a

/-! ### Meanings -/

/-- PERIOD_BOUNDARY (R212). -/
def execPeriodBoundary (t : Nat) (s : State) : Out := .next (periodBoundary t s)

/-- UPDATE_EVENT (R212). -/
def execUpdateEvent (t : Nat) (s : State) : Out := .next (updateEvent t s)

/-- COMPARE_EDGE (R222). -/
def execCompareEdge (g x : Nat) (s : State) : Out := .next (compareEdge g x s)

/-- DEAD_TIME_END (R224). -/
def execDeadTimeEnd (c : Nat) (s : State) : Out := .next (deadTimeEnd c s)

/-- NP_DWELL_END (R224). -/
def execNpDwellEnd (g x : Nat) (s : State) : Out := .next (npDwellEnd g x s)

/-- TB_START (R214). -/
def execTbStart (port : Port) (v : Word) (s : State) : Out := replied (gated port Tb.TB_START v (tbStartWrite v) s)

/-- TB_STOP (R215). -/
def execTbStop (port : Port) (v : Word) (s : State) : Out := replied (gated port Tb.TB_STOP v (tbStopWrite v) s)

/-- TB_SHIFT (R216). -/
def execTbShift (port : Port) (t : Nat) (v : Word) (s : State) : Out :=
  replied (gated port (Tb.TB_SHIFT t) v (tbShiftWrite t v) s)

/-- CH_FORCE_WRITE (R227). -/
def execChForceWrite (port : Port) (c : Nat) (v : Word) (s : State) : Out :=
  replied (gated port (Ch.CH_FORCE c) v (chForceWrite c v) s)

/-- GRP_HOLD_WRITE (R226). -/
def execGrpHoldWrite (port : Port) (g : Nat) (v : Word) (s : State) : Out :=
  replied (gated port (Grp.GRP_HOLD g) v (grpHoldWrite g v) s)

/-- TRIP_PIN_EDGE (R228). -/
def execTripPinEdge (k : Nat) (level : Bool) (sync : Nat) (s : State) : Out := .next (tripPinEdge k level sync s)

/-- TRIP_FILTER_QUALIFIED (R228). -/
def execTripFilterQualified (k : Nat) (s : State) : Out := .next (tripQualified k s)

/-- TRIP_CLR (R229). -/
def execTripClr (port : Port) (v : Word) (s : State) : Out := replied (gated port Trip.TRIP_CLR v (tripClrWrite v) s)

/-- BS_MAXON_EXPIRY (R259). -/
def execBsMaxonExpiry (g x : Nat) (s : State) : Out := .next (bsMaxon g x s)

end Sys2Proof.Machine
end

