-- ==== Sys2Proof/Machine/Tail.lean ====
section
/-! DEFINITION. Tailwind (R142-R155): precomputes, the band check, and the result of a hit. -/

namespace Sys2Proof.Machine

/-- 2π held within (-π, π] after a difference or sum of two angles. -/
def wrapPi (a : Word) : Word :=
  if F.lt F.pi a then F.sub a F.twoPi else if F.le a (F.neg F.pi) then F.add a F.twoPi else a

/-- The set-points in force for the current laws: SP_Q or TARGET, SP_D or TARGET_D, a lost source at its last valid value
(R127, R144). -/
def setSource (s : State) (n k : Nat) : Word :=
  let own := if k = 6 then s.rd (Ctx.TARGET n) else s.rd (Ctx.TARGET_D n)
  match ctxSrc s n k with
  | none => own
  | some x =>
    let v := srcNow s x
    if v.valid then v.value
    else
      match (ctxOf s n).spLast.find? (fun e => decide (e.1 = k)) with
      | some e => e.2
      | none => own

/-! ### Precompute (R143-R145) -/

/-- The sample predicted for the next trigger: phase currents that sum to zero, the extrapolated angle, the latest link
voltage, the neutral point. -/
def predicted (s : State) (n : Nat) (args : List Word) : List Word :=
  let h := ctxOf s n
  let th := h.y1.getD 3 0
  let ang := wrapPi (F.add th (wrapPi (F.sub th (h.y2.getD 3 0))))
  let a := Config.predictSample (args ++ [ang]) 0
  let b := Config.predictSample (args ++ [ang]) 1
  [a, b, F.neg (F.add a b), ang, h.y1.getD 4 0, if ctxLaw s n = 6 then Config.predictSample (args ++ [ang]) 5 else 0]

/-- What a precompute stores for the predicted sample (R145, R146). -/
def speculate (s : State) (n : Nat) (sets : Word × Word) : SpecBuf :=
  let h := ctxOf s n
  let t := ctxTb s n
  let target : Int := h.lastTarget + trigInterval s t
  let hz := horizon s n target (target - tbLead s t).toNat
  let y := predicted s n (currentArgs s n hz h.y1 sets.1 sets.2)
  let args := currentArgs s n hz y sets.1 sets.2
  let b : SpecBuf :=
    { yhat := y, outQ := 0, outD := 0, sens := [], setQ := sets.1, setD := sets.2, trig := h.lastTrig + 1, target := target }
  if ctxLaw s n = 4 then
    let free := currentArgs s n hz (angleOnly y) sets.1 sets.2
    { b with
      outQ := deadbeatVoltage free y 1
      outD := deadbeatVoltage free y 0
      sens := (List.range 2).flatMap (fun row => (List.range 5).map (fun k =>
        if k = 3 then Config.angleSens args row else Config.deadbeatGain free row k)) }
  else
    let l := costs s n args sets.1 sets.2 (y.getD 4 0)
    match leastCost l with
    | some w =>
      let m := match leastCost (l.filter (fun e => decide (e.1 ≠ w.1))) with | some r => F.sub r.2 w.2 | none => 0
      let norm := args ++ [s.rd (Ctx.SPEC_BAND n), s.rd (Ctx.RATED n)]
      { b with
        outQ := word w.1, outD := w.2
        sens := [m, Config.costBound norm 0, Config.costBound norm 1] ++ (List.range 6).map (Config.costSens args w.1) }
    | none => b

/-- The precompute of context `n` is complete: its result is stored and the buffer is valid. -/
def storeSpec (n : Nat) (s : State) : State :=
  let h := ctxOf s n
  match h.pre with
  | some p =>
    let sets := p.sets.getD (setSource s n 6, setSource s n 7)
    putCtx n { h with pre := none, spec := some (speculate s n sets) } s
  | none => s

/-! ### The band check (R148, R149) -/

/-- |a - b| of an angle, wrapped to [0, π]. -/
def angleDev (a b : Word) : Word := F.abs (wrapPi (F.sub a b))

/-- A deviation over its band; no deviation is no ratio, whatever the band. -/
def ratioOf (dev band : Word) : Word := if F.eq dev 0 then 0 else F.div dev band

/-- The normalised deviation d of R149. -/
def deviation (s : State) (n : Nat) (b : SpecBuf) (y : List Word) : Word :=
  let band := s.rd (Ctx.SPEC_BAND n)
  let at_ (k : Nat) : Word := y.getD k 0
  let hat (k : Nat) : Word := b.yhat.getD k 0
  let i (k : Nat) : Word := ratioOf (F.abs (F.sub (at_ k) (hat k))) (F.mul band (s.rd (Ctx.RATED n)))
  let th := ratioOf (angleDev (at_ 3) (hat 3)) (F.mul band F.half)
  let v := ratioOf (F.abs (F.sub (at_ 4) (hat 4))) (F.mul band (hat 4))
  let np := if ctxLaw s n = 6 then ratioOf (F.abs (F.sub (at_ 5) (hat 5))) (F.div (F.mul band (hat 4)) F.two) else 0
  F.max (F.max (F.max (i 0) (i 1)) (F.max (i 2) th)) (F.max v np)

/-- The enabled Crosswind pairs of context `n`'s measured sources: a side, or the paired value itself (R148). -/
def ctxPairs (s : State) (n : Nat) : List Nat :=
  (List.range 28).filter (fun k => pairEn s k && (ctxSources s n).any (fun x =>
    decide (x = 0x40 + k) || decide (x = s.rdF (Xw.CW_PAIR k) 4 0) || decide (x = 32 + s.rdF (Xw.CW_PAIR k) 12 8)))

/-- Has pair `k` a sigma-delta side, so that its verdict may come late (R96)? -/
def pairSlow (s : State) (k : Nat) : Bool := decide (16 ≤ s.rdF (Xw.CW_PAIR k) 4 0 ∨ 16 ≤ s.rdF (Xw.CW_PAIR k) 12 8)

/-- CROSSWIND (3), CW_PENDING (4) or none (0) for the sample set `seq`. -/
def crosswindCause (s : State) (n seq : Nat) : Nat :=
  let ps := ctxPairs s n
  let mine (k : Nat) : Bool := decide ((pairOf s k).cmpSeq = some seq)
  if ps.any (fun k => mine k && (pairOf s k).disagreed) then 3
  else if ps.any (fun k => !mine k && pairSlow s k) then 4
  else 0

/-- Does the margin test hold (R148)? L and Q are free; as they bound the change of every cost difference, it holds only where the full
computation, which gives `out'`, chooses the stored index (R152). -/
def marginOk (b : SpecBuf) (d out' : Word) : Bool :=
  F.lt (F.add (F.mul (b.sens.getD 1 0) d) (F.mul (F.mul (b.sens.getD 2 0) d) d)) (b.sens.getD 0 0)
    && decide (F.ofNat b.outQ.toNat = out')

/-- The outcome of the band check of run `r` (R148): the cause, 0 for a hit, and d where the band test was reached; `out'` is what the
full computation on the sample would report. -/
def bandCheck (s : State) (n : Nat) (r : Run) (missing : Bool) (y : List Word) (seq : Nat) (out' : Word) : Nat × Option Word :=
  match r.cause, (ctxOf s n).spec with
  | 0, some b =>
    if b.bad then (0x10, none)
    else if missing then (0xB, none)
    else if r.handed || decide (r.trig ≠ b.trig) || decide (r.smpAt ≠ some r.relAt) then (9, none)
    else if crosswindCause s n seq ≠ 0 then (crosswindCause s n seq, none)
    else if setSource s n 6 ≠ b.setQ ∨ setSource s n 7 ≠ b.setD then (8, none)
    else if r.target ≠ b.target then (0xD, none)
    else
      let d := deviation s n b y
      if !F.le d F.one then (1, some d)
      else if ctxLaw s n ≠ 4 && !marginOk b d out' then (2, some d)
      else (0, some d)
  | 0, none => (if missing then 0xB else 0xA, none)
  | c, _ => (c, none)

/-- What a hit commits: the corrected voltage under the magnitude limit, or the stored index with its cost corrected to first order
(R151, R152). -/
def hitRes (s : State) (n : Nat) (b : SpecBuf) (x : LawIn) (full : RunRes) (args : List Word) : RunRes :=
  let dev (k : Nat) : Word :=
    if k = 3 then wrapPi (F.sub (x.src 3) (b.yhat.getD 3 0)) else F.sub (x.src k) (b.yhat.getD k 0)
  let corr (first m : Nat) (v : Word) : Word :=
    (List.range m).foldl (fun a k => F.add a (F.mul (b.sens.getD (first + k) 0) (dev k))) v
  if ctxLaw s n = 4 then deadbeatRes s n args (corr 0 5 b.outD) (corr 5 5 b.outQ) (x.src 4) full
  else fcsRes s n b.outQ.toNat (corr 3 (if ctxLaw s n = 6 then 6 else 5) b.outD) full

end Sys2Proof.Machine
end

