-- ==== Sys2Proof/Machine/Headwind.lean ====
section
/-! DEFINITION. Headwind groups (R132-R136): the evaluation of a release, tracking, and the writes of the page. -/

namespace Sys2Proof.Machine

/-! ### The mirror load (R362) -/

/-- The intervals of the records a device sends: contexts that are not IDLE, active groups, machines that are not OFF, profile
channels that are not OFF. -/
def mirrorPeriods (s : State) : List Nat :=
  (busyCtxs s).map (ctxPeriod s)
    ++ (busyCtxs s).filterMap (fun n => match ctxMember s n with
      | some g => if hwActive s g && decide (s.rdF (Ctx.GROUP n) 10 8 = 0) then some (ctxPeriod s n) else none
      | none => none)
    ++ ((List.range 4).filter (fun m => decide (machState s m ≠ 0))).map (fun m => trigInterval s (machTb s m))
    ++ ((List.range 4).filter (fun c => decide (profState s c ≠ 0))).map (fun c => max 1 (s.rdF (Prof.PCFG c) 15 8) * 8000)

/-- The sum of 800 / P over a list, as a fraction. -/
def loadSum (l : List Nat) : Nat × Nat :=
  l.foldl (fun (a : Nat × Nat) p => if p = 0 then a else (a.1 * p + 800 * a.2, a.2 * p)) (0, 1)

/-- Would further records raise the load of a WARD active above 8.0? -/
def mirrorFull (s : State) (more : List Nat) : Bool :=
  decide (twinState s = 2) && (let f := loadSum (mirrorPeriods s ++ more); decide (8 * f.2 < f.1))

/-- MIRROR_LOAD: the load in 1/256 record per microsecond, rounded up, and LIMIT. -/
def mirrorLoad (s : State) : Word :=
  let f := loadSum (mirrorPeriods s)
  word ((256 * f.1 + f.2 - 1) / f.2 % 65536 + at' 2048 16)

/-! ### Evaluation -/

/-- The competitors of group `g`, slot by slot. -/
def hwSlots (s : State) (g : Nat) : List (Nat × HwSlot) :=
  (List.range 8).filterMap (fun i => (hwCompetitor s g i).map (fun c => (i, c)))

/-- What a competitor shows in the comparison, for the sign of slot 0 (R133). -/
def hwValue (bipolar : Bool) (sign : Word) (c : HwSlot) : Word :=
  if !bipolar || c.mag then c.val else F.mul sign c.val

/-- The least of the competing values, with the lowest slot that holds it. -/
def hwLeast (l : List (Nat × Word)) : Nat × Word :=
  match leastCost l with
  | some w => w
  | none => (0, 0)

/-- Output, winner and ZERO_CLAMP of the competitors of a group (R133). -/
def hwDecide (bipolar : Bool) (l : List (Nat × HwSlot)) : Word × Nat × Bool :=
  let u0 := match l.find? (fun e => decide (e.1 = 0)) with | some e => e.2.val | none => 0
  let sign := F.sgn u0
  let w := hwLeast (l.map (fun e => (e.1, hwValue bipolar sign e.2)))
  if !bipolar then (w.2, w.1, false)
  else if F.eq u0 0 then (0, 0, false)
  else (F.mul sign (F.max 0 w.2), w.1, F.isNeg w.2)

/-- The tracking value of a context member for the group output (R134). -/
def hwTrack (s : State) (g n : Nat) (y : Word) : Word :=
  limClamp s n (if s.rdB (Hw.HW_CFG g) 1 && s.rdB (Ctx.GROUP n) 12 then F.abs y else y)

/-- Every context member that ran in this release takes Kt·T·(w - u_raw) into its integral (R115, R134). -/
def hwCorrect (g tick : Nat) (y : Word) (s : State) : State :=
  (hwMembers s g).foldl (fun t n =>
    let h := ctxOf t n
    if ctxLive t n ∧ h.ranTick = some tick then
      let kt := coef t n (if ctxLaw t n = 2 then 4 else 2)
      t.wrL (Ctx.ISTATE0 n 0) (F.add (istate t n 0) (F.mul (F.mul kt (periodT t n)) (F.sub (hwTrack t g n y) h.uraw)))
    else t) s

/-- The evaluation of group `g` for the release at `tick` (R133, R135). -/
def hwEvaluate (g tick : Nat) (s0 : State) : State :=
  let s := takeHeld 4 g (applyGrp g) s0
  let l := hwSlots s g
  let s1 := putHw g { hwOf s g with evalTick := some tick } s
  let s2 := if l.any (fun e => !e.2.ok) then hwSafe g s1 else s1
  let safe := s2.rdB (Hw.HW_STAT g) 1
  let r := hwDecide (s2.rdB (Hw.HW_CFG g) 1) l
  let y := if safe then s2.rd (Hw.HW_SAFE g) else r.1
  let s3 := if safe then s2.wrB (Hw.HW_STAT g) 5 false
    else (s2.wrF (Hw.HW_STAT g) 4 2 r.2.1).wrB (Hw.HW_STAT g) 5 r.2.2
  mirrorGrp g (hwCorrect g tick y (hwOutput g y (hwShow g s3)))

/-- A run of member `n` has ended: the group is evaluated once the last of its competing context members has run (R133). -/
def hwTry (n : Nat) (s : State) : State :=
  match ctxMember s n, (ctxOf s n).relTick with
  | some g, some tick =>
    let live := (hwMembers s g).filter (ctxLive s)
    if hwLive s g && decide ((hwOf s g).evalTick ≠ some tick)
        && live.all (fun m => (ctxOf s m).run.isNone && decide ((ctxOf s m).relTick = some tick)) then hwEvaluate g tick s
    else s
  | _, _ => s

/-- At the first release after an accepted RESUME the safe state ends (R135). -/
def hwRelease (n : Nat) (s : State) : State :=
  match ctxMember s n with
  | some g =>
    if (hwOf s g).resume then hwShow g (putHw g { hwOf s g with resume := false } (s.wrB (Hw.HW_STAT g) 1 false)) else s
  | none => s

/-! ### Writes (R132, R135, R136) -/

/-- May HW_DEST hold `d`: none, or an input of field control or of a profile channel (R120, R164, R192)? -/
def inputDest (d : Nat) : Bool :=
  decide (d = 0) || (decide (0x480 ≤ d ∧ d < 0x4C0) && decide (d % 16 ≤ 1)) || (decide (0x580 ≤ d ∧ d < 0x5C0) && decide (d % 16 = 0))

/-- A write of HW_EXT_A or HW_EXT_B (address `a`, the other at `b`) of group `g`. -/
def hwExtWrite (g a b : Nat) (v : Word) (s : State) : Reply :=
  let slot := fld v 14 12
  let code := if bit v 15 then srcSelect s (fld v 11 0) else .none
  if bit v 15 && (decide (slot = 0) || (hwSlotCtx s g slot).isSome || (s.rdB b 15 && decide (s.rdF b 14 12 = slot))) then
    deny s .outOfRange
  else if code ≠ .none then deny s code
  else accept (hwShow g (s.wr a (v &&& 0x1FFFF)))

/-- Does some member, context or external, keep group `g` in its safe state (R135)? -/
def hwPersist (s : State) (g : Nat) : Bool :=
  (hwMembers s g).any (fun n => decide (ctxState s n = 5) || decide (s.rdF (Ctx.STATE n) 11 8 ≠ 0))
    || (hwSlots s g).any (fun e => !e.2.ok)

/-- A write of HW_CMD.RESUME. -/
def hwCmdWrite (g : Nat) (v : Word) (s : State) : Reply :=
  if !bit v 0 then accept s
  else if hwPersist s g then deny s .tripPersist
  else if s.rdB (Hw.HW_STAT g) 1 then accept (putHw g { hwOf s g with resume := true } s)
  else accept s

/-- Writes of the Headwind page. -/
def hwWrite (a : Nat) (v : Word) (s : State) : Reply :=
  let o := a % 4096
  if 0x40 ≤ o ∧ o < 0x840 then
    let g := (o - 0x40) / 32
    let k := (o - 0x40) % 32
    if k = 0x1C then hwCmdWrite g v s
    else if k = 0x14 ∨ k = 0x18 then accept s
    else if hwActive s g then deny s .notInState
    else
      match k with
      | 0x00 => accept (hwFollow g (s.wr a (v &&& 3)))
      | 0x04 => if inputDest (fld v 11 0) then accept (s.wr a (v &&& 0xFFF)) else deny s .outOfRange
      | 0x08 => if F.isFin v then accept (s.wr a v) else deny s .outOfRange
      | 0x0C => hwExtWrite g a (Hw.HW_EXT_B g) v s
      | 0x10 => hwExtWrite g a (Hw.HW_EXT_A g) v s
      | _ => accept s
  else plainWrite a v s

/-- HW_RESUME (R135). -/
def execHwResume (port : Port) (g : Nat) (s : State) : Out := replied (gated port (Hw.HW_CMD g) 1 (hwCmdWrite g 1) s)

end Sys2Proof.Machine
end

