-- ==== Sys2Proof/Machine/Cle.lean ====
section
/-! DEFINITION. The control law engine at work (R109-R159): releases, dispatch, commits, overruns, precompute segments,
epochs, and the writes of the control page and of the context records. -/

namespace Sys2Proof.Machine

/-! ### What a run reads (R110, R129) -/

/-- The selectors of context `n` that name a measured value. -/
def measSelectors (s : State) (n : Nat) : List Nat :=
  (List.range 8).filter (fun k => match ctxSrc s n k with | some x => decide (x < 0x100) | none => false)

/-- Does source number `x` deliver no samples: a channel or a pair that is not enabled (R94)? -/
def srcSilent (s : State) (x : Nat) : Bool :=
  if x < 0x40 then !chanEn s (x / 32) (x % 32) else decide (x < 0x100) && !pairEn s (x - 0x40)

/-- A FAST run takes the values of its sample set as they are delivered; it is ready once all have come from the sources that deliver
samples. -/
def captureRun (n : Nat) (s : State) : State :=
  match (ctxOf s n).run with
  | some r =>
    match r.smpAt with
    | some t =>
      if r.started || r.readyAt.isSome then s
      else
        let sel := measSelectors s n
        let new := sel.filterMap (fun k =>
          if r.got.any (fun e => decide (e.1 = k)) then none
          else match ctxSrc s n k with
            | some x => let v := srcNow s x; if v.count ≠ 0 ∧ v.at_ = t then some (k, v) else none
            | none => none)
        let got := r.got ++ new
        let silent (k : Nat) : Bool := match ctxSrc s n k with | some x => srcSilent s x | none => true
        let all := sel.all (fun k => silent k || got.any (fun e => decide (e.1 = k)))
        putCtx n { ctxOf s n with run := some { r with got := got, readyAt := if all then some s.now else none } } s
    | none => s
  | none => s

/-- Every outstanding FAST run looks at the values just delivered. -/
def captureAll (s : State) : State := s.cle.ctxs.foldl (fun t e => captureRun e.1 t) s

/-- The value of selector `k` for run `r`, and whether it is fresh. -/
def readSel (s : State) (n : Nat) (r : Run) (k : Nat) : Option (SrcVal × Bool) :=
  match ctxSrc s n k with
  | none => none
  | some x =>
    let h := ctxOf s n
    match r.got.find? (fun e => decide (e.1 = k)) with
    | some e => some (e.2, decide (h.lastSmp ≠ some e.2.at_))
    | none =>
      let v := srcNow s x
      let old := match h.seen.find? (fun e => decide (e.1 = k)) with | some e => e.2 | none => 0
      some (v, decide (0x100 ≤ x) || (r.smpAt.isNone && decide (v.count ≠ old)))

/-- Does run `r` miss: is a required source invalid or not fresh? A ramp needs SRC0 on its first run only. -/
def runMissing (s : State) (n : Nat) (r : Run) : Bool :=
  let req := if ctxLaw s n = 0xA ∧ (ctxOf s n).first then [0] else lawRequired (ctxLaw s n)
  req.any (fun k => match readSel s n r k with | some v => !(v.1.valid && v.2) | none => true)

/-- What run `r` computes on. -/
def runInputs (s : State) (n : Nat) (r : Run) : LawIn :=
  let val (k : Nat) : Option SrcVal := (readSel s n r k).map (·.1)
  { y := (List.range 6).map (fun k => match val k with | some v => v.value | none => 0)
    opt := (List.range 6).map (fun k => match val k with | some v => if v.valid then some v.value else none | none => none)
    tq := setSource s n 6
    td := setSource s n 7 }

/-- Note the enabled set-point sources: a valid value becomes the last valid one; a loss in CLOSING or CLOSED writes one
WARN event (R127). -/
def noteSets (n : Nat) (s : State) : State :=
  [6, 7].foldl (fun t k =>
    match ctxSrc t n k with
    | none => t
    | some x =>
      let h := ctxOf t n
      let v := srcNow t x
      let others := h.spLast.filter (fun e => decide (e.1 ≠ k))
      if v.valid then
        putCtx n { h with spLast := others ++ [(k, v.value)], spLost := h.spLost.filter (fun j => decide (j ≠ k)) } t
      else if (ctxState t n = 2 ∨ ctxState t n = 3) ∧ !h.spLost.contains k then
        ctxEvent .warn 0xFF n (putCtx n { h with spLost := h.spLost ++ [k] } t)
      else t) s

/-- A run of context `n` reads its measured sources: later ones are fresh against these, and its values, each valid one, become those of
the latest sample set (R144). -/
def noteSeen (n : Nat) (r : Run) (s : State) : State :=
  let h := ctxOf s n
  let y := (List.range 6).map (fun k => match readSel s n r k with | some v => if v.1.valid then v.1.value else h.y1.getD k 0 | none => 0)
  let seen := (measSelectors s n).filterMap (fun k => (readSel s n r k).map (fun v => (k, v.1.count)))
  let smp := match r.got.head? with | some e => some e.2.at_ | none => h.lastSmp
  putCtx n { h with seen := seen, lastSmp := smp, y1 := y, y2 := h.y1 } s

/-! ### Lanes (R109, R111, R113) -/

/-- Is lane `k` free to take work? One under test or retired is out of dispatch (R113, R425). -/
def laneFree (s : State) (k : Nat) : Bool :=
  decide (k < 4) && decide (s.cle.bistLane ≠ some k) && !s.rdB Bist.RETIRED k &&
    (match s.cle.lanes.find? (fun e => decide (e.1 = k)) with
      | none => true
      | some e => decide (e.2.till ≤ s.now) && (match e.2.gen with | none => true | some g => decide ((ctxOf s e.2.ctx).preGen ≠ g)))

/-- Lane `k` works until `till`. -/
def putLane (k : Nat) (l : Lane) (s : State) : State :=
  let rest := s.cle.lanes.filter (fun e => decide (e.1 ≠ k))
  let b := KMap.get (fun _ => 0) s.cle.busy k + (l.till - s.now)
  { s with cle := { s.cle with lanes := rest ++ [(k, l)], busy := KMap.set (fun _ => 0) s.cle.busy k b } }

/-! ### The end of a run -/

/-- The run of context `n` is over: its target and trigger stay for the prediction of the next (R143). -/
def endRun (n : Nat) (r : Run) (s : State) : State :=
  let h := ctxOf s n
  let tgt := if r.fast then r.target else h.lastTarget
  putCtx n { h with run := none, lastTarget := tgt, lastTrig := if r.fast then r.trig else h.lastTrig } s

/-- Release the precompute of the next run (R143, R155). -/
def nextPre (n : Nat) (held : Bool) (s : State) : State := if preAllowed s n held then startPre n s else s

/-- COMMIT_DEADLINE_OVERRUN (R128, R155): a run that has not committed by its deadline is abandoned. One that was never dispatched also
misses where a required source is invalid or has delivered nothing (R129). -/
def overrun (n : Nat) (s : State) : State :=
  match (ctxOf s n).run with
  | none => s
  | some r =>
    let missing := !r.started && runMissing s n r
    let x := runInputs s n r
    let c := if r.started then r.cause
      else (bandCheck s n r missing x.y 0 (lawRun s n x (ctxOf s n).first false r.target r.relAt).out').1
    let hit := if r.started then r.hit else decide (c = 0)
    let s1 := freeLane n (s.incL CleTel.OVERRUNS)
    let s2 := endRun n r (countEnd n { r with hit := hit, cause := c } (if r.started then s1 else noteSeen n r s1))
    let st := ctxState s2 n
    let s3 := if st = 2 ∨ st = 3 then ctxEvent .warn 0 n (ctxGo n 4 s2) else if st = 4 then ctxFault n 8 s2 else s2
    let s4 := if missing then ctxMiss n s3 else s3
    focRunEnd n (hwTry n (nextPre n true (showLimited n false 0 s4)))

/-- COMMIT_DEADLINE_OVERRUN as it falls due. -/
def deadlineOverrun (n : Nat) (s : State) : State :=
  match (ctxOf s n).run with
  | some r => if r.started ∧ (r.doneAt : Int) ≤ r.deadline then s else overrun n (s.reach r.deadline.toNat)
  | none => s

/-! ### Releases (R110) -/

/-- The lowest squash cause that holds at the trigger of a speculating context (R142, R153). -/
def triggerCause (s : State) (n : Nat) : Nat :=
  if !s.prot.lats.isEmpty then 5
  else if ctxState s n ≠ 3 then 0xC
  else if specOff s then 0xE
  else if (ctxOf s n).takeover then 0xF
  else if (ctxOf s n).spec.isNone then 0xA
  else 0

/-- The trigger of timebase `t` releases FAST context `n`: its run, with an unfinished precompute abandoned. -/
def releaseFast (t : Nat) (smp : Option Nat) (handed : Bool) (n : Nat) (s0 : State) : State :=
  let s := if (ctxOf s0 n).run.isSome then overrun n s0 else s0
  if ctxState s n = 0 ∨ ctxState s n = 5 then s
  else
    let h := ctxOf s n
    let counted := specCtx s n
    let target := updAfter s t (max s.now (tbOf s t).lastUpd)
    let r : Run :=
      { relAt := s.now, fast := true, target := target, deadline := target - 16, trig := (tbOf s t).fired, smpAt := smp,
        handed := handed, readyAt := if smp.isNone then some s.now else none, counted := counted,
        cause := if counted then triggerCause s n else 0, causeAt := s.now }
    let s1 := if h.pre.isSome then s.incL CleTel.SPEC_PRE_ABANDON else s
    let keep := if r.cause = 0 then h.spec else none
    captureRun n (putCtx n { h with run := some r, trigAt := s.now, pre := none, spec := keep, takeover := false } s1)

/-- FAST_RELEASE (R110): the contexts of timebase `t`; `smp` is the sample instant of the set they consume. -/
def fastRelease (t : Nat) (smp : Option Nat) (handed : Bool) (s : State) : State :=
  (tbFast s t).foldl (fun u n => releaseFast t smp handed n u) s

/-- The engine tick of the next release of PERIODIC context `n`. -/
def nextRelease (s : State) (n : Nat) : Nat :=
  let h := ctxOf s n
  let p := ctxPeriod s n
  let lo := match h.relTick with | some t => t + 1 | none => h.enTick
  let ph := s.rdF (Ctx.PHASE n) 20 0
  if p = 0 then lo else if lo ≤ ph % p then ph % p else ph % p + (lo - ph % p + p - 1) / p * p

/-- PERIODIC_RELEASE (R110). -/
def periodicRelease (n : Nat) (s : State) : State :=
  let st := ctxState s n
  if !s.inService || ctxFast s n || decide (st = 0 ∨ st = 5) || decide (ctxPeriod s n = 0) then s
  else
    let t := nextRelease s n
    let s1 := s.reach (s.ofTick t)
    let s2 := hwRelease n (if (ctxOf s1 n).run.isSome then overrun n s1 else s1)
    if ctxState s2 n = 0 ∨ ctxState s2 n = 5 then s2
    else
      let r : Run := { relAt := s2.now, fast := false, deadline := s2.bu.tick0 + ((t + ctxPeriod s2 n : Nat) : Int) }
      putCtx n { ctxOf s2 n with run := some r, relTick := some t } s2

/-! ### Dispatch (R111, R123, R148, R150) -/

/-- Ready work of one class: (deadline, context). -/
def fastReady (s : State) : List (Int × Nat) :=
  s.cle.ctxs.filterMap (fun e => match e.2.run with
    | some r => if r.fast && !r.started && (match r.readyAt with | some t => decide (t ≤ s.now) | none => false) then some (r.deadline, e.1) else none
    | none => none)

/-- Ready PERIODIC runs and waiting precompute segments. -/
def periodicReady (s : State) : List (Int × Nat) :=
  s.cle.ctxs.filterMap (fun e => match e.2.run, e.2.pre with
    | some r, _ => if !r.fast && !r.started then some (r.deadline, e.1) else none
    | none, some p =>
      if p.onLane then none
      else some (e.2.lastTarget + trigInterval s (ctxTb s e.1) - tbLead s (ctxTb s e.1), e.1)
    | none, none => none)

/-- Earliest deadline first, then lowest index. -/
def edf (l : List (Int × Nat)) : Option Nat :=
  (l.foldl (fun (a : Option (Int × Nat)) e =>
    match a with
    | some b => if e.1 < b.1 ∨ (e.1 = b.1 ∧ e.2 < b.2) then some e else a
    | none => some e) none).map (·.2)

/-- A run that misses ends at its dispatch: it does not compute (R129). -/
def dispatchMiss (n k : Nat) (r : Run) (c till : Nat) (s : State) : State :=
  let s1 := endRun n r (countEnd n { r with hit := false, cause := c } (noteSeen n r s))
  focRunEnd n (hwTry n (ctxMiss n (putLane k { ctx := n, till := till } (showLimited n false 0 s1))))

/-- The greatest of the window's normalised deviations (R156). -/
def noteDeviation (n : Nat) (d : Option Word) (s : State) : State :=
  match d with
  | some x => s.wrL (Ctx.SPEC_DEV_MAX n) (F.max (s.rdL (Ctx.SPEC_DEV_MAX n)) x)
  | none => s

/-- The run of context `n` starts on lane `k`: the record and the sources are read, the speculation is tested, and what the
commit will put in place is worked out (R112, R123, R148, R150). -/
def dispatchRun (n k : Nat) (r : Run) (s0 : State) : State :=
  let s := noteSets n (takeHeld 1 n (applyCtx n) s0)
  let h := ctxOf s n
  let st := ctxState s n
  let load := s.now + 8
  let band := if r.fast then load + 8 else load
  let missing := runMissing s n r
  let x := runInputs s n r
  let seq := match r.got.head? with | some e => e.2.seq | none => 0
  let mode := if st = 4 then h.before else st
  let at_ := match r.got.head? with | some e => e.2.at_ | none => r.relAt
  let full : RunRes := if st = 1 ∨ missing then {} else lawRun s n x h.first (decide (mode = 2)) r.target at_
  let bc := if r.counted then bandCheck s n r missing x.y seq full.out' else (0, none)
  let s1 := if r.fast then s.wrL CleTel.WAIT_MAX (word (max (s.rdL CleTel.WAIT_MAX).toNat (load - (r.readyAt.getD s.now)))) else s
  if missing then dispatchMiss n k r bc.1 band s1
  else
    let hit := r.counted && decide (bc.1 = 0) && h.spec.isSome
    let args := currentArgs s n (horizon s n r.target at_) x.y full.setpt full.setptD
    let res := if hit then (match h.spec with | some b => hitRes s n b x full args | none => full) else full
    let done := band + (if hit then 38 else lawCost (ctxLaw s n))
    let r1 : Run :=
      { r with started := true, lane := k, bandAt := band, doneAt := done + 8, st := st, law := ctxLaw s n,
               dest := s.rdF (Ctx.DEST n) 11 0, hit := hit, res := res, full := full,
               cause := bc.1 }
    let s2 := noteDeviation n bc.2 (noteSeen n r (s1.wrF (Ctx.STATE n) 23 16 0))
    putLane k { ctx := n, till := done } (putCtx n { ctxOf s2 n with run := some r1 } s2)

/-- The next segment of the precompute of context `n` starts on lane `k`; `seg` is its length, at most 80 cycles and such
that the rest fits (R114, R143). -/
def dispatchSegment (n k seg : Nat) (p : PreRun) (s : State) : State :=
  let h := ctxOf s n
  let least := max 1 (p.cycles - 80 * (p.segs - 1))
  let len := if p.segs ≤ 1 then p.cycles else max least (min seg (min 80 (p.cycles - (p.segs - 1))))
  let sets := match p.sets with | some v => v | none => (setSource s n 6, setSource s n 7)
  let p1 : PreRun := { segs := p.segs - 1, cycles := p.cycles - len, onLane := true, sets := some sets }
  putLane k { ctx := n, gen := some h.preGen, last := decide (p.segs ≤ 1), till := s.now + 8 + len } (putCtx n { h with pre := some p1 } s)

/-- CONTEXT_DISPATCH (R111): lane `k`, where it is free and the engine is not halted (R470), takes the next ready work. -/
def dispatch (k seg : Nat) (s : State) : State :=
  if !laneFree s k || s.rdB SecDbg.DBG_HSTAT 2 then s
  else
    match edf (fastReady s) with
    | some n => (match (ctxOf s n).run with | some r => dispatchRun n k r s | none => s)
    | none =>
      match edf (periodicReady s) with
      | some n =>
        (match (ctxOf s n).run, (ctxOf s n).pre with
          | some r, _ => dispatchRun n k r s
          | none, some p => dispatchSegment n k seg p s
          | none, none => s)
      | none => s

/-- The work of lane `k` ends: a precompute segment advances its precompute, the last one completes it. -/
def endLane (k : Nat) (s : State) : State :=
  match s.cle.lanes.find? (fun e => decide (e.1 = k)) with
  | none => s
  | some e =>
    let s1 := s.reach e.2.till
    let s2 : State := { s1 with cle := { s1.cle with lanes := s1.cle.lanes.filter (fun x => decide (x.1 ≠ k)) } }
    let n := e.2.ctx
    let h := ctxOf s2 n
    match e.2.gen, h.pre with
    | some g, some p =>
      if g ≠ h.preGen then s2
      else if e.2.last then storeSpec n s2
      else putCtx n { h with pre := some { p with onLane := false } } s2
    | _, _ => s2

/-- SEGMENT_END (R111): the segment of lane `k` ends and the lane takes its next work. -/
def segmentEnd (k seg : Nat) (s : State) : State :=
  if (s.cle.lanes.find? (fun e => decide (e.1 = k))).isNone then s else dispatch k seg (endLane k s)

/-- PRECOMPUTE_DONE (R145): the last segment of context `n`'s precompute ends. -/
def precomputeDone (n : Nat) (s : State) : State :=
  match s.cle.lanes.find? (fun e => decide (e.2.ctx = n ∧ e.2.gen = some (ctxOf s n).preGen) && e.2.last) with
  | some e => endLane e.1 s
  | none => s

/-! ### Commit (R123, R125, R130, R147, R154) -/

/-- The mean of samples, in binary32 from the first to the last (R109). -/
def meanOf (l : List Word) : Word := F.div (l.foldl F.add 0) (F.ofNat l.length)

/-- The population variance of samples: the mean of the squared distances from their mean, in binary32 (R109, R130). -/
def varianceOf (l : List Word) : Word :=
  let m := meanOf l
  meanOf (l.map (fun x => F.mul (F.sub x m) (F.sub x m)))

/-- A run of a CLOSED context that did not miss enters the freeze window; a frozen window opens the context (R130). -/
def freezeStep (n : Nat) (r : Run) (s : State) : State :=
  let w := s.rdF (Ctx.DETECT n) 31 16
  if w = 0 ∨ ctxState s n ≠ 3 ∨ r.st ≠ 3 then s
  else
    let h := ctxOf s n
    let f := h.frz
    let o := r.res.out'
    let g : FreezeWin :=
      { fbs := f.fbs ++ [r.res.fb], lo := if f.fbs.isEmpty then o else F.min f.lo o, hi := if f.fbs.isEmpty then o else F.max f.hi o }
    if g.fbs.length < w then putCtx n { h with frz := g } s
    else
      let s1 := putCtx n { h with frz := {} } s
      let frozen := F.lt (varianceOf g.fbs) (s.rd (Ctx.FREEZE_FLOOR n)) && F.lt (s.rd (Ctx.ACT_DELTA n)) (F.sub g.hi g.lo)
      if frozen then fbLost n 10 s1 else s1

/-- The commit transfer: output, states, source and destination in one step, to the destination of the record as dispatched (R112,
R123, R147, R154). -/
def commitRes (n : Nat) (r : Run) (s : State) : State :=
  let v := r.res
  let s1 := (((s.produce (Ctx.OUT n) v.out').wrL (Ctx.OUT_D n) v.outD).wrL (Ctx.SETPT n) v.setpt).wrL (Ctx.SETPT_D n) v.setptD
  let s2 := (List.range v.ist.length).foldl (fun t j => t.wrL (Ctx.ISTATE0 n j) (v.ist.getD j 0)) s1
  let s3 := setSrc (0x100 + n) v.out' true s2
  if r.fast then
    if 0xF00 ≤ r.dest ∧ r.dest ≤ 0xF05 then
      let g := r.dest - 0xF00
      let s4 := groupCommit g v.ga v.gb v.gc s3
      let s5 := { s4 with cle := { s4.cle with grpOut := KMap.set (fun _ => (0, 0)) s4.cle.grpOut g (v.out', v.outD) } }
      showLimited n (r.law = 4 && v.limited) r.target s5
    else s3
  else if r.dest = 0 then s3 else putInput r.dest v.out' s3

/-- RUN_COMMIT (R154): the run of context `n` commits at the end of its commit stage. In OPEN its output is discarded; a
state that a command has left meanwhile stays left (R124). -/
def runCommit (n : Nat) (s : State) : State :=
  match (ctxOf s n).run with
  | none => s
  | some r =>
    if !r.started || decide (r.deadline < r.doneAt) then s
    else
      let s1 := (freeLane n (s.reach r.doneAt)).incL CleTel.RUNS
      let s2 := if r.st = 1 then s1 else commitRes n r s1
      let s3 := endRun n r (countEnd n r s2)
      let h := ctxOf s3 n
      let s4 := putCtx n { h with first := if r.st = 1 then h.first else false, uraw := r.res.uraw, ranTick := h.relTick, runs := h.runs + 1,
                                  closedAt := if h.first ∧ r.st ≠ 1 then some r.relAt else h.closedAt } s3
      let base := if r.st = 4 then h.before else r.st
      let next := if base = 2 ∧ r.res.done then 3 else base
      let s5 := if ctxState s4 n = r.st ∧ next ≠ r.st ∧ r.st ≠ 1 then
          (let s6 := ctxGo n next s4
           if r.st = 4 ∧ base = 2 ∧ next = 3 then s6.pulse Cle.page 4 else s6)
        else s4
      let s7 := hwTry n (nextPre n false (freezeStep n r s5))
      focRunEnd n (mirrorCtx n (ctxOf s7 n).runs s7)

/-- TRIGGER_TIMEOUT_MISS (R129): no trigger within 1.5 x PERIOD of the last one counts one miss. -/
def triggerTimeout (n : Nat) (s : State) : State :=
  let st := ctxState s n
  if !ctxFast s n || decide (st = 0 ∨ st = 5) then s
  else
    let due := (ctxOf s n).trigAt + (3 * ctxPeriod s n + 1) / 2
    let s1 := s.reach due
    hwTry n (ctxMiss n (putCtx n { ctxOf s1 n with trigAt := due } s1))

/-! ### Admission and commands (R124, R137, R138) -/

/-- The interval between triggers of timebase `t`, running or to be started. -/
def tbInterval (s : State) (t : Nat) : Nat :=
  if tbRun s t then trigInterval s t else updInterval (carrierOf (tbMode s t) (s.rdF (Tb.TB_PRD t) 20 0)) (tbUpd s t)

/-- The coincidence rule: at most 3 FAST contexts a timebase, and triggers 400 ns apart. -/
def coincident (s : State) : Bool := (List.range 8).all (fun t => decide ((tbFast s t).length ≤ 3)) && coincidenceOk s

/-- The admission rules under the active profile: until its epoch a new one governs nothing (R26). -/
def admissionOk (s : State) : Bool := countOk s s.cle.profile && loadOk s s.cle.profile && coincident s

/-- May context `n` hold destination `d` (R120, R226)? -/
def destOk (s : State) (n law d : Nat) : Bool :=
  if lawFast law then
    decide (d = 0) || (decide (0xF00 ≤ d ∧ d ≤ 0xF05) &&
      (let g := d - 0xF00
       decide (grpTb s g = ctxTb s n) && (if law = 4 then decide (grpMode s g = 1)
        else decide (grpMode s g = 2) && (if law = 5 then decide (grpTopo s g = 0) else decide (grpTopo s g = 1 ∨ grpTopo s g = 2)))))
  else inputDest d

/-- ENABLE of context `n`. -/
def ctxEnable (n : Nat) (s : State) : Reply :=
  let p := ctxPeriod s n
  let law := ctxLaw s n
  let s1 := s.wrF (Ctx.STATE n) 2 0 1
  if ctxState s n ≠ 0 then deny s .notInState
  else if law = 0 ∨ p < 2000 ∨ 1600000 < p
      ∨ (lawFast law ∧ p ≠ tbInterval s (ctxTb s n)) ∨ !admissionOk s1 ∨ mirrorFull s [p] then deny s .outOfRange
  else
    let old := ctxOf s n
    let h : CtxHid := { run := old.run, enTick := s.engine, trigAt := s.now, preGen := old.preGen, takeover := old.takeover }
    accept (ctxGo n 1 (((putCtx n h s).wr (Ctx.COUNTS n) 0).wrF (Ctx.STATE n) 23 16 0))

/-- A command of `CLE.CMD` on context `n`. -/
def ctxCommand (op n : Nat) (s : State) : Reply :=
  if 512 ≤ n then deny s .outOfRange
  else
    match op with
    | 1 => ctxEnable n s
    | 2 => ctxClose n s
    | 3 => ctxOpen n s
    | 4 => ctxDisable n s
    | 5 => ctxClear n s
    | _ => deny s .outOfRange

/-- A write of `CLE.CMD`; CMD_LAST takes the command and its code (R138). -/
def cleCmdWrite (v : Word) (s : State) : Reply :=
  let r := ctxCommand (fld v 15 12) (fld v 9 0) s
  let last := word (fld v 9 0 + at' (fld v 15 12) 12 + at' r.2.num 16)
  match r.2 with
  | .none =>
    let t := match ctxMember r.1 (fld v 9 0) with | some _ => hwTry (fld v 9 0) r.1 | none => r.1
    (t.wr Cle.CMD_LAST last, .none)
  | c => (s.wr Cle.CMD_LAST last, c)

/-- A write of CTRL.PROFILE (R25, R26, R137): pending until the next epoch. -/
def profileWrite (v : Word) (s : State) : Reply :=
  let p := fld v 1 0
  if p = 3 then deny s .outOfRange
  else if !countOk s p then deny s .notInState
  else if !loadOk s p || !coincident s then deny s .outOfRange
  else accept ((s.wr Cle.CTRL (word p)).wrB (hSTATUS Cle.page) 0 (decide (p ≠ s.cle.profile)))

/-- A write of SPEC_CTRL (R157). -/
def specCtrlWrite (v : Word) (s : State) : Reply :=
  let s1 := s.wr Cle.SPEC_CTRL (v &&& 1)
  accept (if bit v 0 then squashAll 0xE s1 else s1)

/-! ### Record writes (R118-R121, R132, R165) -/

/-- Does a write to the structural area of context `n` meet a machine that holds it (R165)? -/
def machHolds (s : State) (n : Nat) : Bool :=
  (List.range 4).any (fun m => decide (2 ≤ machState s m ∧ machState s m ≤ 9)
    && (decide (s.rdF (Foc.CUR_CTX m) 8 0 = n) || (s.rdB (Foc.CFG m) 2 && decide (s.rdF (Foc.CUR_CTX m) 24 16 = n))))

/-- The rules of a context member (R132), with the record as it would stand. -/
def memberOk (s : State) (n : Nat) : Bool :=
  match ctxMember s n with
  | none => true
  | some g =>
    let slot := s.rdF (Ctx.GROUP n) 10 8
    let others := (hwMembers s g).filter (fun m => decide (m ≠ n))
    decide (ctxLaw s n = 1 ∨ ctxLaw s n = 2) && decide (s.rdF (Ctx.DEST n) 11 0 = 0)
      && others.all (fun m => decide (s.rdF (Ctx.GROUP m) 10 8 ≠ slot) && decide (ctxPeriod s m = ctxPeriod s n)
          && decide (s.rdF (Ctx.PHASE m) 20 0 = s.rdF (Ctx.PHASE n) 20 0))
      && (hwSlotExt s g slot).isNone

/-- The rule of one selector that holds source number `x`: a number that names no source is refused whether or not the selector is
enabled (R80, R117), a source that is not enabled only where it is (R94). -/
def selectOne (s : State) (en : Bool) (x : Nat) : RefCode :=
  match srcSelect s x with
  | .outOfRange => .outOfRange
  | c => if en then c else .none

/-- The rule of the two selectors of a word. -/
def selectCode (s : State) (v : Word) : RefCode :=
  let lo := selectOne s (bit v 15) (fld v 11 0)
  if lo ≠ .none then lo else selectOne s (bit v 31) (fld v 27 16)

/-- Is a value in the range of the coefficient area's register at offset `o` of context `n` (R119, R120, R116)? -/
def coefRange (s : State) (n o : Nat) (v : Word) : Bool :=
  F.isFin v &&
    (match o with
      | 0x30 => F.nonneg v
      | 0x34 => F.nonneg v && F.le v 0x3E800000
      | 0x38 => F.pos v
      | 0x3C => F.le (s.rd (Ctx.LIM_LO n)) v
      | 0x40 => F.le v (s.rd (Ctx.LIM_HI n))
      | 0x50 | 0x54 => decide (ctxLaw s n ≠ 0xA) || F.pos v
      | 0x64 => decide (ctxLaw s n ≠ 4) || (F.pos v && F.le v F.one)
      | _ => true)

/-- PHASE is less than PERIOD; ignored for FAST (R120). DEDUCED: PHASE may be 0 while PERIOD is not yet written. -/
def phaseOk (t : State) (n : Nat) : Bool :=
  let ph := t.rdF (Ctx.PHASE n) 20 0
  ctxFast t n || decide (ph = 0) || decide (ph < ctxPeriod t n)

/-- Range and source checks of a value for the structural register at offset `o` of context `n`; `t` is the state with the
record as it would stand (R120, R121). -/
def structCode (s t : State) (n o : Nat) (v : Word) : RefCode :=
  let law := ctxLaw t n
  let range (b : Bool) : RefCode := if b then .none else .outOfRange
  match o with
  | 0x00 => range (decide (law < 0xB) && (!bit v 5 || lawFast law) && (!lawFast law || decide (t.rdF (Ctx.DETECT n) 1 0 = 2))
      && destOk t n law (t.rdF (Ctx.DEST n) 11 0) && (!t.rdB (Ctx.SPSRC n) 31 || lawFast law) && phaseOk t n && memberOk t n)
  | 0x04 => range (decide (2000 ≤ fld v 20 0 ∧ fld v 20 0 ≤ 1600000) && phaseOk t n && memberOk t n)
  | 0x08 => range (phaseOk t n && memberOk t n)
  | 0x0C =>
    let live (u : State) : Bool := match ctxMember u n with | some g => hwActive s g | none => false
    if !memberOk t n then .outOfRange else if live s || live t then .notInState else .none
  | 0x10 | 0x14 | 0x18 => selectCode s v
  | 0x1C => if bit v 31 && !lawFast law then .outOfRange else selectCode s v
  | 0x20 => range (destOk t n law (fld v 11 0) && memberOk t n)
  | 0x24 => range (decide (fld v 1 0 ≠ 3) && (!lawFast law || decide (fld v 1 0 = 2)) && decide (1 ≤ fld v 15 8)
      && decide (fld v 31 16 = 0 ∨ 16 ≤ fld v 31 16))
  | _ => .none

/-- The record of context `n` with `v` at offset `o`; LAW_CFG.FAST follows the law. -/
def putRecord (n o : Nat) (v : Word) (s : State) : State :=
  let a := Ctx.LAW_CFG n + o
  match regRow a with
  | some r =>
    let w := v &&& word r.mask
    s.wr a (if o = 0 then setBit w 4 (lawFast (fld w 3 0)) else w)
  | none => s

/-- For a context in OPEN, the admission rules over the record as it would stand (R121). -/
def openAdmission (t : State) (n o : Nat) : Bool :=
  decide (ctxState t n ≠ 1) || !decide (o < 0x28) || admissionOk t

/-- A write to the record of context `n` at offset `o` (R121). -/
def recordWrite (n o : Nat) (v : Word) (s : State) : Reply :=
  let t := putRecord n o v s
  let done : State := squashCtx 6 n t
  if o = 0x90 ∨ o = 0x94 then accept done
  else if 0x30 ≤ o ∧ o < 0x90 then
    if ctxState s n ≠ 1 then deny s .coefLocked
    else if !coefRange s n o v then deny s .outOfRange
    else accept done
  else if o < 0x28 then
    let c := structCode s t n o v
    if 2 ≤ ctxState s n then deny s .notOpen
    else if c ≠ .none then deny s c
    else if !openAdmission t n o then deny s .outOfRange
    else if machHolds s n then deny s .notInState
    else
      let show' (u : State) (m : Option Nat) : State := match m with | some g => hwShow g u | none => u
      accept (show' (show' done (ctxMember s n)) (ctxMember t n))
  else accept (if lockOpen s Cle.page then squashCtx 6 n s else s)

/-! ### Writes and reads by address -/

/-- Writes of the engine's pages and of the context window. -/
def cleWrite (k : PageKind) (a : Nat) (v : Word) (s : State) : Reply :=
  match k with
  | .ctxWin => recordWrite ((a - 0x0A0000) / 256) (a % 256) v s
  | .headwind => hwWrite a v s
  | .cle =>
    if a = Cle.CTRL then profileWrite v s
    else if a = Cle.CMD then cleCmdWrite v s
    else if a = Cle.SPEC_CTRL then specCtrlWrite v s
    else plainWrite a v s
  | _ => plainWrite a v s

/-- What a read of an engine register gives where it is not the stored value (R138, R139). -/
def cleView (k : PageKind) (a : Nat) (s : State) : Word :=
  match k with
  | .cle =>
    if a = Cle.UTIL then word (admitted s % 65536 + at' 0x2C00 16)
    else if a = Cle.FAST_USE then
      (let sum : Nat := (List.range 8).foldl (fun b t => b + min (tbFast s t).length 3 * 4 ^ t) 0
       word sum)
    else if a = Cle.IN_USE then
      word ((busyCtxs s).length % 1024 + at' (((busyCtxs s).filter (ctxLive s)).length % 1024) 16)
    else s.rd a
  | .cleTel => if a = CleTel.TICK_LO then word s.engine else s.rd a
  | _ => s.rd a

/-- A read of TICK_LO latches the upper word into TICK_HI (R139). -/
def tickLoRead (s : State) : State := s.wr CleTel.TICK_HI (word (s.engine / 2 ^ 32))

/-! ### Epoch (R26, R110, R122) -/

/-- The engine tick of the next epoch after now. -/
def nextEpoch (s : State) : Nat := (s.bu.epoch + 1) * 800000

/-- Does a TANDEM master still wait for the follower's answer to a profile (R27)? -/
def profileAsked (s : State) : Bool :=
  decide (twinState s = 4) && (s.twin.queue ++ s.twin.asked).any (fun m => m.fwd && decide (m.addr = Cle.CTRL))

/-- The engine's part of an epoch: a pending profile takes hold, and every live record is checked. DEDUCED: a TANDEM master's waits until the
follower has taken it too (R27). -/
def cleEpoch (s : State) : State :=
  let p := if profileAsked s then s.cle.profile else profileNext s
  let s1 : State := if p = s.cle.profile then s else
    squashAll 7 { s with cle := { s.cle with profile := p } }
  let s2 := s1.wrB (hSTATUS Cle.page) 0 (decide (p ≠ profileNext s))
  (busyCtxs s2).foldl (fun t n =>
    if ctxLive t n && decide (recordCrc t n ≠ t.rd (Ctx.CFG_CRC n)) then declareFault (hwTry n (ctxFault n 11 t)) else t) s2

/-! ### Meanings -/

/-- PERIODIC_RELEASE (R110). -/
def execPeriodicRelease (n : Nat) (s : State) : Out := .next (periodicRelease n s)

/-- CONTEXT_DISPATCH (R111). -/
def execContextDispatch (lane seg : Nat) (s : State) : Out := .next (dispatch lane seg s)

/-- RUN_COMMIT (R154). -/
def execRunCommit (n : Nat) (s : State) : Out := .next (runCommit n s)

/-- SEGMENT_END (R111). -/
def execSegmentEnd (lane seg : Nat) (s : State) : Out := .next (segmentEnd lane seg s)

/-- PRECOMPUTE_DONE (R145). -/
def execPrecomputeDone (n : Nat) (s : State) : Out := .next (precomputeDone n s)

/-- COMMIT_DEADLINE_OVERRUN (R128). -/
def execCommitDeadlineOverrun (n : Nat) (s : State) : Out := .next (deadlineOverrun n s)

/-- TRIGGER_TIMEOUT_MISS (R129). -/
def execTriggerTimeoutMiss (n : Nat) (s : State) : Out := .next (triggerTimeout n s)

/-- The word of `CLE.CMD` for an operation on a context. -/
def cmdWord (op n : Nat) : Word := word (n % 1024 + at' op 12)

/-- CTX_ENABLE (R124). -/
def execCtxEnable (port : Port) (n : Nat) (s : State) : Out := replied (gated port Cle.CMD (cmdWord 1 n) (cleCmdWrite (cmdWord 1 n)) s)

/-- CTX_CLOSE (R124). -/
def execCtxClose (port : Port) (n : Nat) (s : State) : Out := replied (gated port Cle.CMD (cmdWord 2 n) (cleCmdWrite (cmdWord 2 n)) s)

/-- CTX_OPEN (R124). -/
def execCtxOpen (port : Port) (n : Nat) (s : State) : Out := replied (gated port Cle.CMD (cmdWord 3 n) (cleCmdWrite (cmdWord 3 n)) s)

/-- CTX_DISABLE (R124). -/
def execCtxDisable (port : Port) (n : Nat) (s : State) : Out := replied (gated port Cle.CMD (cmdWord 4 n) (cleCmdWrite (cmdWord 4 n)) s)

/-- CTX_CLEAR (R124). -/
def execCtxClear (port : Port) (n : Nat) (s : State) : Out := replied (gated port Cle.CMD (cmdWord 5 n) (cleCmdWrite (cmdWord 5 n)) s)

/-- CONTEXT_RECORD_WRITE (R121): offset `o` of the record of context `n`. -/
def execContextRecordWrite (port : Port) (n o : Nat) (v : Word) (s : State) : Out :=
  replied (gated port (Ctx.LAW_CFG (n % 512) + o % 256 / 4 * 4) v (recordWrite (n % 512) (o % 256 / 4 * 4) v) s)

/-- PROFILE_WRITE (R25, R26). -/
def execProfileWrite (port : Port) (v : Word) (s : State) : Out := replied (gated port Cle.CTRL v (profileWrite v) s)

/-- SPEC_CTRL_WRITE (R157). -/
def execSpecCtrlWrite (port : Port) (v : Word) (s : State) : Out :=
  replied (gated port Cle.SPEC_CTRL v (specCtrlWrite v) s)

/-- TICK_LO_READ (R139). -/
def execTickLoRead (s : State) : Out := .next (tickLoRead s)

end Sys2Proof.Machine
end

