-- ==== Sys2Proof/Machine/Observer.lean ====
section
/-! DEFINITION. The observer, the speed PLL and the set-points of field control (R163-R172), in binary32, each formula
from left to right. -/

namespace Sys2Proof.Machine

/-! ### What the observer reads (R165, R171) -/

/-- The value of a source where it is valid. -/
def valueOf (s : State) (x : Nat) : Option Word :=
  let v := srcNow s x
  if v.valid then some v.value else none

/-- The value that selector `k` of context `n` reads, where it is enabled and valid. -/
def selValue (s : State) (n k : Nat) : Option Word :=
  match ctxSrc s n k with
  | some x => valueOf s x
  | none => none

/-- The context of winding set 1. -/
def setOne (s : State) (m : Nat) : Nat := s.rdF (Foc.CUR_CTX m) 8 0

/-- Three phase quantities as a vector; their common mode falls away. -/
def alphaBeta (a b c : Word) : Word × Word :=
  (F.div (F.sub (F.sub (F.mul F.two a) b) c) (F.ofNat 3), F.div (F.sub b c) sqrt3)

/-- The vector of three values that may be absent. -/
def alphaBetaOf (a b c : Option Word) : Option (Word × Word) :=
  match a, b, c with
  | some x, some y, some z => some (alphaBeta x y z)
  | _, _, _ => none

/-- The phase currents of winding set 1. -/
def phaseCurrents (s : State) (m : Nat) : List (Option Word) := [0, 1, 2].map (selValue s (setOne s m))

/-- The current vector of winding set 1. -/
def currentVec (s : State) (m : Nat) : Option (Word × Word) :=
  let i := phaseCurrents s m
  alphaBetaOf (i.getD 0 none) (i.getD 1 none) (i.getD 2 none)

/-- The DC-link voltage of machine `m`. -/
def linkOf (s : State) (m : Nat) : Option Word := selValue s (setOne s m) 4

/-- Are the three phase-voltage channels enabled? -/
def vsrcOn (s : State) (m : Nat) : Bool := s.rdB (Foc.VSRC_AB m) 15 && s.rdB (Foc.VSRC_AB m) 31 && s.rdB (Foc.VSRC_C m) 15

/-- The measured phase voltages. -/
def phaseVolts (s : State) (m : Nat) : List (Option Word) :=
  if vsrcOn s m then [s.rdF (Foc.VSRC_AB m) 11 0, s.rdF (Foc.VSRC_AB m) 27 16, s.rdF (Foc.VSRC_C m) 11 0].map (valueOf s)
  else [none, none, none]

/-- The measured voltage vector. -/
def measuredVec (s : State) (m : Nat) : Option (Word × Word) :=
  let v := phaseVolts s m
  alphaBetaOf (v.getD 0 none) (v.getD 1 none) (v.getD 2 none)

/-- The phase voltages that a current context has committed: (v_d, v_q) of a deadbeat context at the angle its run read, or
the leg states of a predictive one (R171). -/
def committedVolts (s : State) (m : Nat) (vdc : Word) : List Word :=
  let n := setOne s m
  if ctxLaw s n = 4 then
    let p := toAbc (s.rdL (Ctx.OUT_D n)) (s.rdL (Ctx.OUT n)) (srcNow s (0x400 + 32 * m)).value
    [p.1, p.2.1, p.2.2]
  else
    let idx := presentIndex s n
    if ctxLaw s n = 5 then (List.range 3).map (fun x => F.mul (F.ofNat (indexState 0 idx x)) vdc)
    else (List.range 3).map (fun x => F.mul (F.ofNat (indexState 1 idx x)) (F.div vdc F.two))

/-- The reconstructed voltage vector: each phase corrected by its dead time (R171). -/
def rebuiltVec (s : State) (m : Nat) : Option (Word × Word) :=
  match linkOf s m with
  | none => none
  | some vdc =>
    let v := committedVolts s m vdc
    let dt := F.ratio (machDead8 s m) (8 * max 1 (ctxPeriod s (setOne s m)))
    let step := F.mul dt (if s.rdF (Foc.CFG m) 9 8 = 0 then vdc else F.div vdc F.two)
    let phase (k : Nat) : Option Word :=
      ((phaseCurrents s m).getD k none).map (fun i => F.sub (v.getD k 0) (F.mul step (F.sgn i)))
    alphaBetaOf (phase 0) (phase 1) (phase 2)

/-- Do the current contexts of machine `m` control the switches? -/
def ctxDriven (s : State) (m : Nat) : Bool :=
  decide (4 ≤ machState s m ∧ machState s m ≤ 7) || (decide (machState s m = 3) && isIm s m)

/-- The voltage vector of R171 in the present state; none where no voltage is available. With VMODE 1 it is rebuilt while the current
contexts control the switches, but for CATCH, and 0 under the short circuit of FAULT. -/
def voltageVec (s : State) (m : Nat) : Option (Word × Word) :=
  let st := machState s m
  if st = 8 then some (0, 0)
  else if !s.rdB (Foc.CFG m) 7 then measuredVec s m
  else if st = 9 ∧ stopAsc s m then some (0, 0)
  else if 4 ≤ st ∧ st ≤ 7 then rebuiltVec s m
  else measuredVec s m

/-- Is every observer source of machine `m` enabled and valid: SRC0-SRC2 and SRC4 of each current context, and the phase-voltage channels
that are enabled (R165)? -/
def sourcesOk (s : State) (m : Nat) : Bool :=
  (machCtxs s m).all (fun n => [0, 1, 2, 4].all (fun k => (selValue s n k).isSome))
    && [(s.rdB (Foc.VSRC_AB m) 15, s.rdF (Foc.VSRC_AB m) 11 0), (s.rdB (Foc.VSRC_AB m) 31, s.rdF (Foc.VSRC_AB m) 27 16),
        (s.rdB (Foc.VSRC_C m) 15, s.rdF (Foc.VSRC_C m) 11 0)].all (fun e => !e.1 || (valueOf s e.2).isSome)

/-! ### Observer and PLL (R170, R172) -/

/-- The interval between triggers of machine `m` in seconds. -/
def focT (s : State) (m : Nat) : Word := F.ratio (trigInterval s (machTb s m)) 800000000

/-- d and q of a vector at an angle. -/
def dqOf (v : Word × Word) (th : Word) : Word × Word :=
  let co := Config.cos32 th
  let si := Config.sin32 th
  (F.add (F.mul v.1 co) (F.mul v.2 si), F.sub (F.mul v.2 co) (F.mul v.1 si))

/-- A vector of d and q at an angle. -/
def vectorAt (d q th : Word) : Word × Word :=
  let co := Config.cos32 th
  let si := Config.sin32 th
  (F.sub (F.mul d co) (F.mul q si), F.add (F.mul d si) (F.mul q co))

/-- σ·Ls of an induction machine: Ls - Lm²/Lr. -/
def leakage (s : State) (m : Nat) : Word :=
  F.sub (s.rd (Foc.LD_LS m)) (F.div (F.mul (s.rd (Foc.LM m)) (s.rd (Foc.LM m))) (s.rd (Foc.LQ_LR m)))

/-- The current model ψ_c, and the rotor flux of an induction machine one period on (R170). DESIGN CHOICE: the rotor flux relaxes by one
step of Euler, and j·(ω̂_e + ω_sl)·ψr, which the rotor-flux frame carries, turns it by that speed over the period. -/
def currentModel (s : State) (m : Nat) (h : MachHid) (i : Word × Word) (t : Word) : (Word × Word) × (Word × Word) :=
  if isIm s m then
    let lr := s.rd (Foc.LQ_LR m)
    let lm := s.rd (Foc.LM m)
    let relax (psi x : Word) : Word := F.add psi (F.div (F.mul (F.mul t (F.sub (F.mul lm x) psi)) (s.rd (Foc.RR m))) lr)
    let r := vectorAt (relax h.psiRa i.1) (relax h.psiRb i.2) (F.mul (F.add h.omega h.slip) t)
    let k := F.div lm lr
    let l := leakage s m
    ((F.add (F.mul k r.1) (F.mul l i.1), F.add (F.mul k r.2) (F.mul l i.2)), r)
  else
    let dq := dqOf i h.theta
    let d := F.add (F.mul (s.rd (Foc.LD_LS m)) dq.1) (s.rd (Foc.PSI m))
    (vectorAt d (F.mul (s.rd (Foc.LQ_LR m)) dq.2) h.theta, (h.psiRa, h.psiRb))

/-- ψ̂ + T·(v - Rs·i) + T·ω_c·(ψ_c - ψ̂) on one axis. -/
def fluxStep (s : State) (m : Nat) (t psi v i c : Word) : Word :=
  F.add (F.add psi (F.mul t (F.sub v (F.mul (s.rd (Foc.RS m)) i))))
    (F.mul (F.mul t (s.rd (Foc.OBS_WC m))) (F.sub c psi))

/-- The angle moves by `d`, and POS_M by its part in the mechanical angle. -/
def moveAngle (s : State) (m : Nat) (d : Word) (h : MachHid) : MachHid :=
  { h with theta := wrapPi (F.add h.theta d), pos := F.add h.pos (F.div d (F.ofNat (s.rdF (Foc.CFG m) 20 16))) }

/-- The speed PLL takes a measured angle. -/
def pllStep (s : State) (m : Nat) (t meas : Word) (h : MachHid) : MachHid :=
  let e := Config.sin32 (F.sub meas h.theta)
  let wn := s.rd (Foc.PLL_BW m)
  let w := F.add h.omega (F.mul (F.mul (F.mul wn wn) t) e)
  moveAngle s m (F.mul t (F.add w (F.mul (F.mul F.two wn) e))) { h with omega := w }

/-- One update of the observer: the new hidden state, TORQUE_EST and FLUX_EST, and whether it coasts. -/
structure ObsOut where
  h : MachHid
  torque : Word := 0
  flux : Word := 0
  coast : Bool := false
  deriving DecidableEq, Repr

/-- 1.5·p of machine `m`. -/
def torqueGain (s : State) (m : Nat) : Word := F.mul 0x3FC00000 (F.ofNat (s.rdF (Foc.CFG m) 20 16))

/-- The speed at which the angle of machine `m` is driven: the search frequency (R183), or the slip while an induction
machine magnetises from rest (R180). -/
def drivenSpeed (s : State) (m : Nat) (h : MachHid) : Option Word :=
  if isIm s m && decide (machState s m = 3) then some (F.mul F.twoPi h.freq)
  else if isIm s m && decide (machState s m = 4 ∧ h.mode = 0) then some h.slip
  else none

/-- The observer and the PLL of machine `m` (R170-R172, R176). -/
def observe (s : State) (m : Nat) : ObsOut :=
  let h := machOf s m
  let t := focT s m
  let mag := magOf h.psiA h.psiB
  if machState s m = 2 then { h := { h with omega := 0 }, flux := mag }
  else
    match currentVec s m, (if sourcesOk s m then voltageVec s m else none) with
    | some i, some v =>
      let c := currentModel s m h i t
      let pa := fluxStep s m t h.psiA v.1 i.1 c.1.1
      let pb := fluxStep s m t h.psiB v.2 i.2 c.1.2
      let l := if isIm s m then leakage s m else s.rd (Foc.LQ_LR m)
      let meas := Config.atan2_32 (F.sub pb (F.mul l i.2)) (F.sub pa (F.mul l i.1))
      let h1 := { h with psiA := pa, psiB := pb, psiRa := c.2.1, psiRb := c.2.2 }
      let h2 := match drivenSpeed s m h with
        | some w => moveAngle s m (F.mul w t) { h1 with omega := w }
        | none => pllStep s m t meas h1
      let fast := F.le (F.mul F.two (s.rd (Foc.OBS_WC m))) (F.abs h2.omega)
      let r := if fast then F.div (magOf (F.sub c.1.1 pa) (F.sub c.1.2 pb)) (s.rd (Foc.PSI m)) else 0
      let tq := F.mul (torqueGain s m) (F.sub (F.mul c.1.1 i.2) (F.mul c.1.2 i.1))
      { h := { h2 with resid := r }, torque := tq, flux := magOf pa pb }
    | _, _ =>
      let w := (drivenSpeed s m h).getD h.omega
      { h := { moveAngle s m (F.mul w t) h with omega := w, resid := 0 }, flux := mag, coast := true }

/-! ### Torque to current (R166-R169) -/

/-- 1e-6 in binary32. -/
def micro : Word := 0x358637BD

/-- The torque reference that the host or input 0 gives. -/
def torqueWanted (s : State) (m : Nat) : Word :=
  if s.rdB (Foc.TQ_CFG m) 0 then (inputOf s (0x480 + 16 * m)).value else s.rd (Foc.TORQUE_REF m)

/-- Does the winding discharge hold T* of machine `m` at 0 (R285)? -/
def windingDischarge (s : State) (m : Nat) : Bool :=
  decide (s.rdF Prot.DIS_STAT 1 0 = 1 ∧ s.rdF Prot.DIS_STAT 3 2 = 3 ∧ s.rdF Prot.DIS_CFG 5 4 = m)

/-- T* of machine `m` at this update (R166, R186, R282, R285). -/
def torqueNext (s : State) (m : Nat) (h : MachHid) (t : Word) : Word :=
  let stop := some (F.mul (s.rd (Foc.STOP_RATE m)) t)
  let x :=
    if machState s m = 7 then moveTo h.tq 0 stop stop
    else if machState s m ≠ 6 then 0
    else if windingDischarge s m || (s.rdB (Foc.MSTATE m) 25 && s.rdB (Foc.TQ_CFG m) 0) then moveTo h.tq 0 stop stop
    else let d := rateStep (s.rd (Foc.TQ_RATE m)) t; moveTo h.tq (torqueWanted s m) d d
  if s.rdB (hSTATUS Prot.page) 5 && s.rdB Prot.ESC_CFG m && F.isNeg (F.mul x h.omega) then 0 else x

/-- Input 1 as it acts: -DIS_I in a winding discharge, held within [-I_MAX, 0] (R164, R285). -/
def fluxOffset (s : State) (m : Nat) : Word :=
  let x := if windingDischarge s m then F.neg (s.rd Prot.DIS_I) else (inputOf s (0x481 + 16 * m)).value
  F.clamp x (F.neg (s.rd (Foc.I_MAX m))) 0

/-- The current limit of R167 step 4: id kept, |iq| reduced. -/
def limitCurrent (imax d q : Word) : Word × Word :=
  if F.lt imax (magOf d q) then
    (if F.lt imax (F.abs d) then (F.neg imax, 0)
     else
       let r := F.sqrt (F.sub (F.mul imax imax) (F.mul d d))
       (d, if F.isNeg q then F.neg r else r))
  else (d, q)

/-- id and iq of a PMSM whose parameters stand on page `p`, before input 1 (R167). -/
def mtpa (s : State) (p : Nat) (k tq : Word) : Word × Word :=
  let psi := s.rd (Foc.PSI p)
  let ld := s.rd (Foc.LD_LS p)
  let lq := s.rd (Foc.LQ_LR p)
  let q0 := F.div tq (F.mul k psi)
  if F.lt (F.sub lq ld) micro then (0, q0)
  else
    let a := F.div psi (F.mul F.two (F.sub lq ld))
    let d (q : Word) : Word := F.sub a (F.sqrt (F.add (F.mul a a) (F.mul q q)))
    let step (q : Word) : Word := F.div tq (F.mul k (F.add psi (F.mul (F.sub ld lq) (d q))))
    let q4 := step (step (step (step q0)))
    (d q4, q4)

/-- The observed rotor flux of an induction machine, not below 0.1·ψr* (R168). -/
def rotorFlux (s : State) (m : Nat) (h : MachHid) : Word :=
  let floor' := F.mul 0x3DCCCCCD (s.rd (Foc.PSI m))
  let i := (currentVec s m).getD (0, 0)
  let l := leakage s m
  let mag := magOf (F.sub h.psiA (F.mul l i.1)) (F.sub h.psiB (F.mul l i.2))
  F.max floor' (F.mul (F.div (s.rd (Foc.LQ_LR m)) (s.rd (Foc.LM m))) mag)

/-- id and iq of one winding set with the parameters of page `p`, for its torque (R167, R168); machine `m` gives the observed
flux and input 1. -/
def setPoints (s : State) (m p : Nat) (h : MachHid) (tq : Word) : Word × Word :=
  let k := torqueGain s m
  let dq :=
    if isIm s m then
      (F.div (s.rd (Foc.PSI p)) (s.rd (Foc.LM p)),
        F.div (F.mul tq (s.rd (Foc.LQ_LR p))) (F.mul (F.mul k (s.rd (Foc.LM p))) (rotorFlux s m h)))
    else mtpa s p k tq
  limitCurrent (s.rd (Foc.I_MAX p)) (F.add dq.1 (fluxOffset s m)) dq.2

/-- ω_sl of R168 for the q-axis current. -/
def slipOf (s : State) (m : Nat) (h : MachHid) (iq : Word) : Word :=
  if isIm s m then
    F.div (F.mul (F.mul (s.rd (Foc.LM m)) (s.rd (Foc.RR m))) iq) (F.mul (s.rd (Foc.LQ_LR m)) (rotorFlux s m h))
  else 0

/-- ID_REF, IQ_REF, ID_REF2 and IQ_REF2 in the present state (R163, R169, R180, R183). -/
def currentRefs (s : State) (m : Nat) (h : MachHid) : (Word × Word) × (Word × Word) :=
  let st := machState s m
  if st = 3 && isIm s m then ((s.rd (Foc.SEARCH_I m), 0), (0, 0))
  else if st = 4 then (((setPoints s m m h 0).1, 0), (if isDual s m then ((setPoints s m 1 h 0).1, 0) else (0, 0)))
  else if st = 6 ∨ st = 7 then
    if isDual s m then
      let share := F.ratio (s.rdF (Foc.TQ_CFG m) 23 16) 256
      (setPoints s m m h (F.mul h.tq share), setPoints s m 1 h (F.mul h.tq (F.sub F.one share)))
    else (setPoints s m m h h.tq, (0, 0))
  else ((0, 0), (0, 0))

/-! ### Sources (R163) -/

/-- The effective modulation limit: that of R174 for a deadbeat context. -/
def effLimit (s : State) (m : Nat) : Word :=
  let n := setOne s m
  if ctxLaw s n = 4 then F.min (coef s n 5) (s.rd (Foc.MOD_LIM m)) else s.rd (Foc.MOD_LIM m)

/-- V_USE: the commanded voltage over MOD_LIM·V_dc/√3; 0 while the contexts do not drive. -/
def voltageUse (s : State) (m : Nat) : Word :=
  match linkOf s m with
  | some vdc =>
    if ctxDriven s m then
      let n := setOne s m
      let mag :=
        if ctxLaw s n = 4 then magOf (s.rdL (Ctx.OUT_D n)) (s.rdL (Ctx.OUT n))
        else
          let v := committedVolts s m vdc
          let ab := alphaBeta (v.getD 0 0) (v.getD 1 0) (v.getD 2 0)
          magOf ab.1 ab.2
      F.div mag (F.div (F.mul (effLimit s m) vdc) sqrt3)
    else 0
  | none => 0

/-- The fifteen source values that the next trigger delivers, in the order of R163. -/
def focSources (s : State) (m : Nat) (h : MachHid) (o : ObsOut) : List Word :=
  let r := currentRefs s m h
  let th := wrapPi (F.add h.theta (F.mul h.omega (focT s m)))
  let th2 := if s.rdB (Foc.CFG m) 3 then wrapPi (F.sub th (F.div F.pi (F.ofNat 6))) else th
  [th, h.omega, F.div h.omega (F.ofNat (s.rdF (Foc.CFG m) 20 16)), r.1.1, r.1.2, th2, r.2.1, r.2.2, o.torque, o.flux,
    h.resid, effLimit s m, voltageUse s m, h.spd, h.pos]

end Sys2Proof.Machine
end

