-- ==== Sys2Proof/Machine/Glink.lean ====
section
/-! DEFINITION. The gate links, device side (R237-R264): downlink frames and the edges they carry, uplink frames and
what they report, training, link loss, bootstrap inputs, and the writes of the gate-link pages. -/

namespace Sys2Proof.Machine

/-! ### Downlink frames (R238-R243) -/

/-- The first grid instant after the last one with frames and not before now. -/
def gridDue (s : State) : Nat :=
  let from' := (s.now + 79) / 80 * 80
  match s.gl.gridAt with
  | some g => max (g + 80) from'
  | none => from'

/-- `k` steps of the rotation over the quantities of MEAS_ROT, from the last one sent (R261). -/
def rotate (mask : Nat) : Nat → Option Nat → Option Nat
  | 0, q => q
  | k + 1, q =>
    let start := match q with | some x => x + 1 | none => 0
    let next := ((List.range 4).map (fun i => (start + i) % 4)).find? (fun i => decide (mask / 2 ^ i % 2 = 1))
    rotate mask k next

/-- The 24 bits of a training word (R246). -/
def trainWord (s : State) (n idx : Nat) (clear : Bool) : Nat :=
  idx % 64 * 2 ^ 18 + bitN (fallback s) * 2 ^ 17 + bitN clear * 2 ^ 16 + s.rdF (GlPos.GL_CFG n) 7 4 * 2 ^ 12
    + (if idx % 2 = 0 then 0xAAA else 0x555)

/-- What a leg is going to do: its channels' levels, the instants they turned off, whether that lies ahead, and the turn-ons that wait;
the state its switches stand for and a passage; what control asks; and the edges found, each with whether it is fixed (R242). -/
structure LegPlan where
  on : List Bool
  off8 : List Int
  later : List Bool
  wait : List Bool
  dt8 : List Nat
  phys : Option Nat
  npTo : Option Nat
  npAt8 : Int
  /-- the passage began in the past -/
  npKnown : Bool
  ctl : Nat
  found : List (Int × Nat × Bool × Bool) := []
  deriving DecidableEq, Repr

/-- The level precedence gives place `i` of leg `x` of group `g` while control asks the state `st`. -/
def planRuled (s : State) (g x st i : Nat) : Bool :=
  let c := grpBase s g + x * legSize (grpTopo s g) + i
  if (chOf s c).gov = 7 ∧ (chOf s c).holdOff = none then (onPlaces (grpTopo s g) st).contains i else ruled s c

/-- The level place `i` shall take in a plan. -/
def planWants (s : State) (g x : Nat) (p : LegPlan) (i : Nat) : Bool :=
  if p.npTo.isSome then (onPlaces (grpTopo s g) 1).contains i else planRuled s g x p.ctl i

/-- The instant from which the interlock set of place `i` of a plan has been off for the dead time; none while one of it is on. The flag
says that no turn-off of it lies ahead. -/
def planClear (s : State) (g : Nat) (p : LegPlan) (i : Nat) : Option (Int × Bool) :=
  let set := (List.range p.on.length).filter (interlocked (grpTopo s g) i)
  if set.any (fun j => p.on.getD j false) then none
  else some (set.foldl (fun a j => max a (p.off8.getD j 0)) (-8000000000000) + p.dt8.getD i 0, set.all (fun j => !p.later.getD j false))

/-- The turn-ons of a plan that wait execute before `lim` where precedence still asks for them (R224). -/
def planMature (s : State) (g x : Nat) (lim : Int) (p : LegPlan) : LegPlan :=
  (List.range p.on.length).foldl (fun q i =>
    if !q.wait.getD i false then q
    else if !planWants s g x q i then { q with wait := q.wait.set i false }
    else match planClear s g q i with
      | some (e, known) =>
        if e < lim then { q with on := q.on.set i true, wait := q.wait.set i false, found := q.found ++ [(e, i, true, known)] } else q
      | none => q) p

/-- Every channel of a plan takes the level precedence gives it at `t8`, turn-offs first; `known` says that the instant is fixed. -/
def planResolve (s : State) (g x : Nat) (t8 : Int) (known : Bool) (p : LegPlan) : LegPlan :=
  let l := List.range p.on.length
  let q := l.foldl (fun q i =>
    if planWants s g x q i then q
    else if q.on.getD i false then
      { q with on := q.on.set i false, off8 := q.off8.set i t8, later := q.later.set i true, wait := q.wait.set i false,
               found := q.found ++ [(t8, i, false, known)] }
    else { q with wait := q.wait.set i false }) p
  l.foldl (fun q i =>
    if !planWants s g x q i || q.on.getD i false || q.wait.getD i false then q
    else match planClear s g q i with
      | some (e, _) =>
        if e ≤ t8 then { q with on := q.on.set i true, found := q.found ++ [(t8, i, true, known)] }
        else { q with wait := q.wait.set i true, dt8 := q.dt8.set i (deadTime8 s (grpBase s g + x * legSize (grpTopo s g) + i)) }
      | none =>
        { q with wait := q.wait.set i true, dt8 := q.dt8.set i (deadTime8 s (grpBase s g + x * legSize (grpTopo s g) + i)) }) q

/-- A passage of a plan that ends before `lim` ends (R224). -/
def planPassage (s : State) (g x : Nat) (lim : Int) (p : LegPlan) : LegPlan :=
  match p.npTo with
  | none => p
  | some st =>
    let e := p.npAt8 + 8 * fld (s.rdA (Grp.GRP_TIMING g)) 31 16
    if e < lim then planResolve s g x e p.npKnown { planMature s g x e p with phys := some st, npTo := none } else p

/-- Control asks the leg of a plan for state `st` at `t8` (R222, R224). -/
def planState (s : State) (g x : Nat) (p : LegPlan) (e : Int × Nat) : LegPlan :=
  let q : LegPlan := { planMature s g x e.1 (planPassage s g x e.1 p) with ctl := e.2 }
  let asked := (List.range 3).find? (fun st =>
    (List.range q.on.length).all (fun i => planRuled s g x q.ctl i == (onPlaces (grpTopo s g) st).contains i))
  let r : LegPlan :=
    if grpTopo s g = 0 ∨ 3 ≤ grpTopo s g then q
    else match asked with
      | none => { q with phys := none, npTo := none }
      | some st =>
        if q.npTo = some st ∨ (q.npTo = none ∧ q.phys = some st) then q
        else if st ≠ 1 ∧ q.phys = some (2 - st) then { q with phys := some 1, npTo := some st, npAt8 := e.1, npKnown := false }
        else { q with phys := some st, npTo := none }
  planResolve s g x e.1 true r

/-- The compare edges of leg `x` of group `g` ahead of now and before `lim`, with the state each asks for: those of this carrier period and,
where no update event lies between, of the next (R222, R242). -/
def edgesAhead (s : State) (g x : Nat) (lim : Int) : List (Int × Nat) :=
  let t := grpTb s g
  let l := legOf s g x
  let h := tbOf s t
  let state (p8 : Nat) : Nat := if inX (tbMode s t) (tbPrd s t) (l.c8.getD 0) p8 then l.stX else l.stY
  let es := periodEdges8 s g x
  let b : Int := h.base + tbCarrier s t
  let wrap : List (Int × Nat) := if es.isEmpty ∨ tbUpd s t % 2 = 1 then [] else [(8 * b, state 0)]
  let next := if s.rd (Tb.TB_PRD t) = s.rdA (Tb.TB_PRD t) then
      wrap ++ es.map (fun (e : Int) => (e + 8 * ((tbCarrier s t + h.shiftN : Nat) : Int), state (carrierPos8 s t e)))
    else []
  (es.map (fun e => (e, state (carrierPos8 s t e))) ++ next).filter (fun e => decide (l.mark8 < e.1 ∧ e.1 < lim))

/-- The states control asks for at those edges, without the pulses that are dropped (R225, R243). -/
def statesAhead (s : State) (g x : Nat) : List (Int × Nat) → Nat → Option Int → List (Int × Nat)
  | [], _, _ => []
  | e :: r, ctl, skip =>
    if skip.isSome ∧ skip ≠ some e.1 then statesAhead s g x r ctl skip
    else if e.2 = ctl then statesAhead s g x r ctl none
    else match stateEnd8 s g x e.1 with
      | some z =>
        if legRuled s g x && tooShort s g x (z - e.1) then statesAhead s g x r ctl (some z)
        else e :: statesAhead s g x r e.2 none
      | none => e :: statesAhead s g x r e.2 none

/-- The edges of channel `n` that are fixed now and lie ahead of its frame's reach: those of compare values in force, those that wait for
dead time after a turn-off that has taken place, and the end of a passage under way. DESIGN CHOICE: an edge of a forced state is
fixed at its instant (R242). -/
def fixedAhead (s : State) (n : Nat) : List (Int × Bool) :=
  match chanGroup s n with
  | none => []
  | some (g, x, i) =>
    let run := tbRun s (grpTb s g)
    let reach : Int := 8 * s.now + 640
    let lim : Int := if run then min (8 * nextUpd s (grpTb s g)) reach else reach
    let l := legOf s g x
    let cs := legChans s g x
    let p : LegPlan := {
      on := cs.map (chLevel s), off8 := cs.map (fun c => (chOf s c).offAt8.getD (-8000000000000)), later := cs.map (fun _ => false),
      wait := cs.map (chPending s), dt8 := cs.map (fun c => (chOf s c).pendDt8), phys := l.phys, npTo := l.npTo, npAt8 := l.npAt8,
      npKnown := true, ctl := l.ctl }
    let es := if run ∧ grpEn s g then statesAhead s g x (edgesAhead s g x lim) l.ctl l.skip8 else []
    let q := planMature s g x lim (planPassage s g x lim (es.foldl (planState s g x) p))
    (q.found.filter (fun e => decide (e.2.1 = i) && e.2.2.2 && decide (8 * (s.now : Int) < e.1))).map (fun e => (e.1, e.2.2.1))

/-- The slot of an edge at `at8` in a frame of position `n` that starts at `f`, where its OFFSET is valid (R241, R242). -/
def slotOf (s : State) (n f : Nat) (at8 : Int) (on : Bool) : Option Nat :=
  let off : Int := at8 + 1536 - 8 * f - s.rdF (GlPos.GL_STAT n) 31 16
  if 768 ≤ off ∧ off ≤ 2047 then some (bitN on * 2048 + off.toNat) else none

/-- The edges a DRIVE frame of position `n` that starts at `f` carries: at most two, in order of execution. -/
def frameEdges (s : State) (n f : Nat) : List (Int × Bool × Nat) :=
  let past := (s.pwm.edges.filter (fun e => decide (e.chan = n) && !e.sent)).map (fun e => (e.at8, e.on))
  let ahead := (fixedAhead s n).filter (fun e => !s.gl.ahead.contains (n, e.1))
  ((past ++ ahead).filterMap (fun e => (slotOf s n f e.1 e.2).map (fun w => (e.1, e.2, w)))).take 2

/-- The level of position `n` at the execution instant of OFFSET 768 in a frame that starts at `f` (R241, R369). -/
def resyncLevel (s : State) (n f : Nat) : Bool :=
  let e : Int := 8 * f + s.rdF (GlPos.GL_STAT n) 31 16 - 768
  match (s.pwm.edges.filter (fun x => decide (x.chan = n ∧ e < x.at8))).head? with
  | some x => !x.on
  | none => chLevel s n

/-- A resync frame of position `n` has gone out, or has moved to the next grid instant (R369). -/
def resyncStep (n : Nat) (sent : Bool) (s : State) : State :=
  let l := if sent then s.twin.resync.filter (fun e => decide (e.1 ≠ n))
    else s.twin.resync.map (fun e => if e.1 = n then (n, e.2 + 1) else e)
  { s with twin := { s.twin with resync := l } }

/-- One position's frame at grid instant `f`, `k` grid instants after the last. -/
def gridPos (f k : Nat) (s : State) (n : Nat) : State :=
  let st := glState s n
  let h := posOf s n
  if st = 0 ∨ f < h.resume then s
  else
    let seq := (h.seq + k) % 8
    let q := s.gl.quant.getD 0
    let idx := match h.train with | some r => (f - r.at_) / 80 | none => 64
    let training := decide (st = 2) && (match h.train with | some r => decide (r.at_ ≤ f) | none => false) && decide (idx < 64)
    let owner := decide (st = 3 ∨ st = 4) && ownsAt s n f
    let due := if owner then frameEdges s n f else []
    let sync := s.twin.resync.find? (fun e => decide (e.1 = n))
    let put := match sync with | some e => decide (2 ≤ e.2 ∨ due.length < 2) | none => false
    let drive := owner && (sync.isNone || put)
    let es := if !drive then [] else if put then due.take 1 else due
    let w := match h.train with | some r => trainWord s n idx r.clear | none => 0
    let lev := resyncLevel s n f
    let carried := (if owner ∧ put then [bitN lev * 2048 + 768] else []) ++ es.map (fun e => e.2.2)
    let slot (i : Nat) : Nat := carried.getD i 0
    let frame :=
      if training then downFrame 3 seq (w / 4096) (w % 4096) 0
      else if drive then downFrame 1 seq (slot 0) (slot 1) q
      else downFrame 0 seq 0 0 q
    let ask : Asked := { seq := seq, cmd := q, idx := if training then some idx else none, drive := drive && !training }
    let asked := (ask :: h.asked).take 8
    let s1 := putPos n { h with seq := seq, asked := asked, frame := frame, frameAt := f } s
    let edges := s1.pwm.edges.map (fun e => if e.chan = n ∧ es.any (fun x => decide (x.1 = e.at8)) then { e with sent := true } else e)
    let later := (es.filter (fun x => decide (8 * (s.now : Int) < x.1))).map (fun x => (n, x.1))
    let s2 := if owner then resyncStep n put s1 else s1
    { s2 with
      pwm := { s2.pwm with edges := edges }
      gl := { s2.gl with ahead := s2.gl.ahead ++ later } }

/-- GRID_FRAME (R238, R240, R261). -/
def gridFrame (s : State) : State :=
  let f := gridDue s
  let k := match s.gl.gridAt with | some g => (f - g) / 80 | none => 1
  let s1 := s.reach f
  let q := if s1.inService then rotate (s1.rdF Gl.MEAS_ROT 3 0) k s1.gl.quant else s1.gl.quant
  let s2 : State := { s1 with gl := { s1.gl with
    gridAt := some f
    quant := q
    ahead := s1.gl.ahead.filter (fun e => decide (8 * (f : Int) ≤ e.2 + 800)) } }
  (List.range 36).foldl (gridPos f k) s2

/-! ### Desaturation (R272, R273, R284) -/

/-- The machine whose compare groups hold group `g`. -/
def grpMachine (s : State) (g : Nat) : Nat := if g = 1 ∧ s.rdB (Foc.CFG 0) 2 then 0 else g

/-- Every channel of the enabled compare group that contains position `n` (R265). -/
def groupOfPos (s : State) (n : Nat) : List Nat :=
  match chanGroup s n with
  | some (g, _, _) => grpChans s g
  | none => []

/-- Does a side of machine `m` leave every switch that reports DESAT off? -/
def sideAway (s : State) (m side : Nat) : Bool :=
  (sideChans s m side).all (fun c => !(decide (c < 36) && drvBit s c 9))

/-- ASC_AWAY on machine `m`, or source 46 where neither side leaves every faulted switch off (R272, R284). -/
def ascAway (m n : Nat) (s : State) : State :=
  if ascBarred s m then s
  else
    let ok (side : Nat) : Bool := sideAway s m side && !sideFaulty s m side
    let go (side : Nat) : State := protShow (addForce (ascForce s 3 3 .desatAway m side) s)
    if ok 0 then go 0
    else if ok 1 then go 1
    else if sideAway s m 0 || sideAway s m 1 then
      emitPage .fault Prot.page 0xFF m (protShow (addForce (blockForce s 3 2 .desatAway m) s))
    else latchSource 46 n (groupOfPos s n) s

/-- A desaturation report of position `n` is counted; a report of another leg or group within TWO_LEG_WIN latches source 47 (R273). -/
def desatCount (n : Nat) (s : State) : State :=
  match chanGroup s n with
  | none => s
  | some (g, x, _) =>
    let win := s.rdF Prot.TWO_LEG_WIN 15 0
    let recent := s.prot.desats.filter (fun d => decide (s.now ≤ d.2.2 + win))
    let two := recent.any (fun d => decide (d.1 ≠ g ∨ d.2.1 ≠ x))
    let rest := recent.filter (fun d => decide (d.1 ≠ g ∨ d.2.1 ≠ x))
    let s1 : State := { s with prot := { s.prot with desats := rest ++ [(g, x, s.now)] } }
    if two && !isLatched s1 47 then latchSource 47 n [] s1 else s1

/-- The desaturation reaction of position `n`'s group (R272). -/
def desatReact (n : Nat) (s : State) : State :=
  match chanGroup s n with
  | some (g, _, _) =>
    if g < 4 ∧ s.rdB Prot.DESAT_CFG g then (if armed s then ascAway (grpMachine s g) n s else s)
    else latchSource 46 n (groupOfPos s n) s
  | none => latchSource 46 n (groupOfPos s n) s

/-- A short circuit of protection whose side now holds a faulty switch moves to the other side, or becomes a pulse block
(R284). -/
def ascRecheck (s : State) : State :=
  let bad := s.pwm.forces.filter (fun f => decide (f.rank = 3 ∧ f.order = 3) &&
    f.on.any (fun c => decide (c < 36) && decide (glMode s c = 1) &&
      (drvBit s c 9 || drvBit s c 8 || drvBit s c 7 || drvBit s c 0 || decide (glState s c = 4))))
  bad.foldl (fun u f =>
    let other := if f.on = sideChans u f.id 0 then 1 else 0
    if sideFaulty u f.id other then
      emitPage .fault Prot.page 0xFF f.id (protShow (addForce (blockForce u 3 2 f.tag f.id) u))
    else
      let v : State := { u with prot := { u.prot with
        ascSide := KMap.set (fun _ => 0) u.prot.ascSide f.id other
        ascStop := if u.prot.ascStop.contains f.id then u.prot.ascStop else u.prot.ascStop ++ [f.id] } }
      protShow ((addForce (ascForce v 3 3 f.tag f.id other) v).pulse Prot.page 9)) s

/-- ASC_AWAY ends once no driver of the machine reports DESAT. -/
def ascAwayEnd (s : State) : State :=
  (List.range 4).foldl (fun u m =>
    if hasForce u .desatAway m && !(machChans u m).any (fun c => decide (c < 36) && drvBit u c 9) then
      protShow (dropForce .desatAway m u) else u) s

/-! ### Uplink frames (R244, R245, R253) -/

/-- A position in UP becomes LOST: IRQ, FAULT event, and source 45 unless fall-back is armed (R253). -/
def glLost (n : Nat) (s : State) : State :=
  let s1 := setGl n 4 s
  let s2 := s1.emit .fault Gl.page 2 n (s1.rd (GlPos.GL_STAT n))
  let s3 := ascRecheck s2
  if fallback s3 then s3 else latchSource 45 n (groupOfPos s3 n) s3

/-- One bad or missing uplink of position `n`; the third in a row loses an UP position. `f` is the instant of the grid frame that it should
answer, and `arrived` says that a frame came. While the TRAIN frames last it spoils the training, and one that came for INDEX 0-15 was
a response (R247). -/
def uplinkBad (n f : Nat) (arrived : Bool) (s : State) : State :=
  let h := posOf s n
  let tr := match h.train with
    | some r =>
      let idx := (f - r.at_) / 80
      if r.at_ ≤ f ∧ idx < 64 then some { r with badUp := true, early := r.early || (arrived && decide (idx < 16)) } else some r
    | none => none
  let s1 := (putPos n { h with bad := h.bad + 1, train := tr } s).incL (GlTel.UL_BAD n)
  if glState s1 n = 3 ∧ 3 ≤ h.bad + 1 then glLost n s1 else s1

/-- Is an uplink frame of position `n` good: SYNC, TYPE, CRC, and a start inside its window while the position is UP or
LOST? `rt` is the time from F to its start in 1/8 cycle (R244, R245). -/
def uplinkGood (s : State) (n f rt : Nat) : Bool :=
  let e := 320 + 2 * s.rdF (GlPos.GL_STAT n) 31 16
  decide (f / 2 ^ 37 % 8 = 5) && decide (dType f = 0 ∨ dType f = 3) && frameCrcOk f
    && (decide (glState s n ≠ 3 ∧ glState s n ≠ 4) || decide (e ≤ rt + 32 ∧ rt ≤ e + 32))

/-- A good answer to a TRAIN frame (R247). -/
def trainAnswer (n idx f rt : Nat) (s : State) : State :=
  let h := posOf s n
  match h.train with
  | none => s
  | some r =>
    let m := uMeas f
    let r1 : TrainRec := { r with
      good := r.good + 1
      early := r.early || decide (idx < 16)
      rts := if 16 ≤ idx then r.rts ++ [rt] else r.rts
      badIndex := r.badIndex || decide (m / 1024 ≠ idx)
      badVersion := r.badVersion || decide (m / 64 % 16 ≠ 1) }
    putPos n { h with train := some r1 } s

/-- Telemetry takes the measurement of a NORMAL uplink: quantity `q` (R244, R263). -/
def uplinkMeas (n q m : Nat) (s : State) : State :=
  match q with
  | 0 => s.produce (GlTel.VCE_ON n) (if m = 0xFFFF then F.qnan else F.ratio m 1000)
  | 1 => s.produce (GlTel.TEMP n) (if m = 0x8000 then F.qnan else F.ratio (signedOf 16 m) 128)
  | 2 => s.produce (GlTel.SUPPLY n) (if m = 0xFFFF then F.qnan else F.ratio m 1000)
  | _ => s.produce (GlTel.IDENT n) (word m)

/-- The STATUS of a good uplink of either type is shown and counted, and protection reacts to it: every report of a desaturation counts
toward TWO_LEG, and one that rises raises the group's reaction (R262, R263, R272, R273, R284). -/
def takeStatus (n f : Nat) (s : State) : State :=
  let st := uStatus f
  let old := s.rdF (GlPos.GL_DRV n) 9 0
  let s1 := s.wr (GlPos.GL_DRV n) (word (st + at' (dSeq f) 16))
  let s2 := if st / 16 % 2 = 1 then s1.incL (GlTel.LINK_ERR n) else s1
  let desat := decide (st / 512 % 2 = 1)
  let rose := desat && decide (old / 512 % 2 = 0)
  let s3 := glLevels (if rose then s2.incL (GlTel.DESAT_CNT n) else s2)
  let s4 := if desat then desatCount n s3 else s3
  let s5 := if rose then desatReact n s4 else s4
  let s6 := if st / 2 % 2 = 1 then ownerSeen s5 else s5
  retryScan (protShow (ascAwayEnd (ascRecheck s6)))

/-- A good NORMAL uplink that answers `a`, if that is still known: status, measurement, and the tests of OWNER_LOST and LOST (R253, R256). -/
def uplinkNormal (n f : Nat) (a : Option Asked) (s : State) : State :=
  let st := uStatus f
  let s1 := match a with
    | some q => uplinkMeas n q.cmd (uMeas f) s
    | none => s
  let s2 := match (posOf s1 n).train with
    | some r => if r.good = 64 ∧ r.after = none then putPos n { posOf s1 n with train := some { r with after := some (decide (st % 2 = 1)) } } s1 else s1
    | none => s1
  let drove : Bool := match a with | some q => q.drive | none => false
  let s3 := if drove && decide (st / 2 % 2 = 0) then s2.pulse Gl.page 5 else s2
  let s4 := takeStatus n f s3
  if glState s4 n = 3 ∧ ((st % 2 = 1 ∧ st / 512 % 2 = 0) ∨ st / 4 % 2 = 1) then glLost n s4 else s4

/-- UPLINK_FRAME (R244, R245). -/
def uplinkFrame (n f rt : Nat) (s : State) : State :=
  let asked := s.now - 80 - rt / 8
  if glState s n = 0 then s
  else if !uplinkGood s n f rt then uplinkBad n asked true s
  else
    let h := posOf s n
    let s1 := putPos n { h with bad := 0, goodAt := some s.now } s
    match h.asked.find? (fun a => decide (a.seq = dSeq f)) with
    | some a =>
      match a.idx with
      | some idx => if dType f = 3 then takeStatus n f (trainAnswer n idx f rt s1) else uplinkBad n asked true s
      | none => if dType f = 0 then uplinkNormal n f (some a) s1 else takeStatus n f s1
    | none => if dType f = 0 then uplinkNormal n f none s1 else takeStatus n f s1

/-- UPLINK_MISSING (R245). -/
def uplinkMissing (n : Nat) (s : State) : State := if glState s n = 0 then s else uplinkBad n (s.now - 44) false s

/-! ### Training (R246-R248) -/

/-- A training of position `n` starts at the next grid frame. -/
def glStartTrain (n : Nat) (clear retry : Bool) (s : State) : State :=
  let r : TrainRec := { at_ := gridDue { s with now := s.now + 1 }, clear := clear, retry := retry }
  retryScan (setGl n 2 (putPos n { posOf s n with train := some r } s))

/-- The first failing condition of a training, as its TFAIL code; none for a pass; the delay in 1/8 cycle (R247). -/
def trainVerdict (r : TrainRec) : Option Nat × Nat :=
  let sum : Nat := r.rts.foldl (· + ·) 0
  let d := (divEven ((sum : Int) - 320 * 48) 96).toNat
  let hi := r.rts.foldl max 0
  let lo := r.rts.foldl min hi
  let code :=
    if !r.early then some 1
    else if r.badUp ∨ r.good ≠ 64 then some 2
    else if r.badIndex then some 3
    else if 128 < d then some 4
    else if 7 ≤ hi - lo then some 5
    else if r.badVersion then some 7
    else if r.after ≠ some false then some 8
    else none
  (code, d)

/-- The end of a retry's training of position `n` (R276). -/
def retryTrained (n : Nat) (ok : Bool) (s : State) : State :=
  if !ok then
    let s1 : State := { s with prot := { s.prot with retrain := [], noRetry := s.prot.noRetry ++ [46] } }
    emitPage .warn Prot.page 0xFF 46 s1
  else
    retryScan { s with prot := { s.prot with retrain := s.prot.retrain.filter (fun p => decide (p ≠ n)) } }

/-- TRAINING_DONE (R247): judged when the sequence is complete, at most 6.6 us after the first TRAIN frame. -/
def trainingDone (n dt : Nat) (s : State) : State :=
  match (posOf s n).train with
  | none => s
  | some r =>
    if glState s n ≠ 2 then s else
    let s1 := s.reach (max (r.at_ + 5120) (min (s.now + dt) (r.at_ + 5280)))
    match trainVerdict r with
    | (some code, _) =>
      let s2 := glFail n code s1
      if r.retry then retryTrained n false s2 else s2
    | (none, d) =>
      let s2 := putPos n { posOf s1 n with train := none, bad := 0 } (s1.wrF (GlPos.GL_STAT n) 31 16 d)
      let s3 := (setGl n 3 s2).pulse Gl.page 0
      if r.retry then retryTrained n true s3 else s3

/-- A write of GL_CMD (R3, R248, R262). -/
def glCmdWrite (n : Nat) (v : Word) (s : State) : Reply :=
  let st := glState s n
  let gov := (chOf s n).gov
  if bit v 0 && bit v 2 then deny s .outOfRange
  else if bit v 0 then
    (if s.part = .sep9624 ∧ 24 ≤ n then deny s .outOfRange
     else if glMode s n ≠ 1 ∨ st = 2 then deny s .notInState
     else if !chanIdle s n && decide (gov ≠ 1 ∧ gov ≠ 2) then deny s .notInState
     else accept (glStartTrain n (bit v 1) false s))
  else if bit v 2 then
    (if gov = 7 ∨ st = 0 ∨ st = 1 ∨ st = 5 then deny s .notInState
     else if st = 2 then
       accept (match (posOf s n).train with
         | some r => if r.retry then retryTrained n false (glFail n 6 s) else glFail n 6 s
         | none => glFail n 6 s)
     else accept (retryScan (setGl n 1 s)))
  else accept s

/-! ### Bootstrap inputs (R260, R287) -/

/-- BSUV_INPUT: the filtered input of auxiliary leg `l` changes; its upper switch is forced off while it is active. -/
def bsuvInput (l : Nat) (active : Bool) (s : State) : State :=
  let s1 := s.wrB Gl.BS_STAT l active
  let s2 := s1.raw Gl.page 6 (decide (s1.rdF Gl.BS_STAT 5 0 ≠ 0))
  let f : Force := { rank := 3, order := 1, tag := .bootstrap, id := l, on := [], off := [36 + 2 * l] }
  protShow (if active then addForce f s2 else dropForce .bootstrap l s2)

/-! ### Writes and reads by address -/

/-- A write of GL_CFG (R3, R262). -/
def glCfgWrite (n : Nat) (v : Word) (s : State) : Reply :=
  let mode := fld v 1 0
  let st := glState s n
  if !(decide (st ≤ 1) || (decide (st = 5) && decide ((chOf s n).gov ≠ 7))) then deny s .notInState
  else if mode = 3 ∨ (s.part = .sep9624 ∧ 24 ≤ n ∧ mode ≠ 0) then deny s .outOfRange
  else accept (setGl n (if mode = 0 then 0 else if mode = 1 then 1 else 5) (s.wr (GlPos.GL_CFG n) (v &&& 0xF3)))

/-- A write of FALLBACK_ARMED (R255). -/
def fallbackWrite (v : Word) (s : State) : Reply :=
  if (List.range 36).any (fun n => decide (glMode s n = 1) && decide (2 ≤ glState s n ∧ glState s n ≤ 4)) then deny s .notInState
  else accept ((List.range 36).foldl (fun t n => updCarry n t) (s.wr Gl.CTRL (v &&& 1)))

/-- A write of BS_CFG (R259, R261). -/
def bsCfgWrite (v : Word) (s : State) : Reply :=
  let short := [2, 3].any (fun g => grpEn s g && decide (grpMode s g = 2)
    && decide (8 * cfgInterval s (s.rd (Grp.GRP_CFG g)) < bsNeed8 s g (fld v 15 0)))
  if fld v 31 16 = 0 ∨ short then deny s .outOfRange else accept (s.wr Gl.BS_CFG v)

/-- Writes of the gate-link pages. -/
def glinkWrite (k : PageKind) (a : Nat) (v : Word) (s : State) : Reply :=
  let o := a % 4096
  match k with
  | .glink =>
    if o = 0x0C then fallbackWrite v s
    else if o = 0x50 then (if fld v 3 0 = 0 then deny s .outOfRange else plainWrite a v s)
    else if o = 0x54 then bsCfgWrite v s
    else plainWrite a v s
  | .glPos =>
    if 0x40 ≤ o ∧ o < 0x280 then
      match o % 16 with
      | 0 => glCfgWrite ((o - 0x40) / 16) v s
      | 4 => glCmdWrite ((o - 0x40) / 16) v s
      | _ => accept s
    else plainWrite a v s
  | _ => plainWrite a v s

/-- What a read of a gate-link register gives where it is not the stored value: VALID of GL_DRV (R262). -/
def glinkView (k : PageKind) (a : Nat) (s : State) : Word :=
  let o := a % 4096
  if k = .glPos ∧ 0x40 ≤ o ∧ o < 0x280 ∧ o % 16 = 12 then
    setBit (s.rd a) 24 (match (posOf s ((o - 0x40) / 16)).goodAt with
      | some t => decide (s.now ≤ t + 240)
      | none => false)
  else s.rd a

/-! ### Meanings -/

/-- GRID_FRAME (R238). -/
def execGridFrame (s : State) : Out := .next (gridFrame s)

/-- UPLINK_FRAME (R244). -/
def execUplinkFrame (n f rt : Nat) (s : State) : Out := .next (uplinkFrame n f rt s)

/-- UPLINK_MISSING (R245). -/
def execUplinkMissing (n : Nat) (s : State) : Out := .next (uplinkMissing n s)

/-- GL_TRAIN (R247): a write of GL_CMD with TRAIN, and CLEAR as given. -/
def execGlTrain (port : Port) (n : Nat) (clear : Bool) (s : State) : Out :=
  replied (gated port (GlPos.GL_CMD n) (word (1 + at' (bitN clear) 1)) (glCmdWrite n (word (1 + at' (bitN clear) 1))) s)

/-- GL_DROP (R262): a write of GL_CMD with DROP. -/
def execGlDrop (port : Port) (n : Nat) (s : State) : Out := replied (gated port (GlPos.GL_CMD n) 4 (glCmdWrite n 4) s)

/-- TRAINING_DONE (R247). -/
def execTrainingDone (n dt : Nat) (s : State) : Out := .next (trainingDone n dt s)

/-- BSUV_INPUT (R287). -/
def execBsuvInput (l : Nat) (active : Bool) (s : State) : Out := .next (bsuvInput l active s)

end Sys2Proof.Machine
end

