-- ==== Sys2Proof/Machine/Driver.lean ====
section
/-! DEFINITION. The driver's side of the gate link (R249-R257): judging frames, training, ownership, holdover, fall-back
to the pin, desaturation, and the gate level. -/

namespace Sys2Proof.Machine

/-- The driver of position `n`. -/
def drvOf (s : State) (n : Nat) : Driver := KMap.get (fun _ => {}) s.drivers n

/-- Put the driver of position `n`. -/
def putDrv (n : Nat) (d : Driver) (s : State) : State := { s with drivers := KMap.set (fun _ => {}) s.drivers n d }

/-- A driver's port, 0 or 1. -/
def Driver.port (d : Driver) (p : Nat) : DrvPort := if p = 0 then d.port0 else d.port1

/-- Put a driver's port. -/
def Driver.setPort (d : Driver) (p : Nat) (x : DrvPort) : Driver := if p = 0 then { d with port0 := x } else { d with port1 := x }

/-- The phase that governs the gate: that of the owner port, or of the last owner. -/
def Driver.phase (d : Driver) : DrvPhase := (d.port (d.owner.getD d.lastOwner)).phase

/-- The driver port that this device is wired to: port 1 of a device configured as the standby. DESIGN CHOICE (R256). -/
def ownPort (s : State) : Nat := bitN (s.rdB Twin.CFG 4)

/-- The level of the pin input of port `p` of the driver of position `n`: this device's direct pin, or the other device's (R256). -/
def portPin (s : State) (n p : Nat) : Bool := if p = ownPort s then dgLevel s n else Config.peerPin n s.now

/-- Has the pin of port `p` risen (`up`) or changed at all after `t` and not after `till` (R251, R255)? -/
def pinMoved (s : State) (n p t till : Nat) (up : Bool) : Bool :=
  if p = ownPort s then
    s.pwm.edges.any (fun e => decide (e.chan = n) && (e.on || !up) && decide (8 * (t : Int) < edgeExec8 e ∧ edgeExec8 e ≤ 8 * (till : Int)))
  else
    (List.range (till - t)).any (fun i =>
      Config.peerPin n (t + i + 1) != Config.peerPin n (t + i) && (!up || Config.peerPin n (t + i + 1)))

/-- The all-off of an ALL_OFF frame takes place once its instant has come: the gate turns off, softly where it says so and the gate was
on, the edges due before it are past, and in PIN the gate stays off until the pin rises anew (R251). -/
def Driver.settleOff (d : Driver) (n now : Nat) : Driver :=
  match d.offAt with
  | some (t, soft) =>
    if now < t then d
    else { d with
      level := false, offAt := none, edges := d.edges.filter (fun e => decide (8 * (t : Int) ≤ e.1))
      softTill := if soft ∧ d.level then t + Config.softOffTime n else d.softTill
      pinHeld := if d.phase = .pin then some t else d.pinHeld }
  | none => d

/-- A driver that waits for its pin after a loss takes the pin as its source once the two levels have been equal within 50 ns (R255). -/
def Driver.settlePin (d : Driver) (s : State) (n : Nat) : Driver :=
  match d.pinWait with
  | some t =>
    let p := d.owner.getD d.lastOwner
    if pinMoved s n p t (min s.now (t + 40)) false || (decide (s.now ≤ t + 40) && (portPin s n p == d.level)) then
      { (d.setPort p { d.port p with phase := .pin }) with edges := [], lastOwner := p, pinWait := none }
    else d
  | none => d

/-- The driver of position `n` as it stands now. -/
def drvNow (s : State) (n : Nat) : Driver := ((drvOf s n).settleOff n s.now).settlePin s n

/-- The gate level of a driver: off while a supply is missing; by the pin of the last owner port in PIN (R249, R251, R256). -/
def Driver.gate (d : Driver) (s : State) (n : Nat) : Bool :=
  if d.uvPos || d.uvNeg then false
  else
    match d.phase with
    | .armed | .holdover => d.level
    | .pin =>
      let p := d.owner.getD d.lastOwner
      match d.pinHeld with
      | some t => pinMoved s n p t s.now true && portPin s n p
      | none => portPin s n p
    | .untrained | .training | .latched => false

/-- The gate level of the driver of position `n` (R249). -/
def gateLevel (s : State) (n : Nat) : Bool := (drvNow s n).gate s n

/-- The STATUS field of the uplink frame of port `p` that starts at `up`: a fault shows from the first frame that starts at least 10 ns after
its detection (R244, R252). -/
def drvStatus (s : State) (n p up : Nat) (d : Driver) : Nat :=
  let x := d.port p
  let shown (b : Bool) (t : Nat) : Nat := bitN (b && decide (t + 8 ≤ up))
  let latched := decide (d.port0.phase = .latched) || decide (d.port1.phase = .latched)
  shown d.desat d.seen.desat * 512 + shown d.uvPos d.seen.uvPos * 256 + shown d.uvNeg d.seen.uvNeg * 128 + shown d.ot d.seen.ot * 64
    + bitN (latched || decide (up < d.softTill)) * 32 + bitN x.upErr * 16 + bitN (d.gate s n) * 8 + bitN (decide (d.phase = .pin)) * 4
    + bitN (decide (d.owner = some p)) * 2 + bitN (decide (x.phase = .latched)) * 1

/-- The uplink frame of port `p`, while it has not started, carries what the driver reports now (R244, R252). -/
def Driver.encodeUp (d : Driver) (s : State) (n p : Nat) : Driver :=
  let x := d.port p
  match x.upAt with
  | some up =>
    if up < s.now then d
    else
      let frame := frameWith (bitN x.upTrain * 3 * 2 ^ 29 + x.seq.getD 0 * 2 ^ 26 + drvStatus s n p up d * 2 ^ 16 + x.upMeas % 65536)
      d.setPort p { x with uplink := frame }
  | none => d

/-- The driver of position `n` becomes `d`, and its uplink frames not yet started follow. -/
def setDrv (n : Nat) (d : Driver) (s : State) : State := putDrv n ((d.encodeUp s n 0).encodeUp s n 1) s

/-- The driver turns its gate off softly and forgets every edge not yet executed. -/
def Driver.off (d : Driver) (n now : Nat) : Driver :=
  { d with level := false, edges := [], softTill := if d.level then now + Config.softOffTime n else d.softTill }

/-- Every port that was trained enters LATCHED with a soft turn-off (R249). -/
def Driver.latch (d : Driver) (n now : Nat) : Driver :=
  let go (x : DrvPort) : DrvPort := if x.phase = .untrained then x else { x with phase := .latched }
  { (d.off n now) with port0 := go d.port0, port1 := go d.port1, pinWait := none }

/-- The phase a completed training gives: LATCHED and PIN are left only with CLEAR, LATCHED only without a
desaturation present (R249). -/
def trainedPhase (x : DrvPort) (desatNow : Bool) : DrvPhase :=
  match x.before with
  | .latched => if x.clear && !desatNow then .armed else .latched
  | .pin => if x.clear then .armed else .pin
  | _ => .armed

/-- A good TRAIN frame with its 24-bit training word on a port (R246, R249). -/
def drvTrain (p w : Nat) (d : Driver) : Driver :=
  let x := d.port p
  let idx := w / 2 ^ 18
  let y : DrvPort := { x with clear := decide (w / 2 ^ 16 % 2 = 1), hold := w / 2 ^ 12 % 16, fbArm := decide (w / 2 ^ 17 % 2 = 1) }
  if idx = 0 then
    let d1 : Driver := if d.owner = some p then { d with level := false, edges := [] } else d
    d1.setPort p { y with before := if x.phase = .training then x.before else x.phase, phase := .training, next := 1 }
  else if x.phase = .training ∧ idx = x.next then
    (if idx = 63 then
      let ph := trainedPhase y d.desatNow
      let left := decide (x.before = .latched) && decide (ph = .armed)
      { (d.setPort p { y with phase := ph }) with desat := d.desat && !left, softTill := if left then 0 else d.softTill, pinHeld := none }
     else d.setPort p { y with next := x.next + 1 })
  else if x.phase = .training then d.setPort p { x with phase := x.before }
  else d

/-- A broken training returns a port to its state before it. -/
def drvBreak (p : Nat) (d : Driver) : Driver :=
  let x := d.port p
  if x.phase = .training then d.setPort p { x with phase := x.before } else d

/-- Do the slots of a DRIVE frame meet R241? -/
def slotsOk (f : Nat) : Bool :=
  let a := dSlot0 f
  let b := dSlot1 f
  let ok (w : Nat) : Bool := if w % 2048 = 0 then decide (w = 0) else decide (768 ≤ w % 2048)
  ok a && ok b && (decide (b = 0) || (decide (a ≠ 0) && decide (a % 2048 < b % 2048)))

/-- May a port drive: it owns the driver, or the other port does not own it, is lost, or last sent STANDBY (R256)? -/
def mayDrive (d : Driver) (p : Nat) : Bool :=
  decide (d.owner = some p) || decide (d.owner ≠ some (1 - p)) || (d.port (1 - p)).lost || (d.port (1 - p)).standby

/-- Is a downlink frame on port `p` good (R250)? `late` says that a grid frame starts more than 5 ns off. -/
def downGood (d : Driver) (p f : Nat) (late : Bool) : Bool :=
  decide (f / 2 ^ 37 % 8 = 5) && frameCrcOk f && decide ((d.port p).seq ≠ some (dSeq f)) && (!late || decide (dType f = 2))
    && (decide (dType f ≠ 1) || (slotsOk f && mayDrive d p))

/-- Link loss of the owner port (R249, R255, R257). -/
def drvLoss (n p : Nat) (s : State) (d : Driver) : Driver :=
  let x := d.port p
  let o := d.port (1 - p)
  if o.phase = .armed ∧ !o.lost ∧ o.bad = 0 ∧ o.hold ≠ 0 ∧ x.phase = .armed then
    { (d.setPort p { x with phase := .holdover, lost := true }) with holdAt := s.now }
  else if x.phase ≠ .armed then d.setPort p { x with lost := true }
  else if x.fbArm then Driver.settlePin { (d.setPort p { x with lost := true }) with pinWait := some s.now } s n
  else (d.setPort p { x with lost := true }).latch n s.now

/-- The next uplink frame of a port whose grid frame was bad or missing starts 100 ns after the previous one, with LINK_ERR (R244, R245). -/
def nextUp (now : Nat) (x : DrvPort) : DrvPort :=
  { x with upErr := true, upTrain := false, upAt := x.upAt.map (fun u => if u < now then u + 80 else u) }

/-- One bad or missing downlink frame on port `p`; the third in a row on the owner port is a link loss (R250). -/
def drvBad (n p : Nat) (s : State) (d : Driver) : Driver :=
  let d1 := drvBreak p d
  let x := nextUp s.now (d1.port p)
  let d2 := d1.setPort p { x with bad := x.bad + 1, lost := x.lost || decide (3 ≤ x.bad + 1) }
  if x.bad + 1 = 3 ∧ d2.owner = some p then drvLoss n p s d2 else d2

/-- A good DRIVE frame: the port owns the driver, a holdover of the other port ends, and its edges join the queue
(R241, R249, R256). -/
def drvDrive (p f : Nat) (a8 : Int) (d : Driver) : Driver :=
  let o := d.port (1 - p)
  let d1 := if o.phase = .holdover then d.setPort (1 - p) { o with phase := .armed } else d
  let d2 := { d1 with owner := some p, lastOwner := p }
  let es := ([dSlot0 f, dSlot1 f].filter (fun w => decide (w ≠ 0))).map (fun w => (a8 + (w % 2048 : Nat), decide (2048 ≤ w)))
  let x := d2.port p
  let d3 := d2.setPort p { x with standby := false }
  if x.phase = .armed then { d3 with edges := d3.edges ++ es } else d3

/-- The uplink frame that answers a good grid frame starts 50 ns after it (R244, R245); `meas` is the driver's conversion of the quantity
asked for. It reports LINK_ERR only for a bad frame since the previous uplink frame started. -/
def drvAnswer (p f meas now : Nat) (d : Driver) : Driver :=
  let x := d.port p
  let train := decide (dType f = 3)
  let waits := match x.upAt with | some u => decide (now ≤ u) | none => false
  d.setPort p { x with
    upAt := some (now + 40), upTrain := train, upErr := x.upErr && waits
    upMeas := if train then f / 2 ^ 26 % 64 * 1024 + 64 else meas }

/-- A good ALL_OFF frame: the turn-off begins within 20 ns of its last bit; the edges due from then on are discarded. It does not move the
uplink timing: without a grid frame the next uplink frame starts 100 ns after the previous one (R245, R251). -/
def drvAllOff (n p f now : Nat) (d : Driver) : Driver :=
  let t := now + 80 + min (Config.offDelay n) 16
  let x := d.port p
  let d1 := d.setPort p { x with upTrain := false, upAt := x.upAt.map (fun u => if u < now then u + 80 else u)
                                 upErr := x.upErr && (match x.upAt with | some u => decide (now ≤ u) | none => false) }
  { d1 with edges := d1.edges.filter (fun e => decide (e.1 < 8 * (t : Int))), offAt := some (t, decide (dCmd f ≠ 0)) }

/-- DRIVER_DOWNLINK_FRAME (R250, R251): a frame whose SYNC arrives now on port `p` of the driver of position `n`. -/
def drvFrame (n p f : Nat) (late : Bool) (meas : Nat) (s : State) : State :=
  let d := drvNow s n
  if !downGood d p f late then setDrv n (drvBad n p s d) s
  else
    let x := d.port p
    let d1 := d.setPort p { x with bad := 0, lost := false, seq := some (dSeq f), cmd := dCmd f }
    let d2 :=
      match dType f with
      | 0 => let e := drvBreak p d1; e.setPort p { e.port p with standby := true }
      | 1 => drvDrive p f (8 * s.now) (drvBreak p d1)
      | 2 => drvAllOff n p f s.now (drvBreak p d1)
      | _ => drvTrain p (f / 2 ^ 8 % 2 ^ 24) d1
    setDrv n (if dType f = 2 then d2 else drvAnswer p f meas s.now d2) s

/-- DRIVER_EDGE_EXECUTE (R252): the earliest edge received acts at its instant in ARMED and HOLDOVER, before or after an ALL_OFF frame's
turn-off by their instants (R251). -/
def drvExecute (n : Nat) (s : State) : State :=
  let d := drvOf s n
  match d.edges with
  | [] => s
  | e :: r =>
    let first := r.foldl (fun (a : Int × Bool) x => if x.1 < a.1 then x else a) e
    let s1 := s.reach (Int.toNat ((first.1 + 7) / 8))
    let d1 : Driver := match d.offAt with
      | some (t, _) => if 8 * (t : Int) ≤ first.1 then d.settleOff n t else d
      | none => d
    let run := decide (d1.phase = .armed ∨ d1.phase = .holdover)
    let d2 : Driver := { d1 with edges := d1.edges.erase first, level := if run then first.2 else d1.level }
    setDrv n ((d2.settleOff n s1.now).settlePin s1 n) s1

/-- DRIVER_HOLD_EXPIRY (R249, R257): the holdover limit of the other port's HOLD code has run out. -/
def drvHoldExpiry (n : Nat) (s : State) : State :=
  let d := drvNow s n
  if d.phase ≠ .holdover then s
  else
    let h := (d.port (1 - d.owner.getD d.lastOwner)).hold
    let s1 := s.reach (d.holdAt + 800 * 2 ^ (h - 1))
    setDrv n (d.latch n s1.now) s1

/-- DRIVER_PIN_MISMATCH (R255): 50 ns after a loss with fall-back, levels that have differed all the while latch the driver. -/
def drvPinMismatch (n : Nat) (s : State) : State :=
  match (drvOf s n).pinWait with
  | none => s
  | some t =>
    let s1 := s.reach (t + 40)
    let d := drvNow s1 n
    setDrv n (if d.pinWait.isSome then d.latch n s1.now else d) s1

/-- DRIVER_DESAT (R249, R252): a desaturation appears, with the driver's own soft turn-off, or ends. -/
def drvDesat (n : Nat) (present : Bool) (s : State) : State :=
  let d := drvNow s n
  let seen := if d.desat then d.seen else { d.seen with desat := s.now }
  setDrv n (if present then { (d.latch n s.now) with desat := true, desatNow := true, seen := seen } else { d with desatNow := false }) s

/-- DRIVER_UNDERVOLTAGE (R249): 0 UV_POS, 1 UV_NEG, 2 OT. -/
def drvUnder (n which : Nat) (b : Bool) (s : State) : State :=
  let d := drvNow s n
  setDrv n (match which with
    | 0 => { d with uvPos := b, seen := { d.seen with uvPos := if d.uvPos then d.seen.uvPos else s.now } }
    | 1 => { d with uvNeg := b, seen := { d.seen with uvNeg := if d.uvNeg then d.seen.uvNeg else s.now } }
    | _ => { d with ot := b, seen := { d.seen with ot := if d.ot then d.seen.ot else s.now } }) s

/-! ### Meanings -/

/-- DRIVER_DOWNLINK_FRAME (R250). -/
def execDriverDownlinkFrame (n p f : Nat) (late : Bool) (meas : Nat) (s : State) : Out := .next (drvFrame n p f late meas s)

/-- DRIVER_FRAME_MISSING (R250). -/
def execDriverFrameMissing (n p : Nat) (s : State) : Out := .next (setDrv n (drvBad n p s (drvNow s n)) s)

/-- DRIVER_EDGE_EXECUTE (R252). -/
def execDriverEdgeExecute (n : Nat) (s : State) : Out := .next (drvExecute n s)

/-- DRIVER_HOLD_EXPIRY (R249). -/
def execDriverHoldExpiry (n : Nat) (s : State) : Out := .next (drvHoldExpiry n s)

/-- DRIVER_PIN_MISMATCH (R255). -/
def execDriverPinMismatch (n : Nat) (s : State) : Out := .next (drvPinMismatch n s)

/-- DRIVER_DESAT (R252). -/
def execDriverDesat (n : Nat) (present : Bool) (s : State) : Out := .next (drvDesat n present s)

/-- DRIVER_POWER_UP (R252): UNTRAINED with the gate off. -/
def execDriverPowerUp (n : Nat) (s : State) : Out := .next (putDrv n {} s)

/-- DRIVER_UNDERVOLTAGE (R249, R252). -/
def execDriverUndervoltage (n which : Nat) (b : Bool) (s : State) : Out := .next (drvUnder n which b s)

end Sys2Proof.Machine
end

