-- ==== Sys2Proof/Machine/Prot.lean ====
section
/-! DEFINITION. Power-stage protection (R265-R294): comparators, clearing and retry, the DC-link evaluation with its
chopper, escalation and discharge, arming, and the writes of the protection pages. -/

namespace Sys2Proof.Machine

/-! ### Comparators (R270, R276) -/

/-- A threshold of a comparator: its code rounded down to a multiple of 16, as its DAC takes it. -/
def cmpLevel (s : State) (a : Nat) : Nat := s.rdF a 15 0 / 16 * 16

/-- Is comparator `k`'s output outside its band in a mode, given that its input lies above HI and below LO? -/
def cmpOut (mode : Nat) (above below : Bool) : Bool := (above && decide (mode ≠ 1)) || (below && decide (mode ≠ 0))

/-- The qualified output of comparator `k` follows its input, which stands at `code` of the channel's selected reference: beyond a
threshold it is above or below, and it comes back only past the 64 codes of inward hysteresis. An output that trips latches the
source of an armed comparator; one that returns lets a retry clear; a rise above HI is the chopper's response inside its window
(R265, R270, R276, R281). -/
def comparatorInput (k code : Nat) (s : State) : State :=
  let old := s.rd (ProtCmp.CMP_STAT k)
  let cfg := s.rd (ProtCmp.CMP_CFG k)
  let hi := cmpLevel s (ProtCmp.CMP_HI k)
  let lo := cmpLevel s (ProtCmp.CMP_LO k)
  let above := if bit old 1 then decide (hi ≤ code + 64) else decide (hi < code)
  let below := if bit old 2 then decide (code ≤ lo + 64) else decide (code < lo)
  let out' := cmpOut (fld cfg 2 1) above below
  let s1 := s.wr (ProtCmp.CMP_STAT k) (word (bitN out' + at' (bitN above) 1 + at' (bitN below) 2))
  let inWindow := match s.prot.chopAt with
    | some t => decide (s.now ≤ t + s.rdF Prot.CHOP_CFG 23 16 * 800)
    | none => false
  let resp := above && !bit old 1 && s.rdB Prot.CHOP_CFG 4 && decide (s.rdF Prot.CHOP_CFG 12 8 = k) && inWindow
  let s2 : State := if resp then { s1 with prot := { s1.prot with chopSeen := true } } else s1
  if out' then (if !bit old 0 && bit cfg 0 then latchSource k 0 [] s2 else s2) else retryScan s2

/-! ### Clearing (R275-R277) -/

/-- A write of SRC_CLR0 or SRC_CLR1 that names the sources `l`; a latch whose automatic clear falls in the same cycle counts its try (R294). -/
def srcClrWrite (l : List Nat) (s : State) : Reply :=
  if lockedOut s && l.any (fun n => decide (n = 46 ∨ n = 47)) then deny s .notInState
  else if l.any (causeActive s) then deny s .tripPersist
  else
    let s1 := (l.filter (fun n => retryDue s n && (decide (n ≠ 46) || (latchedPositions s).isEmpty))).foldl (fun t n => retryClear n t) s
    accept (clearLatches (l.filter (isLatched s1)) s1)

/-- The sources a word of SRC_CLR0 (`hi` false) or SRC_CLR1 names. -/
def clrSources (hi : Bool) (v : Word) : List Nat := if hi then (maskBits 17 v).map (32 + ·) else maskBits 32 v

/-- RETRY_WAIT_EXPIRY (R276): WAIT has run out for source `n`; source 46 trains its LATCHED positions first. -/
def retryWait (n : Nat) (s : State) : State :=
  match s.prot.lats.find? (fun l => decide (l.src = n)) with
  | none => s
  | some l =>
    if !s.rdB (ProtSrc.SRC_CFG n) 2 ∨ 47 ≤ n ∨ lockedOut s ∨ s.prot.noRetry.contains n then s
    else
      let s1 := s.reach (l.at_ + s.rdF Prot.RETRY_CFG 23 8 * 800000)
      if n = 46 then
        let ps := latchedPositions s1
        if ps.isEmpty then (if causeActive s1 46 then s1 else retryClear 46 s1)
        else
          let s2 : State := { s1 with prot := { s1.prot with retrain := ps } }
          ps.foldl (fun t p => glStartTrain p true true t) s2
      else if causeActive s1 n then s1 else retryClear n s1

/-- A write of LOCKOUT_CLR (R277). -/
def lockoutClrWrite (v : Word) (s : State) : Reply :=
  if !lockOpen s Prot.page then deny s .locked
  else if !lockedOut s then deny s .notInState
  else if v ≠ 0x50524F54 then deny s .keyRequired
  else if s.prot.lats.any (fun l => causeActive s l.src) then deny s .tripPersist
  else
    let s1 := clearLatches [47] (protBit 2 false s)
    accept { s1 with prot := { s1.prot with tries := [], noRetry := s1.prot.lats.map (·.src) } }

/-! ### Chopper (R278, R281) -/

/-- CHOP_FAULT latches: FAULT event, the chopper is forced off, and a discharge by chopper falls back where it may (R281,
R286). -/
def setChopFault (s : State) : State :=
  if chopFault s then s
  else
    let f : Force := { rank := 3, order := 4, tag := .chopFault, id := 0, on := [], off := [48, 49] }
    let s1 := addForce f (dropForce .chopper 0 (protBit 4 true s))
    let s3 := emitPage .fault Prot.page 2 0 (protShow s1)
    let m := s3.rdF Prot.DIS_STAT 3 2
    if discharging s3 && s3.rdB Prot.DIS_CFG 2 && decide (m = 0 ∨ m = 2) then disMethod 1 s3 else s3

/-- CHOP_RESPONSE_TIMEOUT (R281): the window ends; with no comparator response it falls to the next sample set where the
voltage response is in use, else CHOP_FAULT latches. -/
def chopTimeout (s : State) : State :=
  match s.prot.chopAt with
  | none => s
  | some t =>
    let s1 := s.reach (t + s.rdF Prot.CHOP_CFG 23 16 * 800)
    let dv := F.pos (s.rd Prot.CHOP_DV)
    if s1.prot.chopSeen ∨ (!s1.rdB Prot.CHOP_CFG 4 ∧ !dv) then { s1 with prot := { s1.prot with chopAt := none } }
    else if dv then { s1 with prot := { s1.prot with chopJudge := true } }
    else setChopFault s1

/-- An active CHFLT pin of a chopper channel in use latches CHOP_FAULT while the pins are watched (R281). -/
def chfltCheck (s : State) : State :=
  if s.rdB Prot.CHOP_CFG 24 && s.prot.chflt.any (fun k => s.rdB Prot.CHOP_CFG k) then setChopFault s else s

/-- CHFLT_INPUT (R281): the filtered pin of chopper channel 48 + k changes. -/
def chfltInput (k : Nat) (active : Bool) (s : State) : State :=
  let rest := s.prot.chflt.filter (fun x => decide (x ≠ k))
  chfltCheck { s with prot := { s.prot with chflt := if active then rest ++ [k] else rest } }

/-! ### Escalation (R282, R283) -/

/-- ESCALATED and ESC_ASC. -/
def escalated (s : State) : Bool := s.rdB (hSTATUS Prot.page) 5
def escAsc (s : State) : Bool := s.rdB (hSTATUS Prot.page) 6

/-- Step 2: an active short circuit on every PMSM of MACH, a pulse block on every induction machine. -/
def escStep2 (s : State) : State :=
  if escAsc s then s
  else
    let s1 := protBit 6 true s
    (List.range 4).foldl (fun t m =>
      if !t.rdB Prot.ESC_CFG m then t
      else if t.rdF (Foc.CFG m) 1 0 = 0 then protAsc .escalation m t
      else protShow (addForce (blockForce t 3 2 .escalation m) t)) s1

/-- ESC_TIME_EXPIRY: ESC_TIME after step 1 with the link still at or above OV1_OFF. -/
def escTimeout (s : State) : State :=
  match s.prot.escAt with
  | none => s
  | some t =>
    let s0 := s.reach (t + s.rdF Prot.ESC_CFG 31 16 * 80000)
    let s1 : State := { s0 with prot := { s0.prot with escAt := none } }
    if escalated s1 && F.le (s1.rd Prot.OV1_OFF) (dcl s1).value then escStep2 s1 else s1

/-- A write of ESC_CLR (R283). -/
def escClrWrite (v : Word) (s : State) : Reply :=
  if !bit v 0 then accept s
  else if !s.prot.chflt.isEmpty || F.le (s.rd Prot.OV1_OFF) (dcl s).value then deny s .tripPersist
  else
    let s1 := (((s.wrB (hSTATUS Prot.page) 4 false).wrB (hSTATUS Prot.page) 5 false).wrB (hSTATUS Prot.page) 6 false)
    let s2 : State := { s1 with prot := { s1.prot with escAt := none } }
    let s3 := dropForce .chopFault 0 s2
    accept (protShow ((List.range 4).foldl (fun t m => dropForce .escalation m t) s3))

/-! ### The DC-link evaluation (R278, R280) -/

/-- OV1: the chopper is forced on at OV1_ON and released below OV1_OFF. -/
def evalOv1 (v : Word) (s : State) : State :=
  let on := hasForce s .chopper 0
  if !on && F.le (s.rd Prot.OV1_ON) v && !chopFault s then
    let s1 := protShow (addForce (chopForce s) s)
    if (chopChans s).isEmpty then s1 else s1.incL ProtTel.CHOP_STARTS
  else if on && F.lt v (s.rd Prot.OV1_OFF) then protShow (dropForce .chopper 0 s)
  else s

/-- The voltage response of the chopper, judged on the first sample set at or after the end of its window (R281). -/
def evalResponse (v : Word) (s : State) : State :=
  match s.prot.chopAt with
  | none => s
  | some t =>
    let past := s.prot.chopJudge || decide (t + s.rdF Prot.CHOP_CFG 23 16 * 800 ≤ s.now)
    if !past then s
    else
      let dv := s.rd Prot.CHOP_DV
      let okV := F.pos dv && F.le v (F.sub s.prot.chopVal dv)
      if s.prot.chopSeen || okV || (!s.rdB Prot.CHOP_CFG 4 && !F.pos dv) then
        { s with prot := { s.prot with chopAt := none, chopJudge := false } }
      else setChopFault s

/-- Escalation by level (R282). -/
def evalEscalation (v : Word) (s : State) : State :=
  let s1 : State :=
    if chopFault s && !escalated s && F.le (s.rd Prot.OV1_ON) v then
      let t := protBit 5 true s
      { t with prot := { t.prot with escAt := some t.now } }
    else s
  if escalated s1 && F.le (s1.rd Prot.ESC_LVL) v then escStep2 s1 else s1

/-- The DC-link value becomes invalid or too old while armed (R280). -/
def dclStale (s : State) : State :=
  if armed s && !s.rdB (hSTATUS Prot.page) 9 then emitPage .fault Prot.page 0xFF 0 (protBit 9 true s) else s

/-- One evaluation of a valid DC-link value `v` of a set with number `seq`, sampled at `at_`; levels are evaluated while
protection is armed. -/
def dclEvaluate (v : Word) (seq at_ : Nat) (s : State) : State :=
  let s1 := setSmp 0x700 v true seq at_ s
  let s2 := (s1.produce ProtTel.VDC_MIN (F.min (s1.rdL ProtTel.VDC_MIN) v)).wrL ProtTel.VDC_MAX (F.max (s1.rdL ProtTel.VDC_MAX) v)
  let s3 := if discharging s2 && F.lt v (s2.rd Prot.DIS_END) then disEnd 2 s2 else s2
  if !armed s3 then evalResponse v s3
  else
    let s4 := protBit 9 false s3
    let s5 := evalEscalation v (evalResponse v (evalOv1 v s4))
    let s6 := protBit 7 (F.le (s5.rd Prot.OV2) v) s5
    let s7 := if F.le (s6.rd Prot.OV3) v then latchSource 40 0 [] s6 else s6
    retryScan s7

/-- A released set carries an invalid value of the DC-link source. -/
def dclInvalid (seq at_ : Nat) (s : State) : State := dclStale (setSmp 0x700 (dcl s).value false seq at_ s)

/-- DCL_STALE_TIMEOUT (R280): no valid value for 100 us. -/
def dclTimeout (s : State) : State := if armed s then dclStale (s.reach ((dcl s).at_ + 80000)) else s

/-! ### Active discharge (R285, R286) -/

/-- May a discharge start by method `m`? -/
def disAllowed (s : State) (m : Nat) : Bool :=
  match m with
  | 1 => true
  | 3 => decide (machState s (s.rdF Prot.DIS_CFG 5 4) = 6) && F.pos (s.rd Prot.DIS_I)
  | _ => !chopFault s && !(chopChans s).isEmpty

/-- A discharge starts: by its method, or by the discharge channels where the start is refused and FALLBACK is set. -/
def disStart (s : State) : Reply :=
  let m := s.rdF Prot.DIS_CFG 1 0
  let s1 : State := { s with prot := { s.prot with disAt := s.now } }
  if disAllowed s m then accept (disMethod m s1)
  else if s.rdB Prot.DIS_CFG 2 then accept (disMethod 1 s1)
  else deny s .notInState

/-- A write of DIS_CMD. -/
def disCmdWrite (v : Word) (s : State) : Reply :=
  let r := if bit v 0 then disStart s else accept s
  if r.2 ≠ .none then r
  else if bit v 1 && discharging r.1 then accept (disEnd 0 r.1)
  else r

/-- DIS_TIMEOUT: 2 s after its start. -/
def disTimeout (s : State) : State := if discharging s then disEnd 3 (s.reach (s.prot.disAt + 1600000000)) else s

/-- KFB_OPEN_TIMEOUT: KFB has read open for 10 ms. -/
def kfbOpen (s : State) : State := if s.rdB Prot.DIS_CFG 3 && !discharging s then (disStart s).1 else s

/-! ### Arming and writes (R289-R292) -/

/-- The levels of R278, as a list in rising order. -/
def levelsOk (l : List Word) : Bool :=
  match l with
  | [off, on, ov2, esc, ov3] =>
    l.all F.isFin && F.lt 0 off && F.lt off on && F.le on ov2 && F.lt ov2 esc && F.lt esc ov3
  | _ => false

/-- The present levels. -/
def levels (s : State) : List Word :=
  [s.rd Prot.OV1_OFF, s.rd Prot.OV1_ON, s.rd Prot.OV2, s.rd Prot.ESC_LVL, s.rd Prot.OV3]

/-- A write of CTRL: arms or disarms protection. -/
def armWrite (v : Word) (s : State) : Reply :=
  if bit v 0 then
    (let src := srcNow s (s.rdF Prot.DCL_CFG 11 0)
     if !(s.rdB Prot.DCL_CFG 15 && src.valid) then deny s .notInState
     else if !levelsOk (levels s) then deny s .outOfRange
     else if !(chopChans s).isEmpty && !s.rdB Prot.CHOP_CFG 4 && !F.pos (s.rd Prot.CHOP_DV) then deny s .notInState
     else if anyLatched s then deny s .notInState
     else accept (protShow (setReady 5 true ((s.wr Prot.CTRL 1).stampNow ProtTel.VDC_MIN))))
  else if (List.range 8).any (fun t => tbRun s t && tbDrives s t) then deny s .notInState
  else
    let s1 := setReady 5 false (s.wr Prot.CTRL 0)
    accept (protShow (dropForce .chopper 0 ((s1.wrB (hSTATUS Prot.page) 7 false).wrB (hSTATUS Prot.page) 9 false)))

/-- A write of one of the five levels, at address `a`. -/
def levelWrite (a : Nat) (v : Word) (s : State) : Reply :=
  let s1 := s.wr a v
  if armed s && !levelsOk (levels s1) then deny s .outOfRange else accept s1

/-- A write of DCL_CFG. -/
def dclCfgWrite (v : Word) (s : State) : Reply :=
  if bit v 15 then
    (match srcSelect s (fld v 11 0) with
     | .none => accept (s.wr Prot.DCL_CFG (v &&& 0x8FFF))
     | c => deny s c)
  else accept (s.wr Prot.DCL_CFG (v &&& 0x8FFF))

/-- Writes of the protection control page. -/
def protCtlWrite (o a : Nat) (v : Word) (s : State) : Reply :=
  match o with
  | 0x0C => armWrite v s
  | 0x40 => dclCfgWrite v s
  | 0x44 | 0x48 | 0x4C | 0x50 | 0x54 => levelWrite a v s
  | 0x58 =>
    if armed s then deny s .notInState
    else if fld v 23 16 < 5 then deny s .outOfRange
    else accept (chfltCheck (protShow (s.wr Prot.CHOP_CFG (v &&& 0x01FF1F13))))
  | 0x5C => if !F.nonneg v then deny s .outOfRange else plainWrite a v s
  | 0x60 => if fld v 31 16 = 0 then deny s .outOfRange else plainWrite a v s
  | 0x64 => escClrWrite v s
  | 0x68 => if 15 < fld v 7 0 ∨ fld v 23 8 = 0 ∨ fld v 31 24 = 0 then deny s .outOfRange else plainWrite a v s
  | 0x6C => lockoutClrWrite v s
  | 0x70 => if fld v 15 0 < 200 ∨ 8000 < fld v 15 0 then deny s .outOfRange else plainWrite a v s
  | 0x7C => if F.pos v && F.le v 0x42700000 then plainWrite a v s else deny s .outOfRange
  | 0x80 => disCmdWrite v s
  | 0x88 => if armed s then deny s .notInState else plainWrite a v s
  | _ => plainWrite a v s

/-- A write of SRC_CFG of source `n` (R269, R291). -/
def srcCfgWrite (n : Nat) (v : Word) (s : State) : Reply :=
  if n = 48 then accept s
  else if armed s then deny s .notInState
  else if bit v 3 && !decide (42 ≤ n ∧ n ≤ 46) then deny s .outOfRange
  else if n = 47 ∧ bit v 2 then deny s .outOfRange
  else accept (protShow (resolveNow (s.wr (ProtSrc.SRC_CFG n) (v &&& 0xF))))

/-- A write of MASK_LO or MASK_HI of source `n`, at address `a` (R268). -/
def maskWrite (n a : Nat) (v : Word) (s : State) : Reply :=
  if n = 48 then accept s
  else if armed s then deny s .notInState
  else accept (resolveNow (s.wr a (if a % 16 = 8 then v &&& 0xFFFFF else v)))

/-- Is comparator `k`'s channel enabled? -/
def cmpChanEn (s : State) (k : Nat) : Bool := chanEn s (k / 16) (k % 16)

/-- A write of CMP_CFG of comparator `k` (R271, R292). -/
def cmpCfgWrite (k : Nat) (v : Word) (s : State) : Reply :=
  let lo := s.rdF (ProtCmp.CMP_LO k) 15 0
  let hi := s.rdF (ProtCmp.CMP_HI k) 15 0
  if armed s ∨ (bit v 0 ∧ !cmpChanEn s k) then deny s .notInState
  else if fld v 2 1 = 3 ∨ (fld v 2 1 = 2 ∧ hi ≤ lo) then deny s .outOfRange
  else
    let st := s.rd (ProtCmp.CMP_STAT k)
    accept ((s.wr (ProtCmp.CMP_CFG k) (v &&& 7)).wrB (ProtCmp.CMP_STAT k) 0 (cmpOut (fld v 2 1) (bit st 1) (bit st 2)))

/-- A write of CMP_HI or CMP_LO (R271): mode 2 keeps LO below HI. -/
def cmpThreshWrite (k a : Nat) (v : Word) (s : State) : Reply :=
  let s1 := s.wr a (v &&& 0xFFFF)
  if s.rdF (ProtCmp.CMP_CFG k) 2 1 = 2 ∧ s1.rdF (ProtCmp.CMP_HI k) 15 0 ≤ s1.rdF (ProtCmp.CMP_LO k) 15 0 then deny s .outOfRange
  else accept s1

/-- Writes of the protection pages. -/
def protWrite (k : PageKind) (a : Nat) (v : Word) (s : State) : Reply :=
  let o := a % 4096
  match k with
  | .prot => protCtlWrite o a v s
  | .protSrc =>
    if o = 0x408 then srcClrWrite (clrSources false v) s
    else if o = 0x40C then srcClrWrite (clrSources true v) s
    else if 0x40 ≤ o ∧ o < 0x350 then
      match o % 16 with
      | 0 => srcCfgWrite ((o - 0x40) / 16) v s
      | 4 | 8 => maskWrite ((o - 0x40) / 16) a v s
      | _ => accept s
    else plainWrite a v s
  | .protCmp =>
    if 0x40 ≤ o ∧ o < 0x240 then
      match o % 16 with
      | 0 => cmpCfgWrite ((o - 0x40) / 16) v s
      | 4 | 8 => cmpThreshWrite ((o - 0x40) / 16) a v s
      | _ => accept s
    else plainWrite a v s
  | _ => plainWrite a v s

/-- What a read of a protection register gives where it is not the stored value: SRC_STAT and the elapsed time of a
running discharge. -/
def protView (k : PageKind) (a : Nat) (s : State) : Word :=
  let o := a % 4096
  match k with
  | .prot => if o = 0x84 ∧ discharging s then setFld (s.rd a) 31 16 (disElapsed s) else s.rd a
  | .protSrc => if 0x40 ≤ o ∧ o < 0x350 ∧ o % 16 = 12 then srcStat s ((o - 0x40) / 16) else s.rd a
  | _ => s.rd a

/-! ### Meanings -/

/-- COMPARATOR_TRIP (R270): the input, past its qualification, stands at `code`. -/
def execComparatorTrip (k code : Nat) (s : State) : Out := .next (comparatorInput k code s)

/-- COMPARATOR_OUTPUT_RETURN (R276): the input has come back to `c.code`. -/
def execComparatorOutputReturn (c : CmpInput) (s : State) : Out := .next (comparatorInput c.k c.code s)

/-- SRC_CLR (R275): a write of SRC_CLR0, or of SRC_CLR1 (`hi`). -/
def execSrcClr (port : Port) (hi : Bool) (v : Word) (s : State) : Out :=
  replied (gated port (if hi then ProtSrc.SRC_CLR1 else ProtSrc.SRC_CLR0) v (srcClrWrite (clrSources hi v)) s)

/-- RETRY_WAIT_EXPIRY (R276). -/
def execRetryWaitExpiry (n : Nat) (s : State) : Out := .next (retryWait n s)

/-- LOCKOUT_CLR (R277). -/
def execLockoutClr (port : Port) (v : Word) (s : State) : Out :=
  replied (gated port Prot.LOCKOUT_CLR v (lockoutClrWrite v) s)

/-- PROT_ARM (R289). -/
def execProtArm (port : Port) (v : Word) (s : State) : Out := replied (gated port Prot.CTRL v (armWrite v) s)

/-- CHOP_RESPONSE_TIMEOUT (R281). -/
def execChopResponseTimeout (s : State) : Out := .next (chopTimeout s)

/-- CHFLT_INPUT (R281). -/
def execChfltInput (k : Nat) (active : Bool) (s : State) : Out := .next (chfltInput k active s)

/-- ESC_TIME_EXPIRY (R282). -/
def execEscTimeExpiry (s : State) : Out := .next (escTimeout s)

/-- ESC_CLR (R283). -/
def execEscClr (port : Port) (v : Word) (s : State) : Out := replied (gated port Prot.ESC_CLR v (escClrWrite v) s)

/-- DCL_STALE_TIMEOUT (R280). -/
def execDclStaleTimeout (s : State) : Out := .next (dclTimeout s)

/-- DIS_START (R285). -/
def execDisStart (port : Port) (s : State) : Out := replied (gated port Prot.DIS_CMD 1 (disCmdWrite 1) s)

/-- DIS_STOP (R285). -/
def execDisStop (port : Port) (s : State) : Out := replied (gated port Prot.DIS_CMD 2 (disCmdWrite 2) s)

/-- DIS_TIMEOUT (R285). -/
def execDisTimeout (s : State) : Out := .next (disTimeout s)

/-- KFB_OPEN_TIMEOUT (R285). -/
def execKfbOpenTimeout (s : State) : Out := .next (kfbOpen s)

end Sys2Proof.Machine
end

