-- ==== Sys2Proof/Machine/Foc.lean ====
section
/-! DEFINITION. Field control (R160-R190): the update of a machine, its starts from rest and on the fly, loss of
synchronism, the commands of `FOC.CMD`, and the writes of its pages. -/

namespace Sys2Proof.Machine

/-! ### Triggers -/

/-- The trigger of timebase `t` delivers the sources worked out at the last update of its machines, and calls for the next
(R162). -/
def focTrigger (t : Nat) (s : State) : State :=
  (List.range 4).foldl (fun u m =>
    if machState u m = 0 ∨ machTb u m ≠ t then u
    else
      let h := machOf u m
      let u1 := (List.range h.outs.length).foldl (fun v k => setSrc (0x400 + 32 * m + k) (h.outs.getD k 0) true v) u
      putMach m { h with trigAt := u1.now, trigNew := true, thPred := h.outs.headD h.thPred } u1) s

/-! ### Authorities above field control (R187) -/

/-- The authority of R28 that holds a switch of machine `m` above field control, as a cause: 0xA rank 1, 0xB rank 2, 0xC
ranks 3a and 3b. -/
def overrideCause (s : State) (m : Nat) : Option Nat :=
  let g (r : Nat) : Bool := (machChans s m).any (fun c => decide ((chOf s c).gov = r))
  if g 1 then some 0xA else if g 2 then some 0xB else if g 3 || g 4 then some 0xC else none

/-- The cause that sends machine `m` to FAULT at an update, if any. -/
def updateCause (s : State) (m : Nat) : Option Nat :=
  match overrideCause s m with
  | some c => some c
  | none => if (machOf s m).closed && (machCtxs s m).any (fun n => !ctxLive s n) then some 0xD else none

/-! ### Initial position (R178, R179) -/

/-- A sum of binary32 values, from left to right. -/
def sum32 (l : List Word) : Word := l.foldl F.add 0

/-- Axis angle and contrast of the twelve currents, in the order taken (R179). -/
def ipdEvaluate (l : List Word) : Word × Word :=
  let e := ipdOrder.zip l
  let i0 := F.div (sum32 l) (F.ofNat 12)
  let part (k : Nat) (f : Word → Word) : Word := sum32 (e.map (fun x => F.mul x.2 (f (F.mul (F.ofNat k) (ipdAngle x.1)))))
  let a1x := part 1 Config.cos32
  let a1y := part 1 Config.sin32
  let a2x := part 2 Config.cos32
  let a2y := part 2 Config.sin32
  let c := F.div (magOf a2x a2y) (F.mul (F.ofNat 6) i0)
  let th := F.div (Config.atan2_32 a2y a2x) F.two
  let ok := F.le 0 (Config.cos32 (F.sub (Config.atan2_32 a1y a1x) th))
  (if ok then th else wrapPi (F.add th F.pi), c)

/-- IPD_RESULT of an angle and a contrast (R189). -/
def ipdWord (th c : Word) (ok : Bool) : Word :=
  let a := (f32.nearest (F.mul (F.div th F.twoPi) (F.ofNat 65536)).toNat) % 65536
  let k := min (f32.nearest (F.mul c (F.ofNat 256)).toNat).toNat 255
  word (a.toNat + at' k 16 + at' (bitN ok) 24)

/-- The IPD of machine `m` ends: SYNC at the position found, or NO_SALIENCY. -/
def ipdEnd (m : Nat) (l : List Word) (s : State) : State :=
  let r := ipdEvaluate l
  if F.lt r.2 (s.rd (Foc.IPD_CONTRAST m)) then startFail m 1 (s.wr (Foc.IPD_RESULT m) (ipdWord r.1 r.2 false))
  else
    let s1 := (s.wr (Foc.IPD_RESULT m) (ipdWord r.1 r.2 true)).pulse (Foc.page m) 1
    leaveStop m (machGo m 5 (putMach m { machOf s1 m with theta := r.1, omega := 0 } s1))

/-- Triggers between the ends of two pulses. -/
def ipdSpacing (s : State) (m : Nat) : Nat :=
  let x := (s.rdF (Foc.IPD_TIME m) 15 0 + s.rdF (Foc.IPD_TIME m) 31 16) * 800
  let u := max 1 (trigInterval s (machTb s m))
  (x + u - 1) / u

/-- One trigger of IPD: the current at the end of a pulse, where one ends here. -/
def ipdStep (m : Nat) (s : State) : State :=
  let h := machOf s m
  let ends := match h.pulse with | some t => decide (t ≤ h.trigAt) | none => false
  if ends then
    let val (k : Nat) : Word := match ctxSrc s (setOne s m) k with | some x => (srcNow s x).value | none => 0
    let i := alphaBeta (val 0) (val 1) (val 2)
    let phi := ipdAngle (ipdOrder.getD h.ipd.length 0)
    let l := h.ipd ++ [F.add (F.mul i.1 (Config.cos32 phi)) (F.mul i.2 (Config.sin32 phi))]
    let s1 := putMach m { h with ipd := l, pulse := some (h.trigAt + ipdSpacing s m * trigInterval s (machTb s m)) } s
    if F.lt (s.rd (Foc.IPD_ILIM m)) (magOf i.1 i.2) then startFail m 2 s1
    else if l.length < 12 then s1
    else ipdEnd m l s1
  else s

/-- The first trigger of machine `m`'s timebase at least `wait` cycles from now, by the timing in force. -/
def triggerFrom (s : State) (m wait : Nat) : Nat :=
  let t := machTb s m
  let u : Int := max 1 (trigInterval s t)
  let due : Int := s.now + wait
  let e := trigInstant s t + (if (tbOf s t).updCount < (tbOf s t).trigIdx then u else 0)
  (if due ≤ e then e else e + (due - e + u - 1) / u * u).toNat

/-- Machine `m` enters IPD: its first pulse ends at the first trigger at least PULSE_LEN + 1 µs from now (R178). -/
def enterIpd (m : Nat) (s : State) : State :=
  let t := triggerFrom s m (s.rdF (Foc.IPD_TIME m) 15 0 * 800 + 800)
  machGo m 2 (putMach m { machOf s m with ipd := [], pulse := some t, omega := 0 } (s.wrB (Foc.IPD_RESULT m) 24 false))

/-! ### Catching (R181-R183) -/

/-- One trigger of the catch of a PMSM, the first of which begins the window: the back-EMF, and the check of the line voltages. -/
def catchStep (m : Nat) (s0 : State) : State :=
  let h0 := machOf s0 m
  let t0 := h0.emfAt.getD h0.trigAt
  let s := putMach m { h0 with emfAt := some t0 } s0
  let h := machOf s m
  let v := phaseVolts s m
  match measuredVec s m with
  | none => s
  | some e =>
    let p (k : Nat) : Word := (v.getD k none).getD 0
    let lines := [F.abs (F.sub (p 0) (p 1)), F.abs (F.sub (p 1) (p 2)), F.abs (F.sub (p 2) (p 0))]
    let lim := F.mul 0x3F7AE148 ((linkOf s m).getD F.qnan)
    if lines.any (F.le lim) then startFail m 4 s
    else
      if h.trigAt ≤ t0 + s.rdF (Foc.CATCH_TIME m) 15 0 * 80000 then
        putMach m { h with emf := h.emf ++ [(h.trigAt, e.1, e.2)] } s
      else s

/-- The unwrapped angles of a list of angles. -/
def unwrap : Option (Word × Word) → List Word → List Word
  | _, [] => []
  | none, a :: r => a :: unwrap (some (a, a)) r
  | some (prev, acc), a :: r =>
    let b := F.add acc (wrapPi (F.sub a prev))
    b :: unwrap (some (a, b)) r

/-- The least-squares slope of (t, y). -/
def slope (l : List (Word × Word)) : Word :=
  let n := F.ofNat l.length
  let tm := F.div (sum32 (l.map (·.1))) n
  let ym := F.div (sum32 (l.map (·.2))) n
  F.div (sum32 (l.map (fun p => F.mul (F.sub p.1 tm) (F.sub p.2 ym))))
    (sum32 (l.map (fun p => F.mul (F.sub p.1 tm) (F.sub p.1 tm))))

/-- CATCH_WINDOW_END (R181): the window of a PMSM's catch has ended and its last sample has been taken in. -/
def catchWindowEnd (m : Nat) (s : State) : State :=
  let h := machOf s m
  match h.emfAt with
  | some f =>
    let e := h.emf.getLast?.getD (f, 0, 0)
    let due := f + s.rdF (Foc.CATCH_TIME m) 15 0 * 80000
    if machState s m ≠ 3 ∨ isIm s m ∨ (h.trigNew ∧ h.trigAt ≤ due) then s
    else
      let s1 := s.reach due
      let mags := h.emf.map (fun x => magOf x.2.1 x.2.2)
      if mags.all (fun x => F.lt x (s1.rd (Foc.EMF_MIN m))) then
        (if h.mode = 2 then enterIpd m s1 else startFail m 3 s1)
      else
        let angs := unwrap none (h.emf.map (fun x => Config.atan2_32 x.2.2 x.2.1))
        let ts := h.emf.map (fun x => F.ratio ((x.1 - f : Nat) : Int) 800000000)
        let w := slope (ts.zip angs)
        let mag := magOf e.2.1 e.2.2
        let th := wrapPi (F.sub (Config.atan2_32 e.2.2 e.2.1) (F.mul (F.sgn w) (F.div F.pi F.two)))
        let psi := s1.rd (Foc.PSI m)
        let q := F.div mag (F.abs w)
        if !(F.le (F.mul 0x3F400000 psi) q && F.le q (F.mul 0x3FA00000 psi)) then startFail m 5 s1
        else
          let s2 := ((s1.wr (Foc.CATCH_SPEED m) w).wr (Foc.CATCH_EMF m) mag).pulse (Foc.page m) 2
          leaveStop m (machGo m 5 (putMach m { machOf s2 m with theta := th, omega := w } s2))
  | none => s

/-- P of the frequency search (R183). -/
def searchPower (s : State) (m : Nat) : Option Word :=
  match currentVec s m with
  | some i =>
    let n := setOne s m
    let dq := dqOf i (srcNow s (0x400 + 32 * m)).value
    let p := F.add (F.mul (s.rdL (Ctx.OUT_D n)) dq.1) (F.mul (s.rdL (Ctx.OUT n)) dq.2)
    some (F.sub p (F.mul (s.rd (Foc.RS m)) (F.add (F.mul dq.1 dq.1) (F.mul dq.2 dq.2))))
  | none => none

/-- One update of the frequency search of an induction machine: the first change of sign of P ends it; else the frequency
moves on. -/
def searchStep (m : Nat) (s : State) : State :=
  let h := machOf s m
  if !h.closed then s
  else
    let step := F.mul (s.rd (Foc.SEARCH_RATE m)) (focT s m)
    let next := if h.hint then F.add h.freq step else F.sub h.freq step
    let fm := s.rd (Foc.SEARCH_FMAX m)
    let far := if h.hint then F.le fm h.freq else F.le h.freq (F.neg fm)
    match searchPower s m, h.power with
    | some p, some q =>
      if F.lt (F.mul p q) 0 then
        let last := if h.hint then F.sub h.freq step else F.add h.freq step
        let f := F.add last (F.div (F.mul (F.sub h.freq last) q) (F.sub q p))
        let w := F.mul F.twoPi f
        let s1 := (s.wr (Foc.CATCH_SPEED m) w).pulse (Foc.page m) 2
        machGo m 4 (putMach m { h with omega := w, power := none } s1)
      else if far then startFail m 6 s
      else putMach m { h with freq := next, power := if F.eq p 0 then some q else some p } s
    | p, q =>
      if far then startFail m 6 s
      else putMach m { h with freq := next, power := match p with | some x => (if F.eq x 0 then none else some x) | none => q } s

/-! ### Loss of synchronism (R184) -/

/-- Does machine `m` lose synchronism at this update: residual or acceleration? -/
def losNow (s : State) (m : Nat) (h : MachHid) : Bool :=
  let acc := match h.hist with
    | w :: r => (match r.getD 7 F.qnan with
      | o => F.lt (s.rd (Foc.LOS_ACCEL m)) (F.div (F.abs (F.sub w o)) (F.mul (F.ofNat 8) (focT s m))))
    | [] => false
  decide (max 1 (s.rdF (Foc.LOS_CFG m) 7 0) ≤ h.los) || acc

/-- Machine `m` is blocked at the next update event, and then caught again (R184). -/
def losRecatch (m : Nat) (s : State) : State :=
  let s1 := enterStop m false (machGo m 1 s)
  putMach m { machOf s1 m with recatch := true, recatchAt := some s1.now } s1

/-- The reaction of LOS_REACT. -/
def losReact (m : Nat) (s : State) : State :=
  let h := machOf s m
  let s1 := (putMach m { h with los := 0, hist := [] } (s.pulse (Foc.page m) 3)).incL (Foc.LOS_CNT m)
  match s1.rdF (Foc.LOS_CFG m) 9 8 with
  | 0 => machEvent .warn 3 m s1
  | 1 =>
    (match h.recatchAt with
      | some t =>
        if s1.now ≤ t + 800000000 then machFault m 8 s1 else losRecatch m s1
      | none => losRecatch m s1)
  | 2 => machFault m 8 s1
  | _ => latchSource 44 m (machChans s1 m) (machFault m 8 s1)

/-- The count of residuals and the history of speeds of this update, in SYNC, RUN and STOPPING only. -/
def losCount (m : Nat) (s : State) : State :=
  let h := machOf s m
  if 5 ≤ machState s m ∧ machState s m ≤ 7 then
    let n := if F.lt (s.rd (Foc.LOS_RES m)) h.resid then h.los + 1 else 0
    let h1 := { h with los := n, hist := (h.omega :: h.hist).take 9 }
    let s1 := putMach m h1 s
    if losNow s1 m h1 then losReact m s1 else s1
  else putMach m { h with los := 0, hist := [] } s

/-! ### The update (R162) -/

/-- What the present state does at an update, beside the observer. -/
def stateStep (m : Nat) (s : State) : State :=
  match machState s m with
  | 2 => ipdStep m s
  | 3 => if isIm s m then searchStep m s else catchStep m s
  | 7 =>
    if F.eq (machOf s m).tq 0 then (let asc := stopAsc s m; enterStop m asc (machGo m (if asc then 8 else 1) s)) else s
  | _ => s

/-- Telemetry of the update (R190). -/
def focTelemetry (m : Nat) (o : ObsOut) (s : State) : State :=
  let h := machOf s m
  let p := F.ofNat (s.rdF (Foc.CFG m) 20 16)
  let s1 := ((s.produce (Foc.SPEED_M m) (F.div h.omega p)).wrL (Foc.SPEED_E m) h.omega).wrL (Foc.TORQUE_EST m) o.torque
  ((s1.wrL (Foc.FLUX_EST m) o.flux).wrL (Foc.RESID_MAX m) (F.max (s1.rdL (Foc.RESID_MAX m)) h.resid)).wrL (Foc.POS_M m) h.pos

/-- The body of an update: causes of FAULT, observer, torque reference, set-points, state, loss of synchronism, and the source
values of the next trigger. -/
def focBody (m : Nat) (s0 : State) : State :=
  let s1 := match updateCause s0 m with | some c => machFault m c s0 | none => s0
  let s2 := ascMove m s1
  let o := observe s2 m
  let t := focT s2 m
  let tq := torqueNext s2 m o.h t
  let d := rateStep (s2.rd (Foc.SPEED_RATE m)) t
  let h1 := { o.h with tq := tq, spd := moveTo o.h.spd (s2.rd (Foc.SPEED_REF m)) d d }
  let r := currentRefs s2 m h1
  let h2 := { h1 with slip := slipOf s2 m h1 r.1.2 }
  let s3 := (putMach m h2 s2).wrB (Foc.MSTATE m) 26 o.coast
  let s4 := losCount m (stateStep m (focTelemetry m o s3))
  putMach m { machOf s4 m with outs := focSources s4 m (machOf s4 m) o } s4

/-- The grace and time-out counters of MACH_MIRROR in one word: the time since the state was entered, and since input 0 was written, in
units of 100 µs, 16 bits each. DESIGN CHOICE: R356 leaves their layout open. -/
def mirrorAges (s : State) (since at_ : Nat) : Word :=
  word (min 65535 ((s.now - since) / 80000) + at' (min 65535 ((s.now - at_) / 80000)) 16)

/-- MACH_MIRROR of machine `m` (R356): θ, ω, ψα, ψβ, T*, the PLL integrator, inputs 0 and 1, MSTATE, POS_M, the counters, and ψr. -/
def mirrorMach (m : Nat) (s : State) : State :=
  let h := machOf s m
  let i0 := inputOf s (0x480 + 16 * m)
  let i1 := inputOf s (0x481 + 16 * m)
  if machState s m = 0 then s
  else mirrorSend 2 [m, 0, 0, 0] [h.theta, h.omega, h.psiA, h.psiB, h.tq, h.omega, i0.value, i1.value, s.rd (Foc.MSTATE m), h.pos,
    mirrorAges s h.since i0.at_, h.psiRa, h.psiRb] s

/-- The standby's copy of a machine takes a record. -/
def applyMach (m : Nat) (b : List Nat) (s : State) : State :=
  let w := recWord b
  let h := machOf s m
  let s1 := (putInput (0x481 + 16 * m) (w 7) (putInput (0x480 + 16 * m) (w 6) s)).wr (Foc.MSTATE m) (w 8)
  let i0 : InVal := { value := w 6, written := true, at_ := s.now - fld (w 10) 31 16 * 80000 }
  let s2 : State := { s1 with inputs := KMap.set (fun _ => {}) s1.inputs (0x480 + 16 * m) i0 }
  putMach m { h with theta := w 0, omega := w 5, psiA := w 2, psiB := w 3, tq := w 4, pos := w 9, since := s.now - fld (w 10) 15 0 * 80000,
                     psiRa := w 11, psiRb := w 12 } s2

/-- FOC_UPDATE (R162): the update of machine `m` for the last trigger of its timebase, `dt` cycles after the release of the
sample set and at most 240 ns after it. -/
def focUpdate (m dt : Nat) (s : State) : State :=
  let h := machOf s m
  if 4 ≤ m ∨ !h.trigNew ∨ machState s m = 0 ∨ !tbRun s (machTb s m) then s
  else
    let s1 := takeHeld 2 m (applyMach m) (s.reach (h.trigAt + 200 + min dt 192))
    mirrorMach m (focBody m (putMach m { machOf s1 m with trigNew := false, updAt := s1.now } s1))

/-! ### Timed transitions (R166, R180, R185) -/

/-- The first closed run of machine `m`'s set 1 since field control closed it. -/
def firstClosed (s : State) (m : Nat) : Option Nat := (ctxOf s (setOne s m)).closedAt

/-- Machine `m` enters RUN: T* rises from 0. -/
def enterRun (m : Nat) (s : State) : State := machGo m 6 (putMach m { machOf s m with tq := 0 } s)

/-- SYNC_DWELL_ELAPSED (R180): RUN at the first update at least SYNC_DWELL after the first closed run. -/
def syncDwell (m : Nat) (s : State) : State :=
  match firstClosed s m with
  | some t =>
    let h := machOf s m
    if machState s m = 5 ∧ h.closed ∧ !h.trigNew ∧ t + s.rdF (Foc.CATCH_TIME m) 31 16 * 80000 ≤ h.trigAt then enterRun m s else s
  | none => s

/-- MAG_TIME_ELAPSED (R180): RUN follows MAG_TIME after the first closed run, or after the entry to MAGNETISE where the
contexts were closed for the search. -/
def magTime (m : Nat) (s : State) : State :=
  match firstClosed s m with
  | some t =>
    let h := machOf s m
    if machState s m = 4 ∧ h.closed then
      enterRun m (s.reach (max t (if h.mode = 0 then 0 else h.since) + s.rdF (Foc.MAG_TIME m) 15 0 * 80000))
    else s
  | none => s

/-- TORQUE_INPUT_TIMEOUT (R166). -/
def torqueTimeout (m : Nat) (s : State) : State :=
  if machState s m ≠ 6 ∨ !s.rdB (Foc.TQ_CFG m) 0 ∨ s.rdB (Foc.MSTATE m) 25 then s
  else
    let from' := max (inputOf s (0x480 + 16 * m)).at_ (machOf s m).since
    let s1 := s.reach (from' + s.rdF (Foc.TQ_CFG m) 15 8 * 80000)
    machEvent .warn 0xFF m (s1.wrB (Foc.MSTATE m) 25 true)

/-- ASC_SIDE_ALTERNATE (R185): the side changes at the next update event, at once while the timebase stands. -/
def ascAlternate (m : Nat) (s : State) : State :=
  if s.rdF (Foc.ASC_CFG m) 1 0 ≠ 2 ∨ !ascOn s m ∨ s.prot.ascStop.contains m then s
  else
    let h := machOf s m
    let s1 := s.reach (h.ascAt + s.rdF (Foc.ASC_CFG m) 15 8 * 8000000)
    if tbRun s1 (machTb s1 m) then putMach m { h with ascDue := true } s1 else ascFlip m s1

/-! ### Commands (R177) -/

/-- The rules of R165 for context `n` of winding set `k` (0, 1) of machine `m`. -/
def startCtxOk (s : State) (m n k : Nat) : Bool :=
  let g := if k = 0 then m else 1
  let src (j x : Nat) : Bool := decide (ctxSrc s n j = some (0x400 + 32 * m + x))
  lawFast (ctxLaw s n) && decide (ctxTb s n = machTb s m) && decide (s.rdF (Ctx.DEST n) 11 0 = 0xF00 + g)
    && src 3 (if k = 0 then 0 else 5) && src 6 (if k = 0 then 4 else 7) && src 7 (if k = 0 then 3 else 6)
    && [0, 1, 2, 4].all (fun j => (ctxSrc s n j).isSome)

/-- R174 for a predictive context: PERIOD - L - 240 ns - T_d is at least MIN_CLEAR. -/
def startWindowOk (s : State) (m n : Nat) : Bool :=
  ctxLaw s n = 4 ||
    decide (40 * (tbLead s (machTb s m) + 192) + 5 * machDead8 s m + 32 * s.rdF (Foc.MIN_CLEAR m) 15 0 ≤ 40 * ctxPeriod s n)

/-- START of machine `m` (R165, R174, R175, R177). -/
def focStart (m mode : Nat) (hint : Bool) (s : State) : Reply :=
  let cs := machCtxs s m
  if machState s m ≠ 1 || !tbRun s (machTb s m) then deny s .notInState
  else if mode ≠ 0 && !isIm s m && !vsrcOn s m then deny s .outOfRange
  else if mode ≠ 0 && isIm s m && cs.any (fun n => decide (ctxLaw s n ≠ 4)) then deny s .outOfRange
  else if !(cs.zip [0, 1]).all (fun e => startCtxOk s m e.1 e.2 && startWindowOk s m e.1) then deny s .outOfRange
  else if modNarrow s m (s.rdF (Foc.MIN_CLEAR m) 15 0) || F.eq (s.rd (Foc.STOP_RATE m)) 0 then deny s .outOfRange
  else if !isIm s m && F.eq (s.rd (Foc.IPD_ILIM m)) 0 then deny s .outOfRange
  else if cs.any (fun n => decide (ctxState s n ≠ 1)) then deny s .notInState
  else if mirrorFull s [] then deny s .outOfRange
  else
    let h := machOf s m
    let s1 := putMach m { h with
      mode := mode, hint := hint, pos := 0, startAt := s.now, los := 0, hist := [], recatch := false, openPend := false } s
    accept (if mode ≠ 0 then enterCatch m mode hint s1
      else if isIm s m then leaveStop m (machGo m 4 (putMach m { machOf s1 m with theta := 0, omega := 0, psiRa := 0, psiRb := 0, slip := 0 } s1))
      else enterIpd m s1)

/-- STOP. -/
def focStop (m : Nat) (s : State) : Reply :=
  let st := machState s m
  if st = 4 ∨ st = 5 ∨ st = 6 then accept (machGo m 7 s) else deny s .notInState

/-- ASC. -/
def focAsc (m : Nat) (s : State) : Reply :=
  let st := machState s m
  if 1 ≤ st ∧ st ≤ 7 then accept (enterStop m true (machGo m 8 s)) else deny s .notInState

/-- BLOCK. -/
def focBlock (m : Nat) (s : State) : Reply :=
  let st := machState s m
  if st = 1 ∨ 9 ≤ st then deny s .notInState else accept (enterStop m false (machGo m 1 s))

/-- RELEASE. -/
def focRelease (m : Nat) (s : State) : Reply :=
  let st := machState s m
  if (st ≠ 1 ∧ st ≠ 8) ∨ (machCtxs s m).any (ctxLive s) then deny s .notInState
  else
    let s1 := putMach m { machOf s m with openPend := false, closePend := false, relPend := false, closed := false, recatch := false } s
    accept (machGo m 0 (dropForce .machine m (s1.wrB (Foc.MSTATE m) 26 false)))

/-- Does the cause of machine `m`'s FAULT persist? -/
def causePersists (s : State) (m : Nat) : Bool :=
  let c := s.rdF (Foc.MSTATE m) 15 8
  if 0xA ≤ c ∧ c ≤ 0xC then decide (overrideCause s m = some c)
  else if c = 9 then modNarrow s m (s.rdF (Foc.MIN_CLEAR m) 15 0)
  else if c = 0xE then !tbRun s (machTb s m)
  else if c = 0xF then s.rdB (Foc.CFG m) 2 && !inTandem s
  else false

/-- CLEAR: the machine enters the stop state of STOP_END, with its forced state (R176, R177). -/
def focClear (m : Nat) (s : State) : Reply :=
  if machState s m ≠ 9 then deny s .notInState
  else if causePersists s m then deny s .tripPersist
  else accept (retryScan (enterStop m (stopAsc s m) (machGo m (if stopAsc s m then 8 else 1) (machCause m 0 s))))

/-- A write of `FOC.CMD` of machine `m` (R161, R177, R189). -/
def focCmdWrite (m : Nat) (v : Word) (s : State) : Reply :=
  let op := fld v 3 0
  let mode := fld v 5 4
  if op = 0 ∨ 6 < op ∨ (op = 1 ∧ mode = 3) then deny s .outOfRange
  else if m = 1 ∧ s.rdB (Foc.CFG 0) 2 then deny s .notInState
  else
    match op with
    | 1 => focStart m mode (bit v 6) s
    | 2 => focStop m s
    | 3 => focAsc m s
    | 4 => focBlock m s
    | 5 => focRelease m s
    | _ => focClear m s

/-! ### Register writes (R188, R189) -/

/-- Is a value in [0.01, 0.5]? -/
def inTestRange (v : Word) : Bool := F.isFin v && F.le 0x3C23D70A v && F.le v F.half

/-- Is a value within the range of the register at offset `o` of machine `m`'s page? -/
def focRange (s : State) (m o : Nat) (v : Word) : Bool :=
  match o with
  | 0x40 => decide (fld v 1 0 ≤ 1) && decide (fld v 9 8 ≤ 2) && decide (1 ≤ fld v 20 16)
      && (!bit v 2 || (decide (m = 0) && inTandem s && decide (machState s 1 = 0)))
  | 0x50 | 0x54 | 0x64 | 0x68 | 0x84 | 0x88 | 0xB8 => F.isFin v && F.pos v
  | 0x58 | 0xB0 => F.isFin v && (!isIm s m || F.pos v)
  | 0x5C | 0x74 | 0x78 | 0x7C | 0xA0 => F.nonneg v
  | 0x60 | 0x6C | 0x70 | 0x8C | 0x90 | 0xAC | 0xB4 => F.isFin v
  | 0x80 => decide (1 ≤ fld v 15 8) && decide (64 ≤ fld v 23 16 ∧ fld v 23 16 ≤ 192)
  | 0x94 => decide (1 ≤ fld v 7 0) && !(decide (fld v 9 8 = 1) && !isIm s m && !vsrcOn s m)
  | 0x98 | 0xA4 => inTestRange v
  | 0x9C => decide (5 ≤ fld v 15 0 ∧ fld v 15 0 ≤ 1000) && decide (10 ≤ fld v 31 16 ∧ fld v 31 16 ≤ 20000)
  | 0xA8 => decide (5 ≤ fld v 15 0 ∧ fld v 15 0 ≤ 500) && decide (1 ≤ fld v 31 16 ∧ fld v 31 16 ≤ 1000)
  | 0xBC => decide (1 ≤ fld v 15 0 ∧ fld v 15 0 ≤ 20000)
  | 0xC0 => decide (fld v 1 0 ≠ 3) && (decide (m < 2) || decide (fld v 1 0 = 0)) && decide (1 ≤ fld v 15 8)
  | 0xC4 => !modNarrow s m (fld v 15 0)
  | _ => true

/-- Is the register at offset `o` marked RW/L†? -/
def focHeld (o : Nat) : Bool :=
  decide (0x40 ≤ o ∧ o ≤ 0x68) || decide (o = 0x84 ∨ o = 0x88) || decide (0x98 ≤ o ∧ o ≤ 0xBC)

/-- The defined bits of VSRC_AB and VSRC_C (R9, R188). -/
def vsrcMask (o : Nat) : Word := if o = 0x48 then 0x8FFF8FFF else 0x8FFF

/-- Writes of machine `m`'s page. -/
def focWrite (a : Nat) (v : Word) (s : State) : Reply :=
  let m := pageOf a - 0x100
  let o := a % 4096
  let st := machState s m
  if o = 0xC8 then focCmdWrite m v s
  else if !focRange s m o v then deny s .outOfRange
  else if (o = 0x48 ∨ o = 0x4C) ∧ selectCode s (v &&& vsrcMask o) ≠ .none then deny s (selectCode s (v &&& vsrcMask o))
  else if focHeld o && decide (st ≠ 0 ∧ st ≠ 1 ∧ st ≠ 9) then deny s .notInState
  else plainWrite a v s

/-- What a read of a machine's register gives where it is not the stored value (R161). -/
def focView (a : Nat) (s : State) : Word :=
  let m := pageOf a - 0x100
  if a % 4096 = 0xCC then setFld (s.rd a) 3 0 (shownState s m) else s.rd a

/-! ### Meanings -/

/-- FOC_UPDATE (R162). -/
def execFocUpdate (m dt : Nat) (s : State) : Out := .next (focUpdate m dt s)

/-- CATCH_WINDOW_END (R181). -/
def execCatchWindowEnd (m : Nat) (s : State) : Out := .next (catchWindowEnd m s)

/-- SYNC_DWELL_ELAPSED (R180). -/
def execSyncDwellElapsed (m : Nat) (s : State) : Out := .next (syncDwell m s)

/-- MAG_TIME_ELAPSED (R180). -/
def execMagTimeElapsed (m : Nat) (s : State) : Out := .next (magTime m s)

/-- TORQUE_INPUT_TIMEOUT (R166). -/
def execTorqueInputTimeout (m : Nat) (s : State) : Out := .next (torqueTimeout m s)

/-- ASC_SIDE_ALTERNATE (R185). -/
def execAscSideAlternate (m : Nat) (s : State) : Out := .next (ascAlternate m s)

/-- The `FOC.CMD` write of `port` to machine `m` (0-3). -/
def focCommand (port : Port) (m : Nat) (v : Word) (s : State) : Out :=
  replied (gated port (Foc.CMD (m % 4)) v (focCmdWrite (m % 4) v) s)

/-- FOC_START (R177): MODE and DIR_HINT. -/
def execFocStart (port : Port) (m mode : Nat) (hint : Bool) (s : State) : Out :=
  focCommand port m (word (1 + at' (mode % 4) 4 + at' (bitN hint) 6)) s

/-- FOC_STOP (R177). -/
def execFocStop (port : Port) (m : Nat) (s : State) : Out := focCommand port m 2 s

/-- FOC_ASC (R177). -/
def execFocAsc (port : Port) (m : Nat) (s : State) : Out := focCommand port m 3 s

/-- FOC_BLOCK (R177). -/
def execFocBlock (port : Port) (m : Nat) (s : State) : Out := focCommand port m 4 s

/-- FOC_RELEASE (R177). -/
def execFocRelease (port : Port) (m : Nat) (s : State) : Out := focCommand port m 5 s

/-- FOC_CLEAR (R177). -/
def execFocClear (port : Port) (m : Nat) (s : State) : Out := focCommand port m 6 s

end Sys2Proof.Machine
end

