-- ==== Sys2Proof/Machine/Prof.lean ====
section
/-! DEFINITION. Reference profiles and Lull (R191-R209): the tick of a channel, its commands, and the writes of its page. -/

namespace Sys2Proof.Machine

/-- Hidden state of profile channel `ch`. -/
def profOf (s : State) (ch : Nat) : ProfHid := KMap.get (fun _ => {}) s.prof ch

/-- Put the hidden state of profile channel `ch`. -/
def putProf (ch : Nat) (h : ProfHid) (s : State) : State := { s with prof := KMap.set (fun _ => {}) s.prof ch h }

/-! ### The ramp (R194) -/

/-- A ramp set: A1, A2, D2, D1, V_START, V_BREAK, V_MAX, V_DBREAK, V_STOP. -/
structure RampSet where
  a1 : Word
  a2 : Word
  d2 : Word
  d1 : Word
  vStart : Word
  vBreak : Word
  vMax : Word
  vDbreak : Word
  vStop : Word
  deriving DecidableEq, Repr

/-- The set of nine words in register order. -/
def rampOf (l : List Word) : RampSet :=
  let w (j : Nat) : Word := l.getD j 0
  ⟨w 0, w 1, w 2, w 3, w 4, w 5, w 6, w 7, w 8⟩

/-- The active set of channel `ch`. -/
def activeSet (s : State) (ch : Nat) : List Word := (List.range 9).map (fun j => s.rd (Prof.ACT_A1 ch j))

/-- The shadow set of channel `ch`. -/
def shadowSet (s : State) (ch : Nat) : List Word := (List.range 9).map (fun j => s.rd (Prof.A1 ch + 4 * j))

/-- The checks of R194. -/
def rampOk (l : List Word) : Bool :=
  let r := rampOf l
  l.all F.isFin && F.pos r.a1 && F.pos r.a2 && F.pos r.d2 && F.pos r.d1 && F.pos r.vMax
    && F.le 0 r.vStart && F.le r.vStart r.vBreak && F.le r.vBreak r.vMax
    && F.le 0 r.vStop && F.le r.vStop r.vDbreak && F.le r.vDbreak r.vMax

/-- acc(s). -/
def RampSet.acc (r : RampSet) (v : Word) : Word := if F.lt v r.vBreak then r.a1 else r.a2

/-- dec(s). -/
def RampSet.dec (r : RampSet) (v : Word) : Word := if F.lt r.vDbreak v then r.d2 else r.d1

/-- v_allow(rem). -/
def RampSet.allow (r : RampSet) (rem : Word) : Word :=
  let sq (x : Word) : Word := F.mul x x
  let two1 := F.mul F.two r.d1
  let d := F.div (F.sub (sq r.vDbreak) (sq r.vStop)) two1
  if F.le rem d then F.sqrt (F.add (sq r.vStop) (F.mul two1 rem))
  else F.sqrt (F.add (sq r.vDbreak) (F.mul (F.mul F.two r.d2) (F.sub rem d)))

/-! ### One tick (R195-R198) -/

/-- The sign of a binary64 value. -/
def sign64 (x : Word64) : Int := if D.lt x 0 then -1 else if D.lt 0 x then 1 else 0

/-- The sign of a binary32 value. -/
def sign32 (x : Word) : Int := if F.lt x 0 then -1 else if F.lt 0 x then 1 else 0

/-- A magnitude in a direction. -/
def along (dir : Int) (x : Word) : Word := if dir < 0 then F.neg x else if dir = 0 then 0 else x

/-- What a tick starts from, and what it leaves: state of R202, speed magnitude, whether it arrived, reversed, or held the
turnaround. -/
structure TickSt where
  st : Nat
  h : ProfHid
  arrived : Bool := false
  reversed : Bool := false
  stopped : Bool := false
  turned : Bool := false
  /-- rev became 1 in this tick -/
  lost : Bool := false
  deriving DecidableEq, Repr

/-- The tick in binary32 seconds and binary64 seconds. -/
def tick32 (s : State) (ch : Nat) : Word := F.ratio (s.rdF (Prof.PCFG ch) 15 8) 100000
def tick64 (s : State) (ch : Nat) : Word64 := BitVec.ofNat 64 (f64.ofRatio (s.rdF (Prof.PCFG ch) 15 8) 100000)

/-- Speed `s` in the direction of travel for one tick: v and pos follow (the last line of R195). -/
def travel (t64 : Word64) (sp : Word) (r : TickSt) : TickSt :=
  let v := along r.h.dir sp
  { r with h := { r.h with v := v, pos := D.add r.h.pos (D.mul (D.of32 v) t64) } }

/-- The ramp down without a target (R195). -/
def rampDown (r : RampSet) (t : Word) (sp : Word) (x : TickSt) : Word × TickSt :=
  let z := F.sub sp (F.mul (r.dec sp) t)
  if F.le z r.vStop then
    (0, if x.h.rev then { x with h := { x.h with rev := false, turn := true }, reversed := true }
        else if x.st = 3 then { x with st := 1, stopped := true }
        else if x.st = 4 then { x with st := 5 }
        else x)
  else (z, x)

/-- The distance to the target in the direction of travel. -/
def remOf (h : ProfHid) : Word :=
  let d := D.to32 (D.sub h.tgt h.pos)
  along h.dir d

/-- A tick in position mode (R195). -/
def tickPos (r : RampSet) (t : Word) (t64 : Word64) (tol cap : Word) (x : TickSt) : TickSt :=
  let sp := F.abs x.h.v
  if x.h.turn then
    { x with h := { x.h with turn := false, dir := sign64 (D.sub x.h.tgt x.h.pos), v := 0 }, turned := true }
  else
    let rem := remOf x.h
    let move := decide (x.st = 2)
    let lose := move && (F.lt rem 0 || F.lt (F.add (r.allow rem) (F.mul (r.dec sp) t)) sp)
    let y : TickSt := if lose then { x with h := { x.h with rev := true }, lost := !x.h.rev } else x
    if move && !y.h.rev && F.le rem (F.max tol (F.mul sp t)) then
      { y with st := 1, h := { y.h with pos := y.h.tgt, v := 0 }, arrived := true }
    else if !move || y.h.rev then (let z := rampDown r t sp y; travel t64 z.1 z.2)
    else if F.lt cap sp then travel t64 (F.max cap (F.sub sp (F.mul (r.dec sp) t))) y
    else
      let up := if F.eq sp 0 then r.vStart else F.add sp (F.mul (r.acc sp) t)
      travel t64 (F.min up (F.min cap (r.allow rem))) y

/-- A tick in speed mode (R197): the channel turns round while the target's sign differs from the direction of travel. -/
def tickSpeed (r : RampSet) (t : Word) (t64 : Word64) (cap : Word) (x : TickSt) : TickSt :=
  let sp := F.abs x.h.v
  let goal := F.min (F.abs x.h.tgtV) cap
  let sg := sign32 x.h.tgtV
  if x.h.turn then { x with h := { x.h with turn := false, dir := sg, v := 0 }, turned := true }
  else if x.st ≠ 2 then (let z := rampDown r t sp x; travel t64 z.1 z.2)
  else
    let y : TickSt := { x with h := { x.h with rev := decide (sg ≠ 0 ∧ sg ≠ x.h.dir) } }
    if sg = 0 then
      let z := F.sub sp (F.mul (r.dec sp) t)
      if F.le z r.vStop then travel t64 0 { y with st := 1, arrived := true } else travel t64 z y
    else if y.h.rev then (let z := rampDown r t sp y; travel t64 z.1 z.2)
    else if F.lt goal sp then travel t64 (F.max goal (F.sub sp (F.mul (r.dec sp) t))) y
    else
      let up := if F.eq sp 0 then r.vStart else F.add sp (F.mul (r.acc sp) t)
      travel t64 (F.min up goal) y

/-- SEG of a tick from its speeds (R198). -/
def segOf (r : RampSet) (before : Word) (x : TickSt) : Nat :=
  let a := F.abs before
  let b := F.abs x.h.v
  if x.turned then 6
  else if F.eq b 0 && !x.h.turn then 0
  else if F.lt a b then (if F.lt a r.vBreak then 1 else 2)
  else if F.lt b a then (if F.lt r.vDbreak a then 4 else 5)
  else if F.eq b 0 then 0
  else 3

/-! ### Transitions -/

/-- PSTATE.STATE of channel `ch`; IRQ_RAW[3] follows FAULT (R206). -/
def profGo (ch st : Nat) (s : State) : State :=
  ((if profState s ch = 0 then s.stampNow (Prof.POS_LO ch) else s).wrF (Prof.PSTATE ch) 2 0 st).raw (Prof.page ch) 3 (decide (st = 5))

/-- Put CAUSE (R201). -/
def profCause (ch c : Nat) (s : State) : State := s.wrF (Prof.PSTATE ch) 23 16 c

/-- An event of channel `ch` with PSTATE as detail (R434). -/
def profEvent (cls : EvClass) (code ch : Nat) (s : State) : State := s.emit cls (Prof.page ch) code ch (s.rd (Prof.PSTATE ch))

/-- Entry to FAULT with its event (R201). -/
def profFault (ch : Nat) (s : State) : State :=
  let s1 := profGo ch 5 s
  profEvent .fault (0x20 + s1.rdF (Prof.PSTATE ch) 23 16) ch s1

/-- Is channel `ch` bound, and to which machine? -/
def profBound (s : State) (ch : Nat) : Bool := s.rdB (Prof.PCFG ch) 1
def profMach (s : State) (ch : Nat) : Nat := s.rdF (Prof.PCFG ch) 3 2

/-- A set becomes active (R199). -/
def activate (ch : Nat) (l : List Word) (s : State) : State :=
  let s1 := (List.range 9).foldl (fun t j => t.wr (Prof.ACT_A1 ch j) (l.getD j 0)) s
  (putProf ch { profOf s1 ch with waitSet := none, nextSet := none } (s1.wrB (Prof.PSTATE ch) 8 false)).pulse (Prof.page ch) 6

/-- The latched targets are those that stand in the registers. -/
def latchTarget (s : State) (ch : Nat) (h : ProfHid) : ProfHid :=
  { h with tgt := D.mk (s.rd (Prof.TGT_LO ch)) (s.rd (Prof.TGT_HI ch)), tgtV := s.rd (Prof.TGT_SPEED ch) }

/-- The direction from rest to the latched target of channel `ch`. -/
def wayTo (s : State) (ch : Nat) : Int :=
  let h := profOf s ch
  if s.rdB (Prof.PCFG ch) 0 then sign32 h.tgtV else sign64 (D.sub h.tgt h.pos)

/-- A move starts from rest. -/
def startMove (ch : Nat) (s : State) : State :=
  let h := profOf s ch
  let dir := wayTo s ch
  putProf ch { h with dir := dir, rev := false, turn := false, v := 0, dwellAt := none } (profGo ch 2 s)

/-- A machine start that fails in WAKE (R201). -/
def wakeFail (ch : Nat) (s : State) : State := profFault ch (profCause ch 2 s)

/-- What the bound machine's state brings about before a tick computes (R201, R202). -/
def profMachine (ch : Nat) (s : State) : State :=
  if !profBound s ch then s
  else
    let m := machState s (profMach s ch)
    let h := profOf s ch
    match profState s ch with
    | 2 | 3 => if m = 6 then s else profGo ch 4 (profCause ch 1 s)
    | 6 => if m = h.lullState then s else profEvent .info 0xFF ch (profGo ch 1 (putProf ch { h with dwellAt := none } s))
    | 7 =>
      if m = 6 then
        let s1 := s.pulse (Prof.page ch) 5
        if h.dropped then profGo ch 1 s1 else startMove ch s1
      else if m = 0 ∨ m = 1 ∨ m = 8 ∨ m = 9 then wakeFail ch s
      else s
    | _ => s

/-- Does all but the machine's state let the Lull dwell of channel `ch` count now (R203)? -/
def lullStill (s : State) (ch : Nat) : Bool :=
  let w := srcNow s (0x402 + 32 * profMach s ch)
  profBound s ch && s.rdB (Prof.LULL_CFG ch) 16 && decide (profState s ch = 1) && w.valid
    && F.lt (F.abs w.value) (s.rd (Prof.LULL_SPEED ch))

/-- Does the Lull dwell of channel `ch` count now (R203)? -/
def lullCounts (s : State) (ch : Nat) : Bool := lullStill s ch && decide (machState s (profMach s ch) = 6)

/-- Does the Lull command of channel `ch` fall due? A command that has taken the machine out of RUN since its last update reaches it in the
same update as Lull's, and before it (R205). -/
def lullDue (s : State) (ch : Nat) : Bool :=
  let h := machOf s (profMach s ch)
  lullStill s ch && (decide (machState s (profMach s ch) = 6) || decide (h.updAt < h.since))

/-- The dwell timer runs on or starts afresh. -/
def lullTimer (ch : Nat) (s : State) : State :=
  let h := profOf s ch
  let d : Option Nat := if lullCounts s ch then (match h.dwellAt with | some t => some t | none => some s.now) else none
  putProf ch { h with dwellAt := d } s

/-! ### PROFILE_TICK (R193, R195-R200) -/

/-- The cap of a tick: the lesser of V_MAX and the input; a negative input acts as 0 (R192, R195). -/
def profCap (s : State) (ch : Nat) (vmax : Word) : Word :=
  let i := inputOf s (0x580 + 16 * ch)
  if i.written then F.min vmax (F.max i.value 0) else vmax

/-- The move of one tick under a cap. -/
def profCompute (s : State) (ch : Nat) (cap : Word) : TickSt :=
  let h := profOf s ch
  let r := rampOf (activeSet s ch)
  let x : TickSt := { st := profState s ch, h := h }
  if 2 ≤ x.st ∧ x.st ≤ 4 then
    (if s.rdB (Prof.PCFG ch) 0 then tickSpeed r (tick32 s ch) (tick64 s ch) cap x
     else tickPos r (tick32 s ch) (tick64 s ch) (s.rd (Prof.POS_TOL ch)) cap x)
  else { x with h := { h with v := 0 } }

/-- The sources of channel `ch` after a tick (R192). -/
def profDeliver (ch : Nat) (accel : Word) (s : State) : State :=
  let h := profOf s ch
  let p := D.to32 h.pos
  let u := s.rd (Prof.UNIT ch)
  let moving := decide (2 ≤ profState s ch ∧ profState s ch ≤ 4)
  let rem := if s.rdB (Prof.PCFG ch) 0 || !moving then 0 else remOf h
  let vals := [p, h.v, accel, F.div h.v u, F.div p u, rem]
  let s1 := (List.range 6).foldl (fun t k => setSrc (0x500 + 16 * ch + k) (vals.getD k 0) true t) s
  let s2 := ((s1.produce (Prof.POS_LO ch) (D.lo h.pos)).wrL (Prof.POS_HI ch) (D.hi h.pos)).wrL (Prof.SPEED ch) h.v
  (s2.wrL (Prof.ACCEL ch) accel).wrL (Prof.REM ch) rem

/-- What a computed tick brings about: states, interrupts, counts, MISS (R196, R200, R201). -/
def profOutcome (ch : Nat) (fresh : Bool) (x : TickSt) (s : State) : State :=
  let old := profState s ch
  let s1 := putProf ch x.h s
  let s2 := if x.arrived then ((profGo ch 1 s1).wrB (Prof.PSTATE ch) 9 false).pulse (Prof.page ch) 0 else s1
  let s3 := if x.stopped then (profGo ch 1 s2).pulse (Prof.page ch) 2 else s2
  let s4 := if x.reversed then (s3.pulse (Prof.page ch) 7).incL (Prof.REV_CNT ch) else s3
  let s5 := if fresh && x.lost then
      profEvent .warn 1 ch (((s4.wrB (Prof.PSTATE ch) 9 true).pulse (Prof.page ch) 1).incL (Prof.MISS_CNT ch)) else s4
  if old = 4 ∧ x.st = 5 then profFault ch s5 else s5

/-- One tick of channel `ch` at the present instant. -/
def profTickBody (ch : Nat) (s0 : State) : State :=
  let h0 := profOf s0 ch
  let fresh := h0.nextSet.isSome
  let s1 := match h0.nextSet with | some l => activate ch l s0 | none => s0
  let s2 := profMachine ch s1
  let r := rampOf (activeSet s2 ch)
  let cap := profCap s2 ch r.vMax
  let x := profCompute s2 ch cap
  let capped := F.lt cap r.vMax && decide ((profCompute s2 ch r.vMax).h.v ≠ x.h.v)
  let v0 := (profOf s2 ch).v
  let accel := F.div (F.sub x.h.v v0) (tick32 s2 ch)
  let seg := segOf r v0 x
  let boundary := decide (seg ≠ s2.rdF (Prof.PSTATE ch) 6 4)
  let s3 := profOutcome ch fresh x s2
  let s4 := ((s3.wrF (Prof.PSTATE ch) 6 4 seg).wrB (Prof.PSTATE ch) 10 (x.h.rev || x.h.turn)).wrB (Prof.PSTATE ch) 11 capped
  let h := profOf s4 ch
  let s5 := if boundary && h.waitSet.isSome then
      putProf ch { h with nextSet := h.waitSet, waitSet := none } (s4.wrB (Prof.PSTATE ch) 8 false) else s4
  lullTimer ch (profDeliver ch accel s5)

/-- PROF_MIRROR of channel `ch` (R356): position, v, rev, turn, dir, PSTATE, the dwell in cycles, the latched target. -/
def mirrorProf (ch : Nat) (s : State) : State :=
  let h := profOf s ch
  let dwell : Word := match h.dwellAt with | some t => word (s.now - t) | none => 0xFFFFFFFF
  let tgt := if s.rdB (Prof.PCFG ch) 0 then [h.tgtV, 0] else [D.hi h.tgt, D.lo h.tgt]
  if profState s ch = 0 then s
  else mirrorSend 3 [ch, 0, 0, 0] ([D.hi h.pos, D.lo h.pos, h.v, word (bitN h.rev), word (bitN h.turn), BitVec.ofInt 32 h.dir,
    s.rd (Prof.PSTATE ch), dwell] ++ tgt) s

/-- The standby's copy of a channel takes a record. -/
def applyProf (ch : Nat) (b : List Nat) (s : State) : State :=
  let w := recWord b
  let h := profOf s ch
  let spd := s.rdB (Prof.PCFG ch) 0
  putProf ch { h with
    pos := D.mk (w 1) (w 0), v := w 2, rev := decide (w 3 ≠ 0), turn := decide (w 4 ≠ 0), dir := (w 5).toInt
    dwellAt := if w 7 = 0xFFFFFFFF then none else some (s.now - (w 7).toNat)
    tgt := if spd then h.tgt else D.mk (w 9) (w 8), tgtV := if spd then w 8 else h.tgtV } (s.wr (Prof.PSTATE ch) (w 6))

/-- PROFILE_TICK (R193): the next tick of channel `ch`. -/
def profTick (ch : Nat) (s : State) : State :=
  if 4 ≤ ch ∨ !s.inService ∨ profState s ch = 0 then s
  else
    let p := max 1 (s.rdF (Prof.PCFG ch) 15 8) * 8000
    let due := ((profOf s ch).tickAt / p + 1) * p
    let s1 := s.reach (s.ofTick due)
    let s2 := takeHeld 3 ch (applyProf ch) s1
    mirrorProf ch (profTickBody ch (putProf ch { profOf s2 ch with tickAt := due } s2))

/-! ### Lull (R203-R205) -/

/-- Keep the refusal code of a command to field control. -/
def fcCode (ch : Nat) (c : RefCode) (s : State) : State := s.wrF (Prof.PSTATE ch) 31 24 c.num

/-- LULL_DWELL_EXPIRY (R203): BLOCK or ASC to the machine, and LULL. -/
def lullExpiry (ch : Nat) (s : State) : State :=
  match (profOf s ch).dwellAt with
  | none => s
  | some t =>
    if !lullDue s ch then s
    else
      let s1 := s.reach (t + s.rdF (Prof.LULL_CFG ch) 15 0 * 8000000)
      let asc := s1.rdB (Prof.LULL_CFG ch) 17
      let r := if asc then focAsc (profMach s1 ch) s1 else focBlock (profMach s1 ch) s1
      match r.2 with
      | .none =>
        let h := { profOf r.1 ch with dwellAt := none, lullState := if asc then 8 else 1 }
        let s2 := ((putProf ch h (profGo ch 6 r.1)).pulse (Prof.page ch) 4).incL (Prof.LULL_CNT ch)
        profEvent .info 4 ch s2
      | c =>
        let s2 := putProf ch { profOf s1 ch with dwellAt := some s1.now } (fcCode ch c (profCause ch 3 s1))
        profEvent .warn 0x23 ch s2

/-- A MOVE in LULL wakes the machine (R204). -/
def profWake (ch : Nat) (s : State) : State :=
  let m := profMach s ch
  let s0 := putProf ch { profOf s ch with dropped := false, dwellAt := none } (profGo ch 7 s)
  let b : Reply := if machState s0 m = 8 then focBlock m s0 else (s0, .none)
  let r : Reply := match b.2 with
    | .none => focStart m (s0.rdF (Prof.LULL_CFG ch) 19 18) false b.1
    | _ => b
  match r.2 with
  | .none => fcCode ch .none r.1
  | c => wakeFail ch (fcCode ch c (if b.2 = .none then b.1 else s0))

/-! ### Commands (R199, R202) -/

/-- ENABLE. -/
def profEnable (ch : Nat) (s : State) : Reply :=
  if profState s ch ≠ 0 then deny s .notInState
  else if !rampOk (activeSet s ch) || mirrorFull s [max 1 (s.rdF (Prof.PCFG ch) 15 8) * 8000] then deny s .outOfRange
  else
    let h := { profOf s ch with v := 0, rev := false, turn := false, tickAt := s.engine, dwellAt := none }
    let s1 : State := { s with inputs := KMap.dropWhere (fun k => decide (k = 0x580 + 16 * ch)) s.inputs }
    accept (profGo ch 1 (putProf ch h s1))

/-- Is the target that MOVE would latch finite? -/
def targetOk (s : State) (ch : Nat) : Bool :=
  let h := latchTarget s ch {}
  if s.rdB (Prof.PCFG ch) 0 then F.isFin h.tgtV else D.isFin h.tgt

/-- MOVE. -/
def profMove (ch : Nat) (s : State) : Reply :=
  let st := profState s ch
  let h := latchTarget s ch (profOf s ch)
  if st = 6 then
    (if !targetOk s ch then deny s .outOfRange else accept (profWake ch ((putProf ch h s).wrB (Prof.PSTATE ch) 9 false)))
  else if st = 0 ∨ 3 < st then deny s .notInState
  else if profBound s ch && decide (machState s (profMach s ch) ≠ 6) then deny s .notInState
  else if !targetOk s ch then deny s .outOfRange
  else
    let s1 := (putProf ch { h with dwellAt := none } s).wrB (Prof.PSTATE ch) 9 false
    let still := F.eq h.v 0 && !h.turn
    accept (if st = 1 then startMove ch s1
      else if still then profGo ch 2 (putProf ch { profOf s1 ch with dir := wayTo s1 ch, rev := false } s1)
      else profGo ch 2 s1)

/-- STOP. -/
def profStop (ch : Nat) (s : State) : Reply :=
  match profState s ch with
  | 2 => accept (profGo ch 3 s)
  | 7 => accept (putProf ch { profOf s ch with dropped := true } s)
  | _ => deny s .notInState

/-- APPLY (R194, R199). -/
def profApply (ch : Nat) (imm : Bool) (s : State) : Reply :=
  let l := shadowSet s ch
  let st := profState s ch
  let h := profOf s ch
  if !rampOk l then deny s .outOfRange
  else if st = 0 ∨ st = 1 ∨ st = 5 ∨ st = 6 then accept (activate ch l s)
  else if imm then accept (putProf ch { h with waitSet := none, nextSet := some l } (s.wrB (Prof.PSTATE ch) 8 false))
  else accept (putProf ch { h with waitSet := some l, nextSet := none } (s.wrB (Prof.PSTATE ch) 8 true))

/-- CLEAR. -/
def profClear (ch : Nat) (s : State) : Reply :=
  if profState s ch ≠ 5 then deny s .notInState
  else if profBound s ch && decide (machState s (profMach s ch) = 9) then deny s .tripPersist
  else accept (profGo ch 1 s)

/-- Is channel `ch` at rest in OFF, HOLD, LULL or FAULT? -/
def profResting (s : State) (ch : Nat) : Bool :=
  let st := profState s ch
  decide (st = 0 ∨ st = 1 ∨ st = 5 ∨ st = 6)

/-- DISABLE. -/
def profDisable (ch : Nat) (s : State) : Reply :=
  if profResting s ch then accept (putProf ch { profOf s ch with dwellAt := none } (profGo ch 0 s)) else deny s .notInState

/-- SET_POS. -/
def profSetPos (ch : Nat) (s : State) : Reply :=
  let p := D.mk (s.rd (Prof.TGT_LO ch)) (s.rd (Prof.TGT_HI ch))
  if !profResting s ch then deny s .notInState
  else if !D.isFin p then deny s .outOfRange
  else accept (putProf ch { profOf s ch with pos := p } s)

/-- A write of `PCMD`. -/
def pcmdWrite (ch : Nat) (v : Word) (s : State) : Reply :=
  match fld v 3 0 with
  | 1 => profEnable ch s
  | 2 => profMove ch s
  | 3 => profStop ch s
  | 4 => profApply ch (bit v 4) s
  | 5 => profClear ch s
  | 6 => profDisable ch s
  | 7 => profSetPos ch s
  | _ => deny s .outOfRange

/-! ### Register writes (R206, R207) -/

/-- Is a value within the range of the register at offset `o`? -/
def profRange (s : State) (ch o : Nat) (v : Word) : Bool :=
  match o with
  | 0x40 => decide (1 ≤ fld v 15 8 ∧ fld v 15 8 ≤ 100)
  | 0x70 => F.isFin v
  | 0x74 | 0x7C => F.nonneg v
  | 0x78 => F.isFin v && F.pos v
  | 0x80 => decide (1 ≤ fld v 15 0) && (!bit v 16 || profBound s ch) && decide (fld v 19 18 = 0 ∨ fld v 19 18 = 2)
  | _ => !decide (0x44 ≤ o ∧ o ≤ 0x64) || F.isFin v

/-- Writes of a profile channel's page. -/
def profWrite (a : Nat) (v : Word) (s : State) : Reply :=
  let ch := pageOf a - 0x120
  let o := a % 4096
  if o = 0x84 then pcmdWrite ch v s
  else if !profRange s ch o v then deny s .outOfRange
  else if (o = 0x40 ∨ o = 0x78) ∧ profState s ch ≠ 0 then deny s .notInState
  else plainWrite a v s

/-! ### Meanings -/

/-- PROFILE_TICK (R195). -/
def execProfileTick (ch : Nat) (s : State) : Out := .next (profTick ch s)

/-- LULL_DWELL_EXPIRY (R203). -/
def execLullDwellExpiry (ch : Nat) (s : State) : Out := .next (lullExpiry ch s)

/-- The `PCMD` write of `port` to channel `ch` (0-3). -/
def profCommand (port : Port) (ch : Nat) (v : Word) (s : State) : Out :=
  replied (gated port (Prof.PCMD (ch % 4)) v (pcmdWrite (ch % 4) v) s)

/-- PROF_ENABLE (R202). -/
def execProfEnable (port : Port) (ch : Nat) (s : State) : Out := profCommand port ch 1 s

/-- PROF_MOVE (R202). -/
def execProfMove (port : Port) (ch : Nat) (s : State) : Out := profCommand port ch 2 s

/-- PROF_STOP (R201). -/
def execProfStop (port : Port) (ch : Nat) (s : State) : Out := profCommand port ch 3 s

/-- PROF_APPLY (R199). -/
def execProfApply (port : Port) (ch : Nat) (imm : Bool) (s : State) : Out :=
  profCommand port ch (word (4 + at' (bitN imm) 4)) s

/-- PROF_CLEAR (R202). -/
def execProfClear (port : Port) (ch : Nat) (s : State) : Out := profCommand port ch 5 s

/-- PROF_DISABLE (R202). -/
def execProfDisable (port : Port) (ch : Nat) (s : State) : Out := profCommand port ch 6 s

/-- PROF_SET_POS (R202). -/
def execProfSetPos (port : Port) (ch : Nat) (s : State) : Out := profCommand port ch 7 s

end Sys2Proof.Machine
end

