-- ==== Sys2Proof/Machine/Release.lean ====
section
/-! DEFINITION. The trigger of a timebase (R82, R83, R110, R217) and the release of a sample set with its Crosswind comparison
(R96-R99). -/

namespace Sys2Proof.Machine

/-! ### Crosswind (R96-R98) -/

/-- Is the comparator of channel `c` of chain `x` armed (R270)? -/
def comparatorArmed (s : State) (x c : Nat) : Bool := decide (c < 16) && s.rdB (ProtCmp.CMP_CFG (16 * x + c)) 0

/-- Does a context of a current loop name channel `c` of chain `x` as a source? -/
def loopSource (s : State) (x c : Nat) : Bool :=
  (busyCtxs s).any (fun n => ctxFast s n && (ctxSources s n).any (srcUses s x c))

/-- CLASS1 of pair `k` (R97). -/
def pairClass1 (s : State) (k : Nat) : Bool :=
  let a := s.rdF (Xw.CW_PAIR k) 4 0
  let b := s.rdF (Xw.CW_PAIR k) 12 8
  loopSource s 0 a || loopSource s 1 b || comparatorArmed s 0 a || comparatorArmed s 1 b

/-- Is pair `k` compared on the trigger numbered `seq` (R24, R97)? -/
def pairDue (s : State) (k seq : Nat) : Bool :=
  pairClass1 s k ||
    (match s.cle.profile with
      | 0 => decide (seq % 4 = k % 4)
      | 1 => decide (seq % 2 = k % 2)
      | _ => true)

/-- The reaction of pair `k` (R98). -/
def pairReact (k : Nat) (s : State) : State :=
  let s1 := xwLevels (s.wrB (Xw.CW_STAT k) 1 true)
  match s1.rdF (Xw.CW_PAIR k) 22 20 with
  | 0 => s1.emit .warn Xw.page 1 k (s1.rd (Xw.CW_STAT k))
  | 3 => latchSource 41 k [] (s1.emit .fault Xw.page 1 k (s1.rd (Xw.CW_STAT k)))
  | _ => s1.emit .fault Xw.page 1 k (s1.rd (Xw.CW_STAT k))

/-- The comparison of the two samples of one trigger. -/
def pairCompare (k : Nat) (a b : Smp) (s : State) : State :=
  let both := a.valid && b.valid
  let d := F.abs (F.sub a.value b.value)
  let dis := !both || F.lt (s.rd (Xw.CW_BAND k)) d
  let n := if dis then min (s.rdF (Xw.CW_STAT k) 15 8 + 1) 255 else 0
  let s1 := (s.wrB (Xw.CW_STAT k) 0 dis).wrF (Xw.CW_STAT k) 15 8 n
  let s2 := if both then s1.wrL (Xw.CW_MAXDIFF k) (F.max (s1.rdL (Xw.CW_MAXDIFF k)) d) else s1
  let s3 := if dis then s2.incL (Xw.CW_DISAG k) else s2
  let s4 : State := { s3 with fab := { s3.fab with stamp := KMap.set (fun _ => 0) s3.fab.stamp (Xw.CW_MAXDIFF k) a.at_ } }
  let s5 := xwLevels (putPair k { pairOf s4 k with cmpSeq := some a.seq, disagreed := dis } s4)
  if s5.rdF (Xw.CW_PAIR k) 31 24 ≤ n ∧ 0 < n ∧ !s5.rdB (Xw.CW_STAT k) 1 then pairReact k s5 else s5

/-- The paired value of one trigger (R97, R98). -/
def pairedValue (s : State) (k : Nat) (a b : Smp) : Word × Bool :=
  let w := s.rd (Xw.CW_PAIR k)
  let react := if s.rdB (Xw.CW_STAT k) 1 then fld w 22 20 else 0
  let one (c : Nat) : Word × Bool := if c = 0 then (a.value, a.valid) else (b.value, b.valid)
  if react = 1 ∨ react = 3 then (0, false)
  else if react = 2 then one (fld w 19 19)
  else if fld w 18 17 = 2 then (F.div (F.add a.value b.value) F.two, a.valid && b.valid)
  else one (fld w 18 17)

/-- Pair `k` takes the two samples of one trigger: ONE_SIDED follows every sample (R107), the pair is compared where it is due, and the
paired value is released. A sample of a calibrating chain is not compared and its paired value is invalid (R91). -/
def pairStep (k : Nat) (a b : Smp) (s : State) : State :=
  let cal := a.cal || b.cal
  let s0 := s.wrB (Xw.CW_STAT k) 3 (a.valid != b.valid)
  let s1 := if pairDue s k a.seq && !cal then pairCompare k a b s0 else s0
  let v := pairedValue s1 k a b
  setSmp (0x40 + k) v.1 (v.2 && !cal) a.seq a.at_ s1

/-- Pair `k` takes in the released samples; those of one trigger on both sides are compared, earlier ones drop out. -/
def pairTake (l : List (Nat × Smp)) (k : Nat) (s : State) : State :=
  if !pairEn s k then s
  else
    let side (c : Nat) : List Smp := l.filterMap (fun e => if e.1 = c then some e.2 else none)
    let h := pairOf s k
    let a := h.waitA ++ side (s.rdF (Xw.CW_PAIR k) 4 0)
    let b := h.waitB ++ side (28 + s.rdF (Xw.CW_PAIR k) 12 8)
    match a.find? (fun x => b.any (fun y => decide (y.at_ = x.at_))) with
    | none => putPair k { h with waitA := a, waitB := b } s
    | some x =>
      match b.find? (fun y => decide (y.at_ = x.at_)) with
      | none => s
      | some y =>
        let later (z : Smp) : Bool := decide (x.at_ < z.at_)
        pairStep k x y (putPair k { h with waitA := a.filter later, waitB := b.filter later } s)

/-! ### SAMPLE_SET_RELEASE -/

/-- Protection evaluates the DC link where its source has just been released (R278). -/
def dclTake (seq at_ : Nat) (s : State) : State :=
  let w := s.rd Prot.DCL_CFG
  let v := srcNow s (fld w 11 0)
  if bit w 15 && decide (fld w 11 0 < 0x100) && decide (v.deliv = s.now) && decide (v.seq = seq) then
    (if v.valid then dclEvaluate v.value seq at_ s else dclInvalid seq at_ s)
  else s

/-- SAMPLE_SET_RELEASE (R96): the oldest conversion result is corrected, compared and released, 50 ns after its conversion. -/
def sampleRelease (s : State) : State :=
  match s.meas.ready with
  | [] => s
  | it :: rest =>
    let s1 := s.reach (it.doneAt + 40)
    let s2 : State := { s1 with meas := { s1.meas with ready := rest } }
    let r := releaseItem it s2
    let s3 := (List.range 28).foldl (fun u k => pairTake r.2 k u) r.1
    captureAll (dclTake it.seq it.at_ s3)

/-! ### TIMEBASE_TRIGGER -/

/-- With LEAD 0, does the trigger of the update event of this very cycle still wait, as that of a start does (R214, R217)? -/
def trigDueNow (s : State) (t : Nat) : Bool :=
  let h := tbOf s t
  decide (tbLead s t = 0) && decide (h.trigIdx < h.updCount) && decide (h.lastUpd = s.now)

/-- TIMEBASE_TRIGGER (R217): the trigger of the next update event of timebase `t`, unless it has fired or its instant lay
before the present timing took hold. -/
def timebaseTrigger (t : Nat) (s : State) : State :=
  let h := tbOf s t
  let here := trigDueNow s t
  let e : Int := if here then s.now else trigInstant s t
  if !tbRun s t ∨ h.updCount < h.trigIdx ∨ e < h.timingAt then s
  else
    let s1 := s.reach e.toNat
    let s2 := putTb t { h with trigIdx := if here then h.updCount else h.updCount + 1, fired := h.fired + 1 } s1
    let joined := s2.rdB (MeasCtl.TRIG_CFG 0) t
    let handed := joined && triggerCollides s2
    let s3 := if joined then commonTrigger t false s2 else s2
    let smp : Option Nat := if joined then s3.meas.lastTrig else none
    fastRelease t smp handed (focTrigger t s3)

/-! ### Reads -/

/-- What a read of a Crosswind register gives where it is not the stored value: CLASS1 (R107). -/
def xwView (a : Nat) (s : State) : Word :=
  let o := a % 4096
  if 0x40 ≤ o ∧ o < 0x200 ∧ o % 16 = 8 then
    let k := (o - 0x40) / 16
    setBit (s.rd a) 2 (pairClass1 s k)
  else s.rd a

/-! ### Meanings -/

/-- SAMPLE_SET_RELEASE (R96). -/
def execSampleSetRelease (s : State) : Out := .next (sampleRelease s)

/-- TIMEBASE_TRIGGER (R217). -/
def execTimebaseTrigger (t : Nat) (s : State) : Out := .next (timebaseTrigger t s)

/-- CW_REACTED_CLEAR (R99): a W1C write of REACTED. -/
def execCwReactedClear (port : Port) (k : Nat) (s : State) : Out :=
  replied (scanned (gated port (Xw.CW_STAT k) 2 (cwStatWrite k 2) s))

end Sys2Proof.Machine
end

