-- ==== Sys2Proof/Machine/BusBase.lean ====
section
/-! DEFINITION. The base of the message buses (R382-R400): objects, slots and their ownership, records the device itself
originates, and the age limit of a snapshot group. -/

namespace Sys2Proof.Machine

/-! ### Objects and slots -/

/-- Object `o` of channel `ch`, as the register map numbers objects. -/
def objOf (ch o : Nat) : Nat := 128 * ch + o

/-- MODE of an object: 0 OFF, 1 RX, 2 TX, 3 AUTO_TX, 4 TG_RX (R383). -/
def objMode (s : State) (ch o : Nat) : Nat := s.rdF (Obj.OBJ_CFG (objOf ch o)) 2 0

/-- Does software own the object? -/
def objOwn (s : State) (ch o : Nat) : Bool := s.rdB (Obj.OBJ_STAT (objOf ch o)) 0

/-- Does the object await transmission? -/
def objPending (s : State) (ch o : Nat) : Bool := s.rdB (Obj.OBJ_STAT (objOf ch o)) 1

/-- Hidden state of a channel. -/
def canOf (s : State) (ch : Nat) : CanHid := KMap.get (fun _ => {}) s.bus.cans ch
def putCan (ch : Nat) (h : CanHid) (s : State) : State :=
  { s with bus := { s.bus with cans := KMap.set (fun _ => {}) s.bus.cans ch h } }

/-- Store bytes from word address `a` on, the first in bits [31:24]; the last word is filled with zeros. -/
def putBytes (a : Nat) (l : List Nat) (s : State) : State :=
  (List.range ((l.length + 3) / 4)).foldl (fun t j => t.wr (a + 4 * j) (bytesWord (l.drop (4 * j)))) s

/-- Read `n` bytes from word address `a` on. -/
def getBytes (s : State) (a n : Nat) : List Nat :=
  (wordsBytes ((List.range ((n + 3) / 4)).map (fun j => s.rd (a + 4 * j)))).take n

/-- The smallest DLC that holds `n` bytes, and the bytes a DLC holds (ISO 11898-1). -/
def dlcOf (n : Nat) : Nat :=
  if n ≤ 8 then n else if n ≤ 12 then 9 else if n ≤ 16 then 10 else if n ≤ 20 then 11 else if n ≤ 24 then 12
  else if n ≤ 32 then 13 else if n ≤ 48 then 14 else 15
def dlcBytes (d : Nat) : Nat := if d ≤ 8 then d else [12, 16, 20, 24, 32, 48, 64].getD (d - 9) 64

/-! ### Arbitration (R385) -/

/-- CTRL.EN, not in bus-off, and not listen-only: the channel transmits. -/
def canSends (s : State) (ch : Nat) : Bool :=
  s.rdB (Can.CTRL ch) 0 && !s.rdB (Can.CTRL ch) 1 && decide (s.rdF (Can.ECR ch) 17 16 ≠ 2)

/-- The pending objects of a channel. Only a listed OBJ_STAT can show PENDING. -/
def pendingObjs (s : State) (ch : Nat) : List Nat :=
  (List.range 128).filter (objPending s ch)

/-- The key of arbitration of an object: its identifier as the bus compares it, base identifiers before the extended ones
that begin alike. -/
def arbKey (s : State) (ch o : Nat) : Nat :=
  let w := s.rd (Obj.OBJ_RXID (objOf ch o))
  fld w 28 18 * 2 ^ 19 + (if bit w 29 then 2 ^ 18 + fld w 17 0 else 0)

/-- The pending object that arbitrates: the lowest identifier, and the lowest object number on a tie. -/
def arbWinner (s : State) (ch : Nat) : Option Nat :=
  (pendingObjs s ch).foldl (fun (b : Option Nat) o =>
    match b with
    | none => some o
    | some x => if arbKey s ch o < arbKey s ch x then some o else some x) none

/-- An attempt begins where the channel is idle and has something to send. -/
def canKick (ch : Nat) (s : State) : State :=
  if canSends s ch && (canOf s ch).onBus.isNone then putCan ch { canOf s ch with onBus := arbWinner s ch } s else s

/-- An object starts to wait for transmission. -/
def objQueue (ch o : Nat) (s0 : State) : State :=
  let s := putCan ch { canOf s0 ch with tries := KMap.set (fun _ => 0) (canOf s0 ch).tries o 0 } s0
  canKick ch (s.wr (Obj.OBJ_STAT (objOf ch o)) ((s.rd (Obj.OBJ_STAT (objOf ch o)) &&& 0xFFFF0000) ||| 2))

/-! ### Frames the device originates (R396, R398-R400) -/

/-- What becomes of a frame of the device: sent, sent in place of a pending one, or not sent for want of ownership or
because one is pending. -/
inductive DevSend where
  | sent | replaced | owned | pending
  deriving DecidableEq, Repr

/-- A device frame for a CAN object: its bytes, smallest DLC, zero padding (R396). -/
def canDevice (ch o : Nat) (replace : Bool) (l : List Nat) (s : State) : State × DevSend :=
  if objMode s ch o ≠ 3 ∨ objOwn s ch o then (s, .owned)
  else if objPending s ch o ∧ !replace then (s, .pending)
  else
    let d := dlcOf l.length
    let full := l ++ List.replicate (dlcBytes d - l.length) 0
    let s1 := (putBytes (Obj.OBJ_DATA0 (objOf ch o) 0) full s).wr (Obj.OBJ_DLC (objOf ch o)) (word d)
    (objQueue ch o s1, if objPending s ch o then .replaced else .sent)

/-- A device frame for a MAC slot: the record is the payload, with EtherType 0x88B5, zero-padded to 46 bytes (R396). -/
def macDevice (m i : Nat) (replace : Bool) (l : List Nat) (s : State) : State × DevSend :=
  let st := s.rd (EthTx.SLOT_STAT m i)
  if !s.rdB (EthTx.SLOT_CFG m i) 0 ∨ bit st 0 then (s, .owned)
  else if bit st 1 ∧ !replace then (s, .pending)
  else
    let body := l ++ List.replicate (46 - l.length) 0
    let head := (getBytes s (EthTx.FRAME m i 0) 12) ++ [0x88, 0xB5]
    let s1 := (putBytes (EthTx.FRAME m i 0) (head ++ body) s).wr (EthTx.SLOT_LEN m i) (word (14 + body.length))
    (s1.wr (EthTx.SLOT_STAT m i) 2, if bit st 1 then .replaced else .sent)

/-- A device frame for a carrier: CAN channel and object, or MAC and slot. -/
def devSend (mac : Bool) (n k : Nat) (replace : Bool) (l : List Nat) (s : State) : State × DevSend :=
  if mac then macDevice n k replace l s else canDevice n k replace l s

/-- Two bytes of a number, most significant first; four bytes likewise. -/
def bytes2 (n : Nat) : List Nat := [n / 256 % 256, n % 256]
def bytes4 (n : Nat) : List Nat := wordBytes (word n)

/-- The header of a record (R396). -/
def recordHead (kind flags page off n entry gen age : Nat) : List Nat :=
  [0x10 + kind, flags] ++ bytes2 page ++ bytes2 off ++ [n % 256, entry % 256] ++ bytes4 gen ++ bytes4 age

/-- Send an alarm record of page `p` on a carrier, and whether it went out: its sequence number counts the alarms sent there; an object that is
pending or owned by software does not take it, which counts in OVERFLOWS of the channel (R396, R399). -/
def trySendAlarm (mac : Bool) (n k p : Nat) (at_ : Nat) (ws : List Word) (s : State) : State × Bool :=
  let key := if mac then 4 + n else n
  let seq := KMap.get (fun _ => 0) s.bus.alarms key
  let l := recordHead 2 0 p 0 ws.length 0xFF seq ((s.now - at_) / 800) ++ wordsBytes ws
  match devSend mac n k false l s with
  | (t, .sent) | (t, .replaced) => ({ t with bus := { t.bus with alarms := KMap.set (fun _ => 0) t.bus.alarms key (seq + 1) } }, true)
  | (t, _) => (if mac then t else t.incL (Can.OVERFLOWS n), false)

/-- Send an alarm record. -/
def sendAlarm (mac : Bool) (n k p : Nat) (at_ : Nat) (ws : List Word) (s : State) : State := (trySendAlarm mac n k p at_ ws s).1

/-! ### Age limits (R50) -/

/-- The default age limit of a group in microseconds; a group of the PWM modulators takes the larger of 5 ms and twice its
longest update interval (R231). -/
def defaultLimit (s : State) (p : Nat) : Nat :=
  if p = PwmTel.page then
    (List.range 8).foldl (fun a t => if tbRun s t then max a (2 * trigInterval s t / 800) else a) 5000
  else 5000

/-- The effective limit of page `p` in microseconds. -/
def ageLimit (s : State) (p : Nat) : Nat :=
  if s.rdF (hSNAP_CTRL p) 31 16 = 0 then defaultLimit s p else s.rdF (hSNAP_CTRL p) 31 16 * 100

end Sys2Proof.Machine
end

