-- ==== Sys2Proof/Machine/IslandBase.lean ====
section
/-! DEFINITION. The base of the safety island (R295-R301, R304-R307, R320-R327): parameters in effect, demands, lock-out,
group states with their outputs, and what READY and the interrupt conditions show. -/

namespace Sys2Proof.Machine

/-! ### Hidden state and parameters -/

def putSg (g : Nat) (h : SafeGrp) (s : State) : State :=
  { s with isl := { s.isl with grps := KMap.set (fun _ => {}) s.isl.grps g h } }

def siOf (s : State) (k : Nat) : SafeIn := KMap.get (fun _ => {}) s.isl.ins k
def putSi (k : Nat) (h : SafeIn) (s : State) : State :=
  { s with isl := { s.isl with ins := KMap.set (fun _ => {}) s.isl.ins k h } }

def tgOf (s : State) (k : Nat) : TgConn := KMap.get (fun _ => {}) s.isl.tgs k
def putTg (k : Nat) (h : TgConn) (s : State) : State :=
  { s with isl := { s.isl with tgs := KMap.set (fun _ => {}) s.isl.tgs k h } }

/-- Field [hi:lo] and bit `i` of a committed parameter. -/
def par (s : State) (a hi lo : Nat) : Nat := fld (s.rdC a) hi lo
def parB (s : State) (a i : Nat) : Bool := bit (s.rdC a) i

/-- GCFG.EN. -/
def sgEn (s : State) (g : Nat) : Bool := parB s (Param.GCFG g) 0

/-- With machine 0 DUAL, what concerns one group concerns both (R298). -/
def sgSame (s : State) (g : Nat) : List Nat := if s.rdB (Foc.CFG 0) 2 then [0, 1] else [g]

/-- GCFG.POLE_PAIRS. -/
def sgPoles (s : State) (g : Nat) : Word := F.ofNat (par s (Param.GCFG g) 20 16)

/-- A number of milliseconds in CLK_CLE cycles. -/
def msCycles (n : Nat) : Nat := n * 800000

/-- A number of CLK_CLE cycles in seconds, binary32. -/
def secs (n : Nat) : Word := F.ratio n 800000000

/-- Is the island in lock-out? -/
def inLockout (s : State) : Bool := decide (s.rdF Safe.LO_CAUSE 7 0 ≠ 0)

/-! ### Demands (R304, R309, R316) -/

/-- What is demanded of a group. -/
structure Demand where
  sto : Bool := false
  ss1 : Bool := false
  /-- indices of the SLS limits demanded -/
  sls : List Nat := []
  sdiNeg : Bool := false
  sdiPos : Bool := false
  deriving DecidableEq, Repr

/-- Two demands together. -/
def Demand.or (a b : Demand) : Demand :=
  { sto := a.sto || b.sto, ss1 := a.ss1 || b.ss1, sls := a.sls ++ b.sls, sdiNeg := a.sdiNeg || b.sdiNeg, sdiPos := a.sdiPos || b.sdiPos }

/-- Does input `k` demand: enabled, FUNC 1-4, inactive? -/
def siDemands (s : State) (k : Nat) : Bool :=
  let c := s.rdC (SafeIn.SI_CFG k)
  bit c 0 && decide (1 ≤ fld c 11 8 ∧ fld c 11 8 ≤ 4) && !(siOf s k).active

/-- What input `k` demands of group `g`. -/
def inputDemand (s : State) (g k : Nat) : Demand :=
  let c := s.rdC (SafeIn.SI_CFG k)
  if siDemands s k && bit c (14 + g) then
    match fld c 11 8 with
    | 1 => { sto := true }
    | 2 => { ss1 := true }
    | 3 => { sls := [fld c 13 12] }
    | _ => if bit c 12 then { sdiPos := true } else { sdiNeg := true }
  else {}

/-- Word 0 of the last agreed pair of connection `k`. -/
def tgWord (s : State) (k : Nat) : Option Word :=
  match (tgOf s k).agreed with
  | some c => some (c.data.getD 0 0)
  | none => none

/-- Does receive connection `k` act on group `g`? -/
def tgActs (s : State) (k g : Nat) : Bool := parB s (SafeTg.TG_CFG k) 0 && parB s (SafeTg.TG_CFG k) (18 + g)

/-- What connection `k` demands of group `g`: by its last agreed word 0, and by its loss. -/
def telegramDemand (s : State) (g k : Nat) : Demand :=
  if tgActs s k g then
    let byWord : Demand :=
      match tgWord s k with
      | some w =>
        { sto := !bit w g, ss1 := !bit w (2 + g), sls := if bit w (4 + 3 * g) then [fld w (6 + 3 * g) (5 + 3 * g)] else []
          sdiNeg := bit w (10 + 2 * g) && !bit w (11 + 2 * g), sdiPos := bit w (10 + 2 * g) && bit w (11 + 2 * g) }
      | none => {}
    let byLoss : Demand :=
      if (tgOf s k).lost then (if parB s (SafeTg.TG_CFG k) 16 then { ss1 := true } else { sto := true }) else {}
    byWord.or byLoss
  else {}

/-- What the host demands of group `g`. -/
def hostDemand (s : State) (g : Nat) : Demand := { sto := s.rdB Safe.HOST_DEMAND g, ss1 := s.rdB Safe.HOST_DEMAND (2 + g) }

/-- What is demanded of group `g` alone. -/
def ownDemand (s : State) (g : Nat) : Demand :=
  let ins : Demand := ((List.range 16).map (inputDemand s g)).foldl Demand.or {}
  let tgs : Demand := ((List.range 4).map (telegramDemand s g)).foldl Demand.or {}
  (ins.or tgs).or (hostDemand s g)

/-- What is demanded of group `g`, with DUAL of either group (R298). -/
def demandOf (s : State) (g : Nat) : Demand := ((sgSame s g).map (ownDemand s)).foldl Demand.or {}

/-- Does connection `k` demand anything? -/
def tgDemands (s : State) (k : Nat) : Bool :=
  (List.range 2).any (fun g => decide (telegramDemand s g k ≠ {}))

/-- DEMANDS as it reads (R327). -/
def demandsWord (s : State) : Word :=
  let ins : Nat := (List.range 16).foldl (fun a k => a + at' (bitN (siDemands s k)) k) 0
  let tgs : Nat := (List.range 4).foldl (fun a k => a + at' (bitN (tgDemands s k)) (16 + k)) 0
  word (ins + tgs + at' (bitN (s.rdB (Tmon.TM_STAT 0) 10)) 20 + at' (bitN (s.rdB (Tmon.TM_STAT 1) 10)) 21
    + at' (bitN (decide (s.rd Safe.HOST_DEMAND ≠ 0))) 22)

/-! ### Operating time and the change log (R325, R326) -/

/-- Island operating time in seconds since the first power-up. -/
def opSeconds (s : State) : Nat := s.isl.opBase + s.now / 800000000

/-- Write one change-log entry; the log holds the latest 128. -/
def logEntry (user id : Nat) (old new : Word) (s : State) : State :=
  let seq := s.isl.logSeq + 1
  let e := [word seq, word (opSeconds s), word (at' user 16 + id), old, new]
  { s with isl := { s.isl with logSeq := seq, log := ((e ++ [word (Crc.crc32c (wordsBytes e))]) :: s.isl.log).take 128 } }

/-- Hours since group `g` last entered STOPPED, saturating. -/
def proofHours (s : State) (g : Nat) : Nat := min ((s.now - (sgOf s g).stoppedAt) / 2880000000000) 0xFFFF

/-- Has PROOF_HRS of an enabled group reached PROOF_INT? -/
def proofIsDue (s : State) (g : Nat) : Bool :=
  sgEn s g && decide (0 < par s (Param.PROOF_INT g) 15 0 ∧ par s (Param.PROOF_INT g) 15 0 ≤ proofHours s g)

/-! ### What the pins and registers show -/

/-- STOgA and STOgB are off: the group is not enabled, or is STOPPED with no SBC_DELAY running (R299, R306). -/
def stoOff (s : State) (g : Nat) : Bool :=
  !sgEn s g || (decide (grpState s g = 0) && (sgOf s g).stoDue.isNone)

/-- Group `g` lets the brake be released: RELEASED, or SS1 with the brake released before the demand (R299). -/
def brakeFree (s : State) (g : Nat) : Bool :=
  decide (grpState s g = 2) || (decide (grpState s g = 1) && (sgOf s g).brkKeep)

/-- The brake is applied (R299, R304): the two outputs are shared by the groups, so a released brake needs BRK_REQ, no
lock-out, some group that lets it be released and no group with SBC that does not. -/
def brakeApplied (s : State) : Bool :=
  !(s.rdB Safe.BRK_REQ 0 && !inLockout s && [0, 1].any (fun g => sgEn s g && brakeFree s g)
    && [0, 1].all (fun g => !(sgEn s g && parB s (Param.GCFG g) 8) || brakeFree s g))

/-- READY.SAFE_RELEASED and GUARD_TEST, and the levels of IRQ_RAW (R301, R312, R327). -/
def safeShow (s : State) : State :=
  let en := [0, 1].filter (sgEn s)
  let rel := !en.isEmpty && en.all (fun g => decide (grpState s g = 1 ∨ grpState s g = 2))
  let s1 := setReady 7 (guardDone s) (setReady 6 rel s)
  let s2 := (s1.raw Safe.page 0 (inLockout s1)).raw Safe.page 2 (decide (demandsWord s1 ≠ 0))
  let s3 := (s2.raw Safe.page 3 (s2.rdB Safe.GRP_STATE 10 || s2.rdB Safe.GRP_STATE 11)).raw Safe.page 4
    ((List.range 4).any (fun k => parB s (SafeTg.TG_CFG k) 0 && (tgOf s k).lost))
  wakeRisen 2 Safe.page 0x7D s ((s3.raw Safe.page 5 (guardDone s3)).raw Safe.page 6 (proofIsDue s3 0 || proofIsDue s3 1))

/-- The positions of compare group `g`, for ALL_OFF frames of rank 1 (R240, R504). -/
def stoPositions (s : State) (g : Nat) : List Nat := if grpEn s g then (grpChans s g).filter (· < 36) else []

/-- The pins follow the group states; rank 1 acts at once, with ALL_OFF frames where a supply is removed (R28, R240, R297). -/
def outputs (s : State) : State :=
  let n0 := stoOff s 0
  let n1 := stoOff s 1
  let chg := (n0 != s.isl.stoOff0) || (n1 != s.isl.stoOff1)
  let ps := (if n0 && !s.isl.stoOff0 then stoPositions s 0 else []) ++ (if n1 && !s.isl.stoOff1 then stoPositions s 1 else [])
  let s1 : State := { s with isl := { s.isl with stoOff0 := n0, stoOff1 := n1, brake := brakeApplied s } }
  safeShow (if chg then allOffFrames ps false (protShow (resolveNow (wakeOn 2 (s1.pulse Safe.page 1)))) else s1)

/-! ### Group states (R299-R301, R305-R307) -/

/-- SAFETY events of the control page: 2 DEMAND, 3 VIOLATION; a detected fault 0x20 + cause. -/
def safeEvent (code obj : Nat) (s : State) : State := emitPage .safety Safe.page code obj s

/-- Put group `g` into a state. -/
def putGrp (g st : Nat) (s : State) : State := s.wrF Safe.GRP_STATE (4 * g + 3) (4 * g) st

/-- Group `g` enters STOPPED; `delay`: from a demand or at the end of SS1, where SBC_DELAY runs (R306). -/
def enterStopped (g : Nat) (delay : Bool) (s : State) : State :=
  let d := par s (Param.SBC_DELAY g) 15 0
  let due := if delay && decide (d ≠ 0) then some (s.now + msCycles d) else none
  let h := sgOf s g
  let s1 := putSg g { h with stoDue := due, stoppedAt := s.now, viaTm := false, relReq := false, ascOk := false } (putGrp g 0 s)
  let m := grpMachine s1 g
  outputs (if hasForce s1 .island m then resolveNow (dropForce .island m s1) else s1)

/-- Group `g` enters SS1: a stop request goes to every profile channel bound to the machine, or to field control where none is
bound; a refused one stops nothing (R305). -/
def enterSs1 (g : Nat) (s : State) : State :=
  let m := grpMachine s g
  let bound := (List.range 4).filter (fun c => decide (profState s c ≠ 0) && profBound s c && decide (profMach s c = m))
  let s1 := if bound.isEmpty then (focStop m s).1 else bound.foldl (fun t c => (profStop c t).1) s
  let h := sgOf s1 g
  outputs (putGrp g 1 (putSg g { h with ss1At := s1.now, w0 := F.abs h.speed, brkKeep := !s1.isl.brake } s1))

/-- Group `g` is released; the latched violation clears (R300, R307). -/
def enterReleased (g : Nat) (s : State) : State :=
  let h := sgOf s g
  outputs (putGrp g 2 ((putSg g { h with manual := false, relReq := false, stoDue := none } s).wrB Safe.GRP_STATE (10 + g) false))

/-- Group `g` enters ASC_HELD with a rank-3b short circuit of its machine (R318). -/
def enterAsc (g : Nat) (s : State) : State :=
  let m := grpMachine s g
  let s1 := ascStart m s
  let side := ascSide s1 m
  let f := if !sideFaulty s1 m side then ascForce s1 4 0 .island m side
    else if !sideFaulty s1 m (1 - side) then ascForce s1 4 0 .island m (1 - side)
    else blockForce s1 4 0 .island m
  let h := sgOf s1 g
  outputs (putGrp g 3 (putSg g { h with ascAt := s1.now, ascOk := false } (resolveNow (addForce f s1))))

/-! ### Lock-out (R320) -/

/-- A detected fault latches lock-out: LO_CAUSE, a SAFETY event, IRQ_RAW.LOCKOUT, and every enabled group to STOPPED but one
that follows its own torque monitor's reaction. -/
def lockOut (c : Nat) (s : State) : State :=
  let s1 := if inLockout s then s else s.wr Safe.LO_CAUSE (word c)
  let s2 := safeEvent (0x20 + c) 0 (s1.wrB Safe.LO_CAUSE (15 + c) true)
  let s3 := [0, 1].foldl (fun t g =>
    if decide (grpState t g ≠ 0) && !((sgOf t g).viaTm && decide (grpState t g = 1 ∨ grpState t g = 3)) then enterStopped g false t
    else t) s2
  outputs s3

end Sys2Proof.Machine
end

