-- ==== Sys2Proof/Machine/Island.lean ====
section
/-! DEFINITION. The island's cycle (R297): safe inputs, speed, functions, telegrams, torque monitor, output read-back and
group transitions. -/

namespace Sys2Proof.Machine

/-- The island's cycle in CLK_CLE cycles: 100 µs. -/
def islCycle : Nat := 80000

/-! ### Releases and the reset input (R300, R311, R321) -/

/-- The conditions of a release of group `g`, beside those of the manual kinds. -/
def canRelease (s : State) (g : Nat) : Bool :=
  let d := demandOf s g
  sgEn s g && !d.sto && !d.ss1 && !inLockout s && s.isl.pwHash.isSome && s.isl.setExists && guardDone s
    && s.rdB Bup.READY 1 && s.rdB Bup.READY 3

/-- A release of group `g` is asked for: it is taken at the end of the cycle, on both groups with DUAL (R298, R300). -/
def askRelease (g : Nat) (s : State) : State := (sgSame s g).foldl (fun t x => putSg x { sgOf t x with relReq := true } t) s

/-- The end of a press on the reset input: it clears an armed lock-out, or releases the groups that take the reset input. -/
def pressEnd (s : State) : State :=
  let armed := match s.isl.keyAt with
    | some t => decide (s.now ≤ t + 1600000000)
    | none => false
  if inLockout s && armed then
    let mask := word (s.rdF Safe.LO_CAUSE 31 16)
    let s1 := logEntry (s.isl.session.getD 0) 0xFFFE mask 0 ((s.wr Safe.LO_CAUSE 0))
    let s2 := [0, 1].foldl (fun t g => (putSg g { sgOf t g with manual := true, relReq := false } t).wr (Tmon.TM_STAT g) 0) s1
    outputs (safeEvent 0xFF 0 { s2 with isl := { s2.isl with keyAt := none } })
  else
    [0, 1].foldl (fun t g => if parB t (Param.GCFG g) 3 then askRelease g t else t) s

/-! ### Safe inputs (R309-R312) -/

/-- One sample of a channel through its filter of `n` samples (R228, R309). -/
def siFilter (n : Nat) (raw : Bool) (c : SafeChan) : SafeChan :=
  if raw = c.filt then { c with raw := raw, count := 0 }
  else if n ≤ c.count + 1 then { c with raw := raw, filt := raw, count := 0 }
  else { c with raw := raw, count := c.count + 1 }

/-- Do the pads hold the test-pulse outputs low: from a power-on or brown-out reset until every rail has risen (R59), and in RECOVERY
(R67)? -/
def tpHeld (s : State) : Bool := s.bu.padHold || decide (s.phase = 10)

/-- Is a test pulse under way at this cycle, and is this the last sample inside it (R310)? -/
def pulseNow (s : State) : Bool := decide (s.now < s.isl.tpTill)
def pulseLast (s : State) : Bool := pulseNow s && decide (s.isl.tpTill ≤ s.now + islCycle)

/-- The level of TP0-TP3 (SEP9640): high while the island runs, but in the output's own pulse and while the pads hold it (R59, R310). -/
def tpHigh (s : State) (k : Nat) : Bool :=
  decide (s.part = .sep9640) && s.isl.run && !tpHeld s && !(pulseNow s && decide (s.isl.tpOut = k))

/-- The test-pulse output of channel `b` (false a, true b) of an input. -/
def tpOf (cfg : Word) (b : Bool) : Nat := if b then fld cfg 7 6 else fld cfg 5 4

/-- Does the pulse under way feed this channel? -/
def tpFeeds (s : State) (cfg : Word) (b : Bool) : Bool :=
  decide (s.part = .sep9640) && pulseNow s && decide (tpOf cfg b = s.isl.tpOut)

/-- SI_STAT follows the input (R330). -/
def siShow (k : Nat) (s : State) : State :=
  let h := siOf s k
  let dis := h.disAt.isSome
  let w := bitN h.a.filt + at' (bitN h.b.filt) 1 + at' (bitN h.active) 2 + at' (bitN dis) 3 + at' (bitN (h.badNow || h.badLast)) 4
  s.wr (SafeIn.SI_STAT k) (setFld (s.rd (SafeIn.SI_STAT k)) 4 0 w)

/-- The verdict on an input after its channels are sampled: activity, discrepancy, presses and the guard test. -/
def siJudge (k : Nat) (cfg : Word) (s : State) : State :=
  let h := siOf s k
  let ina := !h.a.filt
  let inb := if bit cfg 1 then h.b.filt else !h.b.filt
  let active := !ina && !inb
  let disAt := if ina != inb then some (h.disAt.getD s.now) else none
  let tooLong := match disAt with
    | some t => decide (t + msCycles (10 * fld cfg 31 24) < s.now)
    | none => false
  let opening := h.active && !active
  let closing := !h.active && active
  let press := opening && decide (fld cfg 11 8 = 5) && (match h.actAt with
    | some t => decide (t + 80000000 ≤ s.now ∧ s.now ≤ t + 4000000000)
    | none => false)
  let tested := closing && h.opened && h.seenA && h.seenB && !h.disFault && bit cfg 2 && decide (s.part = .sep9624)
  let h1 : SafeIn := { h with
    active := active, disAt := disAt, disFault := tooLong
    actAt := if closing then some s.now else h.actAt
    opened := if opening then true else if closing then false else h.opened
    openAt := if opening then s.now else h.openAt
    seenA := if opening then ina else h.seenA || (!active && ina)
    seenB := if opening then inb else h.seenB || (!active && inb) }
  let s1 := putSi k h1 s
  let s2 := if tested then s1.wrB (SafeIn.SI_STAT k) 5 true else s1
  let s3 := if press then pressEnd s2 else s2
  siShow k (if tooLong && !h.disFault then lockOut 6 s3 else s3)

/-- One input at a cycle; `pins`: bit 2k channel a, bit 2k + 1 channel b. -/
def siCycle (pins : Word) (s : State) (k : Nat) : State :=
  let cfg := s.rdC (SafeIn.SI_CFG k)
  if !bit cfg 0 then s
  else
    let h := siOf s k
    let n := fld cfg 23 16
    let one (b : Bool) (c : SafeChan) : SafeChan × Bool :=
      let raw := bit pins (2 * k + bitN b)
      let fed := tpFeeds s cfg b
      let bad := pulseLast s && decide (s.part = .sep9640) && (if fed then raw else raw != c.pre)
      if fed then ({ c with raw := raw }, bad)
      else ((if pulseNow s then siFilter n raw c else { siFilter n raw c with pre := raw }), bad)
    let ra := one false h.a
    let rb := one true h.b
    let bad := ra.2 || rb.2
    let fault := bad && h.badLast && !h.tpFault
    let s1 := putSi k { h with a := ra.1, b := rb.1, badNow := h.badNow || bad, tpFault := h.tpFault || fault } s
    siJudge k cfg (if fault then lockOut 7 s1 else s1)

/-- All inputs at a cycle. -/
def inputsCycle (pins : Word) (s : State) : State :=
  (List.range 16).foldl (siCycle pins) s

/-! ### Safe speed (R302, R303) -/

/-- The value of chain-B channel `c` in the latest sample set, where it is valid. -/
def chainB (s : State) (c : Nat) : Option Word :=
  let v := srcNow s (32 + c)
  if v.valid then some v.value else none

/-- The vector of the three channels a parameter names. -/
def vecB (s : State) (a : Nat) : Option (Word × Word) :=
  alphaBetaOf (chainB s (par s a 4 0)) (chainB s (par s a 12 8)) (chainB s (par s a 20 16))

/-- The magnitude of a vector. -/
def vecMag (v : Word × Word) : Word := F.sqrt (F.add (F.mul v.1 v.1) (F.mul v.2 v.2))

/-- The island's cycle in seconds, binary32. -/
def islT : Word := F.ratio 1 10000

/-- What the speed estimate gives in one cycle: none is UNKNOWN. -/
structure SpeedOut where
  speed : Option Word := none
  angI : Option Word := none
  angV : Option Word := none
  deltas : List Word := []
  deriving DecidableEq, Repr

/-- The speed from the rotation of one vector. -/
def rotation (s : State) (g : Nat) (ang : Word) (prev : Option Word) (old : List Word) : Option Word × List Word :=
  match prev with
  | none => (none, [])
  | some p =>
    let ds := (wrapPi (F.sub ang p) :: old).take 8
    let we := F.div (F.div (sum32 ds) (F.ofNat ds.length)) islT
    if F.lt (F.mul F.twoPi (F.ofNat 1000)) (F.abs we) then (none, ds) else (some (F.div we (sgPoles s g)), ds)

/-- The estimate of R302 for group `g`. -/
def safeSpeed (s : State) (g : Nat) : SpeedOut :=
  let h := sgOf s g
  match vecB s (Param.SPD_CUR g) with
  | none => {}
  | some i =>
    if F.le (s.rdC (Param.I_MIN g)) (vecMag i) then
      let ang := Config.atan2_32 i.2 i.1
      let r := rotation s g ang h.angI h.deltas
      { speed := r.1, angI := some ang, deltas := r.2 }
    else
      match vecB s (Param.SPD_VOLT g) with
      | none => {}
      | some v =>
        if F.le (s.rdC (Param.V_MIN g)) (vecMag v) then
          let ang := Config.atan2_32 v.2 v.1
          let r := rotation s g ang h.angV h.deltas
          { speed := r.1, angV := some ang, deltas := r.2 }
        else if parB s (Param.GCFG g) 9 then {}
        else
          let b := F.div (s.rdC (Param.V_MIN g)) (F.mul (s.rdC (Param.PSI_S g)) (sgPoles s g))
          { speed := some (if F.isNeg h.speed then F.neg b else b) }

/-- Speed telemetry register of group `g`. -/
def speedReg (g : Nat) : Nat := if g = 0 then SafeTel.SPEED0 else SafeTel.SPEED1

/-- Group `g`'s speed in this cycle, its source and its telemetry (R302, R308, R332). -/
def speedCycle (s : State) (g : Nat) : State :=
  if !sgEn s g then s
  else
    let h := sgOf s g
    let o := safeSpeed s g
    let unk := match o.speed with
      | some _ => none
      | none => some (h.unk.getD s.now)
    let s1 := putSg g { h with speed := o.speed.getD h.speed, unk := unk, angI := o.angI, angV := o.angV, deltas := o.deltas } s
    let s2 := (s1.wrB Safe.GRP_STATE (8 + g) unk.isSome).produce (speedReg g) (o.speed.getD F.qnan)
    setSrc (0x800 + g) (o.speed.getD h.speed) unk.isNone s2

/-- Has UNKNOWN lasted for UNK_TIME? -/
def longUnknown (s : State) (g : Nat) : Bool :=
  match (sgOf s g).unk with
  | some t => decide (t + msCycles (par s (Param.UNK_TIME g) 15 0) ≤ s.now)
  | none => false

/-- The diverse speed of group `g` (R303). -/
def diverseCycle (s : State) (g : Nat) : State :=
  let h := sgOf s g
  let m := grpMachine s g
  let w := srcNow s (0x401 + 0x20 * m)
  let st := grpState s g
  let far := sgEn s g && decide (st = 1 ∨ st = 2) && w.valid && h.unk.isNone
    && F.lt (s.rdC (Param.SPD_TOL g)) (F.abs (F.sub h.speed (F.div w.value (sgPoles s g))))
  let n := if far then min (h.div + 1) 8 else 0
  let s1 := putSg g { h with div := n } s
  if n = 8 ∧ h.div < 8 then lockOut 9 s1 else s1

/-! ### Telegrams (R313-R316) -/

/-- The pairs of a connection that agreed in this cycle take effect; a rising RELEASE bit is a release request (R300, R316). -/
def telegramApply (s : State) (k : Nat) : State :=
  let c := tgOf s k
  c.next.foldl (fun t p =>
    let old := (tgWord t k).getD 0
    let t1 := putTg k { tgOf t k with agreed := some p } t
    [0, 1].foldl (fun u g =>
      if (tgWord t k).isSome && !bit old (14 + g) && bit (p.data.getD 0 0) (14 + g) && tgActs u k g && parB u (Param.GCFG g) 4
      then askRelease g u else u) t1) (putTg k { c with next := [] } s)

/-- TG_STAT shows LIVE and DEMAND (R331). -/
def tgShow (k : Nat) (s : State) : State :=
  let c := tgOf s k
  s.wrF (SafeTg.TG_STAT k) 17 16 (bitN (c.agreed.isSome && !c.lost) + 2 * bitN (tgDemands s k))

/-- No agreed pair for TG_WDOG (R315). -/
def tgWatch (s : State) (k : Nat) : State :=
  let c := tgOf s k
  if parB s (SafeTg.TG_CFG k) 0 && !c.lost && decide (c.agreedAt + msCycles (par s (SafeTg.TG_PERIOD k) 31 16) ≤ s.now) then
    safeShow (tgShow k (putTg k { c with lost := true } s))
  else s

/-- Single copies that have waited 5 ms are discarded (R315). -/
def tgOneSided (s : State) (k : Nat) : State :=
  let c := tgOf s k
  let late := c.held.filter (fun p => decide (p.at_ + 4000000 ≤ s.now))
  if late.isEmpty then s
  else (List.range late.length).foldl (fun t _ => t.incL (SafeTel.TG_ONE_SIDED k))
    (putTg k { c with held := c.held.filter (fun p => decide (s.now < p.at_ + 4000000)) } s)

/-- DATA of a sending connection (R314). -/
def sendData (s : State) (n : Nat) : List Word :=
  let st : Nat := bitN s.isl.stoOff0 + at' (bitN s.isl.stoOff1) 1 + at' (bitN s.isl.brake) 2 + at' (bitN (inLockout s)) 3
    + at' (grpState s 0) 4 + at' (grpState s 1) 8
  let ins : Nat := (List.range 16).foldl (fun a k => a + at' (bitN (siOf s k).active) (12 + k)) 0
  let sp (g : Nat) : Word := if sgEn s g && (sgOf s g).unk.isNone then (sgOf s g).speed else F.qnan
  (([word (st + ins), sp 0, sp 1] ++ List.replicate 5 0).take n)

/-- A telegram with its CRC (R313). -/
def telegramBytes (s : State) (k copy seq time : Nat) (data : List Word) : List Nat :=
  let body := [0x10 + data.length, copy] ++ bytes2 seq ++ bytes4 time ++ wordsBytes data
  body ++ bytes4 (Crc.crc32 (s.rdC (SafeTg.TG_SEED k)).toNat body)

/-- Hand one copy to its carrier (R400): 0-3 CAN channels, 4-5 MACs. -/
def sendCopy (k carrier : Nat) (tel : List Nat) (s : State) : State :=
  let rec' := [0x13, k, 0, 0] ++ tel
  if carrier < 4 then
    let b := s.rdF (Can.TG_MAP1 carrier) (8 * (k - 4) + 7) (8 * (k - 4))
    if 128 ≤ b then (canDevice carrier (b % 128) true rec' s).1 else s
  else
    let b := s.rdF (Mac.TG_SLOT (carrier - 4)) (4 * (k - 4) + 3) (4 * (k - 4))
    if 8 ≤ b then (macDevice (carrier - 4) (b % 8) true rec' s).1 else s

/-- TELEGRAM_SEND: a sending connection whose period has passed sends both copies (R314). -/
def telegramSend (s : State) (k : Nat) : State :=
  let cfg := s.rdC (SafeTg.TG_CFG k)
  let c := tgOf s k
  if bit cfg 0 && decide (c.txAt + islCycle * par s (SafeTg.TG_PERIOD k) 15 0 ≤ s.now) then
    let seq := (c.txSeq + 1) % 65536
    let data := sendData s (fld cfg 15 12)
    let time := s.micros % 2 ^ 32
    let s1 := putTg k { c with txSeq := seq, txAt := s.now } s
    sendCopy k (fld cfg 10 8) (telegramBytes s k 1 seq time data) (sendCopy k (fld cfg 6 4) (telegramBytes s k 0 seq time data) s1)
  else s

/-- One copy as received. -/
def parseCopy (l : List Nat) : Nat × Nat × TgCopy :=
  let n := l.getD 0 0 % 16
  let ws := (List.range n).map (fun j => bytesWord (l.drop (8 + 4 * j)))
  (l.getD 0 0 / 16, n, { seq := bytesNat ((l.drop 2).take 2), time := bytesNat ((l.drop 4).take 4), data := ws, copy := l.getD 1 0, at_ := 0 })

/-- The acceptance of a copy (R315): CRC, version, length, reserved bits, SEQ; and its COPY is that of its carrier. -/
def copyOk (s : State) (k side : Nat) (l : List Nat) : Bool :=
  let p := parseCopy l
  let n := p.2.1
  let crc := bytesNat ((l.drop (8 + 4 * n)).take 4)
  decide (12 + 4 * n ≤ l.length) && decide (Crc.crc32 (s.rdC (SafeTg.TG_SEED k)).toNat (l.take (8 + 4 * n)) = crc)
    && decide (p.1 = 1) && decide (n = par s (SafeTg.TG_CFG k) 15 12) && decide (p.2.2.copy = side)
    && decide (fld (p.2.2.data.getD 0 0) 31 16 = 0)
    && ((tgOf s k).agreed.isNone && (tgOf s k).next.isEmpty
      || decide (1 ≤ (p.2.2.seq + 65536 - s.rdF (SafeTg.TG_STAT k) 15 0) % 65536
        ∧ (p.2.2.seq + 65536 - s.rdF (SafeTg.TG_STAT k) 15 0) % 65536 ≤ 32))

/-- Is TIME of a new pair later than that of the last, by no more than TG_WDOG (R315)? -/
def timeOk (s : State) (k t : Nat) : Bool :=
  let c := tgOf s k
  let last : Option TgCopy := match c.next.getLast? with
    | some p => some p
    | none => c.agreed
  match last with
  | none => true
  | some p =>
    let d := (t + 2 ^ 32 - p.time) % 2 ^ 32
    decide (1 ≤ d ∧ d ≤ 1000 * par s (SafeTg.TG_PERIOD k) 31 16)

/-- A pair agrees: it takes effect at the end of the cycle, and any loss is over (R315). -/
def pairAgrees (k : Nat) (p : TgCopy) (s : State) : State :=
  if timeOk s k p.time then
    let c := tgOf s k
    safeShow (tgShow k ((putTg k { c with next := c.next ++ [p], held := c.held.filter (fun q => decide (q.seq ≠ p.seq))
                                          agreedAt := s.now, lost := false } s).wrF (SafeTg.TG_STAT k) 15 0 p.seq))
  else lockOut 8 s

/-- A copy of receive connection `k` from a carrier (0-3 CAN, 4-5 MAC): checked, held, or compared with the copy that waits. -/
def telegramCopy (k carrier : Nat) (l : List Nat) (s0 : State) : State :=
  let s := tgOneSided s0 k
  let cfg := s.rdC (SafeTg.TG_CFG k)
  let a := decide (carrier = fld cfg 6 4)
  if 4 ≤ k ∨ !bit cfg 0 ∨ (!a ∧ carrier ≠ fld cfg 10 8) then s
  else if !copyOk s k (if a then 0 else 1) l then s.incL (SafeTel.TG_BAD k)
  else
    let p : TgCopy := { (parseCopy l).2.2 with at_ := s.now }
    match (tgOf s k).held.find? (fun q => decide (q.seq = p.seq)) with
    | none => putTg k { tgOf s k with held := (tgOf s k).held ++ [p] } s
    | some q =>
      if q.copy = p.copy then s
      else if q.time = p.time ∧ q.data = p.data then pairAgrees k p s
      else lockOut 8 s

/-! ### Functions (R303-R307) -/

/-- A violation latches VIOL, writes an event and needs a manual release (R300, R307). -/
def violate (g : Nat) (s : State) : State :=
  if s.rdB Safe.GRP_STATE (10 + g) then s
  else safeEvent 3 g (putSg g { sgOf s g with manual := true } (s.wrB Safe.GRP_STATE (10 + g) true))

/-- The SS1-r envelope from `w0` at instant `t0` (R304). -/
def envelope (s : State) (g : Nat) (w0 : Word) (t0 : Nat) : Word :=
  F.max (F.sub w0 (F.mul (s.rdC (Param.SS1_DEC g)) (secs (s.now - t0)))) 0

/-- Is |ω_s| of group `g` above a bound? -/
def aboveBound (s : State) (g : Nat) (b : Word) : Bool := F.lt b (F.abs (sgOf s g).speed)

/-- The verdict of SS1 in this cycle: a breach of SS1-r, and the end of SS1 (R304). -/
def ss1Breach (s : State) (g : Nat) : Bool :=
  let h := sgOf s g
  decide (grpState s g = 1) && parB s (Param.GCFG g) 5 &&
    (longUnknown s g || aboveBound s g (F.add (envelope s g h.w0 h.ss1At) (s.rdC (Param.SS1_MARGIN g))))
def ss1Ends (s : State) (g : Nat) : Bool :=
  let h := sgOf s g
  decide (grpState s g = 1) && (decide (h.ss1At + msCycles (par s (Param.SS1_T g) 15 0) ≤ s.now)
    || (parB s (Param.GCFG g) 5 && !aboveBound s g (s.rdC (Param.SSTILL g))))

/-- SLS of group `g` in this cycle: the limit in force is the lowest of those demanded; a new demand above it starts the entry
ramp (R304, R308). -/
def slsStep (g : Nat) (d : Demand) (s : State) : State :=
  let h := sgOf s g
  match d.sls with
  | [] => setSrc (0x802 + g) (srcStored s (0x802 + g)).value false (putSg g { h with slsLim := none } s)
  | i :: r =>
    let lim := r.foldl (fun a j => F.min a (s.rdC (Param.SLS_LIM0 g j))) (s.rdC (Param.SLS_LIM0 g i))
    let h1 := if h.slsLim = some lim then h else { h with slsLim := some lim, slsAt := s.now, slsW0 := F.abs h.speed }
    setSrc (0x802 + g) lim true (putSg g h1 s)

/-- Is SLS violated? -/
def slsBreach (s : State) (g : Nat) : Bool :=
  let h := sgOf s g
  match h.slsLim with
  | none => false
  | some lim =>
    let entry := F.lt lim h.slsW0 && decide (s.now < h.slsAt + msCycles (par s (Param.SLS_ENTRY g) 15 0))
    let b := if entry then F.max lim (F.add (envelope s g h.slsW0 h.slsAt) (s.rdC (Param.SS1_MARGIN g))) else lim
    longUnknown s g || aboveBound s g b

/-- Travel in a forbidden direction, reset by travel in the permitted one; `w` is the speed in the forbidden direction. -/
def sdiTravel (demanded : Bool) (w : Word) (old : Option Word) : Option Word :=
  if !demanded then none
  else match old with
    | none => some 0
    | some x => if F.isNeg w then some 0 else some (F.add x (F.mul w islT))

/-- SDI of group `g` in this cycle (R304). -/
def sdiStep (g : Nat) (d : Demand) (s : State) : State :=
  let h := sgOf s g
  putSg g { h with sdiNeg := sdiTravel d.sdiNeg (F.neg h.speed) h.sdiNeg, sdiPos := sdiTravel d.sdiPos h.speed h.sdiPos } s

/-- Is SDI violated? -/
def sdiBreach (s : State) (g : Nat) : Bool :=
  let h := sgOf s g
  let far (x : Option Word) : Bool := match x with
    | some v => F.lt (s.rdC (Param.SDI_TOL g)) v
    | none => false
  far h.sdiNeg || far h.sdiPos || ((h.sdiNeg.isSome || h.sdiPos.isSome) && longUnknown s g)

/-- Are SLS and SDI monitored: RELEASED or SS1 (R299, R334)? -/
def watched (s : State) (g : Nat) : Bool := decide (grpState s g = 1 ∨ grpState s g = 2)

/-- The SLS and SDI of group `g`; the source of its torque limit (R308). -/
def functionStep (s : State) (g : Nat) : State :=
  let d := demandOf s g
  setSrc (0x804 + g) (s.rdC (Tmon.TM_LIMIT g)) (parB s (Tmon.TM_CFG g) 0) (sdiStep g d (slsStep g d s))

/-! ### Torque monitor (R317, R318) -/

/-- The mean of a list of values. -/
def mean32 (l : List Word) : Word := F.div (sum32 l) (F.ofNat l.length)

/-- T* for group `g`: with DUAL its winding set's share (R169, R317). -/
def tstar (s : State) (g : Nat) : Word :=
  let m := grpMachine s g
  let t := (machOf s m).tq
  if s.rdB (Foc.CFG 0) 2 then
    let sh := F.ratio (s.rdF (Foc.TQ_CFG 0) 15 8) 256
    F.mul t (if g = 0 then sh else F.sub F.one sh)
  else t

/-- Put TM_STAT: ACTIVE, T2_VALID, DISAGREE and the count. -/
def tmShow (g : Nat) (act t2 dis : Bool) (n : Nat) (s : State) : State :=
  s.wr (Tmon.TM_STAT g) (setFld (s.rd (Tmon.TM_STAT g)) 9 0 (bitN act + at' (bitN t2) 1 + at' (bitN dis) 2 + at' n 4))

/-- The reaction of the torque monitor of group `g`: lock-out with cause TMON, and the course of TM_CFG.REACT (R318). -/
def tmReact (g : Nat) (s : State) : State :=
  let s1 := s.wrB (Tmon.TM_STAT g) 10 true
  let s2 := s1.emit .safety Tmon.page 0xFF g (s1.rd (Tmon.TM_STAT g))
  let r := par s2 (Tmon.TM_CFG g) 2 1
  let act (t : State) (x : Nat) : State :=
    let h := sgOf t x
    if r = 0 ∧ grpState t x = 2 then enterSs1 x (putSg x { h with viaTm := true } t)
    else if r = 0 ∧ grpState t x = 1 then putSg x { h with viaTm := true } t
    else if r = 2 ∧ (grpState t x = 1 ∨ grpState t x = 2) then enterAsc x (putSg x { h with viaTm := true } t)
    else t
  lockOut 0xA ((sgSame s2 g).foldl act s2)

/-- The torque monitor of group `g` in this cycle. -/
def tmCycle (s : State) (g : Nat) : State :=
  let m := grpMachine s g
  let st := machState s m
  let h := sgOf s g
  if !parB s (Tmon.TM_CFG g) 0 then s
  else if st < 4 ∨ 7 < st then
    tmShow g false false false 0 (putSg g { h with psiA := 0, psiB := 0, t1s := [], t2s := [], tss := [] } s)
  else
    let iv := vecB s (Param.SPD_CUR g)
    let vv := vecB s (Param.SPD_VOLT g)
    let vdc := chainB s (par s (Tmon.TM_CFG g) 20 16)
    let idc := chainB s (par s (Tmon.TM_CFG g) 28 24)
    let i := iv.getD (0, 0)
    let v := vv.getD (0, 0)
    let rs := s.rdC (Tmon.TM_RS g)
    let wc := s.rdC (Tmon.TM_WC g)
    let flux (p u x : Word) : Word := F.sub (F.add p (F.mul islT (F.sub u (F.mul rs x)))) (F.mul (F.mul islT wc) p)
    let pa := flux h.psiA v.1 i.1
    let pb := flux h.psiB v.2 i.2
    let t1 := F.mul (F.mul 0x3FC00000 (sgPoles s g)) (F.sub (F.mul pa i.2) (F.mul pb i.1))
    let w := h.speed
    let t2ok := h.unk.isNone && F.le (s.rdC (Tmon.W_MIN g)) (F.abs w) && vdc.isSome && idc.isSome && iv.isSome
    let pw := F.sub (F.sub (F.sub (F.mul (vdc.getD 0) (idc.getD 0)) (s.rdC (Tmon.LOSS_C g)))
      (F.mul (s.rdC (Tmon.LOSS_R g)) (F.add (F.mul i.1 i.1) (F.mul i.2 i.2)))) (F.mul (s.rdC (Tmon.LOSS_F g)) (F.abs w))
    let t2 : Option Word := if t2ok then some (F.div pw w) else none
    let t1s := (t1 :: h.t1s).take 10
    let t2s := (t2 :: h.t2s).take 10
    let tss := (tstar s g :: h.tss).take 10
    let a1 := mean32 t1s
    let as := mean32 tss
    let a2 := mean32 (t2s.filterMap id)
    let band := F.max (s.rdC (Tmon.TM_BAND_ABS g)) (F.mul (s.rdC (Tmon.TM_BAND_REL g)) (F.abs as))
    let d1 := F.abs (F.sub a1 as)
    let d2 := if t2ok then F.abs (F.sub a2 as) else 0
    let bad := iv.isNone || vv.isNone || vdc.isNone || idc.isNone
    let stale := decide (s.stampOf (Foc.SPEED_M m) + 800000 < s.now)
    let dis := F.lt band d1 || F.lt band d2 || bad || stale
    let n := if dis then min (s.rdF (Tmon.TM_STAT g) 9 4 + 1) 50 else 0
    let s1 := tmShow g true t2ok dis n (putSg g { h with psiA := pa, psiB := pb, t1s := t1s, t2s := t2s, tss := tss } s)
    let s2 := ((s1.produce (Tmon.TM_T1 g) a1).wrL (Tmon.TM_T2 g) (if t2ok then a2 else F.qnan)).wrL (Tmon.TM_TSTAR g) as
    let s3 := s2.wrL (Tmon.TM_DEV g) (F.max (s2.rdL (Tmon.TM_DEV g)) (F.max d1 d2))
    if n = 50 ∧ !s3.rdB (Tmon.TM_STAT g) 10 then tmReact g s3 else s3

/-- Do the chain-B line voltages of group `g` all lie below V_MIN: the short circuit is confirmed (R318)? -/
def ascConfirmed (s : State) (g : Nat) : Bool :=
  let p := Param.SPD_VOLT g
  match chainB s (par s p 4 0), chainB s (par s p 12 8), chainB s (par s p 20 16) with
  | some a, some b, some c =>
    let low (x y : Word) : Bool := F.lt (F.abs (F.sub x y)) (s.rdC (Param.V_MIN g))
    low a b && low b c && low c a
  | _, _, _ => false

/-- ASC_HELD in this cycle: confirmation, and STOPPED with lock-out where it does not come within 1 ms (R300). -/
def ascStep (s : State) (g : Nat) : State :=
  let h := sgOf s g
  if grpState s g ≠ 3 then s
  else if !h.ascOk ∧ ascConfirmed s g then putSg g { h with ascOk := true } s
  else if !h.ascOk ∧ h.ascAt + 800000 ≤ s.now then enterStopped g false (if inLockout s then s else lockOut 0xA s)
  else s

/-! ### Output read-back (R297) -/

/-- Outputs whose read-back differs in two consecutive cycles are a detected fault. -/
def readBack (bad : Word) (s : State) : State :=
  let both := bad &&& s.isl.outBad &&& 0x3F
  let s1 : State := { s with isl := { s.isl with outBad := bad &&& 0x3F } }
  if both ≠ 0 ∧ !(s.rdB Safe.LO_CAUSE 20) then lockOut 5 s1 else s1

/-! ### Group transitions (R300) -/

/-- The transitions of group `g` at the end of the cycle, where every group is as `j` at the decision: the first matching row wins, and with
DUAL what either group is judged to have done concerns both (R298). -/
def transition (j s : State) (g : Nat) : State :=
  let h := sgOf s g
  let st := grpState s g
  let s0 := putSg g { h with relReq := false } s
  if !sgEn s g then s0
  else
    let d := demandOf s g
    let same := sgSame s g
    let slsV := same.any (fun x => watched j x && slsBreach j x)
    let sdiV := same.any (fun x => watched j x && sdiBreach j x)
    let ss1V := same.any (ss1Breach j)
    let slsSto := slsV && !parB s (Param.GCFG g) 6
    let sdiSto := sdiV && !parB s (Param.GCFG g) 7
    let s1 := if slsV || sdiV || ss1V then violate g s0 else s0
    if inLockout s1 && !h.viaTm then (if st ≠ 0 then enterStopped g false s1 else s1)
    else if st ≠ 0 && (ss1V || slsSto || sdiSto) then enterStopped g false s1
    else if st ≠ 0 && d.sto then safeEvent 2 g (enterStopped g true s1)
    else if st = 1 && same.any (ss1Ends j) then enterStopped g true s1
    else if st = 2 && d.ss1 then safeEvent 2 g (enterSs1 g s1)
    else if st = 2 && (slsV || sdiV) then enterSs1 g s1
    else if st = 0 && (h.relReq || (parB s (Param.GCFG g) 1 && !h.manual && !s1.rdB Safe.GRP_STATE (10 + g))) && canRelease s g then
      enterReleased g s1
    else s1

/-- SBC_DELAY has passed: the STO outputs go off (R306). -/
def sbcStep (s : State) (g : Nat) : State :=
  match (sgOf s g).stoDue with
  | some t => if t ≤ s.now then outputs (putSg g { sgOf s g with stoDue := none } s) else s
  | none => s

/-- The 100 µs cycle at the state's instant. -/
def islandBody (pins bad : Word) (s : State) : State :=
  let s1 := inputsCycle pins s
  let s2 := [0, 1].foldl diverseCycle ([0, 1].foldl speedCycle s1)
  let s3 := (List.range 4).foldl (fun t k => tgShow k (telegramApply (tgWatch (tgOneSided t k) k) k)) s2
  let s4 := [0, 1].foldl functionStep s3
  let s5 := [0, 1].foldl ascStep (([0, 1].foldl tmCycle s4))
  let s6 := [0, 1].foldl sbcStep (readBack bad s5)
  let s7 := [0, 1].foldl (transition s6) s6
  [4, 5, 6, 7].foldl telegramSend (outputs s7)

/-- ISLAND_CYCLE: `pins` are the safe inputs, `bad` the outputs whose read-back differs from the command. -/
def islandCycle (pins bad : Word) (s0 : State) : State :=
  if !s0.isl.run || s0.isl.restart.isSome || s0.rdB SecDbg.DBG_HSTAT 3 then s0
  else
    let s1 := s0.reach (s0.isl.cycleAt + islCycle)
    islandBody pins bad { s1 with isl := { s1.isl with cycleAt := s0.isl.cycleAt + islCycle } }

end Sys2Proof.Machine
end

