-- ==== Sys2Proof/Machine/Safe.lean ====
section
/-! DEFINITION. The safety island's commands (R295-R334): its registers, password, parameter set, change log, timers and
checks. -/

namespace Sys2Proof.Machine

/-! ### The parameter set (R324, R329-R333) -/

/-- The registers of the parameter set, ascending. -/
def paramAddrs : List Nat :=
  let grp (g : Nat) : List Nat := (List.range 20).map (fun j => Param.GCFG g + 4 * j)
  let tg (k : Nat) : List Nat := [SafeTg.TG_CFG k, SafeTg.TG_SEED k, SafeTg.TG_PERIOD k]
  let tm (g : Nat) : List Nat := (List.range 10).map (fun j => Tmon.TM_CFG g + 4 * j)
  grp 0 ++ grp 1 ++ [Param.GUARD_PERIOD] ++ (List.range 16).map SafeIn.SI_CFG ++ [SafeIn.TP_CFG]
    ++ (List.range 8).flatMap tg ++ tm 0 ++ tm 1

/-- A word of a set held as a list of changes from reset. -/
def setWord (l : List (Nat × Word)) (a : Nat) : Word := KMap.get rst l a

/-- PARAM_CRC of a set: CRC-32C over its words in ascending order of address. -/
def paramCrc (l : List (Nat × Word)) : Word := word (Crc.crc32c (wordsBytes (paramAddrs.map (setWord l))))

/-- The chain-B channels a set uses, ascending: the vectors of enabled groups and the link values of enabled monitors. -/
def setChans (l : List (Nat × Word)) : List Nat :=
  let one (g : Nat) : List Nat :=
    let v (a : Nat) : List Nat := let w := setWord l a; [fld w 4 0, fld w 12 8, fld w 20 16]
    let t := setWord l (Tmon.TM_CFG g)
    (if bit (setWord l (Param.GCFG g)) 0 then v (Param.SPD_CUR g) ++ v (Param.SPD_VOLT g) else [])
      ++ (if bit t 0 then [fld t 20 16, fld t 28 24] else [])
  (List.range 28).filter (fun c => (one 0 ++ one 1).contains c)

/-- CB_CRC: CRC-32C over CH_CFG, CH_OFS and CH_GAIN of the chain-B channels a set uses (R324). -/
def cbCrc (s : State) (l : List (Nat × Word)) : Word :=
  word (Crc.crc32c (wordsBytes ((setChans l).flatMap (fun c =>
    [s.rd (MeasCh.CH_CFG 1 c), s.rd (MeasCh.CH_OFS 1 c), s.rd (MeasCh.CH_GAIN 1 c)]))))

/-- The range of a parameter register (R310, R314, R329-R333). -/
def paramRange (s : State) (k : PageKind) (a : Nat) (v : Word) : Bool :=
  let f32ok := F.nonneg v
  let chans := decide (fld v 4 0 < 28 ∧ fld v 12 8 < 28 ∧ fld v 20 16 < 28)
  match k with
  | .safeParam =>
    if a = Param.GUARD_PERIOD then true
    else
      match (a - 0x202040) % 0x80 with
      | 0x00 => decide (1 ≤ fld v 20 16)
      | 0x04 => decide (10 ≤ fld v 15 0)
      | 0x24 | 0x4C => true
      | 0x2C | 0x30 => chans
      | 0x44 => decide (1 ≤ fld v 15 0 ∧ fld v 15 0 ≤ 10000)
      | 0x48 => decide (fld v 15 0 ≤ 500)
      | _ => f32ok
  | .safeIn =>
    if a = SafeIn.TP_CFG then decide (10 ≤ fld v 15 0 ∧ fld v 15 0 ≤ 1000 ∧ 100 ≤ fld v 25 16 ∧ fld v 25 16 ≤ 1000)
    else decide (fld v 11 8 ≤ 5 ∧ 1 ≤ fld v 23 16 ∧ fld v 23 16 ≤ 50 ∧ 1 ≤ fld v 31 24 ∧ fld v 31 24 ≤ 50)
      && (decide (s.part = .sep9640) || decide (fld v 7 4 = 0))
  | .safeTg =>
    match (a - 0x204040) % 0x20 with
    | 0x00 => decide (fld v 6 4 ≤ 5 ∧ fld v 10 8 ≤ 5 ∧ fld v 6 4 ≠ fld v 10 8 ∧ 1 ≤ fld v 15 12 ∧ fld v 15 12 ≤ 8)
    | 0x08 => decide (10 ≤ fld v 15 0 ∧ fld v 15 0 ≤ 10000 ∧ 5 ≤ fld v 31 16 ∧ fld v 31 16 ≤ 1000)
    | _ => true
  | .tmon =>
    match (a - 0x220040) % 0x40 with
    | 0x00 => decide (fld v 2 1 ≠ 3 ∧ fld v 20 16 < 28 ∧ fld v 28 24 < 28)
    | 0x08 => f32ok && F.le v F.half
    | _ => f32ok
  | _ => true

/-- A write of a parameter register changes the edit copy (R324). -/
def paramWrite (k : PageKind) (a : Nat) (v : Word) (s : State) : Reply :=
  if !paramReg a then plainWrite a v s
  else if paramRange s k a v then plainWrite a v s
  else deny s .outOfRange

/-- The rules of a set as a whole (R298, R310, R314, R324, R329): what is enabled has every value it needs above zero. -/
def setOk (s : State) (l : List (Nat × Word)) : Bool :=
  let w (a : Nat) : Word := setWord l a
  let pos (a : Nat) : Bool := F.pos (w a)
  let grp (g : Nat) : Bool :=
    let c := w (Param.GCFG g)
    let slsOf (k : Nat) : Bool :=
      let i := w (SafeIn.SI_CFG k)
      !(bit i 0 && bit i (14 + g)) || (if fld i 11 8 = 3 then pos (Param.SLS_LIM0 g (fld i 13 12))
        else if fld i 11 8 = 4 then pos (Param.SDI_TOL g) else true)
    !bit c 0 || (pos (Param.I_MIN g) && pos (Param.V_MIN g) && pos (Param.SPD_TOL g) && (bit c 9 || pos (Param.PSI_S g))
      && (!bit c 5 || (pos (Param.SS1_DEC g) && pos (Param.SSTILL g))) && (List.range 16).all slsOf)
  let mon (g : Nat) : Bool :=
    !bit (w (Tmon.TM_CFG g)) 0 || (pos (Tmon.TM_BAND_ABS g) && pos (Tmon.TM_WC g) && pos (Tmon.W_MIN g))
  let inp (k : Nat) : Bool :=
    let i := w (SafeIn.SI_CFG k)
    !bit i 0 || decide (s.part = .sep9624) || decide (fld i 5 4 ≠ fld i 7 6)
  let con (k : Nat) : Bool :=
    let c := w (SafeTg.TG_CFG k)
    !bit c 0 || decide (fld c 6 4 ≠ fld c 10 8)
  let dual := !s.rdB (Foc.CFG 0) 2 || (List.range 20).all (fun j => decide (w (Param.GCFG 0 + 4 * j) = w (Param.GCFG 1 + 4 * j)))
  paramAddrs.all (fun a => decide (w a = rst a) || (match pageKind (pageOf a) with
      | some k => paramRange s k a (w a)
      | none => false))
    && grp 0 && grp 1 && mon 0 && mon 1 && (List.range 16).all inp && (List.range 8).all con && dual

/-- PARAM_ID of a parameter register (R325). -/
def paramId (a : Nat) : Nat := (if pageOf a = 0x220 then 0xE else pageOf a - 0x200) * 4096 + a % 4096 / 4

/-- CRC-32C of one word. -/
def wordCrc (w : Word) : Word := word (Crc.crc32c (wordBytes w))

/-- PARAM_CMD COMMIT (R324); denied in BLANK and RETURN (R462). -/
def commitCmd (s : State) : Reply :=
  if s.rdF Sec.LC_STATE 1 0 = 0 ∨ s.rdF Sec.LC_STATE 1 0 = 3 then deny s .denied else
  match s.isl.session with
  | none => deny s .keyRequired
  | some user =>
    if s.isl.commitAt.isSome then deny s .busy
    else if [0, 1].any (fun g => sgEn s g && decide (grpState s g ≠ 0)) then deny s .notInState
    else if !setOk s (editCopy s) then deny s .outOfRange
    else accept { s with isl := { s.isl with
      commitAt := some s.now, commitSet := editCopy s, commitCb := cbCrc s (editCopy s), commitUser := user, sessAt := s.now } }

/-- PARAM_CMD DISCARD restores the committed set (R324). -/
def discardCmd (s : State) : Reply :=
  if s.isl.commitAt.isSome then deny s .busy
  else accept { s with regs := KMap.copyWhere paramReg s.committed s.regs }

/-- A write of PARAM_CMD. -/
def paramCmdWrite (v : Word) (s : State) : Reply :=
  match fld v 1 0 with
  | 1 => commitCmd s
  | 2 => discardCmd s
  | 3 => deny s .outOfRange
  | _ => accept s

/-- An input or a connection whose configuration a commit changes starts anew. -/
def restartChanged (changed : List Nat) (s : State) : State :=
  let s1 := (List.range 16).foldl (fun t k =>
    if changed.contains (SafeIn.SI_CFG k) then (putSi k {} t).wr (SafeIn.SI_STAT k) 0 else t) s
  (List.range 8).foldl (fun t k =>
    if changed.any (fun a => decide (a = SafeTg.TG_CFG k ∨ a = SafeTg.TG_SEED k ∨ a = SafeTg.TG_PERIOD k)) then
      (putTg k { agreedAt := t.now, txAt := t.now } t).wr (SafeTg.TG_STAT k) 0
    else t) s1

/-- PARAM_COMMIT_DONE: the non-volatile write completes, at most 200 ms after the command (R324). -/
def commitDone (dt : Nat) (s0 : State) : State :=
  match s0.isl.commitAt with
  | none => s0
  | some t =>
    let s := s0.reach (min (s0.now + dt) (t + msCycles 200))
    let new := s.isl.commitSet
    let changed := paramAddrs.filter (fun a => decide (setWord s.committed a ≠ setWord new a))
    let user := s.isl.commitUser
    let s1 := changed.foldl (fun u a =>
      logEntry user (paramId a) (wordCrc (setWord s.committed a)) (wordCrc (setWord new a)) u) s
    let crc := paramCrc new
    let s2 := logEntry user 0xFFFD (s.rd Safe.PARAM_CRC) crc s1
    let s3 := ((s2.wr Safe.PARAM_CRC crc).wr (Param.CB_CRC 0) s.isl.commitCb).wr (Param.CB_CRC 1) s.isl.commitCb
    let s4 : State := { s3 with
      committed := new
      isl := { s3.isl with setExists := true, commitAt := none, commitSet := [], cbBad := false, paramBad := false } }
    outputs (restartChanged changed s4)

/-! ### The control page (R300, R304, R321, R327) -/

/-- A write of HOST_DEMAND. -/
def hostDemandWrite (v : Word) (s : State) : Reply := accept (safeShow (s.wr Safe.HOST_DEMAND (v &&& 0xF)))

/-- A write of REL_CMD: each group named must be STOPPED, take the host's release, and meet the conditions (R300, R322). -/
def relCmdWrite (v : Word) (s : State) : Reply :=
  let gs := [0, 1].filter (bit v)
  if gs.all (fun g => decide (grpState s g = 0) && parB s (Param.GCFG g) 2 && canRelease s g) then
    accept (gs.foldl (fun t g => askRelease g t) s)
  else deny s .notInState

/-- A write of BRK_REQ; the brake follows at the end of the next cycle. -/
def brkReqWrite (v : Word) (s : State) : Reply := accept (s.wr Safe.BRK_REQ (v &&& 1))

/-- Does the condition of a cause latched since lock-out persist (R321)? -/
def islandPersists (s : State) : Bool :=
  let c (n : Nat) : Bool := s.rdB Safe.LO_CAUSE (15 + n)
  (c 1 && (s.bu.rootReacted || s.bu.islReacted)) || (c 4 && s.isl.selfBad) || (c 5 && decide (s.isl.outBad ≠ 0))
    || (c 6 && (List.range 16).any (fun k => (siOf s k).disFault)) || (c 7 && (List.range 16).any (fun k => (siOf s k).tpFault))
    || (c 9 && [0, 1].any (fun g => decide ((sgOf s g).div = 8)))
    || (c 0xA && [0, 1].any (fun g => decide (s.rdF (Tmon.TM_STAT g) 9 4 = 50)))
    || (c 0xB && (decide (s.rdF Bist.RETIRED 15 0 ≠ 0) || s.bist.fails.any (fun e => decide (2 ≤ e.2))))
    || (c 0xC && s.isl.cbBad) || (c 0xD && s.isl.paramBad)

/-- A write of LO_KEY (R321). -/
def loKeyWrite (v : Word) (s : State) : Reply :=
  if v ≠ 0x4F415448 then deny s .keyRequired
  else if !inLockout s then deny s .notInState
  else if islandPersists s then deny s .tripPersist
  else accept { s with isl := { s.isl with keyAt := some s.now } }

/-! ### Password (R323, R328) -/

/-- The password entered: the first `len` bytes of the buffer. -/
def pwEntered (s : State) (len : Nat) : List Nat := getBytes s (SafePw.PW_BUF0 0) (min len 32)

/-- The hash of a password with a salt. -/
def pwHashOf (salt : List Byte) (pw : List Nat) : List Byte :=
  (Sha.sha256 (salt.map BitVec.toNat ++ pw)).flatMap (fun w => (wordBytes (word w)).map (BitVec.ofNat 8))

/-- The buffer is cleared after every command. -/
def pwClear (s : State) : State := (List.range 8).foldl (fun t j => t.wr (SafePw.PW_BUF0 j) 0) s

/-- LOGIN. -/
def pwLogin (len user : Nat) (s : State) : Reply :=
  let s1 := pwClear s
  match s.isl.pwHash with
  | none => deny s1 .notInState
  | some h =>
    match s.isl.pwBlock with
    | some _ => deny s1 .busy
    | none =>
      if len ≤ 32 ∧ pwHashOf s.isl.pwSalt (pwEntered s len) = h then
        accept { s1 with isl := { s1.isl with pwFails := 0, session := some user, sessAt := s.now } }
      else
        let n := s.isl.pwFails + 1
        let s2 : State := { s1 with isl := { s1.isl with pwFails := n, pwBlock := if n = 5 then some (s.now + 240000000000) else none } }
        deny (wakeOn 2 (s2.pulse Safe.page 7)) .keyRequired

/-- Close the session. -/
def endSession (s : State) : State := { s with isl := { s.isl with session := none } }

/-- SET: 8-32 characters from 0x21 to 0x7E; the salt is drawn from the noise source. -/
def pwSetCmd (len : Nat) (s : State) : Reply :=
  let s1 := pwClear s
  let pw := pwEntered s len
  if s.isl.pwHash.isSome ∧ s.isl.session.isNone then deny s1 .keyRequired
  else if len < 8 ∨ 32 < len ∨ !pw.all (fun c => decide (0x21 ≤ c ∧ c ≤ 0x7E)) then deny s1 .outOfRange
  else
    let a := s1.fresh
    let b := a.2.fresh
    let c := b.2.fresh
    let d := c.2.fresh
    let salt := (wordsBytes [a.1, b.1, c.1, d.1]).map (BitVec.ofNat 8)
    let s2 : State := { d.2 with isl := { d.2.isl with pwSalt := salt, pwHash := some (pwHashOf salt pw) } }
    accept (logEntry (s.isl.session.getD 0) 0xFFFF 0 0 s2)

/-- A write of PW_CMD. -/
def pwCmdWrite (v : Word) (s : State) : Reply :=
  match fld v 1 0 with
  | 1 => pwLogin (fld v 13 8) (fld v 31 16) s
  | 2 => accept (endSession (pwClear s))
  | 3 => pwSetCmd (fld v 13 8) s
  | _ => deny (pwClear s) .outOfRange

/-- The word of PW_CMD for a command. -/
def pwWord (op len user : Nat) : Word := word (at' user 16 + at' (len % 64) 8 + op)

/-! ### Register writes and views -/

/-- Writes to the island's pages. -/
def safeWrite (k : PageKind) (a : Nat) (v : Word) (s : State) : Reply :=
  match k with
  | .safe =>
    if a = Safe.HOST_DEMAND then hostDemandWrite v s
    else if a = Safe.REL_CMD then relCmdWrite v s
    else if a = Safe.BRK_REQ then brkReqWrite v s
    else if a = Safe.LO_KEY then loKeyWrite v s
    else if a = Safe.PARAM_CMD then paramCmdWrite v s
    else plainWrite a v s
  | .safePw =>
    if SafePw.PW_BUF0 0 ≤ a ∧ a ≤ SafePw.PW_BUF0 7 then accept (s.wr a v)
    else if a = SafePw.PW_CMD then pwCmdWrite v s
    else plainWrite a v s
  | .safeParam | .safeIn | .safeTg | .tmon => paramWrite k a v s
  | _ => plainWrite a v s

/-- LO_STAT: KEY_ARMED and the milliseconds that remain (R321, R327). -/
def loStatView (s : State) : Word :=
  match s.isl.keyAt with
  | some t => word (1 + at' ((t + 1600000000 - s.now + 799999) / 800000) 16)
  | none => 0

/-- What a read of the island's registers shows where it is not the stored word. -/
def safeView (a : Nat) (s : State) : Word :=
  if a = Safe.DEMANDS then demandsWord s
  else if a = Safe.LO_STAT then loStatView s
  else if a = Safe.PROOF_HRS then word (proofHours s 0 + at' (proofHours s 1) 16)
  else if a = SafePw.PW_STAT then
    word (bitN s.isl.session.isSome + at' (bitN s.isl.pwHash.isSome) 1 + at' (min s.isl.pwFails 15) 4 + at' (s.isl.session.getD 0) 16)
  else if a = SafePw.LOG_CNT then word s.isl.logSeq
  else if SafePw.LOG_E0 0 ≤ a ∧ a ≤ SafePw.LOG_E0 5 then
    (s.isl.log.getD (s.rdF SafePw.LOG_SEL 6 0) []).getD ((a - SafePw.LOG_E0 0) / 4) 0
  else s.rd a

/-! ### Timers and checks -/

/-- TEST_PULSE (R310): output `tpNext` goes low for WIDTH, the first of a period PERIOD after the period before it began,
each later one at least 1 ms after the end of the one before, within the period. -/
def testPulse (dt : Nat) (s0 : State) : State :=
  let i := s0.isl
  let cfg := s0.rdC SafeIn.TP_CFG
  let s := if i.tpNext = 0 then s0.reach (i.tpPeriod + msCycles (fld cfg 15 0)) else s0.tick dt
  if s0.part ≠ .sep9640 ∨ !i.run ∨ tpHeld s0 ∨ (i.tpNext ≠ 0 ∧ (s.now < i.tpTill + 800000 ∨ i.tpPeriod + msCycles (fld cfg 15 0) ≤ s.now))
      ∨ s.now < i.tpTill + 800000 * bitN (decide (0 < i.tpTill)) then s0
  else
    let s1 : State := { s with isl := { s.isl with
      tpNext := (i.tpNext + 1) % 4, tpOut := i.tpNext, tpTill := s.now + 800 * fld cfg 25 16
      tpPeriod := if i.tpNext = 0 then s.now else i.tpPeriod } }
    if i.tpNext = 0 then
      (List.range 16).foldl (fun t k =>
        let h := siOf t k
        if bit (t.rdC (SafeIn.SI_CFG k)) 0 then
          siShow k (putSi k { h with badLast := h.badNow, badNow := false, tpFault := h.tpFault && h.badNow } t)
        else t) s1
    else s1

/-- ISLAND_LOCKSTEP_MISMATCH (R295): the comparator itself removes STO and applies the brake. -/
def lockstepMismatch (s : State) : State :=
  if !s.isl.run then s
  else lockOut 3 ([0, 1].foldl (fun t g => if grpState t g = 0 then t else enterStopped g false t) s)

/-- LO_KEY_TIMEOUT (R321). -/
def loKeyTimeout (s : State) : State :=
  match s.isl.keyAt with
  | some t => let u := s.reach (t + 1600000000); { u with isl := { u.isl with keyAt := none } }
  | none => s

/-- SESSION_TIMEOUT: 60 s after the last accepted write (R323). -/
def sessionTimeout (s : State) : State :=
  if s.isl.session.isSome then endSession (s.reach (s.isl.sessAt + 48000000000)) else s

/-- LOGIN_BLOCK_EXPIRY (R323). -/
def loginBlockExpiry (s : State) : State :=
  match s.isl.pwBlock with
  | some t => let u := s.reach t; { u with isl := { u.isl with pwBlock := none, pwFails := 0 } }
  | none => s

/-- TELEGRAM_COPY_TIMEOUT of connection `k` (R315). -/
def telegramCopyTimeout (k : Nat) (s : State) : State :=
  match (tgOf s k).held with
  | p :: _ => tgOneSided (s.reach (p.at_ + 4000000)) k
  | [] => s

/-- TELEGRAM_WATCHDOG_EXPIRY of receive connection `k` (R315). -/
def telegramWatchdog (k : Nat) (s : State) : State :=
  if k < 4 ∧ parB s (SafeTg.TG_CFG k) 0 ∧ !(tgOf s k).lost ∧ s.isl.run then
    tgWatch (s.reach ((tgOf s k).agreedAt + msCycles (par s (SafeTg.TG_PERIOD k) 31 16))) k
  else s

/-- SS1_TIMER_EXPIRY of group `g` (R304). -/
def ss1Timer (g : Nat) (s : State) : State :=
  if grpState s g = 1 then enterStopped g true (s.reach ((sgOf s g).ss1At + msCycles (par s (Param.SS1_T g) 15 0))) else s

/-- SBC_DELAY_EXPIRY of group `g` (R306). -/
def sbcTimer (g : Nat) (s : State) : State :=
  match (sgOf s g).stoDue with
  | some t => sbcStep (s.reach t) g
  | none => s

/-- ASC_CONFIRM_TIMEOUT of group `g` (R300, R318). -/
def ascTimer (g : Nat) (s : State) : State :=
  let h := sgOf s g
  if grpState s g = 3 ∧ !h.ascOk then
    let u := s.reach (h.ascAt + 800000)
    enterStopped g false (if inLockout u then u else lockOut 0xA u)
  else s

/-- ISLAND_SELF_TEST (R320). -/
def islandSelf (bad : Bool) (s : State) : State :=
  if !s.isl.run then s
  else
    let s1 : State := { s with isl := { s.isl with selfBad := bad } }
    if bad && !s.isl.selfBad then lockOut 4 s1 else s1

/-- CB_CRC_CHECK (R320). -/
def cbCheck (s : State) : State :=
  if !s.isl.run || !s.isl.setExists then s
  else
    let bad := decide (cbCrc s s.committed ≠ s.rd (Param.CB_CRC 0))
    let s1 : State := { s with isl := { s.isl with cbBad := bad } }
    if bad && !s.isl.cbBad then lockOut 0xC s1 else s1

/-- PARAM_CRC_CHECK: `bad` where the stored set fails its CRC (R320). -/
def paramCheck (bad : Bool) (s : State) : State :=
  if !s.isl.run || !s.isl.setExists then s
  else
    let s1 : State := { s with isl := { s.isl with paramBad := bad } }
    if bad && !s.isl.paramBad then lockOut 0xD s1 else s1

/-- GUARD_PERIOD_EXPIRY of input `k` (R312). -/
def guardExpiry (k : Nat) (s : State) : State :=
  let n := par s Param.GUARD_PERIOD 15 0
  if n ≠ 0 ∧ s.rdB (SafeIn.SI_STAT k) 5 then
    safeShow ((s.reach ((siOf s k).openAt + n * 2880000000000)).wrB (SafeIn.SI_STAT k) 5 false)
  else s

/-- PROOF_DUE of group `g` (R326). -/
def proofExpiry (g : Nat) (s : State) : State :=
  let n := par s (Param.PROOF_INT g) 15 0
  if sgEn s g ∧ n ≠ 0 then safeShow (s.reach ((sgOf s g).stoppedAt + n * 2880000000000)) else s

/-! ### Meanings -/

/-- ISLAND_CYCLE (R297). -/
def execIslandCycle (pins bad : Word) (s : State) : Out := .next (islandCycle pins bad s)

/-- ISLAND_LOCKSTEP_MISMATCH (R295). -/
def execIslandLockstepMismatch (s : State) : Out := .next (lockstepMismatch s)

/-- TEST_PULSE (R310). -/
def execTestPulse (dt : Nat) (s : State) : Out := .next (testPulse dt s)

/-- HOST_DEMAND_WRITE (R304). -/
def execHostDemandWrite (port : Port) (v : Word) (s : State) : Out := replied (gated port Safe.HOST_DEMAND v (hostDemandWrite v) s)

/-- REL_CMD (R300). -/
def execRelCmd (port : Port) (v : Word) (s : State) : Out := replied (gated port Safe.REL_CMD v (relCmdWrite v) s)

/-- BRK_REQ_WRITE (R304). -/
def execBrkReqWrite (port : Port) (v : Word) (s : State) : Out := replied (gated port Safe.BRK_REQ v (brkReqWrite v) s)

/-- LO_KEY (R321). -/
def execLoKey (port : Port) (v : Word) (s : State) : Out := replied (gated port Safe.LO_KEY v (loKeyWrite v) s)

/-- LO_KEY_TIMEOUT (R321). -/
def execLoKeyTimeout (s : State) : Out := .next (loKeyTimeout s)

/-- LOGIN (R323). -/
def execPwLogin (port : Port) (len user : Nat) (s : State) : Out :=
  replied (gated port SafePw.PW_CMD (pwWord 1 len user) (pwCmdWrite (pwWord 1 len user)) s)

/-- LOGOUT (R323). -/
def execPwLogout (port : Port) (s : State) : Out := replied (gated port SafePw.PW_CMD (pwWord 2 0 0) (pwCmdWrite (pwWord 2 0 0)) s)

/-- SET (R323). -/
def execPwSet (port : Port) (len user : Nat) (s : State) : Out :=
  replied (gated port SafePw.PW_CMD (pwWord 3 len user) (pwCmdWrite (pwWord 3 len user)) s)

/-- SESSION_TIMEOUT (R323). -/
def execSessionTimeout (s : State) : Out := .next (sessionTimeout s)

/-- LOGIN_BLOCK_EXPIRY (R323). -/
def execLoginBlockExpiry (s : State) : Out := .next (loginBlockExpiry s)

/-- COMMIT (R324). -/
def execParamCommit (port : Port) (s : State) : Out := replied (gated port Safe.PARAM_CMD 1 (paramCmdWrite 1) s)

/-- PARAM_COMMIT_DONE (R324). -/
def execParamCommitDone (dt : Nat) (s : State) : Out := .next (commitDone dt s)

/-- DISCARD (R324). -/
def execParamDiscard (port : Port) (s : State) : Out := replied (gated port Safe.PARAM_CMD 2 (paramCmdWrite 2) s)

/-- TELEGRAM_COPY_RECEIVED (R315, R401). -/
def execTelegramCopyReceived (k carrier : Nat) (l : List Nat) (s : State) : Out :=
  .next (if s.isl.run then telegramCopy k carrier l s else s)

/-- TELEGRAM_COPY_TIMEOUT (R315). -/
def execTelegramCopyTimeout (k : Nat) (s : State) : Out := .next (telegramCopyTimeout k s)

/-- TELEGRAM_WATCHDOG_EXPIRY (R315). -/
def execTelegramWatchdogExpiry (k : Nat) (s : State) : Out := .next (telegramWatchdog k s)

/-- SS1_TIMER_EXPIRY (R304). -/
def execSs1TimerExpiry (g : Nat) (s : State) : Out := .next (ss1Timer g s)

/-- SBC_DELAY_EXPIRY (R306). -/
def execSbcDelayExpiry (g : Nat) (s : State) : Out := .next (sbcTimer g s)

/-- ASC_CONFIRM_TIMEOUT (R300). -/
def execAscConfirmTimeout (g : Nat) (s : State) : Out := .next (ascTimer g s)

/-- ISLAND_SELF_TEST (R320). -/
def execIslandSelfTest (bad : Bool) (s : State) : Out := .next (islandSelf bad s)

/-- CB_CRC_CHECK (R320). -/
def execCbCrcCheck (s : State) : Out := .next (cbCheck s)

/-- PARAM_CRC_CHECK (R320). -/
def execParamCrcCheck (bad : Bool) (s : State) : Out := .next (paramCheck bad s)

/-- GUARD_PERIOD_EXPIRY (R312). -/
def execGuardPeriodExpiry (k : Nat) (s : State) : Out := .next (guardExpiry k s)

/-- PROOF_DUE (R326). -/
def execProofDue (g : Nat) (s : State) : Out := .next (proofExpiry g s)

end Sys2Proof.Machine
end

