-- ==== Sys2Proof/Machine/Msg.lean ====
section
/-! DEFINITION. The message buses (R378-R402): CAN channels and their objects, Ethernet MACs and their slots, the PTP clock
and the publisher. -/

namespace Sys2Proof.Machine

/-! ### CAN: bit timing and control (R379, R380, R389) -/

/-- CLK_CAN cycles of a nominal bit and of a data bit. -/
def nomCycles (v : Word) : Nat := (fld v 4 0 + 1) * (1 + (fld v 15 8 + 1) + (fld v 22 16 + 1))
def datCycles (v : Word) : Nat := (fld v 4 0 + 1) * (1 + (fld v 12 8 + 1) + (fld v 19 16 + 1))

/-- A write of NBT, DBT or TDC: the values it would leave are checked. -/
def canTimingWrite (ch a : Nat) (v : Word) (s : State) : Reply :=
  let val (x : Nat) : Word := if x = a then v else s.rd x
  let nbt := val (Can.NBT ch)
  let dbt := val (Can.DBT ch)
  let tdc := val (Can.TDC ch)
  let n := nomCycles nbt
  let d := datCycles dbt
  let nomOk := decide (1 ≤ fld nbt 15 8 ∧ fld nbt 30 24 ≤ fld nbt 22 16 ∧ 80 ≤ n ∧ n ≤ 8000)
    && (!s.rdB (Can.CTRL ch) 2 || decide (320 ≤ n))
  let datOk := decide (fld dbt 27 24 ≤ fld dbt 19 16 ∧ 10 ≤ d ∧ d ≤ n)
  let tdcOk := bit tdc 0 || decide (40 ≤ d)
  let ok := if a = Can.NBT ch then nomOk && decide (d ≤ n) else if a = Can.DBT ch then datOk && tdcOk else tdcOk
  if !ok then deny s .outOfRange
  else if s.rdB (Can.CTRL ch) 0 then deny s .notInState
  else plainWrite a v s

/-- A transmission of object `o` ends with a result (R384, R386). -/
def objFinish (ch o res : Nat) (s : State) : State :=
  let a := Obj.OBJ_STAT (objOf ch o)
  let tx := decide (objMode s ch o = 2)
  let w := setFld (setBit (s.rd a) 1 false) 4 2 res
  let s1 := s.wr a (if tx then setBit w 0 true else w)
  if tx then s1.pulse (Can.page ch) 1 else s1

/-- A write of CTRL. Clearing EN aborts every pending transmission. -/
def canCtrlWrite (ch : Nat) (v : Word) (s : State) : Reply :=
  let was := s.rdB (Can.CTRL ch) 0
  if bit v 2 ∧ nomCycles (s.rd (Can.NBT ch)) < 320 then deny s .outOfRange
  else if was ∧ bit v 2 ≠ s.rdB (Can.CTRL ch) 2 then deny s .notInState
  else
    let s1 := s.wr (Can.CTRL ch) (v &&& 0xF)
    if was && !bit v 0 then
      let s2 := (pendingObjs s1 ch).foldl (fun t o => objFinish ch o 4 t) s1
      accept (putCan ch { canOf s2 ch with onBus := none, abort := false, lastBit := s2.now } s2)
    else accept (canKick ch s1)

/-- A write of TG_MAP0 or TG_MAP1: an enabled byte must name an object of the mode of R400, R401. -/
def tgMapWrite (ch a : Nat) (v : Word) (s : State) : Reply :=
  let send := decide (a = Can.TG_MAP1 ch)
  let ok (j : Nat) : Bool :=
    let o := fld v (8 * j + 6) (8 * j)
    !bit v (8 * j + 7) || (if send then decide (objMode s ch o = 3) && s.rdB (Obj.OBJ_CFG (objOf ch o)) 3 else decide (objMode s ch o = 4))
  if (List.range 4).all ok then plainWrite a v s else deny s .notInState

/-! ### CAN: objects (R382-R384) -/

/-- May the configuration of an object change: MODE OFF, or OWN 1 with PENDING 0? -/
def objFree (s : State) (ch o : Nat) : Bool := decide (objMode s ch o = 0) || (objOwn s ch o && !objPending s ch o)

/-- A write of OBJ_CFG. An object put into AUTO_TX or TG_RX belongs to hardware, one put into OFF, RX or TX to software. -/
def objCfgWrite (ch o : Nat) (v : Word) (s : State) : Reply :=
  let m := fld v 2 0
  if 4 < m ∨ (m = 3 ∧ !bit v 3) then deny s .outOfRange
  else if !objFree s ch o then deny s .notInState
  else
    let c := objOf ch o
    let s1 := s.wr (Obj.OBJ_CFG c) (v &&& 0x7F01FF1F)
    let s2 := if m = objMode s ch o then s1 else s1.wr (Obj.OBJ_STAT c) (if m = 3 ∨ m = 4 then 0 else 1)
    accept (putCan ch { canOf s2 ch with next := KMap.set (fun _ => 0) (canOf s2 ch).next o 0 } s2)

/-- OBJ_CMD ACK: a receive entry, or a claimed AUTO_TX object, goes back to hardware; a head's OVERFLOW clears. -/
def objAck (ch o : Nat) (s : State) : Reply :=
  let m := objMode s ch o
  let a := Obj.OBJ_STAT (objOf ch o)
  if m = 1 then accept (s.wr a (setBit (setFld (s.rd a) 31 16 0) 0 false))
  else if m = 3 then accept (s.wr a (setBit (s.rd a) 0 false))
  else deny s .notInState

/-- OBJ_CMD SEND. -/
def objSend (ch o : Nat) (s : State) : Reply :=
  if objMode s ch o = 2 ∧ objOwn s ch o then accept (objQueue ch o s) else deny s .notInState

/-- OBJ_CMD ABORT: an attempt on the bus may finish (R386). -/
def objAbort (ch o : Nat) (s : State) : Reply :=
  if !objPending s ch o then accept s
  else if (canOf s ch).onBus = some o then accept (putCan ch { canOf s ch with abort := true } s)
  else accept (objFinish ch o 4 s)

/-- OBJ_CMD CLAIM. -/
def objClaim (ch o : Nat) (s : State) : Reply :=
  if objMode s ch o ≠ 3 then deny s .notInState
  else if objPending s ch o then deny s .busy
  else accept (s.wrB (Obj.OBJ_STAT (objOf ch o)) 0 true)

/-- A write of OBJ_CMD. -/
def objCmdWrite (ch o : Nat) (v : Word) (s : State) : Reply :=
  match fld v 3 0 with
  | 0 => accept s
  | 1 => objAck ch o s
  | 2 => objSend ch o s
  | 4 => objAbort ch o s
  | 8 => objClaim ch o s
  | _ => deny s .outOfRange

/-- Writes in the message RAM window. -/
def objWrite (a : Nat) (v : Word) (s : State) : Reply :=
  let c := (a - 0x400000) / 0x80
  let ch := c / 128
  let o := c % 128
  match a % 0x80 with
  | 0x00 => objCfgWrite ch o v s
  | 0x04 | 0x08 => if objFree s ch o then plainWrite a v s else deny s .notInState
  | 0x0C => objCmdWrite ch o v s
  | 0x10 | 0x1C => plainWrite a v s
  | x => if x < 0x20 ∨ 0x40 ≤ x then (if objOwn s ch o then plainWrite a v s else deny s .notInState) else plainWrite a v s

/-! ### CAN: error confinement, transmission and reception (R381, R385-R388) -/

/-- TEC and REC take new values; the state follows the standard's limits. -/
def putCounts (ch tec rec' : Nat) (s : State) : State :=
  let old := s.rdF (Can.ECR ch) 17 16
  let st := if old = 2 ∨ 255 < tec then 2 else if 127 < tec ∨ 127 < rec' then 1 else 0
  let s1 := s.wr (Can.ECR ch) (setFld (setFld (setFld (s.rd (Can.ECR ch)) 7 0 (min tec 255)) 15 8 (min rec' 255)) 17 16 st)
  if st = 2 ∧ old ≠ 2 then
    emitPage .fault (Can.page ch) 6 0
      ((putCan ch { canOf s1 ch with onBus := none, recover := false } s1).pulse (Can.page ch) 6)
  else if st = 1 ∧ old = 0 then s1.pulse (Can.page ch) 5
  else s1

/-- The channel goes on with the pending object of the lowest identifier. -/
def canNext (ch : Nat) (s : State) : State := canKick ch (putCan ch { canOf s ch with onBus := none, abort := false } s)

/-- One more attempt of object `o` has ended. -/
def countTry (ch o : Nat) (s : State) : State :=
  let h := canOf s ch
  let n := KMap.get (fun _ => 0) h.tries o + 1
  (putCan ch { h with tries := KMap.set (fun _ => 0) h.tries o n } s).wrF (Obj.OBJ_STAT (objOf ch o)) 15 8 (min n 255)

/-- The frame that object `o` sends: its identifier, FD and BRS as OBJ_CFG has them, ESI of an error-passive channel, and the data bytes of its
DLC (R378, R383). -/
def objFrame (s : State) (ch o : Nat) : CanFrame :=
  let c := objOf ch o
  let fd := s.rdB (Obj.OBJ_CFG c) 3
  let xtd := s.rdB (Obj.OBJ_RXID c) 29
  let d := s.rdF (Obj.OBJ_DLC c) 3 0
  let n := if fd then dlcBytes d else min d 8
  { id := if xtd then s.rdF (Obj.OBJ_RXID c) 28 0 else s.rdF (Obj.OBJ_RXID c) 28 18, xtd := xtd, rtr := false, fdf := fd
    brs := fd && s.rdB (Obj.OBJ_CFG c) 4, esi := fd && decide (s.rdF (Can.ECR ch) 17 16 = 1), dlc := d
    data := getBytes s (Obj.OBJ_DATA0 c 0) n }

/-- CAN_TX_ATTEMPT_END: the attempt on the bus ends; its frame began `sof` cycles ago. -/
def canTxEnd (ch : Nat) (e : CanEnd) (sof : Nat) (s : State) : State :=
  match (canOf s ch).onBus with
  | none => s
  | some o =>
    let abort := (canOf s ch).abort
    let tec := s.rdF (Can.ECR ch) 7 0
    let rec' := s.rdF (Can.ECR ch) 15 8
    match e with
    | .ok =>
      let s0 := putCan ch { canOf s ch with sent := some (objFrame s ch o) } s
      let s1 := (countTry ch o s0).wr (Obj.OBJ_TS (objOf ch o)) (word (s.engine - sof))
      canNext ch (putCounts ch (tec - 1) rec' (objFinish ch o 1 (s1.incL (Can.TX_FRAMES ch))))
    | .lost => canNext ch (if abort then objFinish ch o 4 s else s)
    | .error lec won =>
      let passive := decide (s.rdF (Can.ECR ch) 17 16 = 1)
      let s1 := (countTry ch o (s.incL (Can.ERR_FRAMES ch))).wrF (Obj.OBJ_STAT (objOf ch o)) 7 5 lec
      let s2 := s1.wrF (Can.ECR ch) 22 20 lec
      let s3 := if (lec = 4 ∨ lec = 5) ∧ won then s2.pulse (Can.page ch) 7 else s2
      let s4 := putCounts ch (if lec = 3 ∧ passive then tec else tec + 8) rec' s3
      let cfg := s.rd (Obj.OBJ_CFG (objOf ch o))
      let n := KMap.get (fun _ => 0) (canOf s4 ch).tries o
      canNext ch (
        if abort then objFinish ch o 4 s4
        else if !bit cfg 16 ∧ 1 + fld cfg 15 8 ≤ n then
          (if lec = 3 then (objFinish ch o 2 s4).pulse (Can.page ch) 2 else (objFinish ch o 3 s4).pulse (Can.page ch) 3)
        else s4)

/-- The identifier as OBJ_ID places it: base identifiers in [28:18]. -/
def idPlace (xtd : Bool) (id : Nat) : Word := word (if xtd then id % 2 ^ 29 else id % 2 ^ 11 * 2 ^ 18)

/-- Does object `o` head a queue that takes the frame (R385)? -/
def headTakes (s : State) (ch o : Nat) (f : CanFrame) : Bool :=
  let c := objOf ch o
  let m := objMode s ch o
  decide (m = 1 ∨ m = 4) && decide (s.rdF (Obj.OBJ_CFG c) 30 24 ≠ 0) && (s.rdB (Obj.OBJ_ID c) 29 == f.xtd)
    && decide ((idPlace f.xtd f.id ^^^ s.rd (Obj.OBJ_ID c)) &&& s.rd (Obj.OBJ_MASK c) &&& 0x1FFFFFFF = 0)

/-- The receive connection whose enabled byte of TG_MAP0 names object `o` (R401). -/
def tgConnOf (s : State) (ch o : Nat) : Option Nat :=
  (List.range 4).find? (fun k => decide (s.rdF (Can.TG_MAP0 ch) (8 * k + 7) (8 * k) = 128 + o))

/-- A stored telegram frame goes to the island as connection `k`'s copy from that carrier. -/
def toIsland (k carrier : Nat) (l : List Nat) (s : State) : State :=
  if s.isl.run && s.isl.restart.isNone then telegramCopy k carrier l s else s

/-- Store a frame into object `o` of the queue. -/
def objStore (ch o : Nat) (f : CanFrame) (sof : Nat) (s : State) : State :=
  let c := objOf ch o
  let b (x : Bool) (i : Nat) : Nat := at' (bitN x) i
  let s1 := (s.wr (Obj.OBJ_RXID c) (word ((idPlace f.xtd f.id).toNat + b f.xtd 29 + b f.fdf 30 + b f.brs 31))).wr (Obj.OBJ_DLC c)
    (word (f.dlc % 16 + b f.esi 7 + b f.rtr 8))
  let s2 := (putBytes (Obj.OBJ_DATA0 c 0) (f.data.take 64) s1).wr (Obj.OBJ_TS c) (word (s.engine - sof))
  let s3 := wakeOn 0 (s2.incL (Can.RX_FRAMES ch))
  if objMode s ch o = 1 then (s3.wrB (Obj.OBJ_STAT c) 0 true).pulse (Can.page ch) 0
  else match tgConnOf s ch o with
    | some k => toIsland k ch (f.data.drop 4) s3
    | none => s3

/-- CAN_FRAME_RECEIVED: a frame that ends without error (R384, R385, R401). -/
def canReceive (ch : Nat) (f : CanFrame) (sof : Nat) (s0 : State) : State :=
  if !s0.rdB (Can.CTRL ch) 0 || decide (s0.rdF (Can.ECR ch) 17 16 = 2) then s0
  else
    let s := putCounts ch (s0.rdF (Can.ECR ch) 7 0) (s0.rdF (Can.ECR ch) 15 8 - 1) s0
    match (List.range 128).find? (fun o => headTakes s ch o f) with
    | none => s.incL (Can.DROPPED ch)
    | some h =>
      let n := min (s.rdF (Obj.OBJ_CFG (objOf ch h)) 30 24) (128 - h)
      let i := KMap.get (fun _ => 0) (canOf s ch).next h % n
      let o := h + i
      if objOwn s ch o ∨ objMode s ch o ≠ objMode s ch h then
        ((s.incSat (Obj.OBJ_STAT (objOf ch h)) 31 16).incL (Can.OVERFLOWS ch)).pulse (Can.page ch) 4
      else
        objStore ch o f sof (putCan ch { canOf s ch with next := KMap.set (fun _ => 0) (canOf s ch).next h ((i + 1) % n) } s)

/-- A write of RECOVER (R381). -/
def canRecoverWrite (ch : Nat) (v : Word) (s : State) : Reply :=
  if bit v 0 ∧ s.rdF (Can.ECR ch) 17 16 = 2 then accept (putCan ch { canOf s ch with recover := true } s) else accept s

/-- BUS_OFF_RECOVERY_DONE: 128 occurrences of 11 recessive bits (R381). -/
def busOffDone (ch : Nat) (s : State) : State :=
  if s.rdF (Can.ECR ch) 17 16 = 2 ∧ ((canOf s ch).recover ∨ s.rdB (Can.CTRL ch) 3) then
    canKick ch ((putCan ch { canOf s ch with recover := false } s).wrF (Can.ECR ch) 17 0 0)
  else s

/-! ### PTP (R393, R395) -/

/-- CLK_ETH cycles since power-on at an instant: 125 MHz. -/
def ethCycle (now : Nat) : Nat := now * 5 / 32

/-- The clock in 2^-24 ns at a CLK_ETH cycle, modulo its 48-bit seconds. -/
def ptpSpan : Nat := 2 ^ 48 * 1000000000 * 2 ^ 24
def ptpAt (s : State) (cyc : Nat) : Nat := (s.bus.ptp.base + (cyc - s.bus.ptp.cyc) * (s.rd Ptp.PTP_RATE).toNat) % ptpSpan

/-- What a timestamp captures at a cycle: the clock before a change of offset or rate in that cycle or later (R402). -/
def ptpCapture (s : State) (cyc : Nat) : Nat :=
  match s.bus.ptp.past.find? (fun e => decide (e.1 < cyc)) with
  | some e => if s.bus.ptp.cyc < cyc then ptpAt s cyc else (e.2.1 + (cyc - e.1) * e.2.2.toNat) % ptpSpan
  | none => ptpAt s cyc

/-- The clock now, in nanoseconds and seconds. -/
def ptpNow (s : State) : Nat := ptpAt s (ethCycle s.now)
def ptpNs (t : Nat) : Nat := t / 2 ^ 24 % 1000000000
def ptpSec (t : Nat) : Nat := t / 2 ^ 24 / 1000000000

/-- The clock takes a value at the present cycle; a timestamp of an earlier cycle stays on the scale before it (R402), as long as
a frame lasts at most. -/
def putPtp (t : Nat) (s : State) : State :=
  let p := s.bus.ptp
  let old := ((p.cyc, p.base, s.rd Ptp.PTP_RATE) :: p.past).take 64
  { s with bus := { s.bus with ptp := { p with base := t, cyc := ethCycle s.now, past := old } } }

/-- A signed word. -/
def signed32 (w : Word) : Int := signedOf 32 w.toNat

/-- Writes of the PTP page. -/
def ptpWrite (a : Nat) (v : Word) (s : State) : Reply :=
  if a = Ptp.PTP_RATE then
    if 0x07F00000 ≤ v.toNat ∧ v.toNat ≤ 0x08100000 then accept ((putPtp (ptpNow s) s).wr a v) else deny s .outOfRange
  else if a = Ptp.PTP_STEP_NS then
    if -999999999 ≤ signed32 v ∧ signed32 v ≤ 999999999 then
      accept { s with bus := { s.bus with ptp := { s.bus.ptp with stepNs := v } } }
    else deny s .outOfRange
  else if a = Ptp.PTP_STEP_S then
    let d : Int := (signed32 v * 1000000000 + signed32 s.bus.ptp.stepNs) * 2 ^ 24
    accept (putPtp (((ptpNow s : Int) + d) % (ptpSpan : Int)).toNat s)
  else plainWrite a v s

/-- A read of PTP_NS latches the seconds. -/
def ptpNsRead (s : State) : Word × State :=
  let t := ptpNow s
  (word (ptpNs t), { s with bus := { s.bus with ptp := { s.bus.ptp with latched := ptpSec t } } })

/-- What the PTP page shows. -/
def ptpView (a : Nat) (s : State) : Word :=
  if a = Ptp.PTP_NS then word (ptpNs (ptpNow s))
  else if a = Ptp.PTP_S_LO then word (s.bus.ptp.latched % 2 ^ 32)
  else if a = Ptp.PTP_S_HI then word (s.bus.ptp.latched / 2 ^ 32 % 2 ^ 16)
  else s.rd a

/-- Each 1 ms epoch captures the clock. -/
def ptpEpoch (s : State) : State := (s.wr Ptp.PTP_EPOCH_NS (word (ptpNs (ptpNow s)))).wr Ptp.PTP_EPOCH_S (word (ptpSec (ptpNow s)))

/-! ### Ethernet (R390-R394) -/

def macOf (s : State) (m : Nat) : MacHid := KMap.get (fun _ => {}) s.bus.macs m
def putMac (m : Nat) (h : MacHid) (s : State) : State :=
  { s with bus := { s.bus with macs := KMap.set (fun _ => {}) s.bus.macs m h } }

/-- A transmission of slot `i` ends with a result; a slot that is not AUTO goes to software. -/
def slotFinish (m i res : Nat) (s : State) : State :=
  let a := EthTx.SLOT_STAT m i
  let w := setFld (setBit (s.rd a) 1 false) 4 2 res
  if s.rdB (EthTx.SLOT_CFG m i) 0 then s.wr a w else (s.wr a (setBit w 0 true)).pulse (Mac.page m) 1

/-- A write of a MAC's CTRL. -/
def macCtrlWrite (m : Nat) (v : Word) (s : State) : Reply :=
  let was := s.rdB (Mac.CTRL m) 0
  if fld v 2 1 = 3 ∨ (bit v 3 ∧ fld v 2 1 = 2) then deny s .outOfRange
  else if was ∧ fld v 3 1 ≠ s.rdF (Mac.CTRL m) 3 1 then deny s .notInState
  else
    let s1 := s.wr (Mac.CTRL m) (v &&& 0xF)
    if was && !bit v 0 then
      let s2 := ((List.range 8).filter (fun i => s.rdB (EthTx.SLOT_STAT m i) 1)).foldl (fun t i => slotFinish m i 4 t) s1
      accept (putMac m { macOf s2 m with lastBit := s2.now } s2)
    else accept s1

/-- Writes of a MAC's page. -/
def macWrite (a : Nat) (v : Word) (s : State) : Reply :=
  let m := pageOf a - 0x280
  if a = Mac.CTRL m then macCtrlWrite m v s
  else if a = Mac.TG_SLOT m then
    if (List.range 4).all (fun k => !bit v (4 * k + 3) || s.rdB (EthTx.SLOT_CFG m (fld v (4 * k + 2) (4 * k))) 0) then plainWrite a v s
    else deny s .notInState
  else if a = Mac.MDIO_CMD m then
    if s.rdB (Mac.MDIO_STAT m) 0 then deny s .busy
    else accept ((putMac m { macOf s m with mdioRead := bit v 10 } s).wrB (Mac.MDIO_STAT m) 0 true)
  else plainWrite a v s

/-- MDIO_DONE: a management transfer completes. -/
def mdioDone (m data : Nat) (s : State) : State :=
  if !s.rdB (Mac.MDIO_STAT m) 0 then s
  else
    let w := if (macOf s m).mdioRead then setFld (s.rd (Mac.MDIO_STAT m)) 31 16 data else s.rd (Mac.MDIO_STAT m)
    (s.wr (Mac.MDIO_STAT m) (setBit w 0 false)).pulse (Mac.page m) 3

/-- Transmit slot commands. -/
def slotAck (m i : Nat) (s : State) : Reply :=
  if s.rdB (EthTx.SLOT_CFG m i) 0 then accept (s.wrB (EthTx.SLOT_STAT m i) 0 false) else deny s .notInState
def slotSend (m i : Nat) (s : State) : Reply :=
  if s.rdB (EthTx.SLOT_STAT m i) 0 ∧ !s.rdB (EthTx.SLOT_CFG m i) 0 then accept (s.wr (EthTx.SLOT_STAT m i) 2) else deny s .notInState
def slotAbort (m i : Nat) (s : State) : Reply := accept (if s.rdB (EthTx.SLOT_STAT m i) 1 then slotFinish m i 4 s else s)
def slotClaim (m i : Nat) (s : State) : Reply :=
  if !s.rdB (EthTx.SLOT_CFG m i) 0 then deny s .notInState
  else if s.rdB (EthTx.SLOT_STAT m i) 1 then deny s .busy
  else accept (s.wrB (EthTx.SLOT_STAT m i) 0 true)

/-- Writes of a transmit slot's page. -/
def txSlotWrite (a : Nat) (v : Word) (s : State) : Reply :=
  let m := (pageOf a - 0x290) / 16
  let i := (pageOf a - 0x290) % 16
  let own := s.rdB (EthTx.SLOT_STAT m i) 0
  if a = EthTx.SLOT_CFG m i then
    if !own ∨ s.rdB (EthTx.SLOT_STAT m i) 1 then deny s .notInState
    else if bit v 0 = s.rdB a 0 then accept s
    else accept ((s.wr a (v &&& 1)).wr (EthTx.SLOT_STAT m i) (if bit v 0 then 0 else 1))
  else if a = EthTx.SLOT_CMD m i then
    match fld v 3 0 with
    | 0 => accept s
    | 1 => slotAck m i s
    | 2 => slotSend m i s
    | 4 => slotAbort m i s
    | 8 => slotClaim m i s
    | _ => deny s .outOfRange
  else if a = EthTx.SLOT_LEN m i then
    if fld v 10 0 < 60 ∨ 1514 < fld v 10 0 then deny s .outOfRange
    else if own then plainWrite a v s else deny s .notInState
  else if a = EthTx.SLOT_TAG m i ∨ (EthTx.FRAME m i 0 ≤ a ∧ a ≤ EthTx.FRAME m i 383) then
    if own then plainWrite a v s else deny s .notInState
  else plainWrite a v s

/-- Writes of a receive slot's page: ACK returns the slot to hardware. -/
def rxSlotWrite (a : Nat) (v : Word) (s : State) : Reply :=
  let m := (pageOf a - 0x298) / 16
  let i := (pageOf a - 0x298) % 16
  if a = EthRx.SLOT_CMD m i then
    match fld v 3 0 with
    | 0 | 4 => accept s
    | 1 => accept (s.wrB (EthRx.SLOT_STAT m i) 0 false)
    | 2 | 8 => deny s .notInState
    | _ => deny s .outOfRange
  else plainWrite a v s

/-- Is a frame a PTP event message: EtherType 0x88F7, messageType 0-3 (R393)? `l` is the frame without tag. -/
def ptpEvent (l : List Nat) : Bool := decide ((l.drop 12).take 2 = [0x88, 0xF7]) && decide (l.getD 14 0 % 16 ≤ 3)

/-- The MAC's own address, and its multicast address. -/
def ownAddr (s : State) (m : Nat) : List Nat := bytes2 (s.rdF (Mac.MAC_HI m) 15 0) ++ wordBytes (s.rd (Mac.MAC_LO m))
def mcastAddr (s : State) (m : Nat) : List Nat := bytes2 (s.rdF (Mac.MCAST_HI m) 15 0) ++ wordBytes (s.rd (Mac.MCAST_LO m))

/-- The address check of R391. -/
def addrOk (s : State) (m : Nat) (l : List Nat) : Bool :=
  let da := l.take 6
  decide (da = ownAddr s m ∨ da = List.replicate 6 0xFF) || (s.rdB (Mac.MCAST_HI m) 16 && decide (da = mcastAddr s m))

/-- The first enabled filter that matches an EtherType and a tag. -/
def filterOf (s : State) (m et : Nat) (tag : Option Nat) : Option Nat :=
  (List.range 4).find? (fun j =>
    let w := s.rd (Mac.RX_FILT0 m j)
    bit w 16 && decide (fld w 15 0 = et) && (!bit w 17 || (match tag with
      | some t => decide (t % 4096 = fld w 29 18)
      | none => false)))

/-- Store a received frame (tag removed) into the next slot in ring order (R391, R392). -/
def slotStore (m : Nat) (l : List Nat) (tag : Option Nat) (flt : Nat) (sfd : Nat) (s : State) : State :=
  let i := (macOf s m).rxNext % 8
  if s.rdB (EthRx.SLOT_STAT m i) 0 then (s.incL (Mac.RX_OVERFLOW m)).pulse (Mac.page m) 2
  else
    let ts := ptpEvent l
    let t := ptpCapture s (ethCycle (s.now - sfd))
    let s1 := (putBytes (EthRx.FRAME m i 0) l s).wr (EthRx.SLOT_LEN m i) (word l.length)
    let s2 := s1.wr (EthRx.SLOT_TAG m i) (word (tag.getD 0))
    let s3 := if ts then ((s2.wr (EthRx.TS_NS m i) (word (ptpNs t))).wr (EthRx.TS_S_LO m i) (word (ptpSec t % 2 ^ 32))).wr (EthRx.TS_S_HI m i)
        (word (ptpSec t / 2 ^ 32)) else s2
    let s4 := s3.wr (EthRx.SLOT_STAT m i) (word (1 + at' (bitN ts) 5 + at' (bitN tag.isSome) 6 + at' flt 8))
    wakeOn 1 ((putMac m { macOf s4 m with rxNext := (i + 1) % 8 } (s4.incL (Mac.RX_FRAMES m))).pulse (Mac.page m) 0)

/-- MAC_FRAME_RECEIVED: a frame from destination address to payload, with any tag; `ok` where its FCS is good. -/
def macReceive (m : Nat) (raw : List Nat) (ok : Bool) (sfd : Nat) (s : State) : State :=
  if !s.rdB (Mac.CTRL m) 0 then s
  else if !ok ∨ raw.length + 4 < 64 ∨ 1522 < raw.length + 4 then s.incL (Mac.RX_BAD m)
  else
    let tagged := decide ((raw.drop 12).take 2 = [0x81, 0x00])
    let tag := if tagged then some (bytesNat ((raw.drop 14).take 2)) else none
    let l := if tagged then raw.take 12 ++ raw.drop 16 else raw
    let et := bytesNat ((l.drop 12).take 2)
    if et = 0x8808 ∨ !addrOk s m l then s.incL (Mac.RX_FILTERED m)
    else if et = 0x88B5 ∧ l.getD 14 0 = 0x13 ∧ l.getD 15 0 ≤ 3 then toIsland (l.getD 15 0) (4 + m) (l.drop 18) s
    else match filterOf s m et tag with
      | none => s.incL (Mac.RX_FILTERED m)
      | some j => slotStore m l tag j sfd s

/-- The frame of transmit slot `i` on the wire: the tag after the source address, the payload padded to 46 bytes, and the FCS (R390, R392). -/
def txFrame (s : State) (m i : Nat) : List Nat :=
  let l := getBytes s (EthTx.FRAME m i 0) (s.rdF (EthTx.SLOT_LEN m i) 10 0)
  let tag := if s.rdB (EthTx.SLOT_TAG m i) 16 then [0x81, 0x00] ++ bytes2 (s.rdF (EthTx.SLOT_TAG m i) 15 0) else []
  let body := l.take 12 ++ tag ++ l.drop 12 ++ List.replicate (60 - l.length) 0
  body ++ (bytes4 (Crc.crc32 0xFFFFFFFF body)).reverse

/-- MAC_TX_DONE: the transmission of slot `i` ends; its start-of-frame delimiter passed `sfd` cycles ago. -/
def macTxEnd (m i sfd : Nat) (s : State) : State :=
  if !s.rdB (Mac.CTRL m) 0 || !s.rdB (EthTx.SLOT_STAT m i) 1 then s
  else
    let l := getBytes s (EthTx.FRAME m i 0) 15
    let ts := ptpEvent l
    let t := ptpCapture s (ethCycle (s.now - sfd))
    let s1 := if ts then ((s.wr (EthTx.TS_NS m i) (word (ptpNs t))).wr (EthTx.TS_S_LO m i) (word (ptpSec t % 2 ^ 32))).wr (EthTx.TS_S_HI m i)
        (word (ptpSec t / 2 ^ 32)) else s
    let s2 := putMac m { macOf s1 m with sent := txFrame s m i } s1
    slotFinish m i 1 ((s2.wrB (EthTx.SLOT_STAT m i) 5 ts).incL (Mac.TX_FRAMES m))

/-! ### Publisher (R397, R398) -/

def pubOf (s : State) (e : Nat) : PubHid := KMap.get (fun _ => {}) s.bus.pubs e
def putPub (e : Nat) (h : PubHid) (s : State) : State :=
  { s with bus := { s.bus with pubs := KMap.set (fun _ => {}) s.bus.pubs e h } }

/-- Do the words an entry names lie in one page with a group, all RO/S, and do they fit the carrier? -/
def pubSrcOk (cfg src : Word) : Bool :=
  let a := fld src 23 0
  let n := fld src 31 24
  decide (1 ≤ n ∧ a % 4 = 0 ∧ pageOf (a + 4 * (n - 1)) = pageOf a) && hasSnap (pageOf a)
    && (List.range n).all (fun j => isRos (a + 4 * j)) && (bit cfg 2 || decide (n ≤ 12))

/-- Is the carrier an AUTO_TX object, or a slot with AUTO? -/
def pubCarrierOk (s : State) (cfg : Word) : Bool :=
  if bit cfg 2 then s.rdB (EthTx.SLOT_CFG (fld cfg 5 4) (fld cfg 14 8)) 0 else decide (objMode s (fld cfg 5 4) (fld cfg 14 8) = 3)

/-- Writes of the publisher page. -/
def pubWrite (a : Nat) (v : Word) (s : State) : Reply :=
  let e := (a - 0x283040) / 16
  if e < 16 ∧ a = Pub.PUB_CFG e then
    if bit v 0 ∧ (!pubSrcOk v (s.rd (Pub.PUB_SRC e)) ∨ fld v 31 16 = 0 ∨ (bit v 2 ∧ (1 < fld v 5 4 ∨ 7 < fld v 14 8))) then deny s .outOfRange
    else if bit v 0 ∧ !pubCarrierOk s v then deny s .notInState
    else
      let s1 := (s.wr a (v &&& 0xFFFF7F37)).wr (Pub.PUB_CNT e) 0
      accept (putPub e { pubOf s1 e with since := s1.now, waiting := false } s1)
  else if e < 16 ∧ a = Pub.PUB_SRC e then
    if s.rdB (Pub.PUB_CFG e) 0 ∧ !pubSrcOk (s.rd (Pub.PUB_CFG e)) v then deny s .outOfRange else plainWrite a v s
  else plainWrite a v s

/-- Does page `p` show DOLDRUMS now (R50)? -/
def isStale (s : State) (p : Nat) : Bool :=
  decide (s.rdF (hSNAP_GEN p) 23 0 = 0) || s.rdB (hSNAP_GEN p) 27 || decide (ageLimit s p < ageOf s p)

/-- Entry `e` reads its words and sends its record. -/
def publish (e : Nat) (s0 : State) : State :=
  let s := putPub e { pubOf s0 e with waiting := false } s0
  let cfg := s.rd (Pub.PUB_CFG e)
  let a := s.rdF (Pub.PUB_SRC e) 23 0
  let n := s.rdF (Pub.PUB_SRC e) 31 24
  let p := pageOf a
  if 3 < (pubOf s e).moved then s.incSat (Pub.PUB_CNT e) 7 0
  else
    let s1 := (readSnapGen p (.publisher e) (readSnapGen p (.publisher e) s).2).2
    let stale := isStale s1 p
    let gen := s1.rdF (hSNAP_GEN p) 23 0
    let rep := (pubOf s1 e).sent && decide (gen = s1.rdF (Pub.PUB_STAT e) 23 0)
    let ws := (List.range n).map (fun j => if stale then 0x7FA00000 else s1.rd (a + 4 * j))
    let l := recordHead 1 (bitN stale + 2 * bitN rep) p (a % 4096) n e gen (ageOf s1 p) ++ wordsBytes ws
    let r := devSend (bit cfg 2) (fld cfg 5 4) (fld cfg 14 8) true l s1
    let done (t : State) : State :=
      (putPub e { pubOf t e with sent := true } t).wr (Pub.PUB_STAT e) (word (gen + at' (bitN stale) 24 + at' (bitN rep) 25))
    match r.2 with
    | .sent => done r.1
    | .replaced => done (r.1.incSat (Pub.PUB_CNT e) 15 8)
    | _ => r.1.incSat (Pub.PUB_CNT e) 23 16

/-- PUBLICATION_DUE: the period of entry `e` expires; `moved` counts the reads whose two GEN values differ. With TAKE the record
waits for READY. -/
def publicationDue (e moved : Nat) (s0 : State) : State :=
  let cfg := s0.rd (Pub.PUB_CFG e)
  if !bit cfg 0 then s0
  else
    let due := (pubOf s0 e).since + msCycles (fld cfg 31 16)
    let s := s0.reach due
    let p := pageOf (s.rdF (Pub.PUB_SRC e) 23 0)
    let s1 := putPub e { pubOf s e with since := due, waiting := bit cfg 1, moved := moved } s
    if bit cfg 1 then takeSnap p s1 else publish e s1

/-- The entries that wait for READY of page `p` publish (R397). -/
def publishWaiting (p : Nat) (s : State) : State :=
  (List.range 16).foldl (fun t e =>
    if (pubOf t e).waiting && decide (pageOf (t.rdF (Pub.PUB_SRC e) 23 0) = p) then publish e t else t) s

/-! ### Register writes -/

/-- Writes of a CAN channel's page. -/
def canWrite (a : Nat) (v : Word) (s : State) : Reply :=
  let ch := pageOf a - 0x240
  if a = Can.CTRL ch then canCtrlWrite ch v s
  else if a = Can.NBT ch ∨ a = Can.DBT ch ∨ a = Can.TDC ch then canTimingWrite ch a v s
  else if a = Can.TG_MAP0 ch ∨ a = Can.TG_MAP1 ch then tgMapWrite ch a v s
  else if a = Can.RECOVER ch then canRecoverWrite ch v s
  else plainWrite a v s

/-- Writes of the message buses. -/
def busWrite (k : PageKind) (a : Nat) (v : Word) (s : State) : Reply :=
  match k with
  | .can => canWrite a v s
  | .canRam => objWrite a v s
  | .mac => macWrite a v s
  | .ptp => ptpWrite a v s
  | .pub => pubWrite a v s
  | .ethTx => txSlotWrite a v s
  | .ethRx => rxSlotWrite a v s
  | _ => plainWrite a v s

/-! ### Meanings -/

/-- CAN_FRAME_RECEIVED (R385). -/
def execCanFrameReceived (ch id : Nat) (xtd rtr fdf brs esi : Bool) (dlc : Nat) (data : List Nat) (sof : Nat) (s : State) : Out :=
  .next (canReceive ch { id := id, xtd := xtd, rtr := rtr, fdf := fdf, brs := brs, esi := esi, dlc := dlc, data := data } sof s)

/-- CAN_TX_ATTEMPT_END (R386). -/
def execCanTxAttemptEnd (ch : Nat) (e : CanEnd) (sof : Nat) (s : State) : Out := .next (canTxEnd ch e sof s)

/-- RECOVER (R381). -/
def execCanRecover (port : Port) (ch : Nat) (s : State) : Out := replied (gated port (Can.RECOVER ch) 1 (canRecoverWrite ch 1) s)

/-- BUS_OFF_RECOVERY_DONE (R381). -/
def execBusOffRecoveryDone (ch : Nat) (s : State) : Out := .next (busOffDone ch s)

/-- A command of object `o` of channel `ch`. -/
def objCommand (port : Port) (ch o : Nat) (v : Word) (s : State) : Out :=
  replied (gated port (Obj.OBJ_CMD (objOf ch o)) v (objCmdWrite ch o v) s)

/-- OBJ_ACK (R384). -/
def execObjAck (port : Port) (ch o : Nat) (s : State) : Out := objCommand port ch o 1 s

/-- OBJ_SEND (R384). -/
def execObjSend (port : Port) (ch o : Nat) (s : State) : Out := objCommand port ch o 2 s

/-- OBJ_ABORT (R386). -/
def execObjAbort (port : Port) (ch o : Nat) (s : State) : Out := objCommand port ch o 4 s

/-- OBJ_CLAIM (R384). -/
def execObjClaim (port : Port) (ch o : Nat) (s : State) : Out := objCommand port ch o 8 s

/-- CAN_DISABLE (R389): a write of CTRL with EN clear. -/
def execCanDisable (port : Port) (ch : Nat) (v : Word) (s : State) : Out :=
  replied (gated port (Can.CTRL ch) (setBit v 0 false) (canCtrlWrite ch (setBit v 0 false)) s)

/-- MAC_FRAME_RECEIVED (R391). -/
def execMacFrameReceived (m : Nat) (l : List Nat) (ok : Bool) (sfd : Nat) (s : State) : Out := .next (macReceive m l ok sfd s)

/-- MAC_TX_DONE (R394). -/
def execMacTxDone (m i sfd : Nat) (s : State) : Out := .next (macTxEnd m i sfd s)

/-- A command of slot `i` of MAC `m`; `rx`: a receive slot. -/
def slotCommand (port : Port) (m i : Nat) (rx : Bool) (v : Word) (s : State) : Out :=
  if rx then replied (gated port (EthRx.SLOT_CMD m i) v (rxSlotWrite (EthRx.SLOT_CMD m i) v) s)
  else replied (gated port (EthTx.SLOT_CMD m i) v (txSlotWrite (EthTx.SLOT_CMD m i) v) s)

/-- SLOT_ACK (R394). -/
def execSlotAck (port : Port) (m i : Nat) (rx : Bool) (s : State) : Out := slotCommand port m i rx 1 s

/-- SLOT_SEND_CMD (R394). -/
def execSlotSendCmd (port : Port) (m i : Nat) (rx : Bool) (s : State) : Out := slotCommand port m i rx 2 s

/-- SLOT_ABORT (R394). -/
def execSlotAbort (port : Port) (m i : Nat) (rx : Bool) (s : State) : Out := slotCommand port m i rx 4 s

/-- SLOT_CLAIM (R394). -/
def execSlotClaim (port : Port) (m i : Nat) (rx : Bool) (s : State) : Out := slotCommand port m i rx 8 s

/-- MDIO_CMD (R394). -/
def execMdioCmd (port : Port) (m : Nat) (v : Word) (s : State) : Out := replied (gated port (Mac.MDIO_CMD m) v (macWrite (Mac.MDIO_CMD m) v) s)

/-- MDIO_DONE (R394). -/
def execMdioDone (m data : Nat) (s : State) : Out := .next (mdioDone m data s)

/-- PTP_STEP_S (R393). -/
def execPtpStepS (port : Port) (v : Word) (s : State) : Out := replied (gated port Ptp.PTP_STEP_S v (ptpWrite Ptp.PTP_STEP_S v) s)

/-- PTP_NS_READ (R395). -/
def execPtpNsRead (s : State) : Out := .next (if busyPage s Ptp.page then s else (ptpNsRead s).2)

/-- PUBLICATION_DUE (R397). -/
def execPublicationDue (e moved : Nat) (s : State) : Out := .next (publicationDue e moved s)

end Sys2Proof.Machine
end

