-- ==== Sys2Proof/Machine/Therm.lean ====
section
/-! DEFINITION. Thermal management (R335-R352): the Breeze round, thresholds, throttling, cold block, thermal shutdown and
re-arm. -/

namespace Sys2Proof.Machine

/-! ### Channels (R335, R337, R338) -/

def hkOf (s : State) (c : Nat) : HkHid := KMap.get (fun _ => {}) s.therm.chans c
def putHk (c : Nat) (h : HkHid) (s : State) : State :=
  { s with therm := { s.therm with chans := KMap.set (fun _ => {}) s.therm.chans c h } }

/-- Is channel `c` enabled? Channels 16-19 always are (R350). -/
def hkEn (s : State) (c : Nat) : Bool := decide (16 ≤ c ∧ c ≤ 19) || s.rdB (ThermCh.HK_CFG c) 0

/-- A code in volts: 1 mV each. -/
def codeVolts (n : Nat) : Word := F.ratio n 1000

/-- q / k, ln 10, 273.15 and 1 / 298.15. -/
def cQk : Word := 0x46355213
def cLn10 : Word := 0x40135D8E
def c273 : Word := 0x43889333
def cInv298 : Word := 0x3B5BCF0F

/-- Ohms from a code and TS_CFG.BIAS. -/
def ohms (code bias : Nat) : Word := F.ofNat (code * (match bias with | 0 => 100 | 1 => 10 | _ => 1))

/-- The temperature of an NTC (R337). -/
def ntcTemp (r r25 beta : Word) : Word :=
  F.sub (F.div F.one (F.add cInv298 (F.div (Config.ln32 (F.div r r25)) beta))) c273

/-- The temperature of a PT1000 (IEC 60751): the quadratic at and above 0 °C; below it the curve also has C. -/
def ptTemp (r : Word) : Word :=
  let a : Word := 0x3B801132
  let b : Word := 0xB51B057F
  let x := F.div r 0x447A0000
  if F.lt x F.one then Config.ptCold r
  else F.div (F.sub (F.sqrt (F.sub (F.mul a a) (F.mul (F.mul (F.ofNat 4) b) (F.sub F.one x)))) a) (F.mul F.two b)

/-- The value of channel `c`: remote pins by their mode from one code, or two in diode mode; housekeeping pins in volts; and
`val` as the device reports it on the channels whose scale the manual does not give. -/
def hkValue (s : State) (c code code2 : Nat) (val : Word) : Word :=
  if c < 16 then
    let cfg := s.rd (ThermTs.TS_CFG c)
    let p0 := s.rd (ThermTs.TS_P0 c)
    let p1 := s.rd (ThermTs.TS_P1 c)
    match fld cfg 1 0 with
    | 0 => F.sub (F.div (F.mul cQk (F.ratio ((code2 : Int) - (code : Int)) 1000)) (F.mul p0 cLn10)) c273
    | 1 => ntcTemp (ohms code (fld cfg 5 4)) p0 p1
    | _ => ptTemp (F.sub (ohms code (fld cfg 5 4)) p1)
  else if c = 31 ∨ 64 ≤ c then codeVolts code
  else val

/-- Is a value valid (R338)? -/
def hkValid (s : State) (c code code2 : Nat) (v : Word) : Bool :=
  let ok (n : Nat) : Bool := decide (0 < n ∧ n < 4095)
  ok code && (decide (c < 16 ∧ s.rdF (ThermTs.TS_CFG c) 1 0 = 0) == false || ok code2)
    && (decide (20 ≤ c) || (F.le 0xC25C0000 v && F.le v 0x43480000))

/-! ### Levels (R340) -/

/-- The level with index `i` of channel `c`: 0 LOW_TRIP, 1 LOW_WARN, 2 HIGH_WARN, 3 HIGH_DERATE, 4 HIGH_TRIP. -/
def hkLevel (s : State) (c i : Nat) : Word := s.rd (ThermCh.LOW_TRIP c + 4 * i)

/-- Does channel `c` hold level `i`? -/
def hkHolds (s : State) (c i : Nat) : Bool := s.rdB (ThermCh.HK_STAT c) i

/-- A level after a value. -/
def levelStep (s : State) (c i : Nat) (v : Word) : Bool :=
  let l := hkLevel s c i
  let h := s.rd (ThermCh.HYST c)
  if i < 2 then (if hkHolds s c i then F.le v (F.add l h) else F.le v l)
  else if hkHolds s c i then F.le (F.sub l h) v else F.le l v

/-- The channels mapped to machine `m` that are enabled and hold level `i`, with LOW_EN for the lowest. -/
def mapped (s : State) (m i : Nat) : List Nat :=
  (List.range 96).filter (fun c => hkEn s c && s.rdB (ThermCh.HK_CFG c) (4 + m) && hkHolds s c i
    && (decide (i ≠ 0) || s.rdB (ThermCh.HK_CFG c) 9))

/-! ### What STATUS and the interrupt conditions show (R349) -/

def thrBit (s : State) (i : Nat) : Bool := s.rdB Therm.THR_STAT i

/-- The levels of IRQ_RAW. -/
def thermLevels (s : State) : State :=
  let p := Therm.page
  let any (i : Nat) : Bool := (List.range 96).any (fun c => s.rdB (ThermCh.HK_STAT c) i)
  let s1 := ((s.raw p 0 (any 1)).raw p 1 (any 2)).raw p 2 (decide (s.rdF Therm.THR_STAT 3 0 ≠ 0))
  let s2 := ((s1.raw p 3 (decide (s1.rdF Therm.THR_STAT 7 4 ≠ 0))).raw p 4 (thrBit s1 12)).raw p 5 (any 8)
  wakeRisen 3 p 0x34 s ((s2.raw p 6 (decide (s2.rdF Therm.THR_STAT 11 8 ≠ 0))).raw p 7 (thrBit s2 13))

/-- An event of the thermal manager: DETAIL is THR_STAT. -/
def thermEvent (cls : EvClass) (code obj : Nat) (s : State) : State := s.emit cls Therm.page code obj (s.rd Therm.THR_STAT)

/-- A thermal alarm frame (R344, R399). -/
def thermAlarm (code idx : Nat) (v : Word) (s : State) : State :=
  let w := s.rd Therm.THR_CAN
  if bit w 4 then sendAlarm false (fld w 1 0) (fld w 14 8) Therm.page s.now [word (code + at' idx 8), v] s else s

/-! ### Throttling (R342, R343) -/

/-- The least f of R343 over the mapped channels that hold HIGH_DERATE. -/
def derateF (s : State) (m : Nat) : Word :=
  (mapped s m 3).foldl (fun a c =>
    let t := s.rdL (Therm.HK_VAL c)
    let d := hkLevel s c 3
    let tr := hkLevel s c 4
    let v := if s.rdB (ThermCh.HK_STAT c) 5 then t else if s.rdF (ThermCh.HK_CFG c) 11 10 = 2 then tr else d
    F.min a (F.clamp (F.div (F.sub tr v) (F.sub tr d)) 0 F.one)) F.one

/-- The target of the limit of machine `m`. -/
def limTarget (s : State) (m : Nat) : Word :=
  let full := s.rd (Therm.TQ_FULL0 m)
  if thrBit s 12 then 0
  else if thrBit s (4 + m) then F.mul full (F.max (derateF s m) (s.rd Therm.DR_FLOOR))
  else full

/-- One round's move of the limit of machine `m`. -/
def limStep (s : State) (m : Nat) : State :=
  let x := s.rdL (Therm.DR_LIM m)
  let t := limTarget s m
  let d := F.mul (s.rd Therm.DR_RATE) (F.ratio 2048 1000000)
  let y := if thrBit s 12 then 0 else if F.lt x t then F.min t (F.add x d) else F.max t (F.sub x d)
  setSrc (0x600 + m) y true (s.produce (Therm.DR_LIM m) y)

/-- A throttle request of machine `m` follows its channels. -/
def requestStep (s : State) (m : Nat) : State :=
  let any := !(mapped s m 3).isEmpty
  let timers := s.therm.grace.filter (fun e => decide (e.1 ≠ m))
  if any && !thrBit s m then
    let g := s.now + msCycles (s.rdF Therm.GRACE 15 0)
    let s1 := thermLevels { s.wrB Therm.THR_STAT m true with therm := { s.therm with grace := timers ++ [(m, g)] } }
    let v := match (mapped s m 3).head? with
      | some c => s.rdL (Therm.HK_VAL c)
      | none => 0
    thermAlarm 1 m v (thermEvent .warn 2 m s1)
  else if !any && thrBit s m then
    let s1 : State := { (s.wrB Therm.THR_STAT m false).wrB Therm.THR_STAT (4 + m) false with therm := { s.therm with grace := timers } }
    thermAlarm 3 m (s1.rdL (Therm.DR_LIM m)) (thermLevels s1)
  else s

/-- Enforcement begins on machine `m` where its request still stands and its grace timer has run out (R342). -/
def enforceStep (s : State) (m : Nat) : State :=
  match s.therm.grace.find? (fun e => decide (e.1 = m)) with
  | none => s
  | some e =>
    if s.now < e.2 ∨ !thrBit s m then s
    else
      let rest := s.therm.grace.filter (fun x => decide (x.1 ≠ m))
      let s1 := thermLevels { s.wrB Therm.THR_STAT (4 + m) true with therm := { s.therm with grace := rest } }
      thermAlarm 2 m (limTarget s1 m) s1

/-- GRACE_EXPIRY of machine `m`: the timer runs out. While the round runs, a request that clears at the end of the slot in which this
happens is evaluated first, so that enforcement begins at the end of that slot (R342, R352). -/
def graceExpiry (m : Nat) (s0 : State) : State :=
  match s0.therm.grace.find? (fun e => decide (e.1 = m)) with
  | none => s0
  | some e =>
    let s := s0.reach e.2
    if s.therm.run then s else enforceStep s m

/-- The grace timers that have run out by the end of a slot. -/
def graceCheck (s : State) : State := (List.range 4).foldl enforceStep s

/-! ### Forced states (R341, R345) -/

/-- The cold block of machine `m` follows its channels. -/
def coldStep (s : State) (m : Nat) : State :=
  let any := !(mapped s m 0).isEmpty
  if any && !thrBit s (8 + m) then
    thermLevels (protShow (resolveNow (addForce (blockForce s 3 2 .cold m) (s.wrB Therm.THR_STAT (8 + m) true))))
  else if !any && thrBit s (8 + m) then
    thermLevels (protShow (resolveNow (dropForce .cold m (s.wrB Therm.THR_STAT (8 + m) false))))
  else s

/-- The machines whose compare group is enabled. -/
def drivenMachines (s : State) : List Nat := (List.range 4).filter (fun m => (machGroups s m).any (grpEn s))

/-- The forced states of a thermal shutdown. -/
def shutdownForces (s : State) : State :=
  protShow (resolveNow ((drivenMachines s).foldl (fun t m =>
    if stopAsc t m then protAsc .thermal m t else addForce (blockForce t 3 2 .thermal m) t) s))

/-- The shutdown record: written once, and LATER counts while it is unacknowledged (R346). -/
def shutdownRecord (c : Nat) (die : Bool) (s : State) : State :=
  let s1 : State := { s with therm := { s.therm with sdSeq := s.therm.sdSeq + 1 } }
  if thrBit s1 13 then s1.incSat Therm.SD_CAUSE 23 16
  else
    let mask (j : Nat) : Word := word ((List.range 32).foldl (fun a i => a + at' (bitN (hkHolds s1 (32 * j + i) 4)) i) 0)
    let s2 := ((s1.wr Therm.SD_SEQ (word s1.therm.sdSeq)).wr Therm.SD_TIME (word (opSeconds s1))).wr Therm.SD_CAUSE
      (word (c + at' (bitN die) 7 + at' (s1.rdF (ThermCh.HK_CFG c) 15 12) 8))
    (((((s2.wr Therm.SD_VALUE (s2.rdL (Therm.HK_VAL c))).wr (Therm.SD_MASK0 0) (mask 0)).wr (Therm.SD_MASK0 1) (mask 1)).wr
      (Therm.SD_MASK0 2) (mask 2)).wrB Therm.THR_STAT 13 true)

/-- Thermal shutdown, decided by channel `c` (R345). -/
def thermalShutdown (c : Nat) (die : Bool) (s : State) : State :=
  if thrBit s 12 then s
  else
    let s1 := shutdownRecord c die (s.wrB Therm.THR_STAT 12 true)
    let s2 := (List.range 4).foldl (fun t m =>
      let v := srcStored t (0x600 + m)
      let u := t.produce (Therm.DR_LIM m) 0
      { u with srcs := KMap.set (fun _ => {}) u.srcs (0x600 + m) { v with value := 0, count := v.count + 1 } }) s1
    thermAlarm 4 c (s2.rdL (Therm.HK_VAL c)) (thermEvent .fault 4 c (thermLevels (shutdownForces s2)))

/-! ### The round (R336, R338-R340) -/

/-- Levels of channel `c` with a value, their events and effects. -/
def hkLevels (c : Nat) (v : Word) (s : State) : State :=
  let cfg := s.rd (ThermCh.HK_CFG c)
  let new (i : Nat) : Bool := levelStep s c i v
  let rise (i : Nat) : Bool := new i && !hkHolds s c i
  let w := (List.range 5).foldl (fun (a : Word) i => setBit a i (new i)) (s.rd (ThermCh.HK_STAT c))
  let n := if new 4 then min ((hkOf s c).trips + 1) 8 else 0
  let s1 := putHk c { hkOf s c with trips := n } (s.wr (ThermCh.HK_STAT c) (setFld w 11 9 (min n 7)))
  let ev (b : Bool) (cls : EvClass) (code : Nat) (t : State) : State := if b then t.emit cls Therm.page code c (t.rd (ThermCh.HK_STAT c)) else t
  let s2 := ev (rise 2) .warn 1 (ev (rise 1) .warn 0 (ev (rise 0 && bit cfg 9) .fault 6 s1))
  let s3 := (List.range 4).foldl coldStep (thermLevels s2)
  let s4 := (List.range 4).foldl requestStep s3
  if new 4 && bit cfg 8 && decide (fld cfg 15 12 ≤ n) then thermalShutdown c false s4 else s4

/-- The evaluation of channel `c` at the end of its slot. -/
def hkEvaluate (c : Nat) (v : Word) (ok : Bool) (s : State) : State :=
  if !hkEn s c then s
  else
    let n := if ok then 0 else min ((hkOf s c).bad + 1) 3
    let fault := decide (n = 3)
    let s1 := putHk c { hkOf s c with bad := n } (s.produce (Therm.HK_VAL c) (if ok then v else F.qnan))
    let s2 := (s1.wrB (ThermCh.HK_STAT c) 5 ok).wrB (ThermCh.HK_STAT c) 8 fault
    let s3 := if fault && !s.rdB (ThermCh.HK_STAT c) 8 then s2.emit .fault Therm.page 5 c (s2.rd (ThermCh.HK_STAT c)) else s2
    let act := s3.rdF (ThermCh.HK_CFG c) 11 10
    let s4 := thermLevels s3
    if ok then hkLevels c v s4
    else if fault ∧ act = 1 then hkLevels c (hkLevel s4 c 3) s4
    else if fault ∧ act = 2 then hkLevels c (hkLevel s4 c 4) s4
    else s4

/-- HK_SLOT_END: the slot of the next channel ends (R336). -/
def hkSlotEnd (code code2 : Nat) (val : Word) (s0 : State) : State :=
  let h := s0.therm
  if !h.run || decide (96 ≤ h.slot) then s0
  else
    let c := h.slot
    let s := s0.reach (h.slotAt + 16384)
    let s1 : State := { s with therm := { h with slot := c + 1, slotAt := h.slotAt + 16384 } }
    if h.halted then graceCheck s1
    else
      let v := hkValue s1 c code code2 val
      let ok := hkValid s1 c code code2 v
      let out' := !(F.le 0x4019999A v && F.le v 0x40933333)
      let s2 : State := if (c = 25 ∨ c = 26) ∧ out' then { s1 with therm := { s1.therm with refBad := s1.therm.refBad ++ [c - 24] } } else s1
      let s3 := hkEvaluate c v ok s2
      graceCheck (if 16 ≤ c ∧ c ≤ 19 ∧ ok ∧ F.le 0x43250000 v then thermalShutdown c true s3 else s3)

/-- Does the round that ends qualify for re-arm (R347)? -/
def roundQualifies (s : State) : Bool :=
  (List.range 96).all (fun c => !hkEn s c ||
    (s.rdB (ThermCh.HK_STAT c) 5 && F.lt (s.rdL (Therm.HK_VAL c)) (F.sub (hkLevel s c 3) (s.rd (ThermCh.HYST c)))
      && (!decide (16 ≤ c ∧ c ≤ 19) || F.lt (s.rdL (Therm.HK_VAL c)) 0x43160000)))

/-- REARM_STAT with a count of rounds. -/
def rearmWord (n : Nat) : Word := word (min n 0xFFFF + at' (bitN (decide (489 ≤ n))) 16)

/-- CLOSING_SLOT: the converter's reference check with its code; a round that was not halted completes (R339). -/
def closingSlot (code : Nat) (s0 : State) : State :=
  let h := s0.therm
  if !h.run || decide (h.slot ≠ 96) then s0
  else
    let s := s0.reach (h.slotAt + 65536)
    let pass := decide (1980 ≤ code ∧ code ≤ 2020)
    let s1 : State := { s with therm := { h with slot := 0, slotAt := h.slotAt + 65536, halted := !pass, refBad := [] } }
    let s2 := graceCheck (s1.wrB Therm.THR_STAT 14 pass)
    if !pass then
      let s3 := s2.wr Therm.REARM_STAT 0
      if h.halted then s3 else thermEvent .fault 0xFF 0 s3
    else if h.halted then s2
    else
      let s3 := refRound h.refBad (setReady 4 true (s2.inc Therm.ROUND_CNT))
      let s4 := (List.range 4).foldl limStep s3
      s4.wr Therm.REARM_STAT (rearmWord (if roundQualifies s4 then s4.rdF Therm.REARM_STAT 15 0 + 1 else 0))

/-! ### Re-arm and acknowledgement (R347, R348) -/

/-- A write of REARM. -/
def rearmWrite (v : Word) (s : State) : Reply :=
  if !lockOpen s Therm.page then deny s .locked
  else if v ≠ 0x5448524D then deny s .keyRequired
  else if !thrBit s 12 then deny s .notInState
  else if !s.rdB Therm.REARM_STAT 16 then deny s .tripPersist
  else
    let s1 := (List.range 4).foldl (fun t m => dropForce .thermal m t) (s.wrB Therm.THR_STAT 12 false)
    accept (thermAlarm 5 0 (s1.rdL (Therm.HK_VAL 16)) (thermLevels (protShow (resolveNow s1))))

/-- A write of SD_ACK. -/
def sdAckWrite (v : Word) (s : State) : Reply :=
  if thrBit s 13 ∧ v = s.rd Therm.SD_SEQ then
    accept (thermLevels ((List.range 7).foldl (fun t j => t.wr (Therm.SD_SEQ + 4 * j) 0) (s.wrB Therm.THR_STAT 13 false)))
  else deny s .keyRequired

/-! ### Register writes (R340, R349-R351) -/

/-- Do five levels and a hysteresis stand in the order of R340? -/
def levelsInOrder (l : List Word) (hyst : Word) : Bool :=
  let lt (i : Nat) : Bool := F.lt (l.getD i 0) (l.getD (i + 1) 0)
  l.all F.isFin && F.nonneg hyst && lt 0 && lt 1 && lt 2 && lt 3

/-- The five levels of channel `c` with register `a` at `v`. -/
def levelsWith (s : State) (c a : Nat) (v : Word) : List Word × Word :=
  let r (x : Nat) : Word := if x = a then v else s.rd x
  ((List.range 5).map (fun i => r (ThermCh.LOW_TRIP c + 4 * i)), r (ThermCh.HYST c))

/-- A write of HK_CFG. -/
def hkCfgWrite (c : Nat) (v : Word) (s : State) : Reply :=
  let l := levelsWith s c 0 0
  if s.rdF (ThermCh.HK_STAT c) 4 0 ≠ 0 then deny s .notInState
  else if fld v 11 10 = 3 ∨ fld v 15 12 = 0 ∨ 8 < fld v 15 12 then deny s .outOfRange
  else if bit v 0 ∧ !levelsInOrder l.1 l.2 then deny s .outOfRange
  else
    let was := hkEn s c
    let s1 := s.wr (ThermCh.HK_CFG c) (v &&& 0xFFF1)
    if hkEn s1 c && !was then accept (s1.stampNow (Therm.HK_VAL c))
    else if was && !hkEn s1 c then
      accept (thermLevels (putHk c {} ((s1.wrL (Therm.HK_VAL c) F.qnan).wr (ThermCh.HK_STAT c) 0)))
    else accept s1

/-- A write of a level or HYST. -/
def hkLevelWrite (c a : Nat) (v : Word) (s : State) : Reply :=
  let l := levelsWith s c a v
  if !F.isFin v ∨ (a = ThermCh.HYST c ∧ !F.nonneg v) ∨ (hkEn s c ∧ !levelsInOrder l.1 l.2) then deny s .outOfRange
  else plainWrite a v s

/-- A write of a remote pin's registers. -/
def tsWrite (a : Nat) (v : Word) (s : State) : Reply :=
  let k := (a - 0x1A2040) / 16
  let o := (a - 0x1A2040) % 16
  let ntc := decide (s.rdF (ThermTs.TS_CFG k) 1 0 = 1)
  let ok := match o with
    | 0 => decide (fld v 1 0 ≠ 3 ∧ fld v 5 4 ≠ 3)
    | 4 => F.isFin v && F.pos v
    | 8 => if ntc then F.isFin v && F.pos v else F.nonneg v
    | _ => true
  if k < 16 ∧ hkEn s k then deny s .notInState
  else if !ok then deny s .outOfRange
  else plainWrite a v s

/-- Writes of the thermal pages. -/
def thermWrite (k : PageKind) (a : Nat) (v : Word) (s : State) : Reply :=
  let o := a % 4096
  match k with
  | .therm =>
    if a = Therm.GRACE then (if fld v 15 0 = 0 ∨ 60000 < fld v 15 0 then deny s .outOfRange else plainWrite a v s)
    else if (0x48 ≤ o ∧ o ≤ 0x58) then (if F.isFin v && F.pos v then plainWrite a v s else deny s .outOfRange)
    else if a = Therm.DR_FLOOR then (if F.nonneg v && F.le v F.one then plainWrite a v s else deny s .outOfRange)
    else if a = Therm.REARM then rearmWrite v s
    else if a = Therm.SD_ACK then sdAckWrite v s
    else plainWrite a v s
  | .thermCh =>
    if o < 0x40 ∨ 0xC40 ≤ o then plainWrite a v s
    else
      let c := (o - 0x40) / 0x20
      match (o - 0x40) % 0x20 with
      | 0x00 => hkCfgWrite c v s
      | 0x1C => plainWrite a v s
      | _ => hkLevelWrite c a v s
  | .thermTs => if o < 0x40 then plainWrite a v s else tsWrite a v s
  | _ => plainWrite a v s

/-- HK_CFG of channels 16-19 shows EN. -/
def thermView (a : Nat) (s : State) : Word :=
  if (List.range 4).any (fun j => decide (a = ThermCh.HK_CFG (16 + j))) then s.rd a ||| 1 else s.rd a

/-! ### Meanings -/

/-- HK_SLOT_END (R336). -/
def execHkSlotEnd (code code2 : Nat) (val : Word) (s : State) : Out := .next (hkSlotEnd code code2 val s)

/-- CLOSING_SLOT (R339). -/
def execClosingSlot (code : Nat) (s : State) : Out := .next (closingSlot code s)

/-- GRACE_EXPIRY (R342). -/
def execGraceExpiry (m : Nat) (s : State) : Out := .next (graceExpiry m s)

/-- REARM (R347). -/
def execRearm (port : Port) (v : Word) (s : State) : Out := replied (gated port Therm.REARM v (rearmWrite v) s)

/-- SD_ACK (R348). -/
def execSdAck (port : Port) (v : Word) (s : State) : Out := replied (gated port Therm.SD_ACK v (sdAckWrite v) s)

end Sys2Proof.Machine
end

