-- ==== Sys2Proof/Machine/Twin.lean ====
section
/-! DEFINITION. Twin operation (R353-R377): slots and what they carry, attachment, copy of the configuration, handover and
takeover, link failure, and the writes of the page. Messages that reach registers stand in `TwinMsg`. -/

namespace Sys2Proof.Machine

/-! ### State, events, eligibility -/

/-- The device takes a twin state. -/
def setTwin (st : Nat) (s : State) : State := s.wrF Twin.STATE 3 0 st

/-- LINK_UP. -/
def linkUp (s : State) : Bool := s.rdB Twin.STATE 16

/-- CFG.MODE (1 WARD, 2 TANDEM) and CFG.ROLE (1 standby or follower). -/
def twinMode (s : State) : Nat := s.rdF Twin.CFG 1 0
def twinSecond (s : State) : Bool := s.rdB Twin.CFG 4

/-- An event of the link. -/
def twinEvent (c : EvClass) (code : Nat) (s : State) : State := emitPage c Twin.page code 0 s

/-- `ID.CAPS.PART_NUM` (R1). -/
def partNum (s : State) : Nat := match s.part with | .sep9640 => 0x9640 | .sep9624 => 0x9624

/-- Is this standby eligible for takeover (R364)? -/
def eligible (s : State) : Bool :=
  let t := s.twin
  decide (twinState s = 3) && linkUp s && !t.crcBad && !t.refused && !t.lateTwo && !t.upBad && !t.skewBad
    && decide (s.rdF Twin.PEER 29 28 = s.cle.profile) && decide (s.rdF Bup.READY 6 0 = 0x7F)

/-- STATE.ELIGIBLE follows; losing it raises ELIGIBLE_LOST and a WARN event (R364). -/
def updEligible (s : State) : State :=
  let e := eligible s
  let lost := s.rdB Twin.STATE 17 && !e
  let s1 := s.wrB Twin.STATE 17 e
  if lost then twinEvent .warn 5 (s1.pulse Twin.page 5) else s1

/-- TWIN_ELIGIBLE follows what the twin reports. -/
def updPeerEligible (e : Bool) (s : State) : State :=
  let lost := s.rdB Twin.STATE 18 && !e && decide (twinState s = 2)
  let s1 := s.wrB Twin.STATE 18 e
  if lost then twinEvent .warn 5 (s1.pulse Twin.page 5) else s1

/-! ### The mirrored configuration (R363) -/

/-- The mirrored pages in ascending order. -/
def mirroredPages : List Nat := (List.range 0x200).filter mirroredPage

/-- The registers of page `p` whose access satisfies `ok`, in ascending address order. -/
def pageRegs (ok : Acc → Bool) (p : Nat) : List Nat :=
  (List.range 1024).filterMap (fun i =>
    match regRow (p * 4096 + 4 * i) with
    | some r => if ok r.acc then some (p * 4096 + 4 * i) else none
    | none => none)

/-- The configuration CRC: CRC-32C over every RW/L register of the mirrored pages. -/
def twinCrc (s : State) : Word :=
  word (Crc.crc32c (wordsBytes ((mirroredPages.flatMap (pageRegs (fun a => decide (a = .rwl)))).map s.rd)))

/-- Is `a` the CFG_CRC of a context? -/
def isCfgCrc (a : Nat) : Bool := decide (0x0A0000 ≤ a ∧ a < 0x0C0000) && decide (a = Ctx.CFG_CRC ((a - 0x0A0000) / 256))

/-- The entries of a configuration copy: every writable register of the mirrored pages but LOCK and ERRINFO, and every context's CFG_CRC, which
the standby's check of its copies needs (R122, R140); after a CFG_COPY that marks the beginning. -/
def copyEntries (s : State) : List (Nat × Word) :=
  let regs := mirroredPages.flatMap (pageRegs (fun a => decide (a = .rwl ∨ a = .rw))) ++ (List.range 512).map Ctx.CFG_CRC
  (Twin.CMD, 8) ::
    ((regs.filter (fun a => decide (a % 4096 ≠ 0x20 ∧ a % 4096 ≠ 0x24) || decide (0x0A0000 ≤ a ∧ a < 0x0C0000))).map (fun a => (a, s.rd a)))

/-- Queue a configuration copy, seven entries a message; its first entry marks the beginning of a copy. -/
def sendConfig (s : State) : State :=
  let l := copyEntries s
  (List.range ((l.length + 6) / 7)).foldl (fun t i => twinWriteMsg none none true true ((l.drop (7 * i)).take 7) t) s

/-- Is a message of a copy still without an answer? -/
def copyPending (s : State) : Bool := s.twin.queue.any (·.copy) || s.twin.asked.any (·.copy)

/-! ### HELLO and slots (R354-R356) -/

/-- A HELLO of this device, asking for `mode`: part number, mode and role, lifecycle, engine tick, configuration CRC. -/
def sendHello (mode : Nat) (s : State) : State :=
  let tick := s.engine
  twinSend { kind := 9
             bulk := bytes2 (partNum s) ++ [mode + at' (bitN (twinSecond s)) 4, s.rdF Sec.LC_STATE 7 0]
               ++ bytes4 (tick / 2 ^ 32) ++ bytes4 (tick % 2 ^ 32) ++ wordBytes (twinCrc s) } s

/-- May this device take part in the exchange of slots: outside SOLO, in RECOVERY, or with the lanes up? -/
def linkActive (s : State) : Bool := decide (twinState s ≠ 0) || decide (s.phase = 10) || linkUp s

/-- URGENT (R355): zero while one device serves the other (R360); a latch enters the first slot that starts at least 10 ns later (R354). -/
def urgent (s : State) (offering take : Bool) : List Nat :=
  let st := twinState s
  if st = 7 ∨ st = 8 then List.replicate 8 0
  else
    let lat : Nat := (List.range 48).foldl (fun a n => a + (if s.prot.lats.any (fun l => decide (l.src = n ∧ l.at_ + 8 ≤ s.now)) then 2 ^ n else 0)) 0
    [bitN (decide (st = 2 ∨ st = 4)) + at' (bitN s.twin.decl) 1 + at' (bitN offering) 2 + at' (bitN take) 3 + at' (bitN (eligible s)) 4
      + at' (bitN s.isl.stoOff0) 5 + at' (bitN s.isl.stoOff1) 6 + at' (bitN (inLockout s)) 7,
     st + at' s.cle.profile 4] ++ bytes2 (lat / 2 ^ 32) ++ bytes4 (lat % 2 ^ 32)

/-- Place of a message in the choice of a slot: 0 ACK, 1 READ_RSP, 2 HELLO, 3 retransmission, 4 WRITE or READ_REQ, 5 mirror
record. -/
def slotRank (m : TwinMsg) : Nat :=
  match m.kind with
  | 8 => 0
  | 7 => 1
  | 9 => 2
  | 5 | 6 => if m.again then 3 else 4
  | _ => 5

/-- The bulk message of the next slot, with its place in the queue (R356). -/
def slotChoice (s : State) : Option (Nat × TwinMsg) :=
  let q := s.twin.queue
  let l := (List.range q.length).filterMap (fun i => (q[i]?).map (fun m => (i, m)))
  let mirrorWaits := q.any (fun m => decide (slotRank m = 5))
  let bar := mirrorWaits && decide (2 ≤ (s.twin.used.filter id).length)
  (l.filter (fun e => !(bar && decide (slotRank e.2 = 4)))).foldl (fun (b : Option (Nat × TwinMsg)) e =>
    match b with
    | some x => if slotRank e.2 < slotRank x.2 then some e else b
    | none => some e) none

/-- Every speculating context squashes its first run after a takeover (R153, R368). -/
def markTakeover (s : State) : State :=
  (busyCtxs s).foldl (fun t n => if specCtx t n then putCtx n { ctxOf t n with takeover := true } t else t) s

/-- The device becomes the driving half from instant `at_` on (R367-R369). -/
def startDriving (at_ : Nat) (s : State) : State :=
  markTakeover ({ s with twin := { s.twin with
    passive := false, since := at_, noDrive := [], resync := (List.range 36).map (fun n => (n, 0)), takeAt := none } }.incL TwinTel.TAKEOVERS)

/-! ### Attachment (R358) -/

/-- The attachment fails: the state before it, FAIL, ATTACH_FAIL. -/
def attachFail (code : Nat) (s : State) : State :=
  let s1 := ((setTwin s.twin.before s).wrF Twin.STATE 11 8 code).pulse Twin.page 7
  { s1 with twin := { s1.twin with step := 0, queue := [], asked := [] } }

/-- Does a timebase run? -/
def anyTbRun (s : State) : Bool := (List.range 8).any (tbRun s)

/-- The engine takes the twin's tick as its own (R358); what counts in ticks starts afresh. -/
def adoptTick (tick : Nat) (s : State) : State :=
  let s1 : State := { s with bu := { s.bu with tick0 := (s.now : Int) - tick, epoch := tick / 800000 } }
  let s2 := (busyCtxs s1).foldl (fun t n => putCtx n { ctxOf t n with relTick := none, enTick := tick, ranTick := none } t) s1
  let s3 := (List.range 4).foldl (fun t c => putProf c { profOf t c with tickAt := tick } t) s2
  { s3 with fab := { s3.fab with autoAt := s3.fab.autoAt.map (fun e => (e.1, tick)) } }

/-- The follower takes up the profile that the master runs, at the next epoch (R27). -/
def adoptProfile (s : State) : State :=
  let p := s.rdF Twin.PEER 29 28
  (s.wr Cle.CTRL (word p)).wrB (hSTATUS Cle.page) 0 (decide (p ≠ s.cle.profile))

/-- The pair is attached. -/
def attached (st : Nat) (s0 : State) : State :=
  let s := if st = 5 then adoptProfile s0 else s0
  let s1 := (setTwin st s).pulse Twin.page 2
  let p := decide (st = 3)
  { s1 with twin := { s1.twin with
    step := 0, passive := p, since := s1.now, noDrive := [], resync := [], offer := none, offers := 0, swap := none, decl := false
    takeAt := none, tookAt := none, peerLatch := 0, peerSto := 0 } }

/-- The standby starts the timebases of the active at the active's carrier positions (R361). -/
def followTbs (l : List (Nat × Nat)) (s : State) : State :=
  let new := l.filter (fun e => decide (e.1 < 8) && !tbRun s e.1)
  let d := match l.head? with | some e => e.1 | none => 0
  let s1 := new.foldl (fun u e =>
    let v := beginTb d e.1 u
    let b : Int := v.now - e.2
    putTb e.1 { tbOf v e.1 with base := b } v) s
  new.foldl (fun u e => fullUpdate e.1 u.now u) s1

/-- The checks of a HELLO during attachment; none where it passes. `skew` and the load are those of R358. -/
def helloFault (b : List Nat) (skew : Int) (runs : Bool) (s : State) : Option Nat :=
  let mode := b.getD 2 0 % 16
  let second := decide (b.getD 2 0 / 16 % 2 = 1)
  if bytesNat (b.take 2) ≠ partNum s then some 2
  else if mode ≠ twinMode s ∨ mode = 0 ∨ second = twinSecond s then some 3
  else if decide (16 < skew.natAbs) then some 4
  else if (mode = 2 ∧ (anyTbRun s || runs)) ∨ (mode = 1 ∧ (if twinSecond s then anyTbRun s else runs)) then some 5
  else if mode = 1 ∧ !twinSecond s ∧ (let f := loadSum (mirrorPeriods s); decide (8 * f.2 < f.1)) then some 6
  else none

/-- A HELLO while attaching. -/
def helloAttach (b : List Nat) (delay : Nat) (skew : Int) (tbs : List (Nat × Nat)) (s0 : State) : State :=
  match helloFault b skew (!tbs.isEmpty) s0 with
  | some c => attachFail c s0
  | none =>
    let s := if twinSecond s0 then adoptTick (bytesNat ((b.drop 4).take 8) + (delay + 4) / 8) s0 else s0
    let s1 := (s.wr Twin.LINK_DELAY (word (delay % 65536))).wr Twin.SKEW (word (skew % 65536).toNat)
    if twinMode s1 = 2 then attached (if twinSecond s1 then 5 else 4) s1
    else if twinSecond s1 then { s1 with twin := { s1.twin with step := 2 } }
    else sendConfig { s1 with twin := { s1.twin with step := 3 } }

/-- A HELLO in an attached pair: once an epoch (R363, R364, R373). `up` names the positions that the active has UP. -/
def helloPaired (b : List Nat) (skew : Int) (up : Nat) (tbs : List (Nat × Nat)) (s : State) : State :=
  let s1 := s.wr Twin.SKEW (word (skew % 65536).toNat)
  let wide := decide (16 < skew.natAbs)
  let upBad := (List.range 36).any (fun n => decide (up / 2 ^ n % 2 = 1) && decide (glState s n ≠ 3))
  let s2 : State := { s1 with twin := { s1.twin with
    crcBad := decide (bytesWord ((b.drop 12).take 4) ≠ twinCrc s1), skewBad := wide, upBad := upBad, peerRuns := !tbs.isEmpty } }
  if inTandem s2 then (if wide then twinEvent .fault 0xFF s2 else s2)
  else updEligible (if twinState s2 = 3 then followTbs tbs s2 else s2)

/-- The pair's part of an epoch: every attached device, and one in RECOVERY, sends a HELLO (R360, R363). -/
def twinEpoch (s : State) : State :=
  let st := twinState s
  if s.phase = 10 then sendHello 3 s
  else if 2 ≤ st ∧ st ≤ 5 then updEligible (sendHello (twinMode s) s)
  else s

/-- LANE_ALIGNED (R358). -/
def laneAligned (s : State) : State :=
  let s1 := if linkUp s then s else (s.wrB Twin.STATE 16 true).pulse Twin.page 0
  let s2 : State := { s1 with twin := { s1.twin with rxSeq := none, bad := 0, rxAt := s1.now } }
  if twinState s2 = 1 ∧ s2.twin.step = 0 then sendHello (twinMode s2) { s2 with twin := { s2.twin with step := 1 } } else s2

/-- ATTACH_TIMEOUT (R358): 50 µs without lanes, or 100 ms without a HELLO. -/
def attachTimeout (s : State) : State :=
  if twinState s ≠ 1 ∨ 2 ≤ s.twin.step then s
  else attachFail 1 (s.reach (s.twin.attAt + (if s.twin.step = 0 then 40000 else 80000000)))

/-! ### Handover and takeover (R367, R368) -/

/-- The offer in progress is taken: STANDBY from S + 400 ns (R367). -/
def handedOver (at_ : Nat) (s : State) : State :=
  let s1 : State := { s with twin := { s.twin with
    passive := true, since := at_ + 320, offer := none, offers := 0, swap := none, decl := false, resync := [] } }
  ((setTwin 3 s1).incL TwinTel.TAKEOVERS).pulse Twin.page 4

/-- HANDOVER_OFFER_TIMEOUT (R367): the device keeps DRIVE; the next slot offers again, but a SWAP only three times. -/
def offerTimeout (s : State) : State :=
  match s.twin.offer with
  | none => s
  | some a =>
    let s1 := s.reach (a + 320)
    let s2 : State := { s1 with twin := { s1.twin with offer := none } }
    match s2.twin.swap with
    | some p =>
      if !s2.twin.decl ∧ 3 ≤ s2.twin.offers then
        (({ s2 with twin := { s2.twin with swap := none, offers := 0 } }).refuseAt Twin.page p .busy (Twin.CMD % 4096))
      else s2
    | none => s2

/-- Takeover without an offer (R368). -/
def takeover (s : State) : State :=
  let s1 := startDriving s.now (setTwin 2 s)
  let s2 : State := { s1 with twin := { s1.twin with tookAt := some s1.now, timing := true } }
  twinEvent .fault 3 (s2.pulse Twin.page 3)

/-- OWNER_REFUSE_TIMEOUT (R368): positions still refused 2 µs after a takeover return to STANDBY; the device enters SPLIT. -/
def refuseTimeout (s : State) : State :=
  match s.twin.tookAt with
  | none => s
  | some a =>
    let s1 := s.reach (a + 1600)
    let l := (List.range 36).filter (fun n => decide (glState s1 n = 3 ∨ glState s1 n = 4) && !drvBit s1 n 1)
    let s2 : State := { s1 with twin := { s1.twin with tookAt := none, noDrive := l, timing := s1.twin.timing && l.isEmpty } }
    if l.isEmpty then s2 else ((setTwin 6 s2).pulse Twin.page 9).pulse Twin.page 6

/-! ### Link failure (R375) -/

/-- A DUAL machine that is not OFF as the device leaves TANDEM (R161). -/
def tandemLost (s : State) : State := if s.rdB (Foc.CFG 0) 2 then machFault 0 0xF s else s

/-- Remote accesses without an answer are answered OUT_OF_RANGE (R375); the queue empties. -/
def dropRemote (s : State) : State :=
  let l := s.twin.asked ++ s.twin.queue
  let s1 : State := { s with twin := { s.twin with queue := [], asked := [], held := [] } }
  let s2 := endRemote .outOfRange s1
  l.foldl (fun t m => match m.dma with
    | some k => (match dmaRunOf t k with
      | some r => putDma k (some { r with answer := some (4, []) }) t
      | none => t)
    | none => t) s2

/-- The pair ends. -/
def unpair (st : Nat) (s : State) : State :=
  let t := dropRemote (((setTwin st s).wrB Twin.STATE 17 false).wrB Twin.STATE 18 false)
  let u : State := { t with twin := { t.twin with
    step := 0, offer := none, swap := none, decl := false, detach := false, takeAt := none, peerLatch := 0, peerSto := 0, recover := false, served := false } }
  if s.twin.peerSto ≠ 0 then protShow (resolveNow u) else u

/-- HELLO (R358, R360, R363): mode field 3 asks for, or gives, service in RECOVERY. -/
def hello (b : List Nat) (delay : Nat) (skew : Int) (up : Nat) (tbs : List (Nat × Nat)) (s0 : State) : State :=
  let s := s0.wrF Twin.PEER 15 0 (bytesNat (b.take 2))
  let st := twinState s
  if b.getD 2 0 % 16 = 3 then
    (if s.phase = 10 ∧ st ≠ 8 then setTwin 8 { s with twin := { s.twin with before := st, served := true } }
     else if st = 0 ∨ st = 6 then
       (let t := if linkUp s then s else (s.wrB Twin.STATE 16 true).pulse Twin.page 0
        { t with twin := { t.twin with recover := true } })
     else s)
  else if st = 8 then unpair s.twin.before s
  else if st = 1 then (if s.twin.step = 1 then helloAttach b delay skew tbs s else s)
  else if 2 ≤ st ∧ st ≤ 5 then helloPaired b skew up tbs s
  else s

/-- Two consecutive bad or missing slots, or loss of alignment. -/
def linkFail (s0 : State) : State :=
  let s := if linkUp s0 then (s0.wrB Twin.STATE 16 false).pulse Twin.page 1 else s0
  match twinState s0 with
  | 1 => attachFail 1 s
  | 2 => if s.twin.tookAt.isSome then s else twinEvent .warn 6 ((unpair 6 s).pulse Twin.page 6)
  | 3 => if eligible s0 then takeover (dropRemote s) else (unpair 6 s).pulse Twin.page 6
  | 4 | 5 =>
    let s1 := if s.rdB Twin.CFG 8 then s
      else (List.range 4).foldl (fun t m => if 4 ≤ machState t m ∧ machState t m ≤ 6 then (focStop m t).1 else t) s
    twinEvent .fault 6 ((tandemLost (unpair 6 s1)).pulse Twin.page 6)
  | 7 | 8 => unpair s.twin.before s
  | _ => s

/-- One bad or missing slot, whose start is `at_`. -/
def slotBad (at_ : Nat) (s : State) : State :=
  let s1 := s.incL TwinTel.SLOTS_BAD
  let s2 : State := { s1 with twin := { s1.twin with
    bad := s1.twin.bad + 1, badAt := if s1.twin.bad = 0 then at_ else s1.twin.badAt, rxAt := at_ } }
  if s2.twin.bad = 2 then linkFail s2 else s2

/-- SLOT_MISSING (R375): the slot after the last is not there 110 ns after its start. -/
def slotMissing (s : State) : State :=
  if !linkActive s then s else slotBad (s.twin.rxAt + 80) (s.reach (s.twin.rxAt + 168))

/-- LANE_ALIGNMENT_LOST (R375). -/
def alignmentLost (s : State) : State := if linkUp s then linkFail s else s

/-! ### Received slots (R354, R355, R365, R374) -/

/-- The sources of a word of latches that this device shares: all in WARD, those of TRIP_SHARE in TANDEM. -/
def sharedLatches (s : State) (l : Nat) : List Nat :=
  (List.range 48).filter (fun n => decide (l / 2 ^ n % 2 = 1) &&
    (inWard s || (inTandem s && (if n < 32 then s.rdB Twin.TRIP_SHARE0 n else s.rdB Twin.TRIP_SHARE1 (n - 32)))))

/-- The twin's STO outputs act at rank 1 in WARD; a supply that goes brings ALL_OFF frames (R365). -/
def peerStoTake (v : Nat) (s : State) : State :=
  let old := s.twin.peerSto
  let s1 : State := { s with twin := { s.twin with peerSto := v } }
  if v = old ∨ !inWard s then s1
  else
    let new (g : Nat) : List Nat := if v / 2 ^ g % 2 = 1 ∧ old / 2 ^ g % 2 = 0 then stoPositions s1 g else []
    allOffFrames (new 0 ++ new 1) false (protShow (resolveNow s1))

/-- The urgent state of a good slot that began at `at_`. An attaching standby whose twin has given up fails too: with COPY where it refused
a write of the copy, else with LOAD, which the active alone can see (R358). -/
def urgentTake (u : List Nat) (at_ : Nat) (irq : Bool) (s : State) : State :=
  let b4 := u.getD 0 0
  let b5 := u.getD 1 0
  let lat := bytesNat (u.drop 2)
  let flag (i : Nat) : Bool := decide (b4 / 2 ^ i % 2 = 1)
  let st := twinState s
  let s1 := ((s.wrF Twin.PEER 23 16 b4).wrF Twin.PEER 27 24 b5).wrF Twin.PEER 29 28 (b5 / 16)
  let s2 := peerStoTake (b4 / 32 % 4) (updPeerEligible (flag 4) s1)
  let new := (sharedLatches s2 lat).filter (fun n => decide (s2.twin.peerLatch / 2 ^ n % 2 = 0))
  let s3 := new.foldl (fun t n => latchSource n 0 [] t) { s2 with twin := { s2.twin with peerLatch := lat } }
  let s4 := if st = 4 then s3.raw Twin.page 8 irq else s3
  let s5 := if st = 1 ∧ s4.twin.step = 2 ∧ b5 % 16 = 2 then attached 3 s4
    else if st = 1 ∧ s4.twin.step = 2 ∧ b5 % 16 ≠ 1 then attachFail (if s4.twin.refused then 7 else 6) s4
    else s4
  let s6 := match s5.twin.offer with
    | some a => if flag 3 ∧ st = 2 ∧ s5.now ≤ a + 320 then handedOver a s5 else s5
    | none => s5
  let s7 : State := if flag 2 ∧ st = 3 ∧ eligible s6 then { s6 with twin := { s6.twin with takeAt := some (at_ + 160) } } else s6
  if 2 ≤ st ∧ st ≤ 5 ∧ b5 % 16 = 0 then unpair 0 (if st = 4 ∨ st = 5 then tandemLost s7 else s7) else updEligible s7

/-- Is a slot good (R354)? `b` holds bytes 2-79. -/
def slotGood (s : State) (commas : Bool) (b : List Nat) : Bool :=
  commas && decide (b.length = 78) && decide (bytesNat (b.drop 74) = Crc.crc32c (b.take 74)) && decide (b.getD 1 0 / 16 = 1)
    && decide (b.getD 1 0 % 16 ≤ 9) && (match s.twin.rxSeq with | some q => decide (b.getD 0 0 = (q + 1) % 256) | none => true)

/-- SLOT_RECEIVED (R354, R355): bytes 2-79 of a slot, whether its commas were in place, and, from a follower, whether its
IRQ_SUMMARY is not zero. -/
def slotReceived (commas : Bool) (b : List Nat) (irq : Bool) (s : State) : State :=
  let at_ := (s.now - 80) / 80 * 80
  if !linkActive s then s
  else if !slotGood s commas b then slotBad at_ s
  else
    let s1 : State := { s with twin := { s.twin with rxSeq := some (b.getD 0 0), bad := 0, rxAt := at_ } }
    if twinState s1 = 7 ∨ twinState s1 = 8 then s1 else urgentTake ((b.drop 2).take 8) at_ irq s1

/-! ### Mirror records (R362) -/

/-- A mirror record of an object at the standby: `age` cycles after its commit; `late` where fewer than 8 cycles are left before
the object's next dispatch. -/
def mirrorTake (kind obj : Nat) (apply : List Nat → State → State) (b : List Nat) (age : Nat) (late : Bool) (s : State) : State :=
  if twinState s ≠ 3 then s
  else
    let key := kind * 4096 + obj
    let at_ := s.now - age
    if late then
      let s1 := s.incL TwinTel.MIRROR_LATE
      let l := s1.twin.late
      updEligible { s1 with twin := { s1.twin with
        held := s1.twin.held ++ [{ kind := kind, obj := obj, bulk := b, at_ := at_ }]
        lateTwo := s1.twin.lateTwo || l.contains key, late := if l.contains key then l else l ++ [key] } }
    else
      noteAge at_ (apply b { s with twin := { s.twin with late := s.twin.late.filter (fun x => decide (x ≠ key)) } })

/-! ### Commands and writes (R358-R360, R367, R376) -/

/-- ATTACH. -/
def twinAttach (s : State) : Reply :=
  let st := twinState s
  if st ≠ 0 ∧ st ≠ 6 then deny s .notInState
  else
    let s1 := setTwin 1 { s with twin := { s.twin with
      before := st, attAt := s.now, step := if linkUp s then 1 else 0, queue := [], asked := [], crcBad := false, refused := false
      lateTwo := false, late := [], held := [], upBad := false, skewBad := false, rxSeq := none, bad := 0, rxAt := s.now } }
    accept (if linkUp s then sendHello (twinMode s1) s1 else s1)

/-- DETACH (R359, R360). -/
def twinDetach (s : State) : Reply :=
  let st := twinState s
  if st = 0 ∨ ((st = 4 ∨ st = 5) ∧ (anyTbRun s || s.twin.peerRuns)) then deny s .notInState
  else accept { s with twin := { s.twin with detach := true } }

/-- At a slot a DETACH ends the pair; that service has ended, the device in RECOVERY hears by a HELLO. -/
def detachNow (s : State) : State :=
  let st := twinState s
  if !s.twin.detach then s
  else if st = 7 then sendHello (twinMode s) (unpair s.twin.before s)
  else unpair 0 (if st = 4 ∨ st = 5 then tandemLost s else s)

/-- SLOT_SEND (R354, R367): the slot of the next grid instant. -/
def slotOut (s : State) : State :=
  if !linkActive s then s
  else
    let first := (s.now + 79) / 80 * 80
    let f := match s.twin.slotAt with | some a => max (a + 80) first | none => first
    let s1 := detachNow (s.reach f)
    let w := s1.twin
    let offering := decide (twinState s1 = 2) && (w.decl || w.swap.isSome) && w.offer.isNone
    let take := decide (twinState s1 = 3) && (match w.takeAt with | some t => decide (t ≤ f) | none => false)
    let c := slotChoice s1
    let m : TwinMsg := match c with | some e => e.2 | none => { kind := 0, bulk := [] }
    let body := [w.seq, 0x10 + m.kind] ++ urgent s1 offering take ++ m.bulk ++ List.replicate (64 - m.bulk.length) 0
    let rest := match c with | some e => w.queue.eraseIdx e.1 | none => w.queue
    let sent : TwinMsg := { m with sentAt := f, again := false }
    let asked := if m.kind = 5 ∨ m.kind = 6 then w.asked.filter (fun x => decide (x.mseq ≠ m.mseq)) ++ [sent] else w.asked
    let s2 : State := { s1 with twin := { w with
      seq := (w.seq + 1) % 256, slotAt := some f, slot := body ++ bytes4 (Crc.crc32c body), queue := rest, asked := asked
      used := (decide (slotRank m = 4) :: w.used).take 9
      offer := if offering then some f else w.offer, offers := if offering then w.offers + 1 else w.offers } }
    let s3 := if take then (startDriving (f + 240) (setTwin 2 s2)).pulse Twin.page 4 else s2
    updEligible s3

/-- SWAP (R367). -/
def twinSwap (port : Port) (s : State) : Reply :=
  if twinState s ≠ 2 ∨ !s.rdB Twin.STATE 18 then deny s .notInState
  else if s.twin.swap.isSome then deny s .busy
  else accept { s with twin := { s.twin with swap := some port, offers := 0 } }

/-- CFG_COPY (R363); from port 4 it marks, on the standby, the beginning of a copy. -/
def twinCfgCopy (port : Port) (s : State) : Reply :=
  if port = .twin then
    accept { s with twin := { s.twin with refused := false, lateTwo := false, late := [] } }
  else if twinState s = 2 then accept (sendConfig s)
  else deny s .notInState

/-- SERVE (R360). -/
def twinServe (s : State) : Reply :=
  let st := twinState s
  if (st = 0 ∨ st = 6) ∧ s.twin.recover then
    accept (sendHello 3 (setTwin 7 { s with twin := { s.twin with before := st, recover := false } }))
  else deny s .notInState

/-- A write of TWIN.CMD: one command at a time. -/
def twinCmdWrite (port : Port) (v : Word) (s : State) : Reply :=
  match fld v 4 0 with
  | 0 => accept s
  | 1 => twinAttach s
  | 2 => twinDetach s
  | 4 => twinSwap port s
  | 8 => twinCfgCopy port s
  | 16 => twinServe s
  | _ => deny s .outOfRange

/-- A write of TB_SYNC (R373): the master's timebases start 2 µs later, and the follower's are told of the engine tick by the
low half of the word; `code` is what the follower would refuse with. From port 4 this device is the follower. -/
def tbSyncWrite (port : Port) (v : Word) (code : RefCode) (s : State) : Reply :=
  let startAt (t : Nat) (mask : Nat) (u : State) : Reply :=
    if mask = 0 then accept u
    else
      let r := tbStartWrite (word mask) { u with now := t }
      match r.2 with
      | .none => ({ r.1 with now := u.now }, .none)
      | c => (u, c)
  if pwrState s = 1 ∨ s.rdB SecDbg.DBG_HSTAT 2 then deny s .notInState
  else if port = .twin then
    let tick := s.engine / 65536 * 65536 + fld v 31 16
    startAt (s.ofTick (if tick < s.engine then tick + 65536 else tick)) (fld v 15 8) s
  else if twinState s ≠ 4 then deny s .notInState
  else if !lockOpen s Tb.page then deny s .locked
  else
    let r := startAt (s.now + 1600) (fld v 7 0) s
    match r.2 with
    | .none =>
      if code ≠ .none then deny s code
      else accept (twinWriteMsg (some port) none true false [(Twin.TB_SYNC, word (fld v 15 0 + at' ((s.engine + 1600) % 65536) 16))] r.1)
    | c => deny s c

/-- Writes of the TWIN pages by `port`; `code` as TB_SYNC takes it. DESIGN CHOICE: CFG answers NOT_IN_STATE before OUT_OF_RANGE, also for a
request of TANDEM on the SEP9624 (R4), since the manual orders neither. -/
def twinWrite (port : Port) (code : RefCode) (a : Nat) (v : Word) (s : State) : Reply :=
  if a = Twin.CMD then twinCmdWrite port v s
  else if a = Twin.TB_SYNC then tbSyncWrite port v code s
  else if a = Twin.CFG then
    (let st := twinState s
     if st ≠ 0 ∧ st ≠ 6 then deny s .notInState
     else if fld v 1 0 = 3 ∨ (fld v 1 0 = 2 ∧ s.part = .sep9624) then deny s .outOfRange
     else plainWrite a v s)
  else plainWrite a v s

/-- What a read of the TWIN page gives where it is not the stored value: MIRROR_LOAD. -/
def twinView (a : Nat) (s : State) : Word := if a = Twin.MIRROR_LOAD then mirrorLoad s else s.rd a

/-! ### Meanings -/

/-- SLOT_SEND (R354). -/
def execSlotSend (s : State) : Out := .next (slotOut s)

/-- SLOT_RECEIVED (R354). -/
def execSlotReceived (commas : Bool) (bytes : List Nat) (irq : Bool) (s : State) : Out := .next (slotReceived commas bytes irq s)

/-- SLOT_MISSING (R375). -/
def execSlotMissing (s : State) : Out := .next (slotMissing s)

/-- LANE_ALIGNMENT_LOST (R375). -/
def execLaneAlignmentLost (s : State) : Out := .next (alignmentLost s)

/-- CTX_MIRROR (R362): BULK names the context in bytes 0-1. -/
def execCtxMirror (body : List Nat) (age : Nat) (late : Bool) (s : State) : Out :=
  let n := bytesNat (body.take 2) % 512
  .next (mirrorTake 1 n (applyCtx n) body age late s)

/-- MACH_MIRROR (R362). -/
def execMachMirror (body : List Nat) (age : Nat) (late : Bool) (s : State) : Out :=
  let m := body.getD 0 0 % 4
  .next (mirrorTake 2 m (applyMach m) body age late s)

/-- PROF_MIRROR (R362). -/
def execProfMirror (body : List Nat) (age : Nat) (late : Bool) (s : State) : Out :=
  let c := body.getD 0 0 % 4
  .next (mirrorTake 3 c (applyProf c) body age late s)

/-- GRP_MIRROR (R362). -/
def execGrpMirror (body : List Nat) (age : Nat) (late : Bool) (s : State) : Out :=
  let g := body.getD 0 0 % 64
  .next (mirrorTake 4 g (applyGrp g) body age late s)

/-- HELLO (R358). -/
def execTwinHello (body : List Nat) (delay : Nat) (skew : Int) (up : Nat) (tbs : List (Nat × Nat)) (s : State) : Out :=
  .next (hello body delay skew up tbs s)

/-- LANE_ALIGNED (R358). -/
def execLaneAligned (s : State) : Out := .next (laneAligned s)

/-- ATTACH_TIMEOUT (R358). -/
def execAttachTimeout (s : State) : Out := .next (attachTimeout s)

/-- ATTACH (R358). -/
def execTwinAttach (port : Port) (s : State) : Out := replied (gated port Twin.CMD 1 (twinCmdWrite port 1) s)

/-- DETACH (R359). -/
def execTwinDetach (port : Port) (s : State) : Out := replied (gated port Twin.CMD 2 (twinCmdWrite port 2) s)

/-- SWAP (R367). -/
def execTwinSwap (port : Port) (s : State) : Out := replied (gated port Twin.CMD 4 (twinCmdWrite port 4) s)

/-- CFG_COPY (R363). -/
def execTwinCfgCopy (port : Port) (s : State) : Out := replied (gated port Twin.CMD 8 (twinCmdWrite port 8) s)

/-- SERVE (R360). -/
def execTwinServe (port : Port) (s : State) : Out := replied (gated port Twin.CMD 16 (twinCmdWrite port 16) s)

/-- HANDOVER_OFFER_TIMEOUT (R367). -/
def execHandoverOfferTimeout (s : State) : Out := .next (offerTimeout s)

/-- OWNER_REFUSE_TIMEOUT (R368). -/
def execOwnerRefuseTimeout (s : State) : Out := .next (refuseTimeout s)

/-- TB_SYNC (R373). -/
def execTwinTbSync (port : Port) (v : Word) (code : RefCode) (s : State) : Out :=
  replied (gated port Twin.TB_SYNC v (tbSyncWrite port v code) s)

end Sys2Proof.Machine
end

