-- ==== Sys2Proof/Machine/Bist.lean ====
section
/-! DEFINITION. Built-in self-test and repair (R417-R432): the slice schedule, isolation, signatures, checks of converters and
cells, reports to the island and retirement, host tests, and fuse repair. -/

namespace Sys2Proof.Machine

/-! ### Schedule (R417, R418) -/

/-- CLK_CLE cycles between slice starts under the active profile. -/
def slicePeriod (s : State) : Nat :=
  match s.cle.profile with
  | 0 => 800000
  | 1 => 400000
  | _ => 200000

/-- The engine tick of the next slice; a profile of shorter periods counts from the epoch that brings it. -/
def sliceDue (s : State) : Nat :=
  match s.bist.lastTick with
  | some t => max ((t / slicePeriod s + 1) * slicePeriod s) (s.engine / 800000 * 800000)
  | none => 0

/-- Is a lane, a copy of a datapath (portions 4-7), a memory bank retired? -/
def laneRetired (s : State) : Bool := decide (s.rdF Bist.RETIRED 3 0 ≠ 0)
def copyRetired (s : State) (p : Nat) : Bool := decide (s.rdF Bist.RETIRED (if p < 6 then 5 else 7) (if p < 6 then 4 else 6) ≠ 0)
def bankRetired (s : State) : Bool := decide (s.rdF Bist.RETIRED 15 8 ≠ 0)

/-- Does a slice test logic portion `n` (R425): no lane is taken while one is retired, and no copy of a datapath that has one
retired? -/
def logicTested (s : State) (n : Nat) : Bool := if n < 4 then !laneRetired s else !copyRetired s n

/-! ### Reports and retirement (R425) -/

/-- A failed part is retired until the next system reset. -/
def retire (p : Nat) (s : State) : State :=
  let s1 := if p < 8 then s.wrB Bist.RETIRED p true else if 0x10 ≤ p ∧ p < 0x18 then s.wrB Bist.RETIRED (p - 8) true else s
  (s1.wrB (hSTATUS Bist.page) 1 (laneRetired s1)).wrB (hSTATUS Bist.page) 2 (copyRetired s1 4 || copyRetired s1 6)

/-- A control-path fault of portion `p` is reported to the island as DEVICE_FAULT: LAST_FAIL, the signature where there is one,
MISMATCH, a SAFETY event, retirement; in WARD a declared fault. -/
def deviceFault (p slice : Nat) (sig : Option (Word × Word)) (s : State) : State :=
  let n := min (s.rdF Bist.LAST_FAIL 31 16 + 1) 0xFFFF
  let s1 := s.wr Bist.LAST_FAIL (word (p + at' slice 8 + at' n 16))
  let s2 := match sig with | some w => (s1.wr Bist.SIG_HI w.1).wr Bist.SIG_LO w.2 | none => s1
  let s3 := emitPage .safety Bist.page 0 p ((retire p s2).pulse Bist.page 0)
  lockOut 0xB (declareFault (s3.incL BistTel.MISMATCHES))

/-- One response word enters the MISR of x^64 + x^4 + x^3 + x + 1 (R424). DESIGN CHOICE: the register moves towards bit 63 and folds
the polynomial in as that bit leaves; stored signatures hold the same form. -/
def misrStep (m w : BitVec 64) : BitVec 64 := (m <<< 1) ^^^ (if m.getLsbD 63 then 0x1B else 0) ^^^ w

/-- The closing word: portion, slice (0xFF for a host test) and the number of pattern steps (R424). -/
def closingWord (p slice steps : Nat) : BitVec 64 :=
  BitVec.ofNat 64 (p % 256 * 2 ^ 56 + slice % 256 * 2 ^ 48 + steps % 2 ^ 32)

/-- The signature of a portion's responses to `steps` pattern steps, as its high and low word (R424). -/
def signatureOf (p slice : Nat) (responses : List (BitVec 64)) (steps : Nat) : Word × Word :=
  let m := misrStep (responses.foldl misrStep 0xFFFFFFFFFFFFFFFF) (closingWord p slice steps)
  (m.extractLsb' 32 32, m.extractLsb' 0 32)

/-- A test's signature against the stored one (R424). -/
def judgeSig (p slice : Nat) (test : List (BitVec 64) × Nat) (s : State) : State :=
  let sig := signatureOf p slice test.1 test.2
  if sig = Config.signature p slice then s else deviceFault p slice (some sig) s

/-! ### Converters and cells (R423) -/

/-- The chain's portion code of a unit: SAR converters 0-31, comparator cells 32-95, sinc3 cells 96-143, chain A first. -/
def unitPortion (u : Nat) : Nat :=
  0x20 + (if u < 32 then u / 16 else if u < 96 then (u - 32) / 32 else (u - 96) / 24)

/-- Do the three reference steps lie within 64 codes of their values? -/
def stepsOk (c : Nat × Nat × Nat) : Bool :=
  let near (v ref : Nat) : Bool := decide (ref ≤ v + 64 ∧ v ≤ ref + 64)
  near c.1 8192 && near c.2.1 32768 && near c.2.2 57344

/-- The check of one unit: two failures in a row are a detected fault. -/
def judgeUnit (slice u : Nat) (ok : Bool) (s : State) : State :=
  let n := if ok then 0 else KMap.get (fun _ => 0) s.bist.fails u + 1
  let s1 : State := { s with bist := { s.bist with fails := KMap.set (fun _ => 0) s.bist.fails u (min n 255) } }
  if n = 2 then deviceFault (unitPortion u) slice none (s1.pulse Bist.page 3) else s1

/-- The three results of converter `c` after the factors of R90, from the codes converted. -/
def checkResults (s : State) (c : Nat) (codes : Nat × Nat × Nat) : Nat × Nat × Nat :=
  let r (v : Nat) : Nat := (withFactors (convFactors s (c / 16) (c % 16)) v).toNat
  (r codes.1, r codes.2.1, r codes.2.2)

/-- A completed check of a SAR converter. -/
def judgeConv (slice : Nat) (e : Nat × Nat × Nat × Nat) (s : State) : State :=
  judgeUnit slice e.1 (stepsOk (checkResults s e.1 e.2)) { s with bist := { s.bist with checked := KMap.set (fun _ => 0) s.bist.checked e.1 s.now } }

/-- The checks of a slice: converters with their three codes, idle cells with their verdict. -/
def judgeAnalog (slice : Nat) (conv : List (Nat × Nat × Nat × Nat)) (cells : List (Nat × Bool)) (s : State) : State :=
  cells.foldl (fun t e => judgeUnit slice e.1 e.2 t) (conv.foldl (fun t e => judgeConv slice e t) s)

/-! ### Slices -/

/-- BIST_SLICE_START (R417, R420): lane, datapath copy and bank of the slice are isolated. -/
def sliceStart (s : State) : State :=
  if !s.inService || s.bist.cur.isSome then s
  else
    let n := s.bist.next % 8
    let due := sliceDue s
    let s1 := s.reach (s.ofTick due)
    let s2 : State := { s1 with bist := { s1.bist with cur := some n, lastTick := some due, cycleBad := s1.bist.cycleBad && decide (n ≠ 0) } }
    let s3 := s2.wrF (hSTATUS Bist.page) 6 4 n
    if n < 4 ∧ !laneRetired s3 then { s3 with cle := { s3.cle with bistLane := some n, bistAt := s3.now } } else s3

/-- The lane of a slice returns to dispatch. -/
def laneBack (s : State) : State :=
  match s.cle.bistLane with
  | some _ => { s with cle := { s.cle with bistLane := none, bistCycles := s.cle.bistCycles + (s.now - s.cle.bistAt) } }
  | none => s

/-- BIST_SLICE_END (R418-R425): responses and pattern steps of the logic portion and of the bank, the codes of the converters checked,
the verdicts of the idle cells. -/
def sliceEnd (logic mem : List (BitVec 64) × Nat) (conv : List (Nat × Nat × Nat × Nat)) (cells : List (Nat × Bool)) (s0 : State) : State :=
  match s0.bist.cur, s0.bist.lastTick with
  | some n, some t =>
    let s := s0.reach (s0.ofTick (t + 40000))
    let s1 := laneBack { s with bist := { s.bist with cur := none, next := (n + 1) % 8, endAt := s.now } }
    let s2 := s1.incL BistTel.SLICES
    let fails0 := s2.rdF Bist.LAST_FAIL 31 16
    let s3 := if logicTested s0 n then judgeSig n n logic s2 else s2
    let s4 := if bankRetired s0 then s3 else judgeSig (0x10 + n) n mem s3
    let s5 := judgeAnalog n conv cells s4
    let all := (List.range 32).all (fun c => conv.any (fun e => decide (e.1 = c)))
    let s6 := if all then s5 else s5.incL BistTel.ANA_SKIP
    let bad := s6.bist.cycleBad || decide (s6.rdF Bist.LAST_FAIL 31 16 ≠ fails0)
    let s7 : State := { s6 with bist := { s6.bist with cycleBad := bad } }
    if n = 7 then (s7.incL BistTel.CYCLES).wrB (hSTATUS Bist.page) 0 (!bad) else s7
  | _, _ => s0

/-- DATAPATH_LOCKSTEP_MISMATCH (R421): outside a slice of the datapath; `p` is the copy (4-7) the device takes out. -/
def copyMismatch (p : Nat) (s : State) : State :=
  let pair (a b : Nat) : Bool := decide (a / 2 = b / 2)
  let sliced : Bool := match s.bist.cur with | some n => pair n p | none => false
  if p < 4 ∨ 8 ≤ p ∨ sliced ∨ copyRetired s p then s else deviceFault p (s.rdF (hSTATUS Bist.page) 6 4) none s

/-- CONVERTER_CHECK_OVERDUE (R423): converter `c` 4 ms after its last check takes the next one, with its codes; without one for
6 ms it is a detected fault. -/
def checkOverdue (c : Nat) (res : Option (Nat × Nat × Nat)) (s : State) : State :=
  let last := max (KMap.get (fun _ => 0) s.bist.checked c) (s.ofTick 0)
  let slice := s.rdF (hSTATUS Bist.page) 6 4
  if 32 ≤ c ∨ !s.inService then s
  else
    match res with
    | some r => judgeConv slice (c, r) (s.reach (last + 3200000))
    | none =>
      let s1 := (s.reach (last + 4800000)).pulse Bist.page 3
      deviceFault (unitPortion c) slice none { s1 with bist := { s1.bist with fails := KMap.set (fun _ => 0) s1.bist.fails c 2 } }

/-- A parity error stands in the speculative buffer of context `n` (R146). -/
def spoilSpec (n : Nat) (s : State) : State :=
  let h := ctxOf s n
  putCtx n { h with spec := h.spec.map (fun b => { b with bad := true }) } s

/-- ECC_ERROR_DETECTED (R425, R426): in a bank of a control-path memory, or in the supervisor SRAM. DESIGN CHOICE: the command also
stands for a parity error of a speculative buffer, for which the table has no row of its own; the next band check finds it (R148). -/
def eccError (place : EccPlace) (fixed : Bool) (s : State) : State :=
  match place with
  | .buffer n => spoilSpec n s
  | .bank b =>
    if fixed then (s.incL BistTel.ECC_CORR).pulse Bist.page 1
    else
      let s1 := s.incL BistTel.ECC_UNCORR
      deviceFault (0x10 + b % 8) (s1.rdF (hSTATUS Bist.page) 6 4) none s1
  | .sram =>
    if fixed then (s.incL BistTel.ECC_CORR).pulse Bist.page 1
    else emitPage .fault Bist.page 0xFF 0 (s.incL BistTel.ECC_UNCORR)

/-! ### Host tests (R427) -/

/-- Is a portion in active control? -/
def activeControl (s : State) (p : Nat) : Bool :=
  let chain (x : Nat) : Bool := (List.range 28).any (fun c => inUse s x c) || (List.range 16).any (comparatorArmed s x)
  if p < 4 ∨ (0x10 ≤ p ∧ p < 0x18) then !(busyCtxs s).isEmpty
  else if p < 6 then (List.range 4).any (fun k => decide (machState s k ≠ 0 ∨ profState s k ≠ 0))
  else if p < 8 then anyTbRun s || armed s
  else chain (p - 0x20)

/-- A write of BIST_CMD. -/
def bistCmdWrite (v : Word) (s : State) : Reply :=
  let p := fld v 7 0
  if !decide (p < 8 ∨ (0x10 ≤ p ∧ p < 0x18) ∨ p = 0x20 ∨ p = 0x21) then deny s .outOfRange
  else if s.bist.host.isSome then deny s .busy
  else if activeControl s p then deny s .notInState
  else
    let s1 : State := { s with bist := { s.bist with host := some (p, s.now) } }
    accept ((s1.wr Bist.HOST_STAT (word (1 + at' p 8))).wrB (hSTATUS Bist.page) 3 true)

/-- The engine tick at which a test queued at tick `t` starts: the first 50 µs free of scheduled slices. -/
def hostStart (s : State) (t : Nat) : Nat :=
  let p := slicePeriod s
  let o := t % p
  if o < 40000 then t - o + 40000 else if o + 40000 ≤ p then t else t - o + p + 40000

/-- HOST_TEST_DONE (R424, R427): the responses and steps of a logic or memory portion, or the checks of a chain. -/
def hostDone (test : List (BitVec 64) × Nat) (conv : List (Nat × Nat × Nat × Nat)) (cells : List (Nat × Bool)) (s : State) : State :=
  match s.bist.host with
  | none => s
  | some (p, at_) =>
    let t := ((at_ : Int) - s.bu.tick0).toNat
    let s1 := s.reach (s.ofTick (hostStart s t + 40000))
    let sig := signatureOf p 0xFF test.1 test.2
    let ok := if p < 0x20 then decide (sig = Config.signature p 0xFF)
      else conv.all (fun e => stepsOk (checkResults s e.1 e.2)) && cells.all (·.2)
    let s2 : State := { s1 with bist := { s1.bist with host := none } }
    let s3 := ((s2.wr Bist.HOST_STAT (word ((if ok then 2 else 3) + at' p 8))).wrB (hSTATUS Bist.page) 3 false).pulse Bist.page 2
    if ok then s3 else deviceFault p 0xFF (if p < 0x20 then some sig else none) s3

/-! ### Fuse repair (R429) -/

/-- A write of FUSE_CMD. -/
def fuseCmdWrite (v : Word) (s : State) : Reply :=
  if !lockOpen s Bist.page then deny s .locked
  else if v ≠ 0x46555345 then deny s .keyRequired
  else if s.rdF Sec.LC_STATE 1 0 = 2 then deny s .denied
  else if anyTbRun s then deny s .notInState
  else if 64 < s.rdF Bist.REPAIR_STAT 7 0 + s.rdF Bist.REPAIR_STAT 15 8 then deny s .outOfRange
  else accept { s with bist := { s.bist with fuseAt := some s.now } }

/-- FUSE_PROGRAM_DONE (R429): within 50 ms; `ok` where every entry was programmed. -/
def fuseDone (dt : Nat) (ok : Bool) (s : State) : State :=
  match s.bist.fuseAt with
  | none => s
  | some t =>
    let s1 := s.reach (min (s.now + dt) (t + 40000000))
    let s2 : State := { s1 with bist := { s1.bist with fuseAt := none } }
    let used := s2.rdF Bist.REPAIR_STAT 15 8 + (if ok then s2.rdF Bist.REPAIR_STAT 7 0 else 0)
    (s2.wrF Bist.REPAIR_STAT 15 8 used).wrB Bist.REPAIR_STAT 24 (!ok)

/-! ### Writes -/

/-- Writes of the BIST pages. -/
def bistWrite (a : Nat) (v : Word) (s : State) : Reply :=
  if a = Bist.BIST_CMD then bistCmdWrite v s
  else if a = Bist.FUSE_CMD then fuseCmdWrite v s
  else plainWrite a v s

/-! ### Meanings -/

/-- BIST_SLICE_START (R417). -/
def execBistSliceStart (s : State) : Out := .next (sliceStart s)

/-- BIST_SLICE_END (R420). -/
def execBistSliceEnd (logic : List (BitVec 64)) (logicSteps : Nat) (mem : List (BitVec 64)) (memSteps : Nat)
    (conv : List (Nat × Nat × Nat × Nat)) (cells : List (Nat × Bool)) (s : State) : Out :=
  .next (sliceEnd (logic, logicSteps) (mem, memSteps) conv cells s)

/-- DATAPATH_LOCKSTEP_MISMATCH (R421). -/
def execDatapathLockstepMismatch (p : Nat) (s : State) : Out := .next (copyMismatch p s)

/-- CONVERTER_CHECK_OVERDUE (R423). -/
def execConverterCheckOverdue (c : Nat) (codes : Option (Nat × Nat × Nat)) (s : State) : Out := .next (checkOverdue c codes s)

/-- ECC_ERROR_DETECTED (R426). -/
def execEccErrorDetected (place : EccPlace) (fixed : Bool) (s : State) : Out := .next (eccError place fixed s)

/-- BIST_CMD (R427). -/
def execBistCmd (port : Port) (v : Word) (s : State) : Out := replied (gated port Bist.BIST_CMD v (bistCmdWrite v) s)

/-- HOST_TEST_DONE (R427). -/
def execHostTestDone (test : List (BitVec 64)) (steps : Nat) (conv : List (Nat × Nat × Nat × Nat)) (cells : List (Nat × Bool))
    (s : State) : Out :=
  .next (hostDone (test, steps) conv cells s)

/-- FUSE_CMD (R429). -/
def execFuseCmd (port : Port) (v : Word) (s : State) : Out := replied (gated port Bist.FUSE_CMD v (fuseCmdWrite v) s)

/-- FUSE_PROGRAM_DONE (R429). -/
def execFuseProgramDone (dt : Nat) (ok : Bool) (s : State) : Out := .next (fuseDone dt ok s)

end Sys2Proof.Machine
end

