-- ==== Sys2Proof/Machine/Evrec.lean ====
section
/-! DEFINITION. The event recorder (R433-R444): entries and the ring, loss markers, rate limiting, non-volatile retention, alarm
routes, storm mode and summaries. -/

namespace Sys2Proof.Machine

/-! ### Entries (R433, R435) -/

/-- What an entry says beside its number. -/
structure EvEntry where
  cls : EvClass
  page : Nat
  code : Nat
  obj : Nat
  count : Nat := 1
  detail : Word
  /-- instant of the event in CLK_CLE cycles -/
  at_ : Nat
  tick : Nat
  coal : Bool := false
  marker : Bool := false
  deriving DecidableEq, Repr

/-- The eight words of an entry. -/
def entryWords (s : State) (seq : Word) (e : EvEntry) : List Word :=
  let us := (e.at_ - s.bu.porAt) / 800
  let w := [seq, word us,
    word (us / 2 ^ 32 % 65536 + at' e.cls.num 16 + at' (bitN e.coal) 18 + at' (bitN e.marker) 19 + at' (blockOf e.page) 24),
    word (e.code % 256 + at' (pageInBlock e.page % 16) 8 + at' (e.obj % 65536) 16), word (e.count % 65536), word e.tick, e.detail]
  w ++ [word (Crc.crc32c (wordsBytes w))]

/-- CLASS of an entry's words. -/
def wordsClass (l : List Word) : Nat := fld (l.getD 2 0) 17 16

/-- Unreleased entries. -/
def evFill (s : State) : Nat := (s.rd Evrec.WR_SEQ - s.rd Evrec.RD_SEQ).toNat

/-- IRQ_RAW.HALF follows the fill. -/
def evHalf (s : State) : State := s.raw Evrec.page 7 (decide (4096 ≤ evFill s))

/-- A marker of the recorder. -/
def evMarker (c : EvClass) (code count : Nat) (detail : Word) (s : State) : EvEntry :=
  { cls := c, page := Evrec.page, code := code, obj := 0, count := count, detail := detail, at_ := s.now
    tick := if s.inService then s.engine % 2 ^ 32 else 0, marker := true }

/-! ### Non-volatile queue (R438) -/

/-- NV_DROP. -/
def nvDrop (s : State) : State := s.incSat Evrec.NV_CNT 31 16

/-- A SAFETY or FAULT entry joins the queue; in a full one a SAFETY entry displaces the newest FAULT entry that is not being
written. -/
def nvPush (w : List Word) (s : State) : State :=
  let q := s.ev.nvQueue
  let put (l : List (List Word)) : State :=
    { s with ev := { s.ev with nvQueue := l ++ [w], nvAt := if q.isEmpty then s.now else s.ev.nvAt } }
  if 2 ≤ wordsClass w then s
  else if q.length < 32 then put q
  else if wordsClass w = 0 then
    (match ((List.range q.length).filter (fun i => decide (0 < i) && decide (wordsClass (q.getD i []) = 1))).getLast? with
      | some i => put (q.eraseIdx i)
      | none => nvDrop s)
  else nvDrop s

/-! ### Writing (R435, R436) -/

/-- A summary period takes an entry in; markers count as entries only (R441). -/
def periodTake (seq : Word) (e : EvEntry) (s : State) : State :=
  if s.ev.storm.isNone then s
  else
    let p := s.ev.period
    let c := e.cls.num
    let n := if e.marker then 0 else e.count
    let kind := blockOf e.page * 2 ^ 24 + pageInBlock e.page % 16 * 2 ^ 16 + e.code % 256
    let q : EvPeriod := { p with
      byClass := p.byClass.set c (p.byClass.getD c 0 + n)
      entries := p.entries + 1
      first := if p.first.isNone then some seq else p.first
      safety := if c = 0 ∧ !e.marker then some seq else p.safety
      kinds := if e.marker then p.kinds else KMap.set (fun _ => 0) p.kinds kind (KMap.get (fun _ => 0) p.kinds kind + n) }
    { s with ev := { s.ev with period := q } }

/-- Put an entry into the ring; there is a free slot. -/
def ringPut (e : EvEntry) (s : State) : State :=
  let seq := s.rd Evrec.WR_SEQ
  let a := 0x480000 + 0x20 * (seq.toNat % 8192)
  let l := entryWords s seq e
  let s1 := (List.range 8).foldl (fun t j => t.wrMem (a + 4 * j) (l.getD j 0)) s
  evHalf (periodTake seq e (s1.wr Evrec.WR_SEQ (seq + 1)))

/-- The events an entry stands for are lost from the ring: LOSS of their class, saturating, IRQ_RAW.LOSS, the marker's count. -/
def evCount (e : EvEntry) (s : State) : State :=
  let a := Evrec.LOSS0 e.cls.num
  let s1 := (s.wr a (word (min ((s.rd a).toNat + e.count) 0xFFFFFFFF))).pulse Evrec.page 6
  let p := s1.ev.period
  { s1 with ev := { s1.ev with
    owed := s1.ev.owed + e.count, period := if s1.ev.storm.isSome then { p with lost := p.lost + e.count } else p } }

/-- Lost events of class SAFETY and FAULT still reach non-volatile memory. -/
def evLose (e : EvEntry) (s : State) : State :=
  let s1 := evCount e s
  nvPush (entryWords s1 (s1.rd Evrec.WR_SEQ) e) s1

/-- Write an entry where there is a slot, else lose it; it joins the non-volatile queue. -/
def ringAdd (e : EvEntry) (s : State) : State :=
  if 8192 ≤ evFill s then evLose e s else nvPush (entryWords s (s.rd Evrec.WR_SEQ) e) (ringPut e s)

/-! ### Routes (R439) -/

/-- The enabled routes. -/
def evRoutes (s : State) : List Word := ((List.range 4).map (fun r => s.rd (Evrec.ROUTE0 r))).filter (fun w => bit w 0)

/-- Is an entry of class `c` alarm-routed? -/
def alarmRouted (s : State) (c : Nat) : Bool := (evRoutes s).any (fun w => bit w (12 + c))

/-- Send an alarm on every enabled route that satisfies `ok`; an alarm that some route cannot send counts once in the window. -/
def routeSend (ok : Word → Bool) (at_ : Nat) (ws : List Word) (s : State) : State :=
  let r := ((evRoutes s).filter ok).foldl (fun (t : State × Bool) w =>
    let r := trySendAlarm (bit w 1) (fld w 3 2) (if bit w 1 then fld w 6 4 else fld w 10 4) Evrec.page at_ ws t.1
    (r.1, t.2 && r.2)) (s, true)
  if r.2 then r.1 else { r.1 with ev := { r.1.ev with winFails := r.1.ev.winFails + 1 } }

/-! ### Storm mode (R440-R442) -/

/-- STORM as a level. -/
def showStorm (s : State) : State := s.raw Evrec.page 4 s.ev.storm.isSome

/-- The kind with the most events, the lowest on a tie. -/
def topKind (l : List (Nat × Nat)) : Nat × Nat :=
  l.foldl (fun (b : Nat × Nat) e => if b.2 < e.2 then e else b) (0, 0)

/-- One summary of the period that ends now, on every route; the next period begins (R441). -/
def stormSummary (s : State) : State :=
  let p := s.ev.period
  let k := topKind p.kinds
  let cls (c : Nat) : Word := word (p.byClass.getD c 0)
  let ws := [word (0x61 + at' (s.ev.sums % 256) 8), secs (s.now - p.at_), cls 0, cls 1, cls 2, cls 3, word p.entries, word p.lost,
    p.first.getD (s.rd Evrec.WR_SEQ), p.safety.getD 0xFFFFFFFF, word k.1, word k.2]
  let s1 := (routeSend (fun _ => true) s.now ws s).pulse Evrec.page 5
  { s1 with ev := { s1.ev with sums := s1.ev.sums + 1, period := { at_ := s1.now }, ending := false } }

/-- A SAFETY entry ends the period with its CLK_FAB cycle (R441). -/
def endPeriod (s : State) : State := { s with ev := { s.ev with ending := true } }

/-- Storm mode begins with entry `e` of number `seq` (R440). -/
def stormEnter (seq : Word) (e : EvEntry) (s : State) : State :=
  let n := s.ev.winCount
  let s1 : State := { s with ev := { s.ev with storm := some s.now, sums := 0, period := { at_ := s.now } } }
  let s2 := ringAdd (evMarker .warn 0x21 1 (word n) s1) (periodTake seq e s1)
  let s3 := showStorm (routeSend (fun _ => true) s2.now [0x60, F.ofNat n] s2)
  if e.cls = .safety then endPeriod s3 else s3

/-- What follows an entry in the ring: alarms and interrupts outside storm mode, the end of the period at a SAFETY entry
inside it (R439-R441). -/
def evAfter (seq : Word) (e : EvEntry) (s : State) : State :=
  let c := e.cls.num
  let s1 : State := if alarmRouted s c then { s with ev := { s.ev with winCount := s.ev.winCount + 1 } } else s
  if s1.ev.storm.isSome then (if e.cls = .safety then endPeriod s1 else s1)
  else if 6144 ≤ evFill s1 ∨ (alarmRouted s c ∧ s1.rdF Evrec.STORM_CFG 7 0 < s1.ev.winCount) then stormEnter seq e s1
  else
    let ws := [word (0x40 + c + at' (blockOf e.page) 8), F.ofNat e.count] ++ entryWords s seq e
    let s2 := (routeSend (fun w => bit w (12 + c)) e.at_ ws s1).pulse Evrec.page c
    if s1.ev.winFails < s2.ev.winFails ∧ 2 ≤ s2.ev.winFails then stormEnter seq e s2 else s2

/-- Write one entry with what follows it. -/
def evPut (e : EvEntry) (s : State) : State :=
  if 8192 ≤ evFill s then evLose e s else evAfter (s.rd Evrec.WR_SEQ) e (ringAdd e s)

/-- Write an entry by `put`; after a loss a LOST marker stands before it, and both are written together or the entry is lost as `lose`
says (R436). -/
def withLost (put lose : State → State) (s : State) : State :=
  if s.ev.owed = 0 then put s
  else if 8192 < evFill s + 2 then lose s
  else
    let n := s.ev.owed
    put (evPut (evMarker .fault 0x20 (min n 65535) (word n) s) { s with ev := { s.ev with owed := 0 } })

/-- Write one entry, a LOST marker before it where one is owed. -/
def evWrite1 (e : EvEntry) (s : State) : State := withLost (evPut e) (evLose e) s

/-! ### Rate limiting (R437) -/

/-- A token. -/
def tokenUnit : Nat := 800000000

/-- RATE and BURST of a class. -/
def classRate (s : State) (c : EvClass) : Nat × Nat :=
  let a := match c with | .safety | .fault => Evrec.RATE_FAULT | .warn => Evrec.RATE_WARN | .info => Evrec.RATE_INFO
  (s.rdF a 7 0, s.rdF a 11 8)

/-- The tokens of a bucket now. -/
def tokensNow (s : State) (b : EvBucket) : Nat :=
  let r := classRate s b.last.cls
  min (r.2 * tokenUnit) (b.tok + (s.now - b.at_) * r.1)

/-- Does a source hold its place: its bucket is not full, or events wait? -/
def holdsPlace (s : State) (b : EvBucket) : Bool :=
  decide (0 < b.tally) || decide (tokensNow s b < (classRate s b.last.cls).2 * tokenUnit)

/-- A source in the order of R444: block, page, code, object. -/
def evKey (e : Event) : Nat := (e.page * 256 + e.code % 256) * 65536 + e.obj % 65536

/-- An event as an entry of COUNT 1. -/
def eventEntry (e : Event) : EvEntry :=
  { cls := e.cls, page := e.page, code := e.code, obj := e.obj, detail := e.detail, at_ := e.at_, tick := e.tick, marker := e.marker }

/-- Put the bucket of a source. -/
def putBucket (k : Nat) (b : EvBucket) (s : State) : State :=
  { s with ev := { s.ev with srcs := KMap.insert (KMap.erase s.ev.srcs k) k b } }

/-- The coalesced entry of a source, which takes a token. -/
def coalesce (k : Nat) (b : EvBucket) (s : State) : State :=
  let e : EvEntry := { eventEntry b.last with count := b.tally, coal := true }
  evWrite1 e (putBucket k { b with tok := tokensNow s b - tokenUnit, at_ := s.now, tally := 0 } s)

/-- An event of a limited class. -/
def limited (e : Event) (s0 : State) : State :=
  let s : State := { s0 with ev := { s0.ev with srcs := s0.ev.srcs.filter (fun x => holdsPlace s0 x.2) } }
  let k := evKey e
  match s.ev.srcs.find? (fun x => decide (x.1 = k)) with
  | none =>
    if 256 ≤ s.ev.srcs.length then evLose (eventEntry e) s
    else
      let r := classRate s e.cls
      evWrite1 (eventEntry e) (putBucket k { tok := r.2 * tokenUnit - tokenUnit, at_ := s.now, last := e } s)
  | some (_, b0) =>
    let ready := decide (0 < b0.tally) && decide (tokenUnit ≤ tokensNow s b0)
    let s1 := if ready then coalesce k b0 s else s
    let b : EvBucket := match s1.ev.srcs.find? (fun x => decide (x.1 = k)) with | some x => x.2 | none => b0
    let t := tokensNow s1 b
    if b.tally = 0 ∧ tokenUnit ≤ t ∧ !ready then evWrite1 (eventEntry e) (putBucket k { b with tok := t - tokenUnit, at_ := s1.now, last := e } s1)
    else if 65535 ≤ b.tally then evLose (eventEntry e) s1
    else putBucket k { b with tally := b.tally + 1, last := e } s1

/-- The event the recorder takes next, and those left: the oldest; of those of its CLK_FAB cycle the one of the first page, in the
order in which a page raises them (R444). -/
def nextEvent : List Event → Option (Event × List Event)
  | [] => none
  | e :: l =>
    let b := l.foldl (fun b x => if x.at_ * 5 / 16 = e.at_ * 5 / 16 ∧ x.page < b.page then x else b) e
    some (b, (e :: l).erase b)

/-- EVENT_RECORD (R437): in SERVICE the recorder takes the oldest event that a block has raised. -/
def eventRecord (s : State) : State :=
  match nextEvent s.evq with
  | none => s
  | some (e, rest) =>
    if !s.inService then s else
    let s1 : State := { s with evq := rest }
    let s2 := if e.cls = .safety ∨ e.marker then evWrite1 (eventEntry e) s1 else limited e s1
    if s2.ev.ending && !rest.any (fun x => decide (x.at_ * 5 / 16 = e.at_ * 5 / 16)) then stormSummary s2 else s2

/-- The instant at which a source with a tally has its next token. -/
def refillAt (s : State) (b : EvBucket) : Nat :=
  let r := max 1 (classRate s b.last.cls).1
  b.at_ + (tokenUnit - b.tok + r - 1) / r

/-- TOKEN_REFILL (R437): the first source with a tally whose token refills. -/
def tokenRefill (s : State) : State :=
  let l := s.ev.srcs.filter (fun x => decide (0 < x.2.tally) && decide (0 < (classRate s x.2.last.cls).2))
  match l.foldl (fun (b : Option (Nat × EvBucket)) x =>
      match b with
      | some y => if refillAt s x.2 < refillAt s y.2 then some x else b
      | none => some x) none with
  | some (k, b) => coalesce k b (s.reach (refillAt s b))
  | none => s

/-! ### Windows and periods -/

/-- STORM_WINDOW_END (R440, R442). -/
def windowEnd (s : State) : State :=
  if !s.inService then s
  else
    let due := (s.ev.winTick / 8000000 + 1) * 8000000
    let s1 := s.reach (s.ofTick due)
    let quiet := decide (s1.ev.winCount ≤ s1.rdF Evrec.STORM_CFG 11 8 ∧ s1.ev.winFails = 0)
    let n := if quiet then min (s1.ev.quiet + 1) 100 else 0
    let s2 : State := { s1 with ev := { s1.ev with winTick := due, winCount := 0, winFails := 0, quiet := n } }
    match s2.ev.storm with
    | some t =>
      if 100 ≤ n ∧ evFill s2 < 4096 then
        let s3 := stormSummary s2
        let m := evMarker .warn 0x22 1 (statusWord s3 Evrec.page) s3
        let s4 := withLost (ringAdd m) (evLose m) s3
        let s5 := routeSend (fun _ => true) s4.now [0x62, secs (s4.now - t)] s4
        showStorm { s5 with ev := { s5.ev with storm := none, period := {} } }
      else s2
    | none => s2

/-- SUMMARY_PERIOD_END (R441). -/
def summaryEnd (s : State) : State :=
  if s.ev.storm.isNone then s else stormSummary (s.reach (s.ev.period.at_ + s.rdF Evrec.STORM_CFG 31 16 * 800000))

/-! ### Non-volatile regions (R438) -/

/-- An entry joins the regions. -/
def nvStore (w : List Word) (s : State) : State :=
  { s with ev := { s.ev with
      nvFirst := if s.ev.nvFirst.length < 32 then s.ev.nvFirst ++ [w] else s.ev.nvFirst
      nvLast := (w :: s.ev.nvLast).take 128 } }

/-- Both regions empty; the clear is the first entry of the new FIRST region. -/
def nvEmpty (s : State) : State :=
  let m := evMarker .fault 0x23 1 (statusWord s Evrec.page) s
  let keep (t : State) : State := nvStore (entryWords t (t.rd Evrec.WR_SEQ) m) t
  withLost (fun t => if 8192 ≤ evFill t then evCount m (keep t) else evAfter (t.rd Evrec.WR_SEQ) m (ringPut m (keep t)))
    (fun t => evCount m (keep t)) { s with ev := { s.ev with nvFirst := [], nvLast := [], nvClear := false } }

/-- NV_ENTRY_WRITTEN (R438): the oldest queued entry is written, within 2 ms. -/
def nvWritten (dt : Nat) (s : State) : State :=
  match s.ev.nvQueue with
  | [] => s
  | w :: rest =>
    let s1 := s.reach (min (s.now + dt) (s.ev.nvAt + 1600000))
    let s2 := nvStore w { s1 with ev := { s1.ev with nvQueue := rest, nvAt := s1.now } }
    if s2.ev.nvClear then nvEmpty s2 else s2

/-! ### Writes and reads (R435, R438, R439, R443) -/

/-- A write of RD_SEQ. -/
def rdSeqWrite (v : Word) (s : State) : Reply :=
  if evFill s < (v - s.rd Evrec.RD_SEQ).toNat then deny s .outOfRange else accept (evHalf (s.wr Evrec.RD_SEQ v))

/-- A write of NV_CLR; while an entry is being written the clear waits for it. -/
def nvClrWrite (v : Word) (s : State) : Reply :=
  if !lockOpen s Evrec.page then deny s .locked
  else if v ≠ 0x4556434C then deny s .keyRequired
  else if s.ev.nvQueue.isEmpty then accept (nvEmpty s)
  else accept { s with ev := { s.ev with nvClear := true } }

/-- A write of CNT_CLR. -/
def cntClrWrite (v : Word) (s : State) : Reply :=
  let s1 := (List.range 4).foldl (fun t c => if bit v c then t.wr (Evrec.LOSS0 c) 0 else t) s
  accept (if bit v 4 then s1.wrF Evrec.NV_CNT 31 16 0 else s1)

/-- May a route be enabled: its object is in MODE AUTO_TX, or its transmit slot has AUTO? -/
def routeOk (s : State) (w : Word) : Bool :=
  if bit w 1 then decide (fld w 3 2 < 2) && decide (fld w 10 4 < 8) && s.rdB (EthTx.SLOT_CFG (fld w 3 2) (fld w 6 4)) 0
  else decide (objMode s (fld w 3 2) (fld w 10 4) = 3)

/-- Every bucket holds the tokens it has now, so that a new rate counts from here on (R443). -/
def settleBuckets (s : State) : State :=
  { s with ev := { s.ev with srcs := s.ev.srcs.map (fun x => (x.1, { x.2 with tok := tokensNow s x.2, at_ := s.now })) } }

/-- Writes of the EVREC page. -/
def evrecWrite (a : Nat) (v : Word) (s : State) : Reply :=
  if a = Evrec.RD_SEQ then rdSeqWrite v s
  else if a = Evrec.NV_CLR then nvClrWrite v s
  else if a = Evrec.CNT_CLR then cntClrWrite v s
  else if a = Evrec.NV_SEL then
    (let k := fld v 7 0
     if 0x20 ≤ k ∧ k < 0x80 then deny s .outOfRange else plainWrite a v s)
  else if Evrec.RATE_FAULT ≤ a ∧ a ≤ Evrec.RATE_INFO then
    (if fld v 7 0 = 0 ∨ fld v 11 8 = 0 then deny s .outOfRange else plainWrite a v (settleBuckets s))
  else if a = Evrec.STORM_CFG then
    (if fld v 7 0 = 0 ∨ fld v 11 8 = 0 ∨ fld v 31 16 < 10 ∨ 10000 < fld v 31 16 then deny s .outOfRange else plainWrite a v s)
  else if Evrec.ROUTE0 0 ≤ a ∧ a ≤ Evrec.ROUTE0 3 then
    (if bit v 0 && !routeOk s v then deny s .notInState else plainWrite a v s)
  else plainWrite a v s

/-- The entry NV_SEL names. -/
def nvSelected (s : State) : List Word :=
  let k := s.rdF Evrec.NV_SEL 7 0
  if k < 0x20 then s.ev.nvFirst.getD k [] else if 0x80 ≤ k then s.ev.nvLast.getD (k - 0x80) [] else []

/-- What a read of the EVREC page gives where it is not the stored value. -/
def evrecView (a : Nat) (s : State) : Word :=
  if a = Evrec.FILL then
    word (evFill s + at' (bitN (decide (8192 ≤ evFill s))) 16 + at' (bitN s.ev.storm.isSome) 17)
  else if a = Evrec.NV_CNT then
    setFld (setFld (s.rd a) 5 0 s.ev.nvFirst.length) 15 8 s.ev.nvLast.length
  else if a = Evrec.SRC_USED then word ((s.ev.srcs.filter (fun x => holdsPlace s x.2)).length)
  else if Evrec.NV_E0 0 ≤ a ∧ a ≤ Evrec.NV_E0 7 then (nvSelected s).getD ((a - Evrec.NV_E0 0) / 4) 0
  else s.rd a

/-! ### Meanings -/

/-- EVENT_RECORD (R437). -/
def execEventRecord (s : State) : Out := .next (eventRecord s)

/-- TOKEN_REFILL (R437). -/
def execTokenRefill (s : State) : Out := .next (tokenRefill s)

/-- STORM_WINDOW_END (R442). -/
def execStormWindowEnd (s : State) : Out := .next (windowEnd s)

/-- SUMMARY_PERIOD_END (R441). -/
def execSummaryPeriodEnd (s : State) : Out := .next (summaryEnd s)

/-- RD_SEQ_WRITE (R435). -/
def execRdSeqWrite (port : Port) (v : Word) (s : State) : Out := replied (gated port Evrec.RD_SEQ v (rdSeqWrite v) s)

/-- NV_CLR (R438). -/
def execNvClr (port : Port) (v : Word) (s : State) : Out := replied (gated port Evrec.NV_CLR v (nvClrWrite v) s)

/-- NV_ENTRY_WRITTEN (R438). -/
def execNvEntryWritten (dt : Nat) (s : State) : Out := .next (nvWritten dt s)

/-- CNT_CLR (R443). -/
def execCntClr (port : Port) (v : Word) (s : State) : Out := replied (gated port Evrec.CNT_CLR v (cntClrWrite v) s)

end Sys2Proof.Machine
end

