-- ==== Sys2Proof/Machine/Reset.lean ====
section
/-! DEFINITION. Resets (R42, R59-R63, R69-R71): what a power-on, system, supervisor and island reset clear and what they leave, and
what becomes of a non-volatile write in progress. -/

namespace Sys2Proof.Machine

/-! ### Locks and sessions (R42, R323) -/

/-- Is `a` the LOCK register of a page? -/
def lockReg (a : Nat) : Bool :=
  decide (a % 4096 = 0x20) && (match pageKind (pageOf a) with | some k => k.header | none => false)

/-- Every LOCK closes, and the password session with them. -/
def closeAllLocks (s : State) : State := endSession { s with regs := s.regs.filter (fun e => !lockReg e.1) }

/-- A debug grant ends: the level returns to NONE, and the halts made under it are released (R469, R476). -/
def endGrant (s : State) : State :=
  let s1 : State := { s with sec := { s.sec with grant := 0, returnOk := false } }
  (s1.wr SecDbg.DBG_HALT 0).wr SecDbg.DBG_HSTAT 0

/-! ### What stays (R11, R62, R72, R346, R460, R463) -/

/-- Pages of the safety island. -/
def islandPage (p : Nat) : Bool := decide (blockOf p = 13 ∨ blockOf p = 14)

/-- Registers that show non-volatile records or fuses: the shutdown record, lifecycle, keys, and the island's check values. -/
def nvReg (a : Nat) : Bool :=
  decide (Therm.SD_SEQ ≤ a ∧ a ≤ Therm.SD_MASK0 2) || decide (a = Sec.LC_STATE) || decide (SecKey.KEY_STAT ≤ a ∧ a ≤ SecKey.KEY_FP0 3)
    || decide (a = Safe.PARAM_CRC ∨ a = Param.CB_CRC 0 ∨ a = Param.CB_CRC 1)

/-- The parts of the fuse and shutdown registers that stay: SHUTDOWN and REC_VALID, and the fuse entries in use. -/
def keepFields (s t : State) : State :=
  (t.wr Therm.THR_STAT (s.rd Therm.THR_STAT &&& 0x3000)).wr Bist.REPAIR_STAT (s.rd Bist.REPAIR_STAT &&& 0xFF00)

/-- The image store across a reset: slots, boot record and fuse counter. DESIGN CHOICE: a block whose programming a reset ends keeps its
previous contents, which R61 allows beside completion. -/
def keepFw (f : FwState) : FwState :=
  { img := f.img, prog := f.prog, boot0 := f.boot0, boot1 := f.boot1, bootLast := f.bootLast, arb := f.arb }

/-- The recorder across a reset: its non-volatile regions. -/
def keepEv (e : EvState) : EvState := { nvFirst := e.nvFirst, nvLast := e.nvLast }

/-- Keys across a reset; the TAP is not part of what a system reset resets. -/
def keepSec (c : SecState) : SecState := { keys := c.keys, tap := c.tap }

/-- Everything but the island at its reset values. -/
def clearControl (s : State) : State :=
  let keep (a : Nat) : Bool :=
    islandPage (pageOf a) || nvReg a || decide (a = Bup.RST_CAUSE ∨ a = Bup.RST_COUNT ∨ a = Clk.REF_CFG)
  let isl (p : Nat) : Bool := islandPage p
  keepFields s
    { part := s.part, pending := s.pending, now := s.now, free := s.free
      regs := s.regs.filter (fun e => keep e.1)
      live := s.live.filter (fun e => isl (pageOf e.1))
      committed := s.committed
      fab := { takeAt := s.fab.takeAt.filter (fun e => isl e.1), oldest := s.fab.oldest.filter (fun e => isl e.1)
               seen := s.fab.seen.filter (fun e => isl (e.1 / 64)), stamp := s.fab.stamp.filter (fun e => isl (pageOf e.1)) }
      bu := s.bu, isl := s.isl
      srcs := s.srcs.filter (fun e => decide (0x800 ≤ e.1 ∧ e.1 < 0x900))
      drivers := s.drivers
      bus := { ptp := { cyc := ethCycle s.now } }
      therm := { sdSeq := s.therm.sdSeq }
      ev := keepEv s.ev
      fw := keepFw s.fw
      sec := keepSec s.sec }

/-! ### Non-volatile writes in progress (R61) -/

/-- A write in progress completes or leaves what stood before: a free choice. -/
def torn (inProgress : Bool) (done : State → State) (s : State) : State :=
  if !inProgress then s
  else
    let f := s.fresh
    if bit f.1 0 then done f.2 else f.2

/-- The island's committed set is no more (R462). -/
def invalidateSet (s : State) : State := { s with committed := [], isl := { s.isl with setExists := false } }

/-- Lifecycle fuses are programmed; on entry to RETURN the island invalidates its set (R461, R462). -/
def lcTake (s : State) : State :=
  match s.sec.lcAt with
  | some (st, _) => let s1 := s.wr Sec.LC_STATE (word st); if st = 3 then invalidateSet s1 else s1
  | none => s

/-- The first 32 bits of the SHA-256 digest of a public key (R463). -/
def keyPrint (ws : List Word) : Word := word ((Sha.sha256 (wordsBytes ws)).getD 0 0)

/-- A key command takes effect (R463). -/
def keyTake (s : State) : State :=
  match s.sec.keyAt with
  | some (k, prog, dbg, _) =>
    let s1 : State := match prog with
      | some ws =>
        let t : State := { s with sec := { s.sec with keys := KMap.insert (KMap.erase s.sec.keys k) k ws } }
        (t.wrB SecKey.KEY_STAT k true).wr (SecKey.KEY_FP0 k) (keyPrint ws)
      | none => s
    if dbg then (s1.wrF SecKey.KEY_STAT 9 8 k).wrB SecKey.KEY_STAT 10 true else s1
  | none => s

/-- The boot record's copy under way keeps its old content. -/
def bootBack (s : State) : State :=
  if s.fw.bootLast = 0 then { s with fw := { s.fw with boot0 := s.fw.bootOld, bootLast := 1 } }
  else { s with fw := { s.fw with boot1 := s.fw.bootOld, bootLast := 0 } }

/-- Is the boot record being written? A write takes up to 2 ms (R453). -/
def bootBusy (s : State) : Bool :=
  match s.fw.bootAt with
  | some t => decide (s.now < t + 1600000)
  | none => false

/-- Fuse repair: the entries programmed so far count, a partial one does not (R429). -/
def fuseTorn (s : State) : State :=
  if s.bist.fuseAt.isNone then s
  else
    let f := s.fresh
    let n := s.rdF Bist.REPAIR_STAT 7 0
    f.2.wrF Bist.REPAIR_STAT 15 8 (s.rdF Bist.REPAIR_STAT 15 8 + f.1.toNat % (n + 1))

/-- What a reset of the control part does to the non-volatile writes in progress. -/
def tornControl (s : State) : State :=
  let s1 := torn (!s.ev.nvQueue.isEmpty) (fun t => nvStore (t.ev.nvQueue.getD 0 []) t) s
  let s2 := torn s1.sec.lcAt.isSome lcTake s1
  let s3 := torn s2.sec.keyAt.isSome keyTake s2
  fuseTorn (torn (bootBusy s3) bootBack s3)

/-- A commit of parameters in progress when the island stops. -/
def tornCommit (s : State) : State :=
  let s1 := torn s.isl.commitAt.isSome (commitDone 0) s
  { s1 with isl := { s1.isl with commitAt := none, commitSet := [] } }

/-! ### The island (R62, R63) -/

/-- The island takes every group to STOPPED with the brake applied, closes the session and asks for the guard test again: every input must be
opened and closed after the reset (R6, R312). -/
def islandStop (s : State) : State :=
  let one (t : State) (g : Nat) : State :=
    let t1 := putSg g { sgOf t g with relReq := false, stoDue := none } t
    if grpState t1 g = 0 then t1 else enterStopped g false t1
  let untested (t : State) (k : Nat) : State :=
    putSi k { siOf t k with opened := false, seenA := false, seenB := false } (t.wrB (SafeIn.SI_STAT k) 5 false)
  let s1 := (List.range 16).foldl untested (endSession ([0, 1].foldl one s))
  outputs { s1 with pwm := { s1.pwm with forces := s1.pwm.forces.filter (fun f => decide (f.tag ≠ .island)) } }

/-- What the island keeps in non-volatile memory (R323-R325). -/
def keepIsl (i : IslandState) : IslandState :=
  { pwSalt := i.pwSalt, pwHash := i.pwHash, pwFails := i.pwFails, pwBlock := i.pwBlock, setExists := i.setExists, log := i.log
    logSeq := i.logSeq, opBase := i.opBase }

/-- The island's registers at their reset values, the parameter registers at the committed set. DESIGN CHOICE: the records of system resets
that it still holds are lost with it (R71). -/
def clearIsland (s : State) : State :=
  let isl (a : Nat) : Bool := islandPage (pageOf a)
  let s1 : State := { s with
    regs := KMap.copyWhere paramReg s.committed (s.regs.filter (fun e => !isl e.1 || nvReg e.1))
    live := s.live.filter (fun e => !isl e.1)
    fab := { s.fab with takeAt := s.fab.takeAt.filter (fun e => !islandPage e.1), oldest := s.fab.oldest.filter (fun e => !islandPage e.1)
                        seen := s.fab.seen.filter (fun e => !islandPage (e.1 / 64)), stamp := s.fab.stamp.filter (fun e => !isl e.1) }
    srcs := s.srcs.filter (fun e => !decide (0x800 ≤ e.1 ∧ e.1 < 0x900))
    isl := keepIsl s.isl }
  { s1 with bu := { s1.bu with notes := [], notesLost := 0, islNotes := false, islWatch := false, islFails := 0, islReacted := false } }

/-- Island reset with lock-out cause `c`, of `RST_CAUSE` bit `i` (R62, R63). -/
def islandReset (c i : Nat) (s : State) : State :=
  let old := s.isl.restart.getD 0
  let s1 := clearIsland (islandStop (tornCommit (endGrant (closeAllLocks (s.wrB Bup.RST_CAUSE i true)))))
  let mask := if bit (word old) c then old else old + 2 ^ c
  { s1 with isl := { s1.isl with restart := some mask, restartAt := s.now } }

/-- The island starts to run: its cycles, watch and timers begin, with the causes in `mask` as lock-out; `bad` where its self-test
failed (R63, R64, R321). -/
def islandBegin (mask : Nat) (bad : Bool) (s : State) : State :=
  let s0 := (List.range 8).foldl (fun t k => putTg k { tgOf t k with agreedAt := s.now, txAt := s.now } t) s
  let s1 : State := { s0 with
    isl := { s0.isl with run := true, restart := none, cycleAt := s.now, tpPeriod := s.now, tpNext := 0, selfBad := bad }
    bu := { s.bu with islWatch := true, islWinAt := s.now, islFails := 0 } }
  let causes := (List.range 16).filter (fun c => bit (word mask) c || (bad && decide (c = 4)))
  safeShow (causes.foldl (fun t c => lockOut c t) s1)

/-! ### System reset (R42, R62, R63, R71) -/

/-- The island notes a system reset; it holds sixteen (R71). DESIGN CHOICE: of several causes at once the record carries the least bit of
`RST_CAUSE`. -/
def noteReset (cause : Nat) (s : State) : State :=
  if !s.bu.islNotes then s
  else if s.bu.notes.length < 16 then { s with bu := { s.bu with notes := s.bu.notes ++ [{ cause := cause, at_ := s.now }] } }
  else { s with bu := { s.bu with notesLost := s.bu.notesLost + 1 } }

/-- Bring-up stands in SUPPLY_CHECK again; the reference in use is what `REF_CFG` now selects (R64, R72, R75). -/
def restartBringup (s : State) : State :=
  { s with bu := { s.bu with
      since := s.now, spent := 0, refPresent := false, irqDrive := false, tick0 := 0, epoch := 0, refInUse := s.rdF Clk.REF_CFG 0 0
      rootFails := 0, rootReacted := false, rootWatch := false, islFails := 0, islWatch := false } }

/-- System reset with the causes `l`, as bits of `RST_CAUSE`. -/
def sysReset (l : List Nat) (s : State) : State :=
  let s1 := noteReset (l.getD 0 0) (tornControl s)
  let s2 := (l.foldl (fun t i => t.wrB Bup.RST_CAUSE i true) s1).incSat Bup.RST_COUNT 15 0
  islandStop (closeAllLocks (restartBringup (clearControl s2)))

/-! ### Power-on reset (R59, R62, R70) -/

/-- Power-on reset: everything but non-volatile records and fuses; `RST_CAUSE` shows POR alone, REF_CFG its fused default (R72). The password block starts anew where
its failures were used up (R323). -/
def powerOn (rails : List Nat) (s : State) : State :=
  let s1 := tornCommit (tornControl s)
  let block := if 5 ≤ s1.isl.pwFails then some (s1.now + 240000000000) else none
  keepFields s1
    { part := s1.part, pending := s1.pending, now := s1.now, free := s1.free
      regs := KMap.set rst (s1.regs.filter (fun e => nvReg e.1)) Clk.REF_CFG (word s1.bu.fuseRef)
      committed := s1.committed
      bu := { railsLow := rails, since := s1.now, porAt := s1.now, initAt := s1.now, fuseRef := s1.bu.fuseRef, refInUse := s1.bu.fuseRef }
      isl := { keepIsl s1.isl with pwBlock := block }
      drivers := s1.drivers
      bus := { ptp := { cyc := ethCycle s1.now } }
      therm := { sdSeq := s1.therm.sdSeq }
      ev := keepEv s1.ev
      fw := keepFw s1.fw
      sec := { keys := s1.sec.keys } }

end Sys2Proof.Machine
end

