-- ==== Sys2Proof/Machine/Fwim.lean ====
section
/-! DEFINITION. Firmware images (R445-R459): slots, download sessions, verification, the boot record and boot selection, and the
Updraft handover with its trial. -/

namespace Sys2Proof.Machine

/-! ### Slots and images (R445, R446) -/

/-- State of slot `n`. -/
def slotState (s : State) (n : Nat) : Nat := if n = 0 then s.fw.st0 else s.fw.st1

/-- Put slot `n` into a state. -/
def putSlot (n st : Nat) (s : State) : State :=
  if n = 0 then { s with fw := { s.fw with st0 := st } } else { s with fw := { s.fw with st1 := st } }

/-- The slot in a state, if any. -/
def slotIn (s : State) (st : Nat) : Option Nat := [0, 1].find? (fun n => decide (slotState s n = st))

/-- The inactive slot: the one that is neither TRIAL nor GOOD; slot 0 where neither is (R445, R454). -/
def inactiveSlot (s : State) : Nat := if s.fw.st0 = 4 ∨ s.fw.st0 = 5 then 1 else 0

/-- Word `i` of slot `n`. -/
def slotWord (s : State) (n i : Nat) : Word := KMap.get (fun _ => 0) s.fw.img (2 ^ 20 * n + i)

/-- Is block `b` of slot `n` programmed? -/
def blockDone (s : State) (n b : Nat) : Bool := s.fw.prog.contains (1024 * n + b)

/-- ARB, VERSION and LENGTH of the image in slot `n`. -/
def slotArb (s : State) (n : Nat) : Nat := fld (slotWord s n 3) 5 0
def slotVer (s : State) (n : Nat) : Word := if slotState s n = 0 then 0 else slotWord s n 4
def slotLen (s : State) (n : Nat) : Nat := (slotWord s n 2).toNat

/-- Erase slot `n`. -/
def slotErase (n : Nat) (s : State) : State :=
  { s with fw := { s.fw with
      img := s.fw.img.filter (fun e => decide (e.1 / 2 ^ 20 ≠ n)), prog := s.fw.prog.filter (fun b => decide (b / 1024 ≠ n)) } }

/-! ### Boot record (R451) -/

/-- Does a copy check? -/
def bootValid (l : List Word) : Bool :=
  decide (l.length = 6) && decide (l.getD 5 0 = word (Crc.crc32c (wordsBytes (l.take 5))))

/-- The valid copy with the greater SEQ. -/
def bootNow (s : State) : Option (List Word) :=
  let a := s.fw.boot0
  let b := s.fw.boot1
  match bootValid a, bootValid b with
  | true, true => some (if 0 < (a.getD 0 0 - b.getD 0 0).toInt then a else b)
  | true, false => some a
  | false, true => some b
  | false, false => none

/-- SEQ of the boot record; 0 without one. -/
def bootSeq (s : State) : Word := match bootNow s with | some l => l.getD 0 0 | none => 0

/-- Write the boot record into the copy that was not written last. -/
def bootWrite (s : State) : State :=
  let w (n : Nat) : Word := word (slotArb s n) ||| (slotVer s n &&& 0xFFFFFF00)
  let body := [bootSeq s + 1, word (s.fw.active + at' s.fw.st0 4 + at' s.fw.st1 8), w 0, w 1, 0]
  let l := body ++ [word (Crc.crc32c (wordsBytes body))]
  if s.fw.bootLast = 0 then { s with fw := { s.fw with boot1 := l, bootLast := 1, bootOld := s.fw.boot1, bootAt := some s.now } }
  else { s with fw := { s.fw with boot0 := l, bootLast := 0, bootOld := s.fw.boot0, bootAt := some s.now } }

/-! ### Verification (R449, R450) -/

/-- The digest of R446: SHA-256 over the image with SIG taken as zero. -/
def imageDigest (s : State) (n : Nat) : Nat :=
  Sha.digestNat (wordsBytes ((List.range (slotLen s n / 4)).map (fun i => if 16 ≤ i ∧ i < 32 then 0 else slotWord s n i)))

/-- A number of eight words of slot `n` from word `i`. -/
def slotNum (s : State) (n i : Nat) : Nat := bytesNat (wordsBytes ((List.range 8).map (fun j => slotWord s n (i + j))))

/-- Does an ECDSA signature verify under public key `k` (R446, R468)? -/
def keyVerifies (s : State) (k digest r t : Nat) : Bool :=
  match s.sec.keys.find? (fun e => decide (e.1 = k)) with
  | some (_, ws) => P256.verify (bytesNat (wordsBytes (ws.take 8))) (bytesNat (wordsBytes (ws.drop 8))) digest r t
  | none => false

/-- Is key `k` programmed and not revoked? -/
def keyUsable (s : State) (k : Nat) : Bool := s.rdB SecKey.KEY_STAT k && !s.rdB SecKey.KEY_STAT (4 + k)

/-- Steps 3-6 of R449 on slot `n`: the code of the first failure, 0 where all pass. -/
def bootCheck (s : State) (n : Nat) : Nat :=
  let k := fld (slotWord s n 7) 1 0
  if !bit (slotWord s n 5) (if s.part = .sep9640 then 0 else 1) then 4
  else if !keyUsable s k then 5
  else if slotArb s n < s.fw.arb then 7
  else if !keyVerifies s k (imageDigest s n) (slotNum s n 16) (slotNum s n 24) then 6
  else 0

/-- All steps of R449 on slot `n`. -/
def verifyCode (s : State) (n : Nat) : Nat :=
  let len := slotLen s n
  if slotWord s n 0 ≠ 0x53455046 ∨ slotWord s n 1 ≠ 1 ∨ len < 4096 ∨ 4194304 < len ∨ len % 4096 ≠ 0 then 3
  else if !(List.range (len / 4096)).all (blockDone s n) then 2
  else bootCheck s n

/-- Put LAST_FAIL. -/
def lastFail (code n : Nat) (s : State) : State := s.wr Fwim.LAST_FAIL (word (code + at' n 8))

/-! ### Boot selection (R452) -/

/-- Does `RST_CAUSE` show only POR and brown-out bits? -/
def onlyPower (s : State) : Bool := decide (s.rd Bup.RST_CAUSE &&& ~~~(0x40F : Word) = 0)

/-- Slot `n` becomes GOOD and ACTIVE. -/
def makeGood (n : Nat) (s : State) : State :=
  let t := putSlot n 5 s
  { t with fw := { t.fw with active := n } }

/-- ARB_CTR rises to the ARB of slot `n`, if higher (R450). -/
def raiseArb (n : Nat) (s : State) : State := { s with fw := { s.fw with arb := max s.fw.arb (slotArb s n) } }

/-- The first matching row of R452, again after a slot that fails; `power`: only POR and brown-out bits. Answers the slot booted. -/
def selectImage : Nat → Bool → State → Option Nat × State
  | 0, _, s => (none, s)
  | fuel + 1, power, s =>
    let try' (n : Nat) (t : State) : Option Nat × State :=
      if bootCheck t n = 0 then (some n, t) else selectImage fuel power (putSlot n 7 t)
    match slotIn s 4, slotIn s 5, slotIn s 6 with
    | some n, _, prev =>
      let s1 := if power then putSlot n 3 s else lastFail 0x0C n (putSlot n 7 s)
      (match prev with
        | some m => try' m (makeGood m s1)
        | none => selectImage fuel power s1)
    | none, some n, _ => if bootCheck s n = 0 then (some n, raiseArb n s) else selectImage fuel power (putSlot n 7 s)
    | none, none, some n => try' n (makeGood n s)
    | none, none, none => (none, s)

/-- The boot record as read at IMAGE_SELECT; with no valid copy both slots are EMPTY, and LOADING counts as LOADED (R451, R457). -/
def bootLoad (s : State) : State :=
  let w := match bootNow s with | some l => l.getD 1 0 | none => 0
  let st (n : Nat) : Nat := if n = 1 then 2 else n
  { s with fw := { s.fw with st0 := st (fld w 6 4), st1 := st (fld w 10 8), active := fld w 0 0, bootAt := none } }

/-- Run a selection and rewrite the boot record where a state changed. In BLANK nothing is selected (R460). -/
def bootSelect (power : Bool) (s : State) : Option Nat × State :=
  if s.rdF Sec.LC_STATE 1 0 = 0 then (none, s)
  else
    let r := selectImage 5 power s
    let w := match bootNow r.2 with | some l => l.getD 1 0 | none => 0
    (r.1, if w = word (r.2.fw.active + at' r.2.fw.st0 4 + at' r.2.fw.st1 8) then r.2 else bootWrite r.2)

/-! ### Sessions (R447, R448) -/

/-- FW_STAT fields the device keeps: the supervising pair, PHASE. -/
def supPair (s : State) : Nat := s.rdF Fwim.FW_STAT 9 9
def fwPhase (s : State) : Nat := s.rdF Fwim.FW_STAT 26 24

/-- Is the session held by another port than `port`? -/
def fwHeld (s : State) (port : Port) : Bool := s.fw.holder.isSome && decide (s.fw.holder ≠ some port ∧ port ≠ .dma)

/-- The session ends; a slot that was LOADING becomes LOADED. -/
def endFwSession (s : State) : State :=
  let n := inactiveSlot s
  let s1 : State := { s.wrF Fwim.FW_STAT 15 12 0 with fw := { s.fw with holder := none } }
  if slotState s1 n = 1 then bootWrite (putSlot n 2 s1) else s1

/-- An event of the image store: DETAIL is the page's STATUS. -/
def fwEvent (c : EvClass) (code : Nat) (s : State) : State := emitPage c Fwim.page code 0 s

/-- OPEN with a source. -/
def fwOpenCmd (port : Port) (src : Nat) (s : State) : Reply :=
  if s.fw.holder.isSome then
    deny (fwEvent .warn 5 (((s.wrF Fwim.REFUSED_SRC 3 0 src).incSat Fwim.REFUSED_SRC 15 8).pulse Fwim.page 5)) .busy
  else if 8 ≤ src ∨ (s.phase = 10 ∧ src ≠ 0 ∧ src ≠ 7) then deny s .outOfRange
  else if (slotIn s 4).isSome ∨ fwPhase s ≠ 0 then deny s .notInState
  else
    let n := inactiveSlot s
    let s1 := bootWrite (putSlot n 1 (slotErase n s))
    let s2 := (s1.wrF Fwim.FW_STAT 15 12 src).wr Fwim.BLK_DONE 0
    accept { s2 with fw := { s2.fw with holder := some port, sessAt := s2.now, eraseAt := some s2.now } }

/-- Address of the staging buffer of block `n`. -/
def stagingOf (n : Nat) : Nat := 0x700000 + 0x1000 * (n % 256)

/-- The words of a staging buffer. -/
def stagingWords (s : State) (n : Nat) : List Word := (List.range 1024).map (fun j => s.rdMem (stagingOf n + 4 * j))

/-- BLOCK. -/
def fwBlockCmd (s : State) : Reply :=
  let b := s.rdF Fwim.BLK_NUM 9 0
  if s.fw.holder.isNone then deny s .notInState
  else if s.fw.eraseAt.isSome ∨ s.fw.progAt.isSome then deny s .busy
  else if blockDone s (inactiveSlot s) b then deny s .notInState
  else
    let s1 : State := { s with fw := { s.fw with sessAt := s.now } }
    if s.rd Fwim.BLK_CRC = word (Crc.crc32c (wordsBytes (stagingWords s b))) then
      accept { s1.wrF Fwim.FW_STAT 23 16 0 with fw := { s1.fw with progAt := some (b, s1.now) } }
    else accept (s1.wrF Fwim.FW_STAT 23 16 1)

/-- VERIFY; one that is under way goes on. -/
def fwVerifyCmd (s : State) : Reply :=
  let st := slotState s (inactiveSlot s)
  if st ≠ 1 ∧ st ≠ 2 then deny s .notInState
  else if s.fw.verifyAt.isSome then accept s
  else accept { s with fw := { s.fw with verifyAt := some s.now } }

/-! ### Handover (R453-R456) -/

/-- A handover, or a return of supervision, begins. -/
def handoverBegin (back : Bool) (s : State) : State :=
  { s.wrF Fwim.FW_STAT 26 24 1 with fw := { s.fw with actAt := s.now, back := back, retryTick := none } }

/-- ACTIVATE, with LOCK open. -/
def fwActivateCmd (s : State) : Reply :=
  let n := inactiveSlot s
  if s.phase = 10 then
    if slotState s 0 ≠ 3 then deny s .notInState
    else if slotArb s 0 < s.fw.arb then deny s .outOfRange
    else
      let s1 := bootWrite (makeGood 0 s)
      accept (sysReset [5] { s1 with fw := { s1.fw with bootAt := none } })
  else
    let fmt := s.rdF Fwim.RUN_FMT 7 0
    let w := slotWord s n 6
    if slotState s n ≠ 3 ∨ slotState s (1 - n) ≠ 5 ∨ s.fw.holder.isSome ∨ supPair s ≠ 0 ∨ fwPhase s ≠ 0 then deny s .notInState
    else if fmt < fld w 15 8 ∨ fld w 7 0 < fmt then deny s .notInState
    else if slotArb s n < s.fw.arb then deny s .outOfRange
    else
      let s1 := putSlot n 4 (putSlot (1 - n) 6 s)
      accept (handoverBegin false (bootWrite { s1 with fw := { s1.fw with active := n } }))

/-- CONFIRM. -/
def fwConfirmCmd (port : Port) (s : State) : Reply :=
  match slotIn s 4 with
  | none => deny s .notInState
  | some n =>
    if port ≠ .tykor1 then deny s .denied
    else if supPair s ≠ 1 ∨ fwPhase s ≠ 0 then deny s .notInState
    else
      let s1 := raiseArb n (bootWrite (putSlot n 5 s))
      let s2 : State := { s1 with fw := { s1.fw with trialAt := none } }
      accept (handoverBegin true (s2.pulse Fwim.page 3))

/-- A fall-back of the trial with a code (R456). -/
def fallBack (code : Nat) (s : State) : State :=
  match slotIn s 4 with
  | none => s
  | some n =>
    let s1 := putSlot n 7 s
    let s2 := bootWrite (if slotState s1 (1 - n) = 6 then makeGood (1 - n) s1 else s1)
    let s3 : State := { s2.wrF Fwim.FW_STAT 26 24 0 with fw := { s2.fw with trialAt := none, back := false, resume := decide (supPair s2 = 1) } }
    fwEvent .fault (0x20 + code) ((lastFail code n s3).pulse Fwim.page 4)

/-- REJECT, with LOCK open. -/
def fwRejectCmd (s : State) : Reply := if (slotIn s 4).isNone then deny s .notInState else accept (fallBack 0x0B s)

/-- ERASE, with LOCK open (R458). -/
def fwEraseCmd (s : State) : Reply :=
  let n := inactiveSlot s
  if slotState s n = 6 ∨ slotState s n = 7 then accept ((bootWrite (putSlot n 0 (slotErase n s))).wr Fwim.BLK_DONE 0)
  else deny s .notInState

/-- CLOSE. -/
def fwCloseCmd (s : State) : Reply := if s.fw.holder.isNone then deny s .notInState else accept (endFwSession s)

/-- A write of FW_CMD (R447, R458). -/
def fwCmdWrite (port : Port) (v : Word) (s : State) : Reply :=
  let op := fld v 3 0
  let locked := !lockOpen s Fwim.page
  if op = 1 then fwOpenCmd port (fld v 7 4) s
  else if op = 0 ∨ 8 < op then deny s .outOfRange
  else if (op = 5 ∨ op = 7 ∨ op = 8) ∧ locked then deny s .locked
  else if fwHeld s port then deny s .busy
  else
    match op with
    | 2 => fwCloseCmd s
    | 3 => fwBlockCmd s
    | 4 => fwVerifyCmd s
    | 5 => fwActivateCmd s
    | 6 => fwConfirmCmd port s
    | 7 => fwRejectCmd s
    | _ => fwEraseCmd s

/-- Writes of the image store's page. -/
def fwimWrite (port : Port) (a : Nat) (v : Word) (s : State) : Reply :=
  if a = Fwim.FW_CMD then fwCmdWrite port v s
  else if a = Fwim.BLK_NUM then (if 1023 < v.toNat then deny s .outOfRange else plainWrite a v s)
  else if a = Fwim.RUN_FMT then
    (if port = (if supPair s = 0 then Port.tykor0 else Port.tykor1) then plainWrite a v s else deny s .denied)
  else plainWrite a v s

/-- FW_STAT as it reads: PHASE 2 from 2 ms after the reference (R453). -/
def fwStatView (s : State) : Word :=
  let ph := if fwPhase s = 1 ∧ s.fw.actAt + 1600000 ≤ s.now then 2 else fwPhase s
  setFld (s.rd Fwim.FW_STAT) 26 24 ph |||
    word (s.fw.st0 + at' s.fw.st1 4 + at' s.fw.active 8 + at' (bitN s.fw.holder.isSome) 10 + at' (bitN s.fw.eraseAt.isSome) 11)

/-- What a read of the page shows where it is not the stored word. -/
def fwimView (a : Nat) (s : State) : Word :=
  if a = Fwim.FW_STAT then fwStatView s
  else if a = Fwim.SLOT0_VER then slotVer s 0
  else if a = Fwim.SLOT1_VER then slotVer s 1
  else if a = Fwim.ARB_CTR then word s.fw.arb
  else if a = Fwim.TRIAL_TIME then
    (match s.fw.trialAt with
      | some t => word ((t + 24000000000 - s.now + 799999) / 800000)
      | none => 0)
  else s.rd a

/-! ### The staging window (R447, R448) -/

/-- Why a staging write at `a` is refused, beside the page's own bars. -/
def stagingCode (s : State) (port : Port) (a : Nat) : RefCode :=
  let prog : Bool := match s.fw.progAt with
    | some (b, _) => decide (stagingOf b ≤ a ∧ a < stagingOf b + 0x1000)
    | none => false
  if fwHeld s port ∨ prog then .busy else .none

/-! ### Completions -/

/-- ERASE_DONE: within 400 ms. -/
def eraseDone (dt : Nat) (s : State) : State :=
  match s.fw.eraseAt with
  | some t => let s1 := s.reach (min (s.now + dt) (t + 320000000)); { s1 with fw := { s1.fw with eraseAt := none } }
  | none => s

/-- BLOCK_PROGRAMMED: within 2 ms. -/
def blockProgrammed (dt : Nat) (s : State) : State :=
  match s.fw.progAt with
  | some (b, t) =>
    let s1 := s.reach (min (s.now + dt) (t + 1600000))
    let n := inactiveSlot s1
    let base := 2 ^ 20 * n + 1024 * b
    let l := (stagingWords s1 b).zipIdx
    let s2 : State := { s1 with fw := { s1.fw with
      img := l.foldl (fun m e => KMap.set (fun _ => 0) m (base + e.2) e.1) s1.fw.img
      prog := s1.fw.prog ++ [1024 * n + b], progAt := none } }
    (s2.inc Fwim.BLK_DONE).pulse Fwim.page 0
  | none => s

/-- VERIFY_DONE: within 60 ms. -/
def verifyDone (dt : Nat) (s : State) : State :=
  match s.fw.verifyAt with
  | some t =>
    let s0 := s.reach (min (s.now + dt) (t + 48000000))
    let s1 : State := { s0 with fw := { s0.fw with verifyAt := none } }
    let n := inactiveSlot s1
    let code := verifyCode s1 n
    if code = 0 then (endFwSession (bootWrite (putSlot n 3 s1))).pulse Fwim.page 1
    else
      let s2 := if slotState s1 n = 2 then s1 else bootWrite (putSlot n 2 s1)
      fwEvent .warn (0x20 + code) (lastFail code n s2)
  | none => s

/-- SESSION_IDLE_TIMEOUT: 60 s after the last accepted BLOCK, or after the OPEN. -/
def sessionIdle (s : State) : State := if s.fw.holder.isSome then endFwSession (s.reach (s.fw.sessAt + 48000000000)) else s

/-- PAIR_READY: the incoming pair is ready within 200 ms of the reference. -/
def pairReady (dt : Nat) (s : State) : State :=
  if fwPhase s = 1 then ((s.reach (min (s.now + dt) (s.fw.actAt + 160000000))).wrF Fwim.FW_STAT 26 24 3).pulse Fwim.page 6 else s

/-- READY_TIMEOUT: no READY within 200 ms. A handover fails; a return is tried again at the next second of the engine tick. -/
def readyTimeout (s : State) : State :=
  if fwPhase s ≠ 1 then s
  else
    let s1 := (s.reach (s.fw.actAt + 160000000)).wrF Fwim.FW_STAT 26 24 0
    if s.fw.back then
      fwEvent .fault 0xFF { s1 with fw := { s1.fw with retryTick := some ((s1.engine / 800000000 + 1) * 800000000) } }
    else
      match slotIn s1 4 with
      | some n =>
        let s2 := putSlot n 7 s1
        let s3 := bootWrite (if slotState s2 (1 - n) = 6 then makeGood (1 - n) s2 else s2)
        fwEvent .fault 0x29 (lastFail 9 n s3)
      | none => s1

/-- HANDOFF: the supervising pair has written the state record. -/
def handoffCmd (s : State) : State := if fwPhase s = 3 then s.wrF Fwim.FW_STAT 26 24 4 else s

/-- What an epoch does (R453, R455, R456): supervision moves after HANDOFF, and a pair that a fall-back resumes supervises again. -/
def fwEpoch (s : State) : State :=
  let s1 : State := if s.fw.resume then { s.wrF Fwim.FW_STAT 9 9 0 with fw := { s.fw with resume := false } } else s
  if fwPhase s1 ≠ 4 then s1
  else
    let recs := [word (s1.rdF Fwim.RUN_FMT 7 0), word s1.engine, s1.rd Evrec.WR_SEQ, bootSeq s1]
    let s2 := (s1.wrF Fwim.FW_STAT 26 24 0).wrF Fwim.FW_STAT 9 9 (bitN (!s1.fw.back))
    let s3 : State := { s2 with fw := { s2.fw with
      stateRec := recs, back := false, trialAt := if s2.fw.back then none else some s2.now } }
    fwEvent .info 2 (s3.pulse Fwim.page 2)

/-- TRIAL_TIMEOUT: 30 s of trial (R456). -/
def trialTimeout (s : State) : State :=
  match s.fw.trialAt with
  | some t => fallBack 0x0A (s.reach (t + 24000000000))
  | none => s

/-- SUPERVISION_RETURN_RETRY (R455). -/
def returnRetry (s : State) : State :=
  match s.fw.retryTick with
  | some t => handoverBegin true (s.reach (s.ofTick t))
  | none => s

/-! ### Image records (R448) -/

/-- The bytes of a fragment into the staging window: byte 0 of a block is the most significant of its first word. -/
def fragmentWrite (b frag : Nat) (l : List Nat) (s : State) : State :=
  l.zipIdx.foldl (fun t e =>
    let i := frag + e.2
    if i < 4096 then t.wrByte (stagingOf b + i) (BitVec.ofNat 8 e.1) else t) s

/-- FW_RECORD: pair 0 takes an image record that came over carrier `src`, writes the staging window or issues the command, and
answers with the FW_STAT word. -/
def fwRecord (src : Nat) (l : List Nat) (s : State) : State :=
  let op := l.getD 1 0
  let b := bytesNat ((l.drop 2).take 2)
  let frag := bytesNat ((l.drop 4).take 2)
  let len := bytesNat ((l.drop 6).take 2)
  let most := if src ≤ 4 then 52 else 1024
  if !s.inService || s.rdB SecDbg.DBG_HSTAT 0 || decide (pwrState s = 2) || decide (src = 0 ∨ 6 < src ∨ l.length < 12 + len ∨ most < len ∨ l.getD 0 0 ≠ 0x14 ∨ supPair s ≠ 0) then s
  else
    let cmd (v : Nat) (t : State) : State := (gated .tykor0 Fwim.FW_CMD (word v) (fwCmdWrite .tykor0 (word v)) t).1
    let s1 : State :=
      if 0 < len then
        (match stagingCode s .tykor0 (stagingOf b + 4 * (frag / 4)) with
          | .none => fragmentWrite b frag ((l.drop 12).take len) s
          | c => s.refuseAt Fwim.page .tykor0 c (4 * (frag / 4)))
      else if op = 3 then
        let t := (gated .tykor0 Fwim.BLK_NUM (word b) (fwimWrite .tykor0 Fwim.BLK_NUM (word b)) s).1
        if 1023 < b then t else cmd (3 + at' src 4) (t.wr Fwim.BLK_CRC (bytesWord ((l.drop 8).take 4)))
      else if 1 ≤ op ∧ op ≤ 4 then cmd (op + at' src 4) s
      else s
    { s1 with fw := { s1.fw with answer := [0x14, 0x0F] ++ (l.drop 2).take 4 ++ [0, 0] ++ wordBytes (fwStatView s1) } }

/-! ### Meanings -/

/-- The word of FW_CMD. -/
def fwWord (op src : Nat) : Word := word (op + at' (src % 16) 4)

/-- A write of FW_CMD by `port`. -/
def fwCommand (port : Port) (op src : Nat) (s : State) : Out :=
  replied (gated port Fwim.FW_CMD (fwWord op src) (fwCmdWrite port (fwWord op src)) s)

/-- OPEN (R447). -/
def execFwOpen (port : Port) (src : Nat) (s : State) : Out := fwCommand port 1 src s

/-- ERASE_DONE (R447). -/
def execEraseDone (dt : Nat) (s : State) : Out := .next (eraseDone dt s)

/-- CLOSE (R447). -/
def execFwClose (port : Port) (s : State) : Out := fwCommand port 2 0 s

/-- BLOCK (R448). -/
def execFwBlock (port : Port) (s : State) : Out := fwCommand port 3 0 s

/-- BLOCK_PROGRAMMED (R448). -/
def execBlockProgrammed (dt : Nat) (s : State) : Out := .next (blockProgrammed dt s)

/-- FW_RECORD (R448). -/
def execFwRecord (src : Nat) (l : List Nat) (s : State) : Out := .next (fwRecord src l s)

/-- VERIFY (R449). -/
def execFwVerify (port : Port) (s : State) : Out := fwCommand port 4 0 s

/-- VERIFY_DONE (R449). -/
def execVerifyDone (dt : Nat) (s : State) : Out := .next (verifyDone dt s)

/-- SESSION_IDLE_TIMEOUT (R447). -/
def execSessionIdleTimeout (s : State) : Out := .next (sessionIdle s)

/-- ACTIVATE (R453, R454). -/
def execFwActivate (port : Port) (s : State) : Out := fwCommand port 5 0 s

/-- PAIR_READY (R453). -/
def execPairReady (dt : Nat) (s : State) : Out := .next (pairReady dt s)

/-- READY_TIMEOUT (R453, R455). -/
def execReadyTimeout (s : State) : Out := .next (readyTimeout s)

/-- HANDOFF (R453). -/
def execHandoff (s : State) : Out := .next (handoffCmd s)

/-- CONFIRM (R455). -/
def execFwConfirm (port : Port) (s : State) : Out := fwCommand port 6 0 s

/-- REJECT (R456). -/
def execFwReject (port : Port) (s : State) : Out := fwCommand port 7 0 s

/-- ERASE (R458). -/
def execFwErase (port : Port) (s : State) : Out := fwCommand port 8 0 s

/-- TRIAL_TIMEOUT (R456). -/
def execTrialTimeout (s : State) : Out := .next (trialTimeout s)

/-- SUPERVISION_RETURN_RETRY (R455). -/
def execSupervisionReturnRetry (s : State) : Out := .next (returnRetry s)

end Sys2Proof.Machine
end

