-- ==== Sys2Proof/Machine/Sec.lean ====
section
/-! DEFINITION. Lifecycle, keys, boundary scan, debug access and power states (R460-R480). -/

namespace Sys2Proof.Machine

/-! ### Lifecycle (R460-R462) -/

/-- The lifecycle state: 0 BLANK, 1 PROVISIONED, 2 FIELD, 3 RETURN. -/
def lcState (s : State) : Nat := s.rdF Sec.LC_STATE 1 0

/-- The row of R461 that a key names: from, to. -/
def lcRow (v : Word) : Option (Nat × Nat) :=
  if v = 0x50524F56 then some (0, 1) else if v = 0x4649454C then some (1, 2) else if v = 0x52455455 then some (2, 3) else none

/-- The conditions of the change to state `target`. -/
def lcAllowed (s : State) (target : Nat) : Bool :=
  match target with
  | 1 => decide (s.rdF SecKey.KEY_STAT 3 0 ≠ 0)
  | 2 => (slotIn s 5).isSome && s.rdB SecKey.KEY_STAT 10 && !s.rdB SecKey.KEY_STAT (4 + s.rdF SecKey.KEY_STAT 9 8)
  | _ => s.sec.returnOk

/-- A write of LC_CMD. -/
def lcCmdWrite (v : Word) (s : State) : Reply :=
  if !lockOpen s Sec.page then deny s .locked
  else
    match lcRow v with
    | none => deny s .keyRequired
    | some (a, b) =>
      if lcState s ≠ a ∨ anyTbRun s ∨ !lcAllowed s b then deny s .notInState
      else accept { s with sec := { s.sec with lcAt := some (b, s.now) } }

/-- LC_PROGRAM_DONE: within 20 ms, and then a system reset. -/
def lcProgramDone (dt : Nat) (s : State) : State :=
  match s.sec.lcAt with
  | some (_, t) =>
    let s1 := lcTake (s.reach (min (s.now + dt) (t + 16000000)))
    sysReset [5] { s1 with sec := { s1.sec with lcAt := none } }
  | none => s

/-! ### Keys (R463, R464) -/

/-- The sixteen words of the key buffer. -/
def keyBuf (s : State) : List Word := (List.range 16).map (fun j => s.rd (SecKey.KEY_BUF0 j))

/-- A write of KEY_CMD, the page's LOCK open. The buffer clears after every command. -/
def keyCmdWrite (v : Word) (s : State) : Reply :=
  let k := fld v 1 0
  let ws := keyBuf s
  let s1 := (List.range 16).foldl (fun t j => t.wr (SecKey.KEY_BUF0 j) 0) s
  let prog := bit v 4
  let dbg := bit v 8
  if s.sec.keyAt.isSome then deny s1 .busy
  else if prog && !P256.onCurve (bytesNat (wordsBytes (ws.take 8))) (bytesNat (wordsBytes (ws.drop 8))) then deny s1 .outOfRange
  else if prog && s.rdB SecKey.KEY_STAT k then deny s1 .notInState
  else if dbg && ((!prog && !s.rdB SecKey.KEY_STAT k) || s.rdB SecKey.KEY_STAT 10) then deny s1 .notInState
  else if !prog && !dbg then accept s1
  else accept { s1 with sec := { s1.sec with keyAt := some (k, if prog then some ws else none, dbg, s.now) } }

/-- KEY_PROGRAM_DONE: within 10 ms. -/
def keyProgramDone (dt : Nat) (s : State) : State :=
  match s.sec.keyAt with
  | some (_, _, _, t) =>
    let s1 := keyTake (s.reach (min (s.now + dt) (t + 8000000)))
    { s1 with sec := { s1.sec with keyAt := none } }
  | none => s

/-- A write of KEY_REVOKE. -/
def keyRevokeWrite (v : Word) (s : State) : Reply :=
  let k := fld v 1 0
  let inUse (st : Nat) : Bool := match slotIn s st with | some n => decide (fld (slotWord s n 7) 1 0 = k) | none => false
  if !lockOpen s Sec.page then deny s .locked
  else if fld v 31 16 ≠ 0x5256 then deny s .keyRequired
  else if inUse 4 || inUse 5 || !s.rdB SecKey.KEY_STAT k then deny s .notInState
  else accept (s.wrB SecKey.KEY_STAT (4 + k) true)

/-! ### Boundary scan (R465, R466) -/

/-- The instruction a code selects: one that does not act, or any other code, selects BYPASS. -/
def tapSelect (s : State) (code : Nat) : Nat :=
  let drives := decide (code = 0x00 ∨ code = 0x03 ∨ code = 0x04)
  let off := decide (pwrState s = 3)
  if code = 0x01 ∨ ((code = 0x02 ∨ code = 0x10) ∧ !off) then code
  else if drives && !off && decide (lcState s ≠ 2 ∨ s.phase = 10) then code
  else 0x1F

/-- IDCODE: die revision, part number, 0x3A5 and 1 (R465). -/
def idcode (s : State) : Word := word (at' Config.dieRevision.toNat 28 + at' (partNum s) 12 + at' 0x3A5 1 + 1)

/-- What the TAP's selected data register captures: the debug port's data under DEBUG, the zero of BYPASS else (R465). -/
def tapData (s : State) : Word := if s.sec.tap = 0x01 then idcode s else if s.sec.tap = 0x10 then s.sec.dbgData else 0

/-- Update-IR: EXTEST, CLAMP and HIGHZ cause a system reset and hold bring-up; any other instruction releases it. -/
def tapUpdate (code : Nat) (s : State) : State :=
  let i := tapSelect s code
  let s1 : State := { s with sec := { s.sec with tap := i } }
  if i = 0 ∨ i = 3 ∨ i = 4 then
    let s2 := sysReset [11] s1
    { s2 with bu := { s2.bu with tapHold := true } }
  else { s1 with bu := { s1.bu with tapHold := false } }

/-- Test-Logic-Reset selects IDCODE and releases bring-up. -/
def tapReset (s : State) : State := { s with sec := { s.sec with tap := 1 }, bu := { s.bu with tapHold := false } }

/-! ### Debug access (R467-R470) -/

/-- The digest of a grant: the nonce, the unique ID and the level byte (R468). -/
def grantDigest (s : State) (level : Nat) : Nat :=
  Sha.digestNat (wordsBytes ((List.range 8).map (fun j => s.rd (SecDbg.DBG_CHAL0 j)))
    ++ wordsBytes ((List.range 4).map Config.uniqueId) ++ [level])

/-- CHAL: `nonce` is what the island's noise source gives. -/
def dbgChalCmd (nonce : List Word) (s : State) : Reply :=
  if s.sec.blockAt.isSome then deny s .busy
  else
    let s1 := (List.range 8).foldl (fun t j => t.wr (SecDbg.DBG_CHAL0 j) (nonce.getD j 0)) s
    accept { s1 with sec := { s1.sec with nonceAt := some s.now } }

/-- AUTH of a level: it uses the nonce up. -/
def dbgAuthCmd (level : Nat) (s : State) : Reply :=
  let valid := match s.sec.nonceAt with | some t => decide (s.now ≤ t + 8000000000) | none => false
  if level ≠ 1 ∧ level ≠ 2 ∧ level ≠ 4 then deny s .outOfRange
  else if !valid then deny s .notInState
  else accept { s with sec := { s.sec with nonceAt := none, authAt := some (level, s.now) } }

/-- A write of DBG_CMD: from port 5 alone. -/
def dbgCmdWrite (port : Port) (nonce : List Word) (v : Word) (s : State) : Reply :=
  if port ≠ .debug then deny s .denied
  else
    match fld v 2 0 with
    | 1 => dbgChalCmd nonce s
    | 2 => dbgAuthCmd (fld v 10 8) s
    | 3 => accept (endGrant s)
    | 4 => if dbgLevel s < 2 then deny s .denied else accept (sysReset [11] s)
    | _ => deny s .outOfRange

/-- AUTH_DONE: within 60 ms (R468). -/
def authDone (dt : Nat) (s : State) : State :=
  match s.sec.authAt with
  | none => s
  | some (level, t) =>
    let s1 := s.reach (min (s.now + dt) (t + 48000000))
    let num (i : Nat) : Nat := bytesNat (wordsBytes ((List.range 8).map (fun j => s1.rd (SecDbg.DBG_RESP0 (i + j)))))
    let k := s1.rdF SecKey.KEY_STAT 9 8
    let ok := s1.rdB SecKey.KEY_STAT 10 && keyUsable s1 k && keyVerifies s1 k (grantDigest s1 level) (num 0) (num 8)
    if ok then
      ({ s1 with sec := { s1.sec with
          authAt := none, fails := 0, grant := min level 2, returnOk := decide (level = 4) } } : State).pulse Sec.page 1
    else
      let n := s1.sec.fails + 1
      let s2 : State := { s1 with sec := { s1.sec with
        authAt := none, fails := n, blockAt := if 5 ≤ n then some s1.now else none } }
      emitPage .safety Sec.page 2 0 (s2.pulse Sec.page 2)

/-- NONCE_EXPIRY: 10 s after CHAL. -/
def nonceExpiry (s : State) : State :=
  match s.sec.nonceAt with
  | some t => let u := s.reach (t + 8000000000); { u with sec := { u.sec with nonceAt := none } }
  | none => s

/-- DEBUG_BLOCK_EXPIRY: 300 s after the fifth failure. -/
def debugBlockExpiry (s : State) : State :=
  match s.sec.blockAt with
  | some t => let u := s.reach (t + 240000000000); { u with sec := { u.sec with blockAt := none, fails := 0 } }
  | none => s

/-- A write of DBG_HALT (R470). -/
def dbgHaltWrite (v : Word) (s : State) : Reply :=
  let new := v &&& 0xF &&& ~~~(s.rd SecDbg.DBG_HALT)
  let pairs := bit new 0 || bit new 1
  let l := dbgLevel s
  let blank := lcState s = 0 ∨ lcState s = 3 ∨ s.phase = 10
  if (pairs ∧ l < 2) ∨ (bit new 2 ∧ l < 3) ∨ (bit new 3 ∧ (l < 3 ∨ ¬ blank)) then deny s .denied
  else if (pairs ∧ pwrState s = 2) ∨ (bit new 2 ∧ anyTbRun s) then deny s .notInState
  else accept ((s.wr SecDbg.DBG_HALT (v &&& 0xF)).wr SecDbg.DBG_HSTAT (v &&& 0xF))

/-! ### Power states (R471-R475) -/

/-- Entry to HOLD, SLEEP or OFF closes every LOCK and session, ends a grant (R42, R323, R469) and aborts DMA runs (R416). -/
def pwrLeave (st : Nat) (s : State) : State :=
  pwrGo st (endGrant (closeAllLocks ((List.range 16).foldl (fun t k => if dmaState t k = 2 then dmaStop k t else t) s)))

/-- A machine that is OFF, BLOCKED or in FAULT. -/
def machQuiet (s : State) (m : Nat) : Bool := decide (machState s m ≤ 1 ∨ machState s m = 9)

/-- PWR_CMD HOLD. -/
def pwrHoldCmd (s : State) : Reply :=
  if pwrState s ≠ 0 ∨ s.rdB Sec.PWR_STAT 2 then deny s .notInState
  else if !(busyCtxs s).all (fun n => !ctxFast s n || decide (ctxState s n = 1)) || !(List.range 4).all (machQuiet s) then deny s .notInState
  else
    let run := (List.range 8).filter (tbRun s)
    accept (pwrLeave 1 (run.foldl (fun u t => u.wrB (Tb.TB_STAT t) 1 true) s))

/-- Nothing that SLEEP would stop is at work (R472). -/
def sleepReady (s : State) : Bool :=
  !anyTbRun s && (busyCtxs s).isEmpty && (List.range 4).all (fun m => decide (machState s m = 0))
    && (List.range 4).all (fun c => decide (profState s c = 0)) && (List.range 16).all (fun k => decide (dmaState s k ≠ 1 ∧ dmaState s k ≠ 2))
    && s.fw.holder.isNone && (slotIn s 4).isNone && decide (fwPhase s = 0) && decide (twinState s = 0 ∨ twinState s = 6)

/-- PWR_CMD SLEEP: pending until the next epoch. -/
def pwrSleepCmd (s : State) : Reply :=
  if 2 ≤ pwrState s ∨ s.rdB Sec.PWR_STAT 2 ∨ !sleepReady s then deny s .notInState
  else accept (s.wrB Sec.PWR_STAT 2 true)

/-- PWR_CMD RUN. -/
def pwrRunCmd (s : State) : Reply :=
  if pwrState s = 2 ∨ s.rdB Sec.PWR_STAT 2 then accept (wake 8 s)
  else if pwrState s = 1 then accept (pwrGo 0 s)
  else deny s .notInState

/-- PWR_CMD OFF: it drains the non-volatile writes first. -/
def pwrOffCmd (s : State) : Reply :=
  if !lockOpen s Sec.page then deny s .locked
  else if anyTbRun s ∨ s.sec.offAt.isSome then deny s .notInState
  else accept { s with sec := { s.sec with offAt := some s.now } }

/-- A write of PWR_CMD (R472). In RECOVERY only OFF is accepted. -/
def pwrCmdWrite (v : Word) (s : State) : Reply :=
  match fld v 1 0 with
  | 3 => pwrOffCmd s
  | n => if s.phase = 10 then deny s .notInState else if n = 0 then pwrRunCmd s else if n = 1 then pwrHoldCmd s else pwrSleepCmd s

/-- What an epoch does: a pending SLEEP gates CLK_SUP (R473). -/
def pwrEpoch (s : State) : State := if s.rdB Sec.PWR_STAT 2 then pwrLeave 2 s else s

/-- Every non-volatile write in progress or queued is complete (R474). -/
def drained (s : State) : State :=
  let s1 := s.ev.nvQueue.foldl (fun t w => nvStore w t) s
  let s2 := commitDone 0 (if s1.ev.nvClear then nvEmpty s1 else s1)
  let s3 := blockProgrammed 0 (keyTake (lcTake s2))
  let s4 := fuseDone 0 true s3
  { s4 with ev := { s4.ev with nvQueue := [], nvClear := false }, sec := { s4.sec with lcAt := none, keyAt := none }, fw := { s4.fw with bootAt := none } }

/-- The device is OFF: outputs as R59 states, the island stopped, PWRDN_N low. -/
def enterOff (s : State) : State :=
  let s1 := clearIsland (islandStop (restartBringup (clearControl s)))
  let s2 : State := { s1 with bu := { s1.bu with padHold := true }, sec := { s1.sec with pwrdn := true } }
  s2.wr Sec.PWR_STAT 3

/-- OFF_DRAIN_DONE: within 100 ms. -/
def offDrainDone (dt : Nat) (s : State) : State :=
  match s.sec.offAt with
  | some t => enterOff (drained (s.reach (min (s.now + dt) (t + 80000000))))
  | none => s

/-- WAKE_EVENT `k`: an event enabled in WAKE_CFG. -/
def wakeEvent (k : Nat) (s : State) : State := if k < 5 then wakeOn k s else s

/-- PWR_DOM (R475): 1 means powered. -/
def pwrDomView (s : State) : Word :=
  let b (x : Bool) (i : Nat) : Nat := at' (bitN x) i
  let can := (List.range 4).foldl (fun (a : Nat) c => a + b (s.rdB (Can.CTRL c) 0) (3 + c)) 0
  let mac := (List.range 2).foldl (fun (a : Nat) m => a + b (s.rdB (Mac.CTRL m) 0) (7 + m)) 0
  word (b (s.rdB (MeasCtl.SDCLK_CFG 0) 8) 0 + b (s.rdB (MeasCtl.SDCLK_CFG 1) 8) 1
    + b ((List.range 36).any (fun n => decide (glMode s n ≠ 0))) 2 + can + mac + b (decide (twinState s ≠ 0)) 9
    + b (decide (pwrState s ≠ 2)) 10)

/-- CLK.GATE_STATUS: CLK_SUP is gated in SLEEP (R473). -/
def gateStatusView (s : State) : Word := setBit (s.rd Clk.GATE_STATUS) 1 (decide (pwrState s ≠ 2))

/-- DBG_STAT: level, RETURN_OK, failures, and the seconds of the nonce or of the block that remain. -/
def dbgStatView (s : State) : Word :=
  let left (t n : Nat) : Nat := (t + n * 800000000 - s.now + 799999999) / 800000000
  let secs := match s.sec.blockAt, s.sec.nonceAt with
    | some t, _ => left t 300
    | none, some t => left t 10
    | none, none => 0
  word (dbgLevel s + at' (bitN s.sec.returnOk) 2 + at' (min s.sec.fails 7) 4 + at' secs 16)

/-! ### Register writes and views -/

/-- Writes of the SEC pages by `port`; `nonce` as CHAL takes it. -/
def secWrite (port : Port) (nonce : List Word) (a : Nat) (v : Word) (s : State) : Reply :=
  if a = Sec.LC_CMD then lcCmdWrite v s
  else if a = Sec.PWR_CMD then pwrCmdWrite v s
  else if a = Sec.KEY_REVOKE then keyRevokeWrite v s
  else if SecKey.KEY_BUF0 0 ≤ a ∧ a ≤ SecKey.KEY_BUF0 15 then accept (s.wr a v)
  else if a = SecKey.KEY_CMD then keyCmdWrite v s
  else if a = SecDbg.DBG_CMD then dbgCmdWrite port nonce v s
  else if SecDbg.DBG_RESP0 0 ≤ a ∧ a ≤ SecDbg.DBG_RESP0 15 then accept (s.wr a v)
  else if a = SecDbg.DBG_HALT then dbgHaltWrite v s
  else plainWrite a v s

/-- What a read of the SEC pages shows where it is not the stored word. -/
def secView (a : Nat) (s : State) : Word :=
  if a = Sec.PWR_DOM then pwrDomView s
  else if a = SecDbg.DBG_STAT then dbgStatView s
  else s.rd a

/-! ### Meanings -/

/-- LC_CMD (R461). -/
def execLcCmd (port : Port) (v : Word) (s : State) : Out := replied (gated port Sec.LC_CMD v (lcCmdWrite v) s)

/-- LC_PROGRAM_DONE (R461). -/
def execLcProgramDone (dt : Nat) (s : State) : Out := .next (lcProgramDone dt s)

/-- KEY_PROGRAM (R463). -/
def execKeyProgram (port : Port) (v : Word) (s : State) : Out := replied (gated port SecKey.KEY_CMD v (keyCmdWrite v) s)

/-- KEY_PROGRAM_DONE (R463). -/
def execKeyProgramDone (dt : Nat) (s : State) : Out := .next (keyProgramDone dt s)

/-- KEY_REVOKE (R464). -/
def execKeyRevoke (port : Port) (v : Word) (s : State) : Out := replied (gated port Sec.KEY_REVOKE v (keyRevokeWrite v) s)

/-- TAP_UPDATE_IR (R465, R466). -/
def execTapUpdateIr (code : Nat) (s : State) : Out := .next (tapUpdate (code % 32) s)

/-- TAP_TEST_LOGIC_RESET (R466). -/
def execTapTestLogicReset (s : State) : Out := .next (tapReset s)

/-- A write of DBG_CMD by `port`. -/
def dbgCommand (port : Port) (nonce : List Word) (v : Word) (s : State) : Out :=
  replied (gated port SecDbg.DBG_CMD v (dbgCmdWrite port nonce v) s)

/-- CHAL (R468). -/
def execDbgChal (port : Port) (nonce : List Word) (s : State) : Out := dbgCommand port nonce 1 s

/-- AUTH (R468). -/
def execDbgAuth (port : Port) (level : Nat) (s : State) : Out := dbgCommand port [] (word (2 + at' (level % 8) 8)) s

/-- AUTH_DONE (R468). -/
def execAuthDone (dt : Nat) (s : State) : Out := .next (authDone dt s)

/-- NONCE_EXPIRY (R468). -/
def execNonceExpiry (s : State) : Out := .next (nonceExpiry s)

/-- DEBUG_BLOCK_EXPIRY (R468). -/
def execDebugBlockExpiry (s : State) : Out := .next (debugBlockExpiry s)

/-- CLOSE_GRANT (R469). -/
def execCloseGrant (port : Port) (s : State) : Out := dbgCommand port [] 3 s

/-- SYSRST (R470). -/
def execSysrst (port : Port) (s : State) : Out := dbgCommand port [] 4 s

/-- DBG_HALT_WRITE (R470). -/
def execDbgHaltWrite (port : Port) (v : Word) (s : State) : Out := replied (gated port SecDbg.DBG_HALT v (dbgHaltWrite v) s)

/-- A write of PWR_CMD by `port`. -/
def pwrCommand (port : Port) (v : Word) (s : State) : Out := replied (gated port Sec.PWR_CMD v (pwrCmdWrite v) s)

/-- PWR_RUN (R472). -/
def execPwrRun (port : Port) (s : State) : Out := pwrCommand port 0 s

/-- PWR_HOLD (R472). -/
def execPwrHold (port : Port) (s : State) : Out := pwrCommand port 1 s

/-- PWR_SLEEP (R472, R473). -/
def execPwrSleep (port : Port) (s : State) : Out := pwrCommand port 2 s

/-- PWR_OFF (R472, R474). -/
def execPwrOff (port : Port) (s : State) : Out := pwrCommand port 3 s

/-- OFF_DRAIN_DONE (R474). -/
def execOffDrainDone (dt : Nat) (s : State) : Out := .next (offDrainDone dt s)

/-- WAKE_EVENT (R473). -/
def execWakeEvent (k : Nat) (s : State) : Out := .next (wakeEvent k s)

end Sys2Proof.Machine
end

