-- ==== Sys2Proof/Machine/Snapshot.lean ====
section
/-! DEFINITION. Snapshots (R47-R52): the copy of a group with what restarts, the production time of its oldest value, automatic
snapshots, and DOLDRUMS. -/

namespace Sys2Proof.Machine

/-! ### What restarts with a snapshot (R100, R107, R139, R156, R158, R190, R208, R235, R263, R293, R332, R333, R377, R389, R431) -/

/-- Does the value at `a`, of the group of page `p`, restart: counts, and what is kept over a window? -/
def restarts (s : State) (p a : Nat) : Bool :=
  let o := a % 4096
  if p = 0x042 ∨ p = 0x052 then !s.rdB (hCTRL p) 0
  else if p = 0x081 then
    (if pageOf a = 0x081 then true else if pageOf a = 0x082 then false else decide (0xE0 ≤ a % 256))
  else if 0x100 ≤ p ∧ p < 0x104 then decide (o = 0x110 ∨ o = 0x114 ∨ o = 0x118)
  else if 0x120 ≤ p ∧ p < 0x124 then decide (0x114 ≤ o)
  else if p = 0x162 then decide (0x4C0 ≤ o) || decide (0x0C ≤ (o - 0x40) % 0x20 ∧ (o - 0x40) % 0x20 < 0x18)
  else if p = 0x1A0 then false
  else if p = 0x205 then decide (0x48 ≤ o)
  else if p = 0x220 then decide ((o - 0x40) % 0x40 = 0x38)
  else if p = 0x2C1 then decide (o ≠ 0x4C ∧ o ≠ 0x54)
  else true

/-! ### Production times (R50, R101, R107, R139, R190, R208, R235, R263, R293, R332, R333, R349, R377, R389, R431) -/

/-- The production instants of the values of page `p`'s group that count toward AGE. -/
def produced (s : State) (p : Nat) : List Nat :=
  let at' (l : List Nat) : List Nat := l.map s.stampOf
  if p = 0x042 ∨ p = 0x052 then
    let x := if p = 0x042 then 0 else 1
    at' (((List.range 28).filter (chanEn s x)).map (MeasTel.SUM_LO x))
  else if p = 0x043 then at' (((List.range 28).filter (pairEn s)).map Xw.CW_MAXDIFF)
  else if p = 0x081 then
    at' (((busyCtxs s).filter (ctxLive s)).map Ctx.OUT ++ ((List.range 64).filter (hwActive s)).map Hw.HW_OUT)
  else if 0x100 ≤ p ∧ p < 0x104 then (if machState s (p - 0x100) = 0 then [] else at' [Foc.SPEED_M (p - 0x100)])
  else if 0x120 ≤ p ∧ p < 0x124 then (if profState s (p - 0x120) = 0 then [] else at' [Prof.POS_LO (p - 0x120)])
  else if p = 0x144 then at' (((List.range 8).filter (tbRun s)).map PwmTel.UPDATES)
  else if p = 0x162 then
    let r := s.rdF Gl.MEAS_ROT 3 0
    let one (n : Nat) : List Nat :=
      (if r % 2 = 1 ∧ s.rdF (Ch.CH_STAT n) 6 4 = 7 then [GlTel.VCE_ON n] else []) ++ (if r / 2 % 2 = 1 then [GlTel.TEMP n] else [])
        ++ (if r / 4 % 2 = 1 then [GlTel.SUPPLY n] else []) ++ (if r / 8 % 2 = 1 then [GlTel.IDENT n] else [])
    at' (((List.range 36).filter (fun n => decide (glState s n = 3))).flatMap one)
  else if p = 0x183 then (if s.rdB Prot.CTRL 0 then at' [ProtTel.VDC_MIN] else [])
  else if p = 0x1A0 then at' (((List.range 96).filter (hkEn s)).map Therm.HK_VAL)
  else if p = 0x205 then [s.isl.cycleAt]
  else if p = 0x220 then at' (([0, 1].filter (fun g => s.rdB (Tmon.TM_STAT g) 0)).map Tmon.TM_T1)
  else if 0x240 ≤ p ∧ p < 0x244 then
    let c := p - 0x240
    [if s.rdB (Can.CTRL c) 0 then s.now else max (canOf s c).lastBit s.bu.initAt]
  else if p = 0x280 ∨ p = 0x281 then
    let m := p - 0x280
    [if s.rdB (Mac.CTRL m) 0 then s.now else max (macOf s m).lastBit s.bu.initAt]
  else if p = 0x2C1 then (if twinState s = 0 then [] else [max s.twin.rxAt s.twin.attAt])
  else if p = 0x321 then [max s.bist.endAt s.bu.initAt]
  else []

/-! ### The copy (R48) -/

/-- A fraction of a window in units of 1/65 536. -/
def windowPart (n window : Nat) : Word := word (if window = 0 then 0 else min 65536 (n * 65536 / window))

/-- Cycles of lane `k` still to come of the work it has. -/
def laneLeft (s : State) (k : Nat) : Nat :=
  match s.cle.lanes.find? (fun e => decide (e.1 = k)) with
  | some e => e.2.till - s.now
  | none => 0

/-- The telemetry of the engine's lanes at the end of its window, and a new window. -/
def laneWindow (s : State) : State :=
  let w := s.now - s.stampOf (CleTel.LANE_BUSY0 0)
  let s1 := (List.range 4).foldl (fun t k =>
    t.wrL (CleTel.LANE_BUSY0 k) (windowPart (KMap.get (fun _ => 0) s.cle.busy k - laneLeft s k) w)) s
  let out' := s.cle.bistCycles + (if s.cle.bistLane.isSome then s.now - s.cle.bistAt else 0)
  let carry := (List.range 4).foldl (fun (m : List (Nat × Nat)) k => KMap.set (fun _ => 0) m k (laneLeft s k)) []
  let s2 := (s1.wrL CleTel.LANE_BIST (windowPart out' w)).stampNow (CleTel.LANE_BUSY0 0)
  { s2 with cle := { s2.cle with busy := carry, bistCycles := 0, bistAt := s2.now } }

/-- The chopper's share of the window, and a new window. -/
def chopWindow (s : State) : State :=
  let w := s.now - s.stampOf ProtTel.CHOP_FRAC
  let n := s.prot.chopOn + (match s.prot.chopSince with | some t => s.now - t | none => 0)
  let s1 := (s.wrL ProtTel.CHOP_FRAC (windowPart n w)).stampNow ProtTel.CHOP_FRAC
  { s1 with prot := { s1.prot with chopOn := 0, chopSince := s1.prot.chopSince.map (fun _ => s1.now) } }

/-- DOLDRUMS of page `p` against its effective limit. -/
def doldrums (p : Nat) (s : State) : State := setDoldrums p (ageLimit s p) s

/-- The copy of page `p`'s group lands: GEN counts, READY sets, and what restarts begins again. -/
def copyGroup (p : Nat) (s : State) : State :=
  let s1 := if p = 0x081 then laneWindow s else if p = 0x183 then chopWindow s else s
  let old := produced s1 p
  let oldest := match old with | [] => 0 | a :: l => l.foldl min a + 1
  let s2 : State := { s1 with
    regs := KMap.copyWhere (inGroup p) s1.live s1.regs
    live := KMap.dropWhere (fun a => inGroup p a && restarts s1 p a) s1.live
    fab := { s1.fab with seen := s1.fab.seen.filter (fun e => decide (e.1 / 64 ≠ p)), oldest := KMap.set (fun _ => 0) s1.fab.oldest p oldest } }
  let w := s2.rd (hSNAP_GEN p)
  doldrums p (s2.wr (hSNAP_GEN p) (setBit (setBit (setFld w 23 0 (nextGen (fld w 23 0))) 25 false) 24 true))

/-- The pages whose copies land with that of page `p`: both telemetry groups in a joint copy (R102). -/
def copyPages (s : State) (p : Nat) : List Nat :=
  if (p = 0x042 ∨ p = 0x052) ∧ s.fab.joint.isSome then [0x042, 0x052] else [p]

/-- Chain of a telemetry page. -/
def telChain (p : Nat) : Option Nat := if p = 0x042 then some 0 else if p = 0x052 then some 1 else none

/-- Is a sample set of page `p`'s window still being accumulated (R100)? -/
def windowOpen (s : State) (p : Nat) : Bool :=
  match telChain p with
  | some x => setOpen s x ((telBoundary s x).getD 0)
  | none => false

/-- Page `p`'s copy lands; the new window of a telemetry group takes in the samples that waited for it (R100). -/
def landCopy (p : Nat) (s : State) : State :=
  match telChain p with
  | some x => takeLate x none (copyGroup p (takeLate x (telBoundary s x) s))
  | none => copyGroup p s

/-- SNAPSHOT_COPY_DONE: within 1 us of the take. A joint copy of both chains lands as one (R102). DEDUCED: while a sample set of the old
window is being accumulated the copy is not done, so that it may follow the take by more than 1 us (R100, R108). -/
def copyDone (p dt : Nat) (s : State) : State :=
  let l := copyPages s p
  if !hasSnap p || !copying s p || l.any (windowOpen s) then s
  else
    let last := l.foldl (fun m q => min m (KMap.get (fun _ => 0) s.fab.takeAt q + 800)) (s.now + dt)
    let s1 := l.foldl (fun u q => landCopy q u) (s.reach last)
    if l.length = 2 then { s1 with fab := { s1.fab with joint := none } } else s1

/-- AUTO_SNAPSHOT of page `p` (R47). -/
def autoSnap (p : Nat) (s : State) : State :=
  if !hasSnap p || !s.inService || decide (s.rdF (hSNAP_CTRL p) 7 4 = 0) then s
  else
    let due := autoDue s p
    let s1 := s.reach (s.ofTick due)
    takeSnap p { s1 with fab := { s1.fab with autoAt := KMap.set (fun _ => 0) s1.fab.autoAt p due } }

/-- DOLDRUMS_SET of page `p`: AGE passes the limit (R50). -/
def doldrumsSet (p : Nat) (s : State) : State :=
  let t := KMap.get (fun _ => 0) s.fab.oldest p
  if !hasSnap p || decide (s.rdF (hSNAP_GEN p) 23 0 = 0 ∨ t = 0) then s
  else doldrums p (s.reach (t - 1 + (ageLimit s p + 1) * 800))

/-! ### Meanings -/

/-- AUTO_SNAPSHOT (R47). -/
def execAutoSnapshot (p : Nat) (s : State) : Out := .next (autoSnap p s)

/-- SNAPSHOT_COPY_DONE (R48). -/
def execSnapshotCopyDone (p dt : Nat) (s : State) : Out := .next (copyDone p dt s)

/-- DOLDRUMS_SET (R50). -/
def execDoldrumsSet (p : Nat) (s : State) : Out := .next (doldrumsSet p s)

end Sys2Proof.Machine
end

