-- ==== Sys2Proof/Machine/Supervisor.lean ====
section
/-! DEFINITION. Supervisor resets (R62, R71, R367, R456) and the writes of the CLK and BUP pages, keyed resets among them (R70, R74). -/

namespace Sys2Proof.Machine

/-- A supervisor reset while a slot is TRIAL: selection by the second row of R452, without a system reset (R456). -/
def supBoot (s : State) : State :=
  let s1 : State := { (s.wrF Fwim.FW_STAT 26 24 0).wrF Fwim.FW_STAT 9 9 0 with
    fw := { s.fw with trialAt := none, back := false, retryTick := none, resume := false } }
  if (slotIn s1 4).isSome then (bootSelect false s1).2 else s1

/-- Supervisor reset with cause bit `i` of `RST_CAUSE`: both pairs start again on pair 0; the control path runs on (R12, R62). The
island notes it at once (R71); with DECL_SUP it is a declared fault (R367). -/
def supReset (i : Nat) (s : State) : State :=
  let s1 := endGrant (closeAllLocks ((s.wrB Bup.RST_CAUSE i true).incSat Bup.RST_COUNT 31 16))
  let s2 := if s1.bu.islNotes then emitPage .safety Bup.page (0x20 + i) 0 s1 else s1
  let s3 := if s2.rdB Twin.CFG 12 then declareFault s2 else s2
  supBoot s3

/-- Do the Tykor pairs run? From the boot of pair 0 on, and not in SLEEP or OFF. -/
def pairsRun (s : State) : Bool := decide ((s.phase = 8 ∨ s.phase = 9) ∧ pwrState s < 2)

/-- A write of SWRST (R74). -/
def swrstWrite (v : Word) (s : State) : Reply :=
  if !lockOpen s Clk.page then deny s .locked
  else if v = 0x53595352 then accept (sysReset [5] s)
  else if v = 0x53555052 then accept (supReset 18 s)
  else deny s .keyRequired

/-- Writes of the CLK page. -/
def clkWrite (a : Nat) (v : Word) (s : State) : Reply := if a = Clk.SWRST then swrstWrite v s else plainWrite a v s

/-! ### Meanings -/

/-- SWRST_SYSTEM (R74). -/
def execSwrstSystem (port : Port) (s : State) : Out := replied (gated port Clk.SWRST 0x53595352 (swrstWrite 0x53595352) s)

/-- SWRST_SUPERVISOR (R74). -/
def execSwrstSupervisor (port : Port) (s : State) : Out := replied (gated port Clk.SWRST 0x53555052 (swrstWrite 0x53555052) s)

/-- TYKOR_LOCKSTEP_MISMATCH (R62). -/
def execTykorLockstepMismatch (s : State) : Out := .next (when' (pairsRun s) (supReset 16) s)

/-- SUPERVISOR_WATCHDOG_EXPIRY (R62): the watchdog of a halted pair pauses (R470). -/
def execSupervisorWatchdogExpiry (s : State) : Out :=
  .next (when' (pairsRun s && !s.rdB SecDbg.DBG_HSTAT (supPair s)) (supReset 17) s)

/-- RST_CAUSE_CLEAR (R70). -/
def execRstCauseClear (port : Port) (v : Word) (s : State) : Out := replied (gated port Bup.RST_CAUSE v (plainWrite Bup.RST_CAUSE v) s)

end Sys2Proof.Machine
end

