-- ==== Sys2Proof/Machine/Bus.lean ====
section
/-! DEFINITION. One word through the register fabric (R9, R10, R32-R58): what a write does and what a read gives at every address, for every
requester. Bursts, descriptors and messages are made of these. -/

namespace Sys2Proof.Machine

/-! ### Writes -/

/-- A write of LOCK (R41). The key page's opens only in BLANK and PROVISIONED (R463). -/
def lockWriteOp (p : Nat) (v : Word) (s : State) : Reply :=
  match pageKind p with
  | some k =>
    if !k.lockable then accept s
    else if v = lockKey then
      (if p = SecKey.page ∧ 2 ≤ s.rdF Sec.LC_STATE 1 0 then deny s .denied else accept (openLock p s))
    else if v = 0 then accept (closeLock p s)
    else (closeLock p s, .keyRequired)
  | none => accept s

/-- A W1C write of IRQ_PEND; TRIG_COLLIDE of `MEASA` takes TRIG_SEQ.COLLIDE with it (R103). -/
def irqPendOp (p : Nat) (v again : Word) (s : State) : Reply :=
  let r := clearPend p v again s
  if p = MeasCtl.page 0 ∧ bit v 5 then (r.1.wrF (MeasCtl.TRIG_SEQ 0) 31 24 0, r.2) else r

/-- A write of SNAP_CTRL; a changed limit shows in DOLDRUMS at once (R50). -/
def snapCtrlOp (p : Nat) (v : Word) (s : State) : Reply :=
  let r := writeSnapCtrl p v s
  if hasSnap p then (doldrums p r.1, r.2) else r

/-- A group enabled while a thermal shutdown is latched takes its forced states too (R345). -/
def underShutdown (r : Reply) : Reply :=
  match r.2 with
  | .none => (if r.1.rdB Therm.THR_STAT 12 then shutdownForces r.1 else r.1, .none)
  | _ => r

/-- Writes of a block's own registers. -/
def blockWrite (port : Port) (e : WriteEnv) (k : PageKind) (a : Nat) (v : Word) (s : State) : Reply :=
  match k with
  | .id | .bup | .host => plainWrite a v s
  | .clk => clkWrite a v s
  | .crosswind => scanned (measWrite k a v s)
  | .measCtl | .measCh | .measTel =>
    if a = MeasCtl.TRIG_SW 0 then trigSwWrite e.checking v s else measWrite k a v s
  | .cle | .cleTel | .headwind | .ctxWin => cleWrite k a v s
  | .foc => focWrite a v s
  | .prof => profWrite a v s
  | .pwmGrp => underShutdown (pwmWrite k a v s)
  | .pwmTb | .pwmCh | .pwmTrip | .pwmTel => pwmWrite k a v s
  | .glink | .glPos | .glTel => glinkWrite k a v s
  | .prot | .protSrc | .protCmp | .protTel => protWrite k a v s
  | .therm | .thermCh | .thermTs => thermWrite k a v s
  | .safe | .safePw | .safeParam | .safeIn | .safeTg | .safeTel | .tmon => safeWrite k a v s
  | .can | .mac | .ptp | .pub | .ethTx | .ethRx | .canRam => busWrite k a v s
  | .twin | .twinTel => twinWrite port e.code a v s
  | .dma | .dmaDesc | .dmaCh => dmaWrite a v s
  | .bist | .bistTel => bistWrite a v s
  | .evrec => evrecWrite a v s
  | .fwim => fwimWrite port a v s
  | .sec | .secKey | .secDbg => secWrite port e.nonce a v s

/-- A word of the staging window (R447); the event ring is read-only (R435). -/
def windowWrite (port : Port) (a : Nat) (v : Word) (s : State) : Reply :=
  if a < 0x700000 then accept s
  else match stagingCode s port a with
    | .none => accept (s.wrMem a v)
    | c => deny s c

/-- What a write that passes the gate does. -/
def wordOp (port : Port) (e : WriteEnv) (a : Nat) (v : Word) (s : State) : Reply :=
  match pageKind (pageOf a) with
  | none => windowWrite port a v s
  | some k =>
    if (regRow a).isNone ∧ k ≠ .ctxWin then accept s
    else if !k.header then blockWrite port e k a v s
    else
      match a % 4096 with
      | 0x18 => writeIrqEn (pageOf a) v s
      | 0x1C => irqPendOp (pageOf a) v 0 s
      | 0x20 => lockWriteOp (pageOf a) v s
      | 0x24 => clearErr (pageOf a) s
      | 0x28 => snapCtrlOp (pageOf a) v s
      | _ => blockWrite port e k a v s

/-- The word address of an operand: 24 bits, word-aligned. -/
def wordAddr (a : Nat) : Nat := a % 0x1000000 / 4 * 4

/-- A write of one word, without the record of a refusal. An access to the twin goes out as a WRITE message (R372). -/
def writeCore (port : Port) (e : WriteEnv) (a : Nat) (v : Word) (s : State) : Reply :=
  if remoteOpen s a then accept (twinWriteMsg (some port) none false false [(a - 0x800000, v)] s)
  else gate port a v (wordOp port e a v) s

/-- A write of one word, its refusal recorded (R45). -/
def writeWord (port : Port) (e : WriteEnv) (a : Nat) (v : Word) (s : State) : Reply := recorded port a (writeCore port e a v s)

/-! ### Reads -/

/-- Why a read is refused (R34, R44, R55, R357, R467). -/
def readCode (s : State) (port : Port) (a : Nat) : RefCode :=
  let p := pageOf a
  if !isMapped a then (if busyUnmapped s port p then .busy else .outOfRange)
  else if port = .debug ∧ dbgLevel s = 0 ∧ p ≠ 0x000 ∧ p ≠ 0x001 ∧ p ≠ SecDbg.page then .denied
  else if busyPage s (homePage a) || (decide (twinState s = 5 ∧ port = .host) && twinBars s port p) then .busy
  else .none

/-- CAPS (R38): the part number on the `ID` page. -/
def capsView (k : PageKind) (p : Nat) (s : State) : Word :=
  let own := Config.capsBits p &&& 0x3FFFFFFF
  setBit (setBit (if p = 0 then setFld own 15 0 (partNum s) else own) 31 k.snap) 30 k.lockable

/-- The header registers of page `p`, whose offset is `o` (R37-R41, R47, R50). -/
def headerView (k : PageKind) (p o : Nat) (s : State) : Word :=
  match o with
  | 0x00 => word (at' (blockOf p) 24 + p)
  | 0x04 => Config.blkVer p &&& 0xFFFF0000
  | 0x08 => capsView k p s
  | 0x10 => statusWord s p
  | 0x20 => setBit (s.rd (hLOCK p)) 1 (k.password && k.lockable)
  | 0x30 => word (ageOf s p)
  | _ => s.rd (p * 4096 + o)

/-- BUP.READY: the guard test is complete on the SEP9640, and on the SEP9624 as the island finds it (R78). -/
def readyView (s : State) : Word := setBit (s.rd Bup.READY) 7 (decide (s.part = .sep9640) || (s.isl.run && guardDone s))

/-- What a block's own register reads as. -/
def blockView (k : PageKind) (a : Nat) (s : State) : Word :=
  match k with
  | .id => if 0x40 ≤ a then Config.uniqueId ((a - 0x40) / 4) else s.rd a
  | .bup => if a = Bup.READY then readyView s else s.rd a
  | .clk => if a = Clk.GATE_STATUS then gateStatusView s else s.rd a
  | .host => if a = HostP.IRQ_SUMMARY then irqSummary s else s.rd a
  | .measCtl => measCtlView a s
  | .measCh => measView a s
  | .measTel => s.rd a
  | .crosswind => xwView a s
  | .cle | .cleTel | .headwind | .ctxWin => cleView k a s
  | .foc => focView a s
  | .prof => s.rd a
  | .pwmTb | .pwmCh | .pwmGrp | .pwmTrip | .pwmTel => pwmView k a s
  | .glink | .glPos | .glTel => glinkView k a s
  | .prot | .protSrc | .protCmp | .protTel => protView k a s
  | .therm | .thermCh | .thermTs => thermView a s
  | .safe | .safePw | .safeParam | .safeIn | .safeTg | .safeTel | .tmon => safeView a s
  | .ptp => ptpView a s
  | .can | .mac | .pub | .ethTx | .ethRx | .canRam => s.rd a
  | .twin | .twinTel => twinView a s
  | .dma | .dmaDesc | .dmaCh | .bist | .bistTel => s.rd a
  | .evrec => evrecView a s
  | .fwim => fwimView a s
  | .sec | .secKey | .secDbg => secView a s

/-- What the word at `a` reads as; a reserved offset and a write-only register read zero (R9, R10). -/
def viewWord (a : Nat) (s : State) : Word :=
  match pageKind (pageOf a) with
  | none => s.rdMem a
  | some k =>
    match regRow a with
    | none => 0
    | some r =>
      if r.acc = .wo then 0
      else if k.header ∧ a % 4096 < 0x40 then headerView k (pageOf a) (a % 4096) s
      else blockView k a s

/-- The requester of R45 a reader is. -/
def readerPort : Reader → Port
  | .port p => p
  | .dmaChan _ => .dma
  | .publisher _ => .dma

/-- Has the page a header? -/
def hasHeader (p : Nat) : Bool :=
  match pageKind p with
  | some k => k.header
  | none => false

/-- A read of one word of this device: its value and refusal code, and what the read itself does: it marks a generation as read (R49), latches
TICK_HI (R139) or the PTP seconds (R394). A refused read gives zero and does nothing. -/
def readWord (r : Reader) (a : Nat) (s : State) : (Word × RefCode) × State :=
  match readCode s (readerPort r) a with
  | .none =>
    if a % 4096 = 0x2C ∧ hasHeader (pageOf a) then
      (let g := readSnapGen (pageOf a) r s
       ((if hasSnap (pageOf a) then g.1 else 0, .none), g.2))
    else if a = CleTel.TICK_LO then ((viewWord a s, .none), tickLoRead s)
    else if a = Ptp.PTP_NS then
      (let g := ptpNsRead s
       ((g.1, .none), g.2))
    else ((viewWord a s, .none), s)
  | c => ((0, c), s)

/-- Successive words from `a`, ascending: the first refusal, and zeros from there on (R53). -/
def readWords (r : Reader) : Nat → Nat → State → (List Word × RefCode) × State
  | 0, _, s => (([], .none), s)
  | n + 1, a, s =>
    match readWord r a s with
    | ((w, .none), t) =>
      let rest := readWords r n (a + 4) t
      ((w :: rest.1.1, rest.1.2), rest.2)
    | ((_, c), t) => ((List.replicate (n + 1) 0, c), t)

/-- Write successive words from `a`, ascending: how many were accepted, and the first refusal, which stops the burst (R46). -/
def writeWords (port : Port) (e : WriteEnv) : List Word → Nat → State → (Nat × RefCode) × State
  | [], _, s => ((0, .none), s)
  | v :: l, a, s =>
    match writeCore port e a v s with
    | (t, .none) =>
      let rest := writeWords port e l (a + 4) t
      ((rest.1.1 + 1, rest.1.2), rest.2)
    | (t, c) => ((0, c), t)

/-! ### Meanings -/

/-- REGISTER_WRITE (R10): a write of one word by any requester. -/
def execRegisterWrite (port : Port) (a : Nat) (v : Word) (env : WriteEnv) (s : State) : Out :=
  replied (writeWord port env (wordAddr a) v s)

/-- LOCK_WRITE (R41). -/
def execLockWrite (port : Port) (p : Nat) (v : Word) (s : State) : Out := replied (gated port (hLOCK p) v (lockWriteOp p v) s)

/-- LOCK_EXPIRY (R42): checked between frames and between descriptors, so it waits for the end of a descriptor that writes the page (R416). -/
def execLockExpiry (p : Nat) (s : State) : Out :=
  .next (when' (lockOpen s p) (fun t => lockExpire p (t.reach (lockDue t p))) s)

/-- ERRINFO_CLEAR (R45). -/
def execErrinfoClear (port : Port) (p : Nat) (v : Word) (s : State) : Out := replied (gated port (hERRINFO p) v (clearErr p) s)

/-- IRQ_PEND_CLEAR (R40): `again` holds the conditions that rise in the same cycle (R58). -/
def execIrqPendClear (port : Port) (p : Nat) (v again : Word) (s : State) : Out :=
  replied (gated port (hIRQ_PEND p) v (irqPendOp p v again) s)

/-- IRQ_EN_WRITE (R40). -/
def execIrqEnWrite (port : Port) (p : Nat) (v : Word) (s : State) : Out := replied (gated port (hIRQ_EN p) v (writeIrqEn p v) s)

/-- SNAPSHOT_TAKE (R48): a write of SNAP_CTRL with TAKE. -/
def execSnapshotTake (port : Port) (p : Nat) (v : Word) (s : State) : Out :=
  replied (gated port (hSNAP_CTRL p) (v ||| 1) (snapCtrlOp p (v ||| 1)) s)

/-- SNAP_GEN_READ (R49); the debug port finds the word, or the refusal, in its access register (R44). -/
def execSnapGenRead (reader : Reader) (p : Nat) (s : State) : Out :=
  let r := readWord reader (hSNAP_GEN p) s
  .next (match reader with
    | .port q => debugNote q r.1.2 r.1.1 r.2
    | _ => r.2)

end Sys2Proof.Machine
end

