-- ==== Sys2Proof/Machine/HostPort.lean ====
section
/-! DEFINITION. The host port (R53-R55, R65, R502, R503): frames as the bytes the selected lines carry, what they do, and the bytes the
device sends back. -/

namespace Sys2Proof.Machine

/-- Chip select is asserted: the line set follows QUAD as it stands (R502). -/
def selectLines (s : State) : State := { s with host := { s.host with quad := s.rdB HostP.CTRL 0, answer := [] } }

/-- Is the clock too fast for the bring-up oscillator (R65)? -/
def tooFast (fast : Bool) (s : State) : Bool := fast && s.rdB Bup.STATE 4

/-- Do the last two of `n + 2` bytes hold the CRC of the first `n`? -/
def crcOk (n : Nat) (l : List Nat) : Bool := decide (bytesNat ((l.drop n).take 2) = Crc.crc16 (l.take n))

/-- Is a frame of `n` words from `a` refused with ALIGN as a whole (R503)? -/
def misplaced (a n : Nat) : Bool := decide (a % 4 ≠ 0 ∨ 4096 < a % 4096 + 4 * n)

/-! ### READ (R53) -/

/-- READ_REQ messages for `n` words from `a`: fourteen at most in each (R356, R372). -/
def askWords : Nat → Nat → Nat → State → State
  | 0, _, _, s => s
  | fuel + 1, a, n, s => if n = 0 then s else askWords fuel (a + 56) (n - 14) (twinReadMsg .host none a (min n 14) s)

/-- What meets a snapshot group between two words of a burst. -/
def midRead (m : MidRead) (s : State) : State :=
  match m with
  | .take p => takeSnap p s
  | .land p => copyDone p 0 s

/-- The words of a burst, ascending, each taken after the one before it: what falls before word `i` affects exactly the words from `i` on
(R53). -/
def burstWords (mid : List (Nat × MidRead)) : Nat → Nat → Nat → State → (List Word × RefCode) × State
  | 0, _, _, s => (([], .none), s)
  | n + 1, i, a, s =>
    let t := (mid.filter (fun e => decide (e.1 = i))).foldl (fun u e => midRead e.2 u) s
    match readWord (.port .host) a t with
    | ((w, .none), u) =>
      let rest := burstWords mid n (i + 1) (a + 4) u
      ((w :: rest.1.1, rest.1.2), rest.2)
    | ((_, c), u) => ((List.replicate (n + 1) 0, c), u)

/-- A READ of `n` words from `a` whose CRC checks. -/
def hostReadWords (mid : List (Nat × MidRead)) (a n : Nat) (s : State) : State :=
  if misplaced a n then putAnswer (readAnswer RefCode.align.num (List.replicate n 0)) s
  else if remoteOpen s a then
    askWords 19 (a - 0x800000) n { s with twin := { s.twin with read := some { addr := a, words := n } } }
  else
    let r := burstWords mid n 0 a s
    putAnswer (readAnswer r.1.2.num r.1.1) r.2

/-- A READ frame. A request that ends early gets no answer; one whose CRC fails is answered FRAME with zeros (R54). -/
def hostRead (mid : List (Nat × MidRead)) (l : List Nat) (s0 : State) : State :=
  let s := selectLines s0
  let n := l.getD 4 0 + 1
  if l.length < 7 then s
  else if !crcOk 5 l then putAnswer (readAnswer RefCode.frame.num (List.replicate n 0)) s
  else hostReadWords mid (bytesNat ((l.drop 1).take 3)) n s

/-! ### WRITE (R54, R503) -/

/-- Record a refusal of the frame itself in `HOST`, and report it. -/
def refuseFrame (c : RefCode) (off : Nat) (s : State) : State := putResult c 0 off (s.refuseAt HostP.page .host c off)

/-- The next word of a write to the follower goes out: the words go one by one, so that a refusal stops the burst (R46, R372). -/
def sendWord (w : RemoteWrite) (s : State) : State :=
  match w.rest with
  | v :: l =>
    twinWriteMsg (some .host) none false false [(w.addr - 0x800000 + 4 * w.count, v)]
      { s with twin := { s.twin with write := some { w with rest := l } } }
  | [] => { putResult .none w.count 0 s with twin := { s.twin with write := none } }

/-- A WRITE of `ws` from `a`. A system reset that a word causes ends the frame, and RESULT is as after a reset; so does one that strikes when
`cut` words have been applied: the words after them are lost (R54). -/
def hostWriteWords (e : WriteEnv) (cut : Option Nat) (a : Nat) (ws : List Word) (s : State) : State :=
  if misplaced a ws.length then refuseFrame .align (a % 4096) s
  else if remoteOpen s a then sendWord { addr := a, rest := ws } (putResult .busy 0 0 s)
  else
    let r := writeWords .host e (match cut with | some k => ws.take k | none => ws) a s
    let t := r.2
    let b := a + 4 * r.1.1
    let c := r.1.2
    if t.phase ≠ s.phase then t
    else if cut.isSome then putResult .none 0 0 t
    else if c = .none then putResult .none r.1.1 0 t
    else if !isMapped b ∨ (c = .busy ∧ busyPage t (homePage b)) then
      putResult c r.1.1 (a % 4096) (t.refuseAt HostP.page .host c (a % 4096))
    else putResult c r.1.1 (b % 4096) (recordRefusal .host b c t)

/-- The words of a WRITE frame. -/
def frameWords (n : Nat) (l : List Nat) : List Word := (List.range n).map (fun i => bytesWord ((l.drop (5 + 4 * i)).take 4))

/-- A WRITE frame, or one with another command that the device does not know: FRAME where the length, the CRC or the command is wrong. -/
def hostWrite (e : WriteEnv) (cut : Option Nat) (l : List Nat) (s0 : State) : State :=
  let s := selectLines s0
  let n := l.getD 4 0 + 1
  let a := bytesNat ((l.drop 1).take 3)
  if l.isEmpty then s
  else if l.getD 0 0 ≠ 2 then refuseFrame .frame 0 s
  else if l.length < 4 then refuseFrame .frame 0 s
  else if l.length ≠ 4 * n + 7 ∨ !crcOk (4 * n + 5) l then refuseFrame .frame (a % 4096) s
  else hostWriteWords e cut a (frameWords n l) s

/-! ### RESULT (R54) -/

/-- A RESULT frame; `early` where it arrives before the WRITE has been applied. -/
def hostResult (early : Bool) (l : List Nat) (s0 : State) : State :=
  let s := selectLines s0
  let tell (c n off : Nat) : State := putAnswer (withCrc ([c, n / 256 % 256, n % 256, off / 256 % 256, off % 256])) s
  if l.length < 3 then s
  else if !crcOk 1 l then tell RefCode.frame.num 0 0
  else if early ∨ s.twin.write.isSome then tell RefCode.busy.num 0 0
  else tell s.host.resCode.num s.host.resCount s.host.resOffset

/-! ### Frames above the clock of the bring-up oscillator (R65, R77) -/

/-- `n` free bytes, and the state with the counter advanced. -/
def freeBytes : Nat → State → List Nat × State
  | 0, s => ([], s)
  | n + 1, s =>
    let r := freeBytes n s.fresh.2
    (fld s.fresh.1 7 0 :: r.1, r.2)

/-- An answer of free bytes whose CRC fails at the host: its last byte is inverted where the CRC would hold. -/
def failing (l : List Nat) : List Byte :=
  let k := l.length - 2
  let bad := if crcOk k l then l.take (k + 1) ++ (l.drop (k + 1)).map (fun b => 255 - b) else l
  bad.map (BitVec.ofNat 8)

/-- A frame above 10 MHz has no defined response (R65): the device takes in free bytes in place of those sent, acts as that frame would,
and where the host clocks an answer of `n` bytes, gives free bytes whose CRC fails (R77). -/
def garbled (n : Nat) (act : List Nat → State → State) (l : List Nat) (s : State) : State :=
  let r := freeBytes l.length s
  let q := freeBytes n (act r.1 r.2)
  if n = 0 then q.2 else putAnswer (failing q.1) q.2

/-! ### Meanings -/

/-- HOST_READ (R53): `bytes` as the selected lines carry them, from the command byte 0x03 on. -/
def execHostRead (bytes : List Nat) (drive : ReadDrive) (s : State) : Out :=
  .next (if tooFast drive.fast s then garbled (4 * (bytes.getD 4 0 + 1) + 3) (hostRead drive.mid) bytes s else hostRead drive.mid bytes s)

/-- HOST_WRITE (R54): `bytes` from the command byte on, the CRC with them. -/
def execHostWrite (bytes : List Nat) (drive : WriteDrive) (env : WriteEnv) (s : State) : Out :=
  .next (if tooFast drive.fast s then garbled 0 (hostWrite env drive.cut) bytes s else hostWrite env drive.cut bytes s)

/-- HOST_RESULT (R54). -/
def execHostResult (bytes : List Nat) (fast early : Bool) (s : State) : Out :=
  .next (if tooFast fast s then garbled 7 (hostResult early) bytes s else hostResult early bytes s)

end Sys2Proof.Machine
end

