-- ==== Sys2Proof/Machine/TwinMsg.lean ====
section
/-! DEFINITION. The messages of the Karend Link that reach registers (R356, R360, R363, R365, R372): WRITE, READ_REQ and their answers,
and the retransmission of a message that has none. -/

namespace Sys2Proof.Machine

/-- Does the device take bulk messages that reach registers? In RECOVERY only once it is served (R360). -/
def linkServes (s : State) : Bool := linkActive s && (decide (s.phase ≠ 10) || s.twin.served)

/-- The answer of this device to message `q` goes out, and is kept in case the message comes again; the last 64 are kept. -/
def answerMsg (q : Nat) (m : TwinMsg) (s : State) : State :=
  twinSend m { s with twin := { s.twin with done := ((q, m) :: s.twin.done).take 64 } }

/-- The answer already given to message `q`. -/
def answered (s : State) (q : Nat) : Option TwinMsg := (s.twin.done.find? (fun e => decide (e.1 = q))).map (·.2)

/-! ### WRITE (R356, R363, R372) -/

/-- Entry `i` of a WRITE: address and data. -/
def writeEntry (b : List Nat) (i : Nat) : Nat × Word :=
  (bytesNat ((b.drop (3 + 7 * i)).take 3), bytesWord ((b.drop (6 + 7 * i)).take 4))

/-- One entry of a configuration copy: the register takes the active's content, with what its own write brings about where that would
be accepted. -/
def copyEntry (e : WriteEnv) (a : Nat) (v : Word) (s : State) : Reply :=
  if busyPage s (homePage a) then deny s .busy
  else
    match regRow a with
    | some r =>
      if isCfgCrc a then accept (s.wr a v)
      else if mirroredPage (pageOf a) && decide (r.acc = .rw ∨ r.acc = .rwl) then
        match wordOp .twin e a v s with
        | (t, .none) => accept t
        | _ => accept (s.wr a (v &&& word r.mask))
      else deny s .outOfRange
    | none => deny s .outOfRange

/-- One entry of a WRITE. -/
def takeEntry (copy : Bool) (e : WriteEnv) (x : Nat × Word) (s : State) : Reply :=
  if copy ∧ x.1 ≠ Twin.CMD then recorded .twin x.1 (copyEntry e x.1 x.2 s) else writeWord .twin e (wordAddr x.1) x.2 s

/-- The entries in order, up to the first that is refused (R46). -/
def takeEntries (copy : Bool) (e : WriteEnv) : List (Nat × Word) → State → Reply
  | [], s => accept s
  | x :: l, s =>
    match takeEntry copy e x s with
    | (t, .none) => takeEntries copy e l t
    | r => r

/-- A WRITE is applied once per MSEQ as port 4 and acknowledged; on a standby a refusal costs eligibility (R364). -/
def twinWriteTake (copy : Bool) (e : WriteEnv) (b : List Nat) (s : State) : State :=
  let q := bytesNat (b.take 2)
  if !linkServes s then s
  else
    match answered s q with
    | some m => twinSend m s
    | none =>
      let r := takeEntries copy e ((List.range (b.getD 2 0)).map (writeEntry b)) s
      let s1 : State :=
        if r.2 ≠ .none ∧ (twinState s = 3 ∨ twinState s = 1) then { r.1 with twin := { r.1.twin with refused := true } } else r.1
      updEligible (answerMsg q { kind := 8, bulk := b.take 2 ++ [r.2.num] } s1)

/-! ### READ_REQ (R356, R372) -/

/-- A READ_REQ is served as port 4 and answered. -/
def readReqTake (b : List Nat) (s : State) : State :=
  let q := bytesNat (b.take 2)
  let n := b.getD 5 0
  if !linkServes s then s
  else
    match answered s q with
    | some m => twinSend m s
    | none =>
      let r := readWords (.port .twin) n (wordAddr (bytesNat ((b.drop 2).take 3))) s
      answerMsg q { kind := 7, bulk := b.take 2 ++ [r.1.2.num, n] ++ wordsBytes r.1.1 } r.2

/-! ### Answers -/

/-- The message that waits for the answer to `q`, of the kind asked. -/
def waitsFor (s : State) (kind q : Nat) : Option TwinMsg := s.twin.asked.find? (fun m => decide (m.kind = kind ∧ m.mseq = q))

/-- It waits no longer. -/
def dropAsked (q : Nat) (s : State) : State :=
  let keep (m : TwinMsg) : Bool := !(decide (m.kind = 5 ∨ m.kind = 6) && decide (m.mseq = q))
  { s with twin := { s.twin with asked := s.twin.asked.filter keep, queue := s.twin.queue.filter keep } }

/-- The answer reaches DMA channel `k` (R372). -/
def dmaAnswer (k code : Nat) (ws : List Word) (s : State) : State :=
  match dmaRunOf s k with
  | some r => if r.asked then putDma k (some { r with answer := some (code, ws) }) s else s
  | none => s

/-- The refusal code with a number (R43). -/
def codeOf (n : Nat) : RefCode :=
  [RefCode.none, .busy, .locked, .keyRequired, .outOfRange, .notInState, .notOpen, .coefLocked, .tripPersist, .frame, .align,
    .denied].getD n .outOfRange

/-- Words reach the host's read; after a refusal only zeros do. With the last of them the READ is answered. -/
def hostWords (code : Nat) (ws : List Word) (s : State) : State :=
  match s.twin.read with
  | none => s
  | some r =>
    let r1 : RemoteRead :=
      { r with got := r.got ++ (if r.code = 0 then ws else ws.map (fun _ => 0)), code := if r.code = 0 then code else r.code }
    let s1 : State := { s with twin := { s.twin with read := some r1 } }
    if r1.words ≤ r1.got.length then endRemote (codeOf r1.code) s1 else s1

/-- READ_RSP completes the read it answers. -/
def readRspTake (b : List Nat) (s : State) : State :=
  let q := bytesNat (b.take 2)
  let n := b.getD 3 0
  let ws := (List.range n).map (fun i => bytesWord ((b.drop (4 + 4 * i)).take 4))
  match waitsFor s 6 q with
  | none => s
  | some m =>
    let s1 := dropAsked q s
    match m.dma, m.port with
    | some k, _ => dmaAnswer k (b.getD 2 0) ws s1
    | none, some .host => hostWords (b.getD 2 0) ws s1
    | none, _ => s1

/-- A clear of the active's latches that the standby refuses with TRIP_PERSIST is refused here too: what the twin still shows latched
latches again (R365). -/
def clearRefused (m : TwinMsg) (s : State) : State :=
  let e := writeEntry m.bulk 0
  if e.1 = ProtSrc.SRC_CLR0 ∨ e.1 = ProtSrc.SRC_CLR1 then
    let l := (clrSources (decide (e.1 = ProtSrc.SRC_CLR1)) e.2).filter (fun n => decide (s.twin.peerLatch / 2 ^ n % 2 = 1 ∧ n < 48))
    let s1 := l.foldl (fun t n => latchSource n 0 [] t) s
    match m.port with
    | some p => recordRefusal p e.1 .tripPersist s1
    | none => s1
  else s

/-- A profile that the follower refuses is refused at the master too: both run one profile (R27). -/
def profileRefused (m : TwinMsg) (code : Nat) (s : State) : State :=
  if twinState s = 4 ∧ m.addr = Cle.CTRL ∧ code ≠ 0 then
    recordRefusal (m.port.getD .host) Cle.CTRL (codeOf code)
      ((s.wr Cle.CTRL (word s.cle.profile)).wrB (hSTATUS Cle.page) 0 false)
  else s

/-- A word of the host's write is acknowledged: the next goes out, or RESULT has its answer. -/
def hostAck (c : RefCode) (s : State) : State :=
  match s.twin.write with
  | none => s
  | some w => if c = .none then sendWord { w with count := w.count + 1 } s else endRemote c s

/-- An attaching active is attached once its copy has been acknowledged, and fails where it was refused (R358). -/
def attachAck (m : TwinMsg) (code : Nat) (s : State) : State :=
  if !m.copy ∨ twinState s ≠ 1 ∨ s.twin.step ≠ 3 then s
  else if code ≠ 0 then attachFail 7 s
  else if copyPending s then s
  else attached 2 s

/-- ACK completes the write it answers. -/
def ackTake (b : List Nat) (s : State) : State :=
  let q := bytesNat (b.take 2)
  let code := b.getD 2 0
  match waitsFor s 5 q with
  | none => s
  | some m =>
    let s1 := dropAsked q s
    if m.fwd then attachAck m code (profileRefused m code (if code = 8 then clearRefused m s1 else s1))
    else
      match m.dma, m.port with
      | some k, _ => dmaAnswer k code [] s1
      | none, some .host => hostAck (codeOf code) s1
      | none, _ => s1

/-- A message without an answer for 1 µs goes out again with the same MSEQ. -/
def retransmit (q : Nat) (s : State) : State :=
  match s.twin.asked.find? (fun m => decide (m.mseq = q)) with
  | none => s
  | some m =>
    if s.twin.queue.any (fun x => decide (x.mseq = q ∧ (x.kind = 5 ∨ x.kind = 6))) then s
    else ((twinSend { m with again := true } (s.reach (m.sentAt + 800))).incL TwinTel.RETRIES)

/-! ### Meanings -/

/-- WRITE (R363): BULK, what its writes meet outside the registers, and whether it belongs to a configuration copy. -/
def execTwinWrite (body : List Nat) (env : WriteEnv) (copy : Bool) (s : State) : Out := .next (twinWriteTake copy env body s)

/-- READ_REQ (R372). -/
def execTwinReadReq (body : List Nat) (s : State) : Out := .next (readReqTake body s)

/-- READ_RSP (R372). -/
def execTwinReadRsp (body : List Nat) (s : State) : Out := .next (readRspTake body s)

/-- ACK (R372). -/
def execTwinAck (body : List Nat) (s : State) : Out := .next (ackTake body s)

/-- MESSAGE_RETRANSMIT (R356) of the message numbered `mseq`. -/
def execMessageRetransmit (mseq : Nat) (s : State) : Out := .next (retransmit mseq s)

end Sys2Proof.Machine
end

