-- ==== Sys2Proof/Machine/Dma.lean ====
section
/-! DEFINITION. The DMA engine at work (R406-R412): the accesses of a run one by one, snapshot records, completion and errors. -/

namespace Sys2Proof.Machine

/-- The answer to an access: the refusal code and the bytes read. -/
abbrev DmaAnswer := Nat × List Word

/-! ### Accesses -/

/-- Bytes of a word from byte `i` on, `n` of them; byte 0 is the most significant. -/
def wordPart (w : Word) (i n : Nat) : List Nat := ((wordBytes w).drop i).take n

/-- The word with `l` in place of its bytes from `i` on. -/
def wordWith (w : Word) (i : Nat) (l : List Nat) : Word := bytesWord ((wordBytes w).take i ++ l ++ (wordBytes w).drop (i + l.length))

/-- A read of this device by channel `k`: `n` words from the word that holds `a`. -/
def dmaReadHere (k : Nat) (a : Int) (n : Nat) (s : State) : DmaAnswer × State :=
  if a < 0 ∨ 0x1000000 ≤ a then ((RefCode.outOfRange.num, []), s)
  else
    let r := readWords (.dmaChan k) n (a.toNat / 4 * 4) s
    ((r.1.2.num, r.1.1), r.2)

/-- A write of this device: whole words, or a part of one in a window. Refusals are recorded with PORT 1. -/
def dmaWriteHere (e : WriteEnv) (a : Int) (w : Nat) (l : List Word) (s : State) : DmaAnswer × State :=
  if a < 0 ∨ 0x1000000 ≤ a then ((RefCode.outOfRange.num, []), s.refuseAt HostP.page .dma .outOfRange (a % 4096).toNat)
  else
    let b := a.toNat
    let ws := if w < 4 then [wordWith (viewWord (b / 4 * 4) s) (b % 4) ((wordBytes (l.getD 0 0)).drop (4 - w))] else l
    let r := writeWords .dma e ws (b / 4 * 4) s
    let c := r.1.2
    ((c.num, []), if c = .none then r.2 else recordRefusal .dma (b / 4 * 4 + 4 * r.1.1) c r.2)

/-- The outstanding access of channel `k` is answered: here at once; from the twin once its answer has come; a fence reads nothing. -/
def dmaPerform (k : Nat) (e : WriteEnv) (r : DmaRun) (s : State) : Option (DmaAnswer × State) :=
  match r.access with
  | none => some ((0, []), s)
  | some (w, a) =>
    if r.asked then r.answer.map (fun x => (x, s))
    else if w then some (dmaWriteHere e a (if r.phase = .take ∨ r.snap then 4 else r.dw) r.wordsOut s)
    else if r.phase = .genAfter then
      (let g := dmaReadHere k a 1 s
       some ((g.1.1, g.1.2 ++ [viewWord (hAGE r.page) g.2]), g.2))
    else some (dmaReadHere k a (if r.phase = .read ∧ r.sw = 8 then 2 else 1) s)

/-! ### Ends (R405, R409-R413) -/

/-- The descriptor has completed: the run goes on at NEXT, or ends in success. A refusal that comes after completion shows in POSTED_ERR. -/
def dmaComplete (k : Nat) (r : DmaRun) (s0 : State) : State :=
  let s1 := s0.wr (DmaCh.CH_COUNT k) (word r.count)
  let s2 := if r.snap then s1.wr (DmaCh.CH_SGEN k) (word r.gen) else s1
  let s3 := if r.posted then
      (let t := dmaLevels (s2.wrB (DmaCh.CH_STAT k) 4 true)
       t.emit .fault DmaCh.page 17 k (t.rd (DmaCh.CH_STAT k)))
    else s2
  let link := bit (r.word 0) 4
  let s4 := if bit (r.word 0) 5 || !link then s3.pulse Dma.page k else s3
  if link then
    (if r.abort then dmaFail k 7 0 s4 else dmaLoad k (fld (r.word 0) 14 8) false (locksExpire (putDma k none s4)))
  else
    let again := s4.rdB (DmaCh.CH_CFG k) 14
    locksExpire (dmaLevels (putDma k none (incWord (DmaCh.CH_RUNS k) (s4.wrF (DmaCh.CH_STAT k) 2 0 (if again then 1 else 3)))))

/-- The access is done and `r` is what follows: the next access, the fence after the last write in normal mode, or the end. An ABORT ends
the run here. -/
def dmaOnward (k : Nat) (r : DmaRun) (s : State) : State :=
  if r.abort then dmaFail k 7 0 (putDma k (some r) s)
  else
    match r.next with
    | some p =>
      let q : DmaRun := { r with phase := p }
      dmaIssue k q.wordsOut q s
    | none => if r.strict then dmaComplete k r s else dmaIssue k [] { r with phase := .fence } s

/-- The record of a snapshot transfer (R408, R396, R398). -/
def dmaRecord (k : Nat) (r : DmaRun) (gen age : Word) (s : State) : List Word :=
  let g := fld gen 23 0
  let stale := decide (g = 0) || bit gen 27
  let rep := decide (word g = s.rd (DmaCh.CH_SGEN k))
  let head := recordHead 1 (bitN stale + 2 * bitN rep) r.page (fld (r.word 1) 11 0) r.buf.length (0x80 + k) g age.toNat
  ((List.range 4).map (fun i => bytesWord ((head.drop (4 * i)).take 4))) ++ r.buf.map (fun w => if stale then 0x7FA00000 else w)

/-! ### The answer to an access (R406-R412) -/

/-- The second SNAP_GEN read: the words count where both show one GEN; else they are read again, three times at most. -/
def dmaGenAfter (k : Nat) (r : DmaRun) (gen age : Word) (s : State) : State :=
  if fld gen 23 0 = r.gen then
    dmaOnward k { r with out' := dmaRecord k r gen age s } s
  else if 3 ≤ r.tries then dmaFail k 5 0 (putDma k (some r) s)
  else if r.abort then dmaFail k 7 0 (putDma k (some r) s)
  else dmaIssue k [] { r with phase := .genBefore, tries := r.tries + 1, reads := 0, buf := [] } s

/-- A source element has been read: its bytes join those held, or its word the record. -/
def dmaTaken (r : DmaRun) (ws : List Word) : DmaRun :=
  if r.snap then { r with reads := r.reads + 1, buf := r.buf ++ ws }
  else
    let i := (r.addr false r.reads).toNat % 4
    let l := if r.sw < 4 then wordPart (ws.getD 0 0) i r.sw else wordsBytes ws
    { r with reads := r.reads + 1, hold := r.hold ++ l }

/-- A snapshot's words are all read when the loops have run. -/
def dmaAllRead (r : DmaRun) : Bool := decide (r.reads = r.c0 * r.c1 * r.c2)

/-- A destination element has been applied. -/
def dmaPut (r : DmaRun) : DmaRun := { r with writes := r.writes + 1, count := r.count + 1, hold := r.hold.drop r.dw }

/-- May a refused write be answered after completion: in normal mode, in another block region than the last write (R409, R410)? -/
def dmaMayPost (r : DmaRun) (a : Int) : Bool :=
  !r.strict && !r.snap && decide (r.writes + 1 < r.total) && decide (blockOf (a.toNat / 4096) ≠ blockOf ((r.addr true (r.total - 1)).toNat / 4096))

/-- What follows an answer. -/
def dmaStep (k : Nat) (late : Bool) (r : DmaRun) (x : DmaAnswer) (s : State) : State :=
  let fail (err : Nat) : State := dmaFail k err x.1 (putDma k (some r) s)
  match r.phase with
  | .take => if x.1 ≠ 0 then fail 3 else if r.abort then dmaFail k 7 0 s else dmaIssue k [] { r with phase := .ready } s
  | .ready =>
    if x.1 ≠ 0 then fail 2
    else if r.abort then dmaFail k 7 0 s
    else dmaIssue k [] { r with phase := if bit (x.2.getD 0 0) 24 then .genBefore else .ready } s
  | .genBefore =>
    if x.1 ≠ 0 then fail 2
    else if r.abort then dmaFail k 7 0 s
    else dmaIssue k [] { r with phase := .read, gen := fld (x.2.getD 0 0) 23 0 } s
  | .read =>
    if x.1 ≠ 0 then fail 2
    else
      let q := dmaTaken r x.2
      if !r.snap then dmaOnward k q s
      else if r.abort then dmaFail k 7 0 s
      else dmaIssue k [] { q with phase := if dmaAllRead q then .genAfter else .read } s
  | .genAfter => if x.1 ≠ 0 then fail 2 else dmaGenAfter k r (x.2.getD 0 0) (x.2.getD 1 0) s
  | .write =>
    if x.1 = 0 then dmaOnward k (dmaPut r) s
    else if r.writes + 1 = r.total then fail 4
    else if late ∧ dmaMayPost r (r.addr true r.writes) then dmaOnward k { dmaPut r with posted := true } s
    else fail 3
  | .fence => if r.abort then dmaFail k 7 0 (putDma k (some r) s) else dmaComplete k r s

/-! ### Words of one descriptor that land together (R112, R213) -/

/-- Do all words of one descriptor for this address land in one cycle: a context record, a timebase, a group with its channels? -/
def landsTogether (a : Int) : Bool :=
  decide (0xA0000 ≤ a ∧ a < 0xC0000) || decide (0x140000 ≤ a ∧ a < 0x143000)

/-- Does the write of the run wait for the others of its descriptor? Once one waits, all later ones of the descriptor do. -/
def dmaHolds (r : DmaRun) : Bool :=
  decide (r.phase = .write) && !r.asked &&
    (match r.access with
      | some (_, a) => !r.batch.isEmpty || landsTogether a
      | none => false)

/-- The writes that waited, in order, up to the first that is refused: how many landed, and the code. -/
def dmaLand (e : WriteEnv) : List (Int × Nat × List Word) → State → (Nat × Nat) × State
  | [], s => ((0, 0), s)
  | (a, w, l) :: rest, s =>
    let x := dmaWriteHere e a w l s
    if x.1.1 = 0 then
      (let y := dmaLand e rest x.2
       ((y.1.1 + 1, y.1.2), y.2))
    else ((0, x.1.1), x.2)

/-- A write that waits joins the batch; with the descriptor's last element the whole batch lands, in one cycle. -/
def dmaBatch (k : Nat) (e : WriteEnv) (r : DmaRun) (s : State) : State :=
  match r.access with
  | none => s
  | some (_, a) =>
    let q : DmaRun := { dmaPut r with count := r.count, batch := r.batch ++ [(a, if r.snap then 4 else r.dw, r.wordsOut)] }
    if q.writes < r.total then dmaOnward k q s
    else
      let x := dmaLand e q.batch s
      let done : DmaRun := { q with batch := [], count := r.count + x.1.1 }
      if x.1.2 = 0 then dmaOnward k done x.2
      else dmaFail k (if x.1.1 + 1 = q.batch.length then 4 else 3) x.1.2 (putDma k (some done) x.2)

/-- DMA_ACCESS_ANSWERED: the outstanding access of channel `k` is applied and answered; `late` where a refusal comes after completion. -/
def dmaAnswered (k : Nat) (late : Bool) (e : WriteEnv) (s : State) : State :=
  match dmaRunOf s k with
  | none => s
  | some r =>
    if dmaHolds r then dmaBatch k e r s else
    match dmaPerform k e r s with
    | none => s
    | some (x, t) =>
      match dmaRunOf t k with
      | none => t
      | some q => dmaStep k late { r with abort := q.abort } x t

/-- DMA_ACCESS_TIMEOUT: no answer within 100 µs. -/
def dmaTimeout (k : Nat) (s : State) : State :=
  match dmaRunOf s k with
  | none => s
  | some r => dmaFail k 6 0 (s.reach (r.at_ + 80000))

/-! ### Meanings -/

/-- DMA_START (R405). -/
def execDmaStart (port : Port) (k : Nat) (s : State) : Out :=
  replied (gated port (DmaCh.CH_CMD (k % 16)) 1 (dmaCmdWrite (k % 16) 1) s)

/-- DMA_ABORT (R405). -/
def execDmaAbort (port : Port) (k : Nat) (s : State) : Out :=
  replied (gated port (DmaCh.CH_CMD (k % 16)) 2 (dmaCmdWrite (k % 16) 2) s)

/-- DMA_ACCESS_ANSWERED (R411). -/
def execDmaAccessAnswered (k : Nat) (late : Bool) (env : WriteEnv) (s : State) : Out := .next (dmaAnswered k late env s)

/-- DMA_ACCESS_TIMEOUT (R411). -/
def execDmaAccessTimeout (k : Nat) (s : State) : Out := .next (dmaTimeout k s)

end Sys2Proof.Machine
end

