-- ==== Sys2Proof/Machine/Bringup.lean ====
section
/-! DEFINITION. Power, bring-up and clocks (R59-R79): rails, nRST, the states of bring-up with the limits of R64, RECOVERY and FAIL, the
entry to SERVICE, and the mutual clock watch. -/

namespace Sys2Proof.Machine

/-! ### States of bring-up (R64, R68, R69) -/

/-- Bring-up leaves its state for `st`; time in REF_WAIT does not count for BU_TIME. -/
def goPhase (st : Nat) (s : State) : State :=
  let d := if s.phase = 3 then 0 else s.now - s.bu.since
  { s.wrF Bup.STATE 3 0 st with bu := { s.bu with since := s.now, spent := s.bu.spent + d } }

/-- Bring-up fails in its present state with a code; IRQ_RAW.FAIL rises. -/
def buFail (code : Nat) (s : State) : State :=
  (goPhase 15 (s.wr Bup.FAIL (word (s.phase + at' code 8)))).raw Bup.page 2 true

/-- The present state ends `dt` cycles on, and at most `limit` after it was entered. -/
def buEnd (dt limit : Nat) (s : State) : State := s.reach (min (s.now + dt) (s.bu.since + limit))

/-- Milliseconds in cycles. -/
def msOf (n : Nat) : Nat := n * 800000

/-! ### Rails and nRST (R59, R60, R62) -/

/-- VCORE, VANA or VAUX18: bit of `RST_CAUSE`. -/
def railCause (k : Nat) : Nat := if k = 0 then 1 else if k = 2 then 2 else 3

/-- BROWN_OUT of the rails `l`: 0 VCORE, 1 VIO, 2 VANA, 3 VAUX18, 4 the island's 1.1 V. A rail that is low already does not fall again. The
island's regulator resets the island alone, so the control path's outputs are not held for it. -/
def brownOut (l : List Nat) (s : State) : State :=
  let fell (k : Nat) : Bool := l.contains k && !s.bu.railsLow.contains k
  let low := (List.range 5).filter (fun k => l.contains k || s.bu.railsLow.contains k)
  let main := [0, 2, 3].filter fell
  if fell 1 then powerOn low s
  else
    let s1 : State := if main.isEmpty then s else
      (let t := sysReset (main.map railCause) s
       { t with bu := { t.bu with padHold := true } })
    let s2 := if fell 4 then islandReset 2 10 s1 else s1
    { s2 with bu := { s2.bu with railsLow := low } }

/-- RAIL_RELEASE of rail `k`: once the last has risen, SUPPLY_CHECK begins and the pads are released. The island's self-test begins when its
own rail has risen (R63). -/
def railRelease (k : Nat) (s : State) : State :=
  if !s.bu.railsLow.contains k then s
  else
    let low := s.bu.railsLow.filter (fun r => decide (r ≠ k))
    let s1 : State := { s with bu := { s.bu with railsLow := low } }
    let s2 : State := if k = 4 ∧ s1.isl.restart.isSome then { s1 with isl := { s1.isl with restartAt := s1.now } } else s1
    if low.isEmpty then
      { s2 with bu := { s2.bu with padHold := false, since := if s2.phase = 1 then s2.now else s2.bu.since } }
    else s2

/-- NRST_ASSERT: a system reset, and the way out of OFF (R474). -/
def nrstAssert (s : State) : State :=
  let t := sysReset [4] s
  { t with bu := { t.bu with padHold := t.bu.padHold && !t.bu.railsLow.isEmpty } }

/-! ### The steps of bring-up (R64) -/

/-- SUPPLY_CHECK_DONE: every rail above release, no TAP instruction that holds (R466), not OFF (R474). -/
def supplyCheckDone (dt : Nat) (s : State) : State :=
  if s.phase = 1 ∧ s.bu.railsLow.isEmpty ∧ !s.bu.tapHold ∧ pwrState s ≠ 3 then goPhase 2 (buEnd dt (msOf 1) s) else s

/-- FUSE_LOAD_DONE: the IRQ pins drive from here on (R65). -/
def fuseLoadDone (ok : Bool) (dt : Nat) (s : State) : State :=
  if s.phase ≠ 2 then s
  else
    let s1 := buEnd dt (msOf 2) s
    let s2 : State := { s1 with bu := { s1.bu with irqDrive := true } }
    if ok then goPhase 3 s2 else buFail 2 s2

/-- REF_EDGES_PRESENT, `dt` cycles on: PLL_LOCK starts with PLL_TRIES 0 (R67). -/
def refEdges (dt : Nat) (s : State) : State :=
  if s.phase ≠ 3 then s
  else
    let s1 := s.reach (s.now + dt)
    let s2 : State := { s1 with bu := { s1.bu with refPresent := true } }
    goPhase 4 ((s2.wrF Bup.STATE 9 8 0).wr Clk.PLL_STATUS 2)

/-- Lock attempts used so far. -/
def pllTries (s : State) : Nat := s.rdF Bup.STATE 9 8

/-- PLL_LOCKED within the present attempt: the fabric leaves the bring-up oscillator. -/
def pllLocked (dt : Nat) (s : State) : State :=
  if s.phase ≠ 4 then s
  else
    let s1 := buEnd dt (msOf (pllTries s + 1)) s
    goPhase 5 (((s1.wrF Bup.STATE 9 8 (pllTries s + 1)).wrB Bup.STATE 4 false).wr Clk.PLL_STATUS 3)

/-- PLL_ATTEMPT_TIMEOUT: 1 ms without lock; the third gives FAIL 0x01. -/
def pllTimeout (s : State) : State :=
  if s.phase ≠ 4 then s
  else
    let n := pllTries s + 1
    let s1 := (s.reach (s.bu.since + msOf n)).wrF Bup.STATE 9 8 n
    if 3 ≤ n then buFail 1 s1 else s1

/-- MEM_REPAIR_DONE with `soft` soft repairs and the least number of spares left in any instance; `ok` where every memory was repaired
(R428). -/
def memRepairDone (ok : Bool) (soft least dt : Nat) (s : State) : State :=
  if s.phase ≠ 5 then s
  else
    let s1 := buEnd dt (msOf 20) s
    let s2 := (s1.wrF Bist.REPAIR_STAT 7 0 soft).wrF Bist.REPAIR_STAT 23 16 least
    if ok then goPhase 6 s2 else buFail 3 s2

/-- Lock-out causes with which an island starts at ISLAND_START: those of a pending restart, and ISLAND_POWER after a power-on where a
committed set exists (R321). -/
def startCauses (s : State) : Nat :=
  match s.isl.restart with
  | some m => m
  | none => if s.isl.setExists then 4 else 0

/-- ISLAND_START_DONE, with the island's rail up: both watches run, and the island notes resets from here on (R71, R75). -/
def islandStartDone (bad : Bool) (dt : Nat) (s : State) : State :=
  if s.phase ≠ 6 ∨ s.bu.railsLow.contains 4 then s
  else
    let s1 := buEnd dt (msOf 10) s
    if bad then buFail 4 s1
    else
      let s2 := if s1.isl.run then s1 else islandBegin (startCauses s1) false s1
      goPhase 7 { s2 with bu := { s2.bu with
        islWatch := true, islWinAt := s2.now, islFails := 0, rootWatch := true, rootWinAt := s2.now, rootFails := 0, rootReacted := false
        islNotes := true } }

/-- IMAGE_SELECT: a slot is booted and PAGE_INIT begins with the Breeze round, or RECOVERY follows (R64, R67, R452). -/
def imageSelect (dt : Nat) (s : State) : State :=
  if s.phase ≠ 7 then s
  else
    let s1 := bootLoad (buEnd dt (msOf 40) s)
    let r := bootSelect (onlyPower s1) s1
    match r.1 with
    | some _ =>
      let t := goPhase 8 r.2
      { t with therm := { t.therm with run := true, slot := 0, slotAt := t.now } }
    | none =>
      let t := (goPhase 10 r.2).raw Bup.page 1 true
      { t with bu := { t.bu with initAt := t.now } }

/-! ### The entry to SERVICE (R65, R66, R68, R71) -/

/-- The SAFETY events of the resets the island holds, ahead of every other event; those it could not hold are lost. DESIGN CHOICE: a lost
record joins the non-volatile queue with CODE 0xFF and the time of the entry to SERVICE, since its cause and time are not held. -/
def writeNotes (s : State) : State :=
  let l : List Event := s.bu.notes.map (fun n =>
    { cls := .safety, page := Bup.page, code := 0x20 + n.cause, obj := 0, detail := statusWord s Bup.page, at_ := n.at_, tick := 0, marker := false })
  let gone : EvEntry := { cls := .safety, page := Bup.page, code := 0xFF, obj := 0, detail := statusWord s Bup.page, at_ := s.now, tick := 0 }
  let s1 : State := { s with evq := l ++ s.evq }
  let s2 := (List.range s1.bu.notesLost).foldl (fun t _ => evLose gone t) s1
  { s2 with bu := { s2.bu with notes := [], notesLost := 0 } }

/-- One FAULT event for each bit of `RST_CAUSE`. -/
def causeEvents (s : State) : State :=
  (List.range 19).foldl (fun t i => if s.rdB Bup.RST_CAUSE i then emitPage .fault Bup.page (0x20 + i) 0 t else t) s

/-- PAGE_INIT_DONE. DESIGN CHOICE: BU_TIME is written here alone; a bring-up that ends in RECOVERY or FAIL leaves it. -/
def pageInitDone (dt : Nat) (s : State) : State :=
  if s.phase ≠ 8 then s
  else
    let s1 := goPhase 9 (buEnd dt (msOf 1) s)
    let s2 := (clearErr HostP.page s1).1.wr Bup.BU_TIME (word (s1.bu.spent / 800))
    let s3 : State := { s2 with bu := { s2.bu with tick0 := s2.now, epoch := 0, initAt := s2.now } }
    let s4 := thermLevels (safeShow (updRef 1 (updRef 0 s3)))
    let s5 := (causeEvents (writeNotes s4)).raw Bup.page 0 true
    let s6 := if s5.rdF Bist.REPAIR_STAT 7 0 ≠ 0 then s5.pulse Bist.page 4 else s5
    if s6.rdB Therm.THR_STAT 12 then shutdownForces s6 else s6

/-- ISLAND_SELF_TEST_DONE: the restart of an island reset ends within 10 ms (R63); in bring-up up to ISLAND_START that state ends it. It does not
run while the island's rail is low (R60). -/
def islandSelfTestDone (bad : Bool) (dt : Nat) (s : State) : State :=
  match s.isl.restart with
  | none => s
  | some m =>
    if s.phase < 7 ∨ s.phase = 15 ∨ s.bu.railsLow.contains 4 then s
    else islandBegin m bad (s.reach (min (s.now + dt) (s.isl.restartAt + msOf 10)))

/-! ### Clock faults (R75, R76) -/

/-- Does the root PLL clock the device? -/
def onPll (s : State) : Bool := !s.rdB Bup.STATE 4

/-- ALL_OFF on every position. -/
def allOff (s : State) : State := allOffFrames (List.range 36) false s

/-- REF_LOSS: in PLL_LOCK the attempt is abandoned; once the PLL runs, all-off and a system reset. -/
def refLoss (s : State) : State :=
  if s.phase = 4 then
    let s1 := (goPhase 3 s).wr Clk.PLL_STATUS 0
    { s1 with bu := { s1.bu with refPresent := false } }
  else if onPll s then sysReset [6] (allOff (s.tick 160))
  else s

/-- PLL_UNLOCK with the reference present. -/
def pllUnlock (s : State) : State := if onPll s then sysReset [7] (allOff s) else s

/-- The root domain finds the island clock failed: Squall source 48, island reset with lock-out CLOCK. -/
def rootReact (s : State) : State :=
  if s.bu.rootReacted then s
  else
    let s1 : State := { s with bu := { s.bu with rootReacted := true } }
    islandReset 1 9 (if s1.inService then latchSource 48 0 [] s1 else s1)

/-- The island finds the root clock failed: outputs off, a system reset, lock-out CLOCK. -/
def islReact (s : State) : State :=
  if s.bu.islReacted then s
  else lockOut 1 (sysReset [8] { s with bu := { s.bu with islReacted := true } })

/-- WATCH_WARN stands while the last window of either watch failed (R73, R76). -/
def watchWarn (s : State) : State := s.raw Clk.page 0 (s.rdB Clk.WATCH_ISL 16 || s.rdB Clk.WATCH_ROOT 17)

/-- ROOT_WATCH_WINDOW_END with the island cycles counted. -/
def rootWindow (count : Nat) (s : State) : State :=
  if !s.bu.rootWatch then s
  else
    let s1 := s.reach (s.bu.rootWinAt + 800000)
    let bad := decide (count < 29440 ∨ 34560 < count)
    let s2 := s1.wr Clk.WATCH_ISL (word (count % 65536 + at' (bitN bad) 16))
    let n := if bad then s2.bu.rootFails + 1 else 0
    let s3 : State := { s2 with bu := { s2.bu with rootWinAt := s2.now, rootFails := n, rootReacted := bad && s2.bu.rootReacted } }
    let s4 := watchWarn s3
    if 2 ≤ n then rootReact s4 else s4

/-- ISLAND_WATCH_WINDOW_END with the CLK_PER cycles counted. -/
def islWindow (count : Nat) (s : State) : State :=
  if !s.bu.islWatch then s
  else
    let s1 := s.reach (s.bu.islWinAt + 800000)
    let bad := decide (count < 92000 ∨ 108000 < count)
    let s2 := s1.wr Clk.WATCH_ROOT (word (count % 131072 + at' (bitN bad) 17))
    let n := if bad then s2.bu.islFails + 1 else 0
    let s3 : State := { s2 with bu := { s2.bu with islWinAt := s2.now, islFails := n, islReacted := bad && s2.bu.islReacted } }
    let s4 := watchWarn s3
    if 2 ≤ n then islReact s4 else s4

/-- PARTNER_CLOCK_STOPPED: 1 µs without an edge, seen by the root domain (`root`) or by the island. -/
def clockStopped (root : Bool) (s : State) : State :=
  if root then (if s.bu.rootWatch then rootReact (s.tick 800) else s)
  else if s.bu.islWatch then islReact (s.tick 800) else s

/-! ### Meanings -/

/-- POWER_ON_RESET (R62): a first power-up. -/
def execPowerOnReset (s : State) : Out := .next (powerOn [0, 1, 2, 3, 4] s)

/-- BROWN_OUT (R60). -/
def execBrownOut (rails : List Nat) (s : State) : Out := .next (brownOut rails s)

/-- RAIL_RELEASE (R60). -/
def execRailRelease (k : Nat) (s : State) : Out := .next (railRelease k s)

/-- NRST_ASSERT (R62). -/
def execNrstAssert (s : State) : Out := .next (nrstAssert s)

/-- SUPPLY_CHECK_DONE (R64). -/
def execSupplyCheckDone (dt : Nat) (s : State) : Out := .next (supplyCheckDone dt s)

/-- FUSE_LOAD_DONE (R64). -/
def execFuseLoadDone (ok : Bool) (dt : Nat) (s : State) : Out := .next (fuseLoadDone ok dt s)

/-- REF_EDGES_PRESENT (R67). -/
def execRefEdgesPresent (dt : Nat) (s : State) : Out := .next (refEdges dt s)

/-- PLL_LOCKED (R64). -/
def execPllLocked (dt : Nat) (s : State) : Out := .next (pllLocked dt s)

/-- PLL_ATTEMPT_TIMEOUT (R64). -/
def execPllAttemptTimeout (s : State) : Out := .next (pllTimeout s)

/-- MEM_REPAIR_DONE (R428). -/
def execMemRepairDone (ok : Bool) (soft least dt : Nat) (s : State) : Out := .next (memRepairDone ok soft least dt s)

/-- ISLAND_START_DONE (R64). -/
def execIslandStartDone (bad : Bool) (dt : Nat) (s : State) : Out := .next (islandStartDone bad dt s)

/-- IMAGE_SELECT (R452). -/
def execImageSelect (dt : Nat) (s : State) : Out := .next (imageSelect dt s)

/-- PAGE_INIT_DONE (R66). -/
def execPageInitDone (dt : Nat) (s : State) : Out := .next (pageInitDone dt s)

/-- ISLAND_SELF_TEST_DONE (R63). -/
def execIslandSelfTestDone (bad : Bool) (dt : Nat) (s : State) : Out := .next (islandSelfTestDone bad dt s)

/-- ROOT_WATCH_WINDOW_END (R75). -/
def execRootWatchWindowEnd (count : Nat) (s : State) : Out := .next (rootWindow count s)

/-- ISLAND_WATCH_WINDOW_END (R75). -/
def execIslandWatchWindowEnd (count : Nat) (s : State) : Out := .next (islWindow count s)

/-- PARTNER_CLOCK_STOPPED (R75). -/
def execPartnerClockStopped (root : Bool) (s : State) : Out := .next (clockStopped root s)

/-- REF_LOSS (R76). -/
def execRefLoss (s : State) : Out := .next (refLoss s)

/-- PLL_UNLOCK (R76). -/
def execPllUnlock (s : State) : Out := .next (pllUnlock s)

end Sys2Proof.Machine
end

