-- ==== Sys2Proof/Machine/Epoch.lean ====
section
/-! DEFINITION. The 1 ms epoch of the engine (R110): everything that happens at it. -/

namespace Sys2Proof.Machine

/-- The next epoch has come. -/
def epochReached (s : State) : State :=
  let t := s.reach (s.ofTick (nextEpoch s))
  { t with bu := { t.bu with epoch := t.bu.epoch + 1 } }

/-- SCHEDULER_EPOCH: the profile and the CFG_CRC check (R26, R122), DMA triggers (R405), the PTP capture (R393), HELLO and the configuration
CRC (R363), handover steps (R453), and a pending SLEEP (R473). In RECOVERY, without an engine, the device asks for service at least once
a millisecond (R360). -/
def epoch (s : State) : State :=
  if s.inService then pwrEpoch (fwEpoch (twinEpoch (ptpEpoch (dmaTrigger 9 (cleEpoch (epochReached s))))))
  else if s.phase = 10 then twinEpoch (s.reach (s.now + 800000))
  else s

/-- SCHEDULER_EPOCH (R110). -/
def execSchedulerEpoch (s : State) : Out := .next (epoch s)

end Sys2Proof.Machine
end

