-- ==== Sys2Proof/Machine/Dispatch.lean ====
section
/-! DEFINITION. One arm per command: a direct call of its meaning. -/

namespace Sys2Proof.Machine

/-- What a command does to everything but the queue. -/
def exec (i : Instr) (s : State) : Host.Outcome State Fault Refusal :=
  match i with
  | .registerWrite port a v env => Sys2Proof.Machine.execRegisterWrite port a v env s
  | .lockWrite port p v => Sys2Proof.Machine.execLockWrite port p v s
  | .lockExpiry p => Sys2Proof.Machine.execLockExpiry p s
  | .errinfoClear port p v => Sys2Proof.Machine.execErrinfoClear port p v s
  | .irqPendClear port p v again => Sys2Proof.Machine.execIrqPendClear port p v again s
  | .irqEnWrite port p v => Sys2Proof.Machine.execIrqEnWrite port p v s
  | .snapshotTake port p v => Sys2Proof.Machine.execSnapshotTake port p v s
  | .autoSnapshot p => Sys2Proof.Machine.execAutoSnapshot p s
  | .snapshotCopyDone p dt => Sys2Proof.Machine.execSnapshotCopyDone p dt s
  | .doldrumsSet p => Sys2Proof.Machine.execDoldrumsSet p s
  | .snapGenRead reader p => Sys2Proof.Machine.execSnapGenRead reader p s
  | .hostRead bytes drive => Sys2Proof.Machine.execHostRead bytes drive s
  | .hostWrite bytes drive env => Sys2Proof.Machine.execHostWrite bytes drive env s
  | .hostResult bytes fast early => Sys2Proof.Machine.execHostResult bytes fast early s
  | .powerOnReset => Sys2Proof.Machine.execPowerOnReset s
  | .brownOut rails => Sys2Proof.Machine.execBrownOut rails s
  | .railRelease k => Sys2Proof.Machine.execRailRelease k s
  | .nrstAssert => Sys2Proof.Machine.execNrstAssert s
  | .swrstSystem port => Sys2Proof.Machine.execSwrstSystem port s
  | .swrstSupervisor port => Sys2Proof.Machine.execSwrstSupervisor port s
  | .tykorLockstepMismatch => Sys2Proof.Machine.execTykorLockstepMismatch s
  | .supervisorWatchdogExpiry => Sys2Proof.Machine.execSupervisorWatchdogExpiry s
  | .supplyCheckDone dt => Sys2Proof.Machine.execSupplyCheckDone dt s
  | .fuseLoadDone ok dt => Sys2Proof.Machine.execFuseLoadDone ok dt s
  | .refEdgesPresent dt => Sys2Proof.Machine.execRefEdgesPresent dt s
  | .pllLocked dt => Sys2Proof.Machine.execPllLocked dt s
  | .pllAttemptTimeout => Sys2Proof.Machine.execPllAttemptTimeout s
  | .memRepairDone ok soft least dt => Sys2Proof.Machine.execMemRepairDone ok soft least dt s
  | .islandStartDone bad dt => Sys2Proof.Machine.execIslandStartDone bad dt s
  | .imageSelect dt => Sys2Proof.Machine.execImageSelect dt s
  | .pageInitDone dt => Sys2Proof.Machine.execPageInitDone dt s
  | .islandSelfTestDone bad dt => Sys2Proof.Machine.execIslandSelfTestDone bad dt s
  | .rstCauseClear port v => Sys2Proof.Machine.execRstCauseClear port v s
  | .rootWatchWindowEnd count => Sys2Proof.Machine.execRootWatchWindowEnd count s
  | .islandWatchWindowEnd count => Sys2Proof.Machine.execIslandWatchWindowEnd count s
  | .partnerClockStopped root => Sys2Proof.Machine.execPartnerClockStopped root s
  | .refLoss => Sys2Proof.Machine.execRefLoss s
  | .pllUnlock => Sys2Proof.Machine.execPllUnlock s
  | .timebaseTrigger t => Sys2Proof.Machine.execTimebaseTrigger t s
  | .trigSwFire port v checking => Sys2Proof.Machine.execTrigSwFire port v checking s
  | .sarConversionDone levels => Sys2Proof.Machine.execSarConversionDone levels s
  | .sdFilterRelease x c bits => Sys2Proof.Machine.execSdFilterRelease x c bits s
  | .sampleSetRelease => Sys2Proof.Machine.execSampleSetRelease s
  | .sdStuckDetect x c => Sys2Proof.Machine.execSdStuckDetect x c s
  | .sdStuckClear x c => Sys2Proof.Machine.execSdStuckClear x c s
  | .chCfgWrite port x c v => Sys2Proof.Machine.execChCfgWrite port x c v s
  | .refSettleDone x c dt => Sys2Proof.Machine.execRefSettleDone x c dt s
  | .calStart port x v => Sys2Proof.Machine.execCalStart port x v s
  | .calDone x fail => Sys2Proof.Machine.execCalDone x fail s
  | .chOfsWrite port x c v => Sys2Proof.Machine.execChOfsWrite port x c v s
  | .chGainWrite port x c v => Sys2Proof.Machine.execChGainWrite port x c v s
  | .cwPairWrite port k v => Sys2Proof.Machine.execCwPairWrite port k v s
  | .cwReactedClear port k => Sys2Proof.Machine.execCwReactedClear port k s
  | .schedulerEpoch => Sys2Proof.Machine.execSchedulerEpoch s
  | .periodicRelease n => Sys2Proof.Machine.execPeriodicRelease n s
  | .contextDispatch lane seg => Sys2Proof.Machine.execContextDispatch lane seg s
  | .runCommit n => Sys2Proof.Machine.execRunCommit n s
  | .segmentEnd lane seg => Sys2Proof.Machine.execSegmentEnd lane seg s
  | .precomputeDone n => Sys2Proof.Machine.execPrecomputeDone n s
  | .commitDeadlineOverrun n => Sys2Proof.Machine.execCommitDeadlineOverrun n s
  | .triggerTimeoutMiss n => Sys2Proof.Machine.execTriggerTimeoutMiss n s
  | .ctxEnable port n => Sys2Proof.Machine.execCtxEnable port n s
  | .ctxClose port n => Sys2Proof.Machine.execCtxClose port n s
  | .ctxOpen port n => Sys2Proof.Machine.execCtxOpen port n s
  | .ctxDisable port n => Sys2Proof.Machine.execCtxDisable port n s
  | .ctxClear port n => Sys2Proof.Machine.execCtxClear port n s
  | .contextRecordWrite port n o v => Sys2Proof.Machine.execContextRecordWrite port n o v s
  | .profileWrite port v => Sys2Proof.Machine.execProfileWrite port v s
  | .hwResume port g => Sys2Proof.Machine.execHwResume port g s
  | .specCtrlWrite port v => Sys2Proof.Machine.execSpecCtrlWrite port v s
  | .tickLoRead => Sys2Proof.Machine.execTickLoRead s
  | .focUpdate m dt => Sys2Proof.Machine.execFocUpdate m dt s
  | .focStart port m mode hint => Sys2Proof.Machine.execFocStart port m mode hint s
  | .focStop port m => Sys2Proof.Machine.execFocStop port m s
  | .focAsc port m => Sys2Proof.Machine.execFocAsc port m s
  | .focBlock port m => Sys2Proof.Machine.execFocBlock port m s
  | .focRelease port m => Sys2Proof.Machine.execFocRelease port m s
  | .focClear port m => Sys2Proof.Machine.execFocClear port m s
  | .catchWindowEnd m => Sys2Proof.Machine.execCatchWindowEnd m s
  | .syncDwellElapsed m => Sys2Proof.Machine.execSyncDwellElapsed m s
  | .magTimeElapsed m => Sys2Proof.Machine.execMagTimeElapsed m s
  | .torqueInputTimeout m => Sys2Proof.Machine.execTorqueInputTimeout m s
  | .ascSideAlternate m => Sys2Proof.Machine.execAscSideAlternate m s
  | .profileTick ch => Sys2Proof.Machine.execProfileTick ch s
  | .profEnable port ch => Sys2Proof.Machine.execProfEnable port ch s
  | .profMove port ch => Sys2Proof.Machine.execProfMove port ch s
  | .profStop port ch => Sys2Proof.Machine.execProfStop port ch s
  | .profApply port ch imm => Sys2Proof.Machine.execProfApply port ch imm s
  | .profClear port ch => Sys2Proof.Machine.execProfClear port ch s
  | .profDisable port ch => Sys2Proof.Machine.execProfDisable port ch s
  | .profSetPos port ch => Sys2Proof.Machine.execProfSetPos port ch s
  | .lullDwellExpiry ch => Sys2Proof.Machine.execLullDwellExpiry ch s
  | .periodBoundary t => Sys2Proof.Machine.execPeriodBoundary t s
  | .updateEvent t => Sys2Proof.Machine.execUpdateEvent t s
  | .compareEdge g x => Sys2Proof.Machine.execCompareEdge g x s
  | .deadTimeEnd c => Sys2Proof.Machine.execDeadTimeEnd c s
  | .npDwellEnd g x => Sys2Proof.Machine.execNpDwellEnd g x s
  | .tbStart port v => Sys2Proof.Machine.execTbStart port v s
  | .tbStop port v => Sys2Proof.Machine.execTbStop port v s
  | .tbShift port t v => Sys2Proof.Machine.execTbShift port t v s
  | .chForceWrite port c v => Sys2Proof.Machine.execChForceWrite port c v s
  | .grpHoldWrite port g v => Sys2Proof.Machine.execGrpHoldWrite port g v s
  | .tripPinEdge k level sync => Sys2Proof.Machine.execTripPinEdge k level sync s
  | .tripFilterQualified k => Sys2Proof.Machine.execTripFilterQualified k s
  | .tripClr port v => Sys2Proof.Machine.execTripClr port v s
  | .gridFrame => Sys2Proof.Machine.execGridFrame s
  | .uplinkFrame n f rt => Sys2Proof.Machine.execUplinkFrame n f rt s
  | .uplinkMissing n => Sys2Proof.Machine.execUplinkMissing n s
  | .glTrain port n clear => Sys2Proof.Machine.execGlTrain port n clear s
  | .glDrop port n => Sys2Proof.Machine.execGlDrop port n s
  | .trainingDone n dt => Sys2Proof.Machine.execTrainingDone n dt s
  | .driverDownlinkFrame n p f late meas => Sys2Proof.Machine.execDriverDownlinkFrame n p f late meas s
  | .driverFrameMissing n p => Sys2Proof.Machine.execDriverFrameMissing n p s
  | .driverEdgeExecute n => Sys2Proof.Machine.execDriverEdgeExecute n s
  | .driverHoldExpiry n => Sys2Proof.Machine.execDriverHoldExpiry n s
  | .driverPinMismatch n => Sys2Proof.Machine.execDriverPinMismatch n s
  | .driverDesat n present => Sys2Proof.Machine.execDriverDesat n present s
  | .driverPowerUp n => Sys2Proof.Machine.execDriverPowerUp n s
  | .bsuvInput l active => Sys2Proof.Machine.execBsuvInput l active s
  | .bsMaxonExpiry g x => Sys2Proof.Machine.execBsMaxonExpiry g x s
  | .comparatorTrip k code => Sys2Proof.Machine.execComparatorTrip k code s
  | .srcClr port hi v => Sys2Proof.Machine.execSrcClr port hi v s
  | .retryWaitExpiry n => Sys2Proof.Machine.execRetryWaitExpiry n s
  | .lockoutClr port v => Sys2Proof.Machine.execLockoutClr port v s
  | .protArm port v => Sys2Proof.Machine.execProtArm port v s
  | .chopResponseTimeout => Sys2Proof.Machine.execChopResponseTimeout s
  | .chfltInput k active => Sys2Proof.Machine.execChfltInput k active s
  | .escTimeExpiry => Sys2Proof.Machine.execEscTimeExpiry s
  | .escClr port v => Sys2Proof.Machine.execEscClr port v s
  | .dclStaleTimeout => Sys2Proof.Machine.execDclStaleTimeout s
  | .disStart port => Sys2Proof.Machine.execDisStart port s
  | .disStop port => Sys2Proof.Machine.execDisStop port s
  | .disTimeout => Sys2Proof.Machine.execDisTimeout s
  | .kfbOpenTimeout => Sys2Proof.Machine.execKfbOpenTimeout s
  | .islandCycle pins bad => Sys2Proof.Machine.execIslandCycle pins bad s
  | .islandLockstepMismatch => Sys2Proof.Machine.execIslandLockstepMismatch s
  | .testPulse dt => Sys2Proof.Machine.execTestPulse dt s
  | .hostDemandWrite port v => Sys2Proof.Machine.execHostDemandWrite port v s
  | .relCmd port v => Sys2Proof.Machine.execRelCmd port v s
  | .brkReqWrite port v => Sys2Proof.Machine.execBrkReqWrite port v s
  | .loKey port v => Sys2Proof.Machine.execLoKey port v s
  | .loKeyTimeout => Sys2Proof.Machine.execLoKeyTimeout s
  | .pwLogin port len user => Sys2Proof.Machine.execPwLogin port len user s
  | .pwLogout port => Sys2Proof.Machine.execPwLogout port s
  | .pwSet port len user => Sys2Proof.Machine.execPwSet port len user s
  | .sessionTimeout => Sys2Proof.Machine.execSessionTimeout s
  | .loginBlockExpiry => Sys2Proof.Machine.execLoginBlockExpiry s
  | .paramCommit port => Sys2Proof.Machine.execParamCommit port s
  | .paramCommitDone dt => Sys2Proof.Machine.execParamCommitDone dt s
  | .paramDiscard port => Sys2Proof.Machine.execParamDiscard port s
  | .telegramCopyReceived k carrier l => Sys2Proof.Machine.execTelegramCopyReceived k carrier l s
  | .telegramCopyTimeout k => Sys2Proof.Machine.execTelegramCopyTimeout k s
  | .telegramWatchdogExpiry k => Sys2Proof.Machine.execTelegramWatchdogExpiry k s
  | .ss1TimerExpiry g => Sys2Proof.Machine.execSs1TimerExpiry g s
  | .sbcDelayExpiry g => Sys2Proof.Machine.execSbcDelayExpiry g s
  | .ascConfirmTimeout g => Sys2Proof.Machine.execAscConfirmTimeout g s
  | .islandSelfTest bad => Sys2Proof.Machine.execIslandSelfTest bad s
  | .cbCrcCheck => Sys2Proof.Machine.execCbCrcCheck s
  | .paramCrcCheck bad => Sys2Proof.Machine.execParamCrcCheck bad s
  | .guardPeriodExpiry k => Sys2Proof.Machine.execGuardPeriodExpiry k s
  | .proofDue g => Sys2Proof.Machine.execProofDue g s
  | .hkSlotEnd code code2 val => Sys2Proof.Machine.execHkSlotEnd code code2 val s
  | .closingSlot code => Sys2Proof.Machine.execClosingSlot code s
  | .graceExpiry m => Sys2Proof.Machine.execGraceExpiry m s
  | .rearm port v => Sys2Proof.Machine.execRearm port v s
  | .sdAck port v => Sys2Proof.Machine.execSdAck port v s
  | .slotSend => Sys2Proof.Machine.execSlotSend s
  | .slotReceived commas bytes irq => Sys2Proof.Machine.execSlotReceived commas bytes irq s
  | .slotMissing => Sys2Proof.Machine.execSlotMissing s
  | .laneAlignmentLost => Sys2Proof.Machine.execLaneAlignmentLost s
  | .ctxMirror body age late => Sys2Proof.Machine.execCtxMirror body age late s
  | .machMirror body age late => Sys2Proof.Machine.execMachMirror body age late s
  | .profMirror body age late => Sys2Proof.Machine.execProfMirror body age late s
  | .grpMirror body age late => Sys2Proof.Machine.execGrpMirror body age late s
  | .twinWrite body env copy => Sys2Proof.Machine.execTwinWrite body env copy s
  | .twinReadReq body => Sys2Proof.Machine.execTwinReadReq body s
  | .twinReadRsp body => Sys2Proof.Machine.execTwinReadRsp body s
  | .twinAck body => Sys2Proof.Machine.execTwinAck body s
  | .twinHello body delay skew up tbs => Sys2Proof.Machine.execTwinHello body delay skew up tbs s
  | .messageRetransmit mseq => Sys2Proof.Machine.execMessageRetransmit mseq s
  | .twinAttach port => Sys2Proof.Machine.execTwinAttach port s
  | .laneAligned => Sys2Proof.Machine.execLaneAligned s
  | .attachTimeout => Sys2Proof.Machine.execAttachTimeout s
  | .twinDetach port => Sys2Proof.Machine.execTwinDetach port s
  | .twinSwap port => Sys2Proof.Machine.execTwinSwap port s
  | .twinCfgCopy port => Sys2Proof.Machine.execTwinCfgCopy port s
  | .twinServe port => Sys2Proof.Machine.execTwinServe port s
  | .handoverOfferTimeout => Sys2Proof.Machine.execHandoverOfferTimeout s
  | .ownerRefuseTimeout => Sys2Proof.Machine.execOwnerRefuseTimeout s
  | .twinTbSync port v code => Sys2Proof.Machine.execTwinTbSync port v code s
  | .canFrameReceived ch id xtd rtr fdf brs esi dlc data sof => Sys2Proof.Machine.execCanFrameReceived ch id xtd rtr fdf brs esi dlc data sof s
  | .canTxAttemptEnd ch e sof => Sys2Proof.Machine.execCanTxAttemptEnd ch e sof s
  | .canRecover port ch => Sys2Proof.Machine.execCanRecover port ch s
  | .busOffRecoveryDone ch => Sys2Proof.Machine.execBusOffRecoveryDone ch s
  | .objAck port ch o => Sys2Proof.Machine.execObjAck port ch o s
  | .objSend port ch o => Sys2Proof.Machine.execObjSend port ch o s
  | .objAbort port ch o => Sys2Proof.Machine.execObjAbort port ch o s
  | .objClaim port ch o => Sys2Proof.Machine.execObjClaim port ch o s
  | .canDisable port ch v => Sys2Proof.Machine.execCanDisable port ch v s
  | .macFrameReceived m l ok sfd => Sys2Proof.Machine.execMacFrameReceived m l ok sfd s
  | .macTxDone m slot sfd => Sys2Proof.Machine.execMacTxDone m slot sfd s
  | .slotAck port m slot rx => Sys2Proof.Machine.execSlotAck port m slot rx s
  | .slotSendCmd port m slot rx => Sys2Proof.Machine.execSlotSendCmd port m slot rx s
  | .slotAbort port m slot rx => Sys2Proof.Machine.execSlotAbort port m slot rx s
  | .slotClaim port m slot rx => Sys2Proof.Machine.execSlotClaim port m slot rx s
  | .mdioCmd port m v => Sys2Proof.Machine.execMdioCmd port m v s
  | .mdioDone m data => Sys2Proof.Machine.execMdioDone m data s
  | .ptpStepS port v => Sys2Proof.Machine.execPtpStepS port v s
  | .ptpNsRead => Sys2Proof.Machine.execPtpNsRead s
  | .publicationDue e moved => Sys2Proof.Machine.execPublicationDue e moved s
  | .dmaStart port k => Sys2Proof.Machine.execDmaStart port k s
  | .dmaAbort port k => Sys2Proof.Machine.execDmaAbort port k s
  | .dmaAccessAnswered k late env => Sys2Proof.Machine.execDmaAccessAnswered k late env s
  | .dmaAccessTimeout k => Sys2Proof.Machine.execDmaAccessTimeout k s
  | .bistSliceStart => Sys2Proof.Machine.execBistSliceStart s
  | .bistSliceEnd logic logicSteps mem memSteps conv cells => Sys2Proof.Machine.execBistSliceEnd logic logicSteps mem memSteps conv cells s
  | .datapathLockstepMismatch p => Sys2Proof.Machine.execDatapathLockstepMismatch p s
  | .converterCheckOverdue c codes => Sys2Proof.Machine.execConverterCheckOverdue c codes s
  | .eccErrorDetected place fixed => Sys2Proof.Machine.execEccErrorDetected place fixed s
  | .bistCmd port v => Sys2Proof.Machine.execBistCmd port v s
  | .hostTestDone test steps conv cells => Sys2Proof.Machine.execHostTestDone test steps conv cells s
  | .fuseCmd port v => Sys2Proof.Machine.execFuseCmd port v s
  | .fuseProgramDone dt ok => Sys2Proof.Machine.execFuseProgramDone dt ok s
  | .eventRecord => Sys2Proof.Machine.execEventRecord s
  | .tokenRefill => Sys2Proof.Machine.execTokenRefill s
  | .stormWindowEnd => Sys2Proof.Machine.execStormWindowEnd s
  | .summaryPeriodEnd => Sys2Proof.Machine.execSummaryPeriodEnd s
  | .rdSeqWrite port v => Sys2Proof.Machine.execRdSeqWrite port v s
  | .nvClr port v => Sys2Proof.Machine.execNvClr port v s
  | .nvEntryWritten dt => Sys2Proof.Machine.execNvEntryWritten dt s
  | .cntClr port v => Sys2Proof.Machine.execCntClr port v s
  | .fwOpen port src => Sys2Proof.Machine.execFwOpen port src s
  | .eraseDone dt => Sys2Proof.Machine.execEraseDone dt s
  | .fwClose port => Sys2Proof.Machine.execFwClose port s
  | .fwBlock port => Sys2Proof.Machine.execFwBlock port s
  | .blockProgrammed dt => Sys2Proof.Machine.execBlockProgrammed dt s
  | .fwRecord src l => Sys2Proof.Machine.execFwRecord src l s
  | .fwVerify port => Sys2Proof.Machine.execFwVerify port s
  | .verifyDone dt => Sys2Proof.Machine.execVerifyDone dt s
  | .sessionIdleTimeout => Sys2Proof.Machine.execSessionIdleTimeout s
  | .fwActivate port => Sys2Proof.Machine.execFwActivate port s
  | .pairReady dt => Sys2Proof.Machine.execPairReady dt s
  | .readyTimeout => Sys2Proof.Machine.execReadyTimeout s
  | .handoff => Sys2Proof.Machine.execHandoff s
  | .fwConfirm port => Sys2Proof.Machine.execFwConfirm port s
  | .fwReject port => Sys2Proof.Machine.execFwReject port s
  | .fwErase port => Sys2Proof.Machine.execFwErase port s
  | .trialTimeout => Sys2Proof.Machine.execTrialTimeout s
  | .supervisionReturnRetry => Sys2Proof.Machine.execSupervisionReturnRetry s
  | .lcCmd port v => Sys2Proof.Machine.execLcCmd port v s
  | .lcProgramDone dt => Sys2Proof.Machine.execLcProgramDone dt s
  | .keyProgram port v => Sys2Proof.Machine.execKeyProgram port v s
  | .keyRevoke port v => Sys2Proof.Machine.execKeyRevoke port v s
  | .tapUpdateIr code => Sys2Proof.Machine.execTapUpdateIr code s
  | .dbgChal port nonce => Sys2Proof.Machine.execDbgChal port nonce s
  | .dbgAuth port level => Sys2Proof.Machine.execDbgAuth port level s
  | .authDone dt => Sys2Proof.Machine.execAuthDone dt s
  | .nonceExpiry => Sys2Proof.Machine.execNonceExpiry s
  | .debugBlockExpiry => Sys2Proof.Machine.execDebugBlockExpiry s
  | .closeGrant port => Sys2Proof.Machine.execCloseGrant port s
  | .sysrst port => Sys2Proof.Machine.execSysrst port s
  | .dbgHaltWrite port v => Sys2Proof.Machine.execDbgHaltWrite port v s
  | .pwrRun port => Sys2Proof.Machine.execPwrRun port s
  | .pwrHold port => Sys2Proof.Machine.execPwrHold port s
  | .pwrSleep port => Sys2Proof.Machine.execPwrSleep port s
  | .pwrOff port => Sys2Proof.Machine.execPwrOff port s
  | .offDrainDone dt => Sys2Proof.Machine.execOffDrainDone dt s
  | .wakeEvent k => Sys2Proof.Machine.execWakeEvent k s
  | .tapTestLogicReset => Sys2Proof.Machine.execTapTestLogicReset s
  | .comparatorOutputReturn c => Sys2Proof.Machine.execComparatorOutputReturn c s
  | .driverUndervoltage n which b => Sys2Proof.Machine.execDriverUndervoltage n which b s
  | .keyProgramDone dt => Sys2Proof.Machine.execKeyProgramDone dt s

end Sys2Proof.Machine
end

