-- ==== Sys2Proof/Safety.lean ====
section
/-! DEFINITION. The words the claims use: a command that completes, a write the fabric admits, what a command leaves alone, and the invariant
of the memory windows. -/

namespace Sys2Proof.Safety

open Sys2Proof.Machine

/-- A step that neither faults nor refuses. -/
def Completes (o : Host.Outcome State Fault Refusal) : Prop := ∃ t, o = .next t

/-- The command `i` completes from `s`: its meaning answers a next state, and `P` holds of that state. -/
def Gives (i : Instr) (s : State) (P : State → Prop) : Prop := ∃ t, exec i s = .next t ∧ P t

/-- The fabric admits a write by `port` to the register at `a`: a chapter defines the address, the page answers, and its LOCK and session
stand open where the register needs them (R34, R42, R55). -/
def Admits (s : State) (port : Port) (a : Nat) : Prop := gateCode s port a = .none

/-- What a command leaves alone: every visible register whose address is not in `l` reads as before, and so does every byte of the event ring
and the staging window. -/
def Frame (l : List Nat) (s t : State) : Prop := (∀ a, a ∉ l → t.rd a = s.rd a) ∧ ∀ a, t.rdByte a = s.rdByte a

/-- What a command leaves alone, by pages: every visible register whose page is not in `ps` reads as before, and so does every byte of the
event ring and the staging window. -/
def PageFrame (ps : List Nat) (s t : State) : Prop := (∀ a, pageOf a ∉ ps → t.rd a = s.rd a) ∧ ∀ a, t.rdByte a = s.rdByte a

/-- The interrupt registers a raw condition of page `p` moves: IRQ_RAW and IRQ_PEND (R40). -/
def irqRegs (p : Nat) : List Nat := [hIRQ_RAW p, hIRQ_PEND p]

/-- The registers a wake moves: the two of the power states and SEC's interrupt registers (R473). -/
def wakeRegs : List Nat := [Sec.WAKE_STAT, Sec.PWR_STAT] ++ irqRegs Sec.page

/-- The event ring and staging window are held in their one canonical form. -/
def MemCanonical (s : State) : Prop := Memory.wf s.mem = true

end Sys2Proof.Safety
end

