-- ==== Sys2Proof/WellFormed.lean ====
section
/-! DEFINITION. Which operands a command can have: the numbers of the things the device has, the pages and registers
the chapters define, and bytes that are bytes. A command's meaning does not rest on it; it says which terms stand for a
command of the table. -/

namespace Sys2Proof

open Sys2Proof.Machine

/-- A channel of a measurement chain: chain 0-1, channel 0-27 (R80). -/
def chanOk (x c : Nat) : Bool := decide (x < 2) && decide (c < 28)

/-- A leg of a modulator group: groups 0-5 of at most four legs (R220). -/
def legOk (g x : Nat) : Bool := decide (g < 6) && decide (x < 4)

/-- An object of a CAN channel (R382). -/
def objOk (ch o : Nat) : Bool := decide (ch < 4) && decide (o < 128)

/-- A slot of a MAC (R394). -/
def slotOk (m k : Nat) : Bool := decide (m < 2) && decide (k < 8)

/-- Bytes are below 256. -/
def bytesOk (l : List Nat) : Bool := l.all (fun b => decide (b < 256))

/-- A nonce is eight words (R468), or no nonce is drawn. -/
def nonceOk (l : List Word) : Bool := decide (l.length = 0 ∨ l.length = 8)

/-- The page has a header (R37). -/
def hasHeader (p : Nat) : Bool :=
  match pageKind p with
  | some k => k.header
  | none => false

/-- The page holds RW/L registers behind a LOCK (R38, R41). -/
def hasLock (p : Nat) : Bool :=
  match pageKind p with
  | some k => k.header && k.lockable
  | none => false

/-- The page holds a snapshot group (R38, R47). -/
def hasGroup (p : Nat) : Bool :=
  match pageKind p with
  | some k => k.snap
  | none => false

/-- A word address in a page or window the chapters define (R34). -/
def isMappedAddr (a : Nat) : Bool :=
  decide (a % 4 = 0) && decide (a < 2 ^ 24) &&
    ((pageKind (a / 4096)).isSome || decide (0x480000 ≤ a ∧ a < 0x4C0000) || decide (0x700000 ≤ a ∧ a < 0x800000))

/-- A reader of R49: a port, one of 16 DMA channels, one of 16 publisher entries. -/
def readerOk : Reader → Bool
  | .port _ => true
  | .dmaChan c => decide (c < 16)
  | .publisher k => decide (k < 16)

/-- What meets a group in the middle of a READ: it comes before one of at most 256 words, to a page with a group (R53). -/
def midOk (e : Nat × MidRead) : Bool :=
  decide (e.1 < 256) &&
    (match e.2 with
      | .take p | .land p => hasGroup p)

/-- The path, converter and code of a failed calibration (R104). -/
def calFailOk : Option (Bool × Nat × Nat) → Bool
  | none => true
  | some (_, conv, code) => decide (conv < 16) && decide (code < 256)

/-- A memory bank of the control path, the supervisor's SRAM, or the speculative buffer of a context (R146, R422, R426). -/
def placeOk : EccPlace → Bool
  | .bank b => decide (b < 8)
  | .sram => true
  | .buffer n => decide (n < 512)

/-- The converter checks of a slice name converters 0-31, and idle cells 32-143 (R423). -/
def convOk (l : List (Nat × Nat × Nat × Nat)) (cells : List (Nat × Bool)) : Bool :=
  l.all (fun e => decide (e.1 < 32)) && cells.all (fun e => decide (32 ≤ e.1) && decide (e.1 < 144))

/-- Well-formed commands. -/
def Instr.wf : Instr → Bool
  | .registerWrite _ a _ _ => isMappedAddr a
  | .lockWrite _ p _ => hasLock p
  | .lockExpiry p => hasLock p
  | .errinfoClear _ p _ => hasHeader p
  | .irqPendClear _ p _ _ => hasHeader p
  | .irqEnWrite _ p _ => hasHeader p
  | .snapshotTake _ p _ => hasGroup p
  | .autoSnapshot p => hasGroup p
  | .snapshotCopyDone p _ => hasGroup p
  | .doldrumsSet p => hasGroup p
  | .snapGenRead reader p => readerOk reader && hasGroup p
  | .hostRead bytes drive => bytesOk bytes && drive.mid.all midOk
  | .hostWrite bytes _ env => bytesOk bytes && nonceOk env.nonce
  | .hostResult bytes _ _ => bytesOk bytes
  | .powerOnReset => true
  | .brownOut rails => rails.all (fun k => decide (k < 4))
  | .railRelease k => decide (k < 4)
  | .nrstAssert => true
  | .swrstSystem _ => true
  | .swrstSupervisor _ => true
  | .tykorLockstepMismatch => true
  | .supervisorWatchdogExpiry => true
  | .supplyCheckDone _ => true
  | .fuseLoadDone _ _ => true
  | .refEdgesPresent _ => true
  | .pllLocked _ => true
  | .pllAttemptTimeout => true
  | .memRepairDone _ soft least _ => decide (soft < 256) && decide (least < 256)
  | .islandStartDone _ _ => true
  | .imageSelect _ => true
  | .pageInitDone _ => true
  | .islandSelfTestDone _ _ => true
  | .rstCauseClear _ _ => true
  | .rootWatchWindowEnd _ => true
  | .islandWatchWindowEnd _ => true
  | .partnerClockStopped _ => true
  | .refLoss => true
  | .pllUnlock => true
  | .timebaseTrigger t => decide (t < 8)
  | .trigSwFire _ _ _ => true
  | .sarConversionDone levels => decide (levels.length = 32)
  | .sdFilterRelease x c bits => chanOk x c && decide (bits.length ≤ 768)
  | .sampleSetRelease => true
  | .sdStuckDetect x c => chanOk x c
  | .sdStuckClear x c => chanOk x c
  | .chCfgWrite _ x c _ => chanOk x c
  | .refSettleDone x c _ => chanOk x c
  | .calStart _ x _ => decide (x < 2)
  | .calDone x fail => decide (x < 2) && calFailOk fail
  | .chOfsWrite _ x c _ => chanOk x c
  | .chGainWrite _ x c _ => chanOk x c
  | .cwPairWrite _ k _ => decide (k < 28)
  | .cwReactedClear _ k => decide (k < 28)
  | .schedulerEpoch => true
  | .periodicRelease n => decide (n < 512)
  | .contextDispatch lane seg => decide (lane < 4) && decide (seg ≤ 80)
  | .runCommit n => decide (n < 512)
  | .segmentEnd lane seg => decide (lane < 4) && decide (seg ≤ 80)
  | .precomputeDone n => decide (n < 512)
  | .commitDeadlineOverrun n => decide (n < 512)
  | .triggerTimeoutMiss n => decide (n < 512)
  | .ctxEnable _ n => decide (n < 512)
  | .ctxClose _ n => decide (n < 512)
  | .ctxOpen _ n => decide (n < 512)
  | .ctxDisable _ n => decide (n < 512)
  | .ctxClear _ n => decide (n < 512)
  | .contextRecordWrite _ n o _ => decide (n < 512) && decide (o < 256) && decide (o % 4 = 0)
  | .profileWrite _ _ => true
  | .hwResume _ g => decide (g < 64)
  | .specCtrlWrite _ _ => true
  | .tickLoRead => true
  | .focUpdate m _ => decide (m < 4)
  | .focStart _ m mode _ => decide (m < 4) && decide (mode < 4)
  | .focStop _ m => decide (m < 4)
  | .focAsc _ m => decide (m < 4)
  | .focBlock _ m => decide (m < 4)
  | .focRelease _ m => decide (m < 4)
  | .focClear _ m => decide (m < 4)
  | .catchWindowEnd m => decide (m < 4)
  | .syncDwellElapsed m => decide (m < 4)
  | .magTimeElapsed m => decide (m < 4)
  | .torqueInputTimeout m => decide (m < 4)
  | .ascSideAlternate m => decide (m < 4)
  | .profileTick ch => decide (ch < 4)
  | .profEnable _ ch => decide (ch < 4)
  | .profMove _ ch => decide (ch < 4)
  | .profStop _ ch => decide (ch < 4)
  | .profApply _ ch _ => decide (ch < 4)
  | .profClear _ ch => decide (ch < 4)
  | .profDisable _ ch => decide (ch < 4)
  | .profSetPos _ ch => decide (ch < 4)
  | .lullDwellExpiry ch => decide (ch < 4)
  | .periodBoundary t => decide (t < 8)
  | .updateEvent t => decide (t < 8)
  | .compareEdge g x => legOk g x
  | .deadTimeEnd c => decide (c < 52)
  | .npDwellEnd g x => legOk g x
  | .tbStart _ _ => true
  | .tbStop _ _ => true
  | .tbShift _ t _ => decide (t < 8)
  | .chForceWrite _ c _ => decide (c < 52)
  | .grpHoldWrite _ g _ => decide (g < 6)
  | .tripPinEdge k _ _ => decide (k < 8)
  | .tripFilterQualified k => decide (k < 8)
  | .tripClr _ _ => true
  | .gridFrame => true
  | .uplinkFrame n _ _ => decide (n < 36)
  | .uplinkMissing n => decide (n < 36)
  | .glTrain _ n _ => decide (n < 36)
  | .glDrop _ n => decide (n < 36)
  | .trainingDone n _ => decide (n < 36)
  | .driverDownlinkFrame n p _ _ _ => decide (n < 36) && decide (p < 2)
  | .driverFrameMissing n p => decide (n < 36) && decide (p < 2)
  | .driverEdgeExecute n => decide (n < 36)
  | .driverHoldExpiry n => decide (n < 36)
  | .driverPinMismatch n => decide (n < 36)
  | .driverDesat n _ => decide (n < 36)
  | .driverPowerUp n => decide (n < 36)
  | .bsuvInput l _ => decide (l < 6)
  | .bsMaxonExpiry g x => legOk g x
  | .comparatorTrip k code => decide (k < 32) && decide (code < 65536)
  | .srcClr _ _ _ => true
  | .retryWaitExpiry n => decide (n < 49)
  | .lockoutClr _ _ => true
  | .protArm _ _ => true
  | .chopResponseTimeout => true
  | .chfltInput k _ => decide (k < 2)
  | .escTimeExpiry => true
  | .escClr _ _ => true
  | .dclStaleTimeout => true
  | .disStart _ => true
  | .disStop _ => true
  | .disTimeout => true
  | .kfbOpenTimeout => true
  | .islandCycle _ _ => true
  | .islandLockstepMismatch => true
  | .testPulse _ => true
  | .hostDemandWrite _ _ => true
  | .relCmd _ _ => true
  | .brkReqWrite _ _ => true
  | .loKey _ _ => true
  | .loKeyTimeout => true
  | .pwLogin _ len user => decide (len ≤ 16) && decide (user < 256)
  | .pwLogout _ => true
  | .pwSet _ len user => decide (len ≤ 16) && decide (user < 256)
  | .sessionTimeout => true
  | .loginBlockExpiry => true
  | .paramCommit _ => true
  | .paramCommitDone _ => true
  | .paramDiscard _ => true
  | .telegramCopyReceived k carrier l => decide (k < 8) && decide (carrier < 2) && bytesOk l
  | .telegramCopyTimeout k => decide (k < 8)
  | .telegramWatchdogExpiry k => decide (k < 8)
  | .ss1TimerExpiry g => decide (g < 2)
  | .sbcDelayExpiry g => decide (g < 2)
  | .ascConfirmTimeout g => decide (g < 2)
  | .islandSelfTest _ => true
  | .cbCrcCheck => true
  | .paramCrcCheck _ => true
  | .guardPeriodExpiry k => decide (k < 16)
  | .proofDue g => decide (g < 2)
  | .hkSlotEnd code code2 _ => decide (code < 4096) && decide (code2 < 4096)
  | .closingSlot code => decide (code < 4096)
  | .graceExpiry m => decide (m < 4)
  | .rearm _ _ => true
  | .sdAck _ _ => true
  | .slotSend => true
  | .slotReceived _ bytes _ => bytesOk bytes
  | .slotMissing => true
  | .laneAlignmentLost => true
  | .ctxMirror body _ _ => bytesOk body
  | .machMirror body _ _ => bytesOk body
  | .profMirror body _ _ => bytesOk body
  | .grpMirror body _ _ => bytesOk body
  | .twinWrite body env _ => bytesOk body && nonceOk env.nonce
  | .twinReadReq body => bytesOk body
  | .twinReadRsp body => bytesOk body
  | .twinAck body => bytesOk body
  | .twinHello body _ _ _ _ => bytesOk body
  | .messageRetransmit mseq => decide (mseq < 65536)
  | .twinAttach _ => true
  | .laneAligned => true
  | .attachTimeout => true
  | .twinDetach _ => true
  | .twinSwap _ => true
  | .twinCfgCopy _ => true
  | .twinServe _ => true
  | .handoverOfferTimeout => true
  | .ownerRefuseTimeout => true
  | .twinTbSync _ _ _ => true
  | .canFrameReceived ch id _ _ _ _ _ dlc data _ => decide (ch < 4) && decide (id < 2 ^ 29) && decide (dlc < 16) && bytesOk data
  | .canTxAttemptEnd ch _ _ => decide (ch < 4)
  | .canRecover _ ch => decide (ch < 4)
  | .busOffRecoveryDone ch => decide (ch < 4)
  | .objAck _ ch o => objOk ch o
  | .objSend _ ch o => objOk ch o
  | .objAbort _ ch o => objOk ch o
  | .objClaim _ ch o => objOk ch o
  | .canDisable _ ch _ => decide (ch < 4)
  | .macFrameReceived m l _ _ => decide (m < 2) && bytesOk l
  | .macTxDone m slot _ => slotOk m slot
  | .slotAck _ m slot _ => slotOk m slot
  | .slotSendCmd _ m slot _ => slotOk m slot
  | .slotAbort _ m slot _ => slotOk m slot
  | .slotClaim _ m slot _ => slotOk m slot
  | .mdioCmd _ m _ => decide (m < 2)
  | .mdioDone m data => decide (m < 2) && decide (data < 65536)
  | .ptpStepS _ _ => true
  | .ptpNsRead => true
  | .publicationDue e _ => decide (e < 16)
  | .dmaStart _ k => decide (k < 16)
  | .dmaAbort _ k => decide (k < 16)
  | .dmaAccessAnswered k _ env => decide (k < 16) && nonceOk env.nonce
  | .dmaAccessTimeout k => decide (k < 16)
  | .bistSliceStart => true
  | .bistSliceEnd _ _ _ _ conv cells => convOk conv cells
  | .datapathLockstepMismatch p => decide (4 ≤ p) && decide (p < 8)
  | .converterCheckOverdue c _ => decide (c < 32)
  | .eccErrorDetected place _ => placeOk place
  | .bistCmd _ _ => true
  | .hostTestDone _ _ conv cells => convOk conv cells
  | .fuseCmd _ _ => true
  | .fuseProgramDone _ _ => true
  | .eventRecord => true
  | .tokenRefill => true
  | .stormWindowEnd => true
  | .summaryPeriodEnd => true
  | .rdSeqWrite _ _ => true
  | .nvClr _ _ => true
  | .nvEntryWritten _ => true
  | .cntClr _ _ => true
  | .fwOpen _ src => decide (src < 16)
  | .eraseDone _ => true
  | .fwClose _ => true
  | .fwBlock _ => true
  | .blockProgrammed _ => true
  | .fwRecord src l => decide (src < 8) && bytesOk l
  | .fwVerify _ => true
  | .verifyDone _ => true
  | .sessionIdleTimeout => true
  | .fwActivate _ => true
  | .pairReady _ => true
  | .readyTimeout => true
  | .handoff => true
  | .fwConfirm _ => true
  | .fwReject _ => true
  | .fwErase _ => true
  | .trialTimeout => true
  | .supervisionReturnRetry => true
  | .lcCmd _ _ => true
  | .lcProgramDone _ => true
  | .keyProgram _ _ => true
  | .keyRevoke _ _ => true
  | .tapUpdateIr code => decide (code < 32)
  | .dbgChal _ nonce => nonceOk nonce
  | .dbgAuth _ level => decide (level < 8)
  | .authDone _ => true
  | .nonceExpiry => true
  | .debugBlockExpiry => true
  | .closeGrant _ => true
  | .sysrst _ => true
  | .dbgHaltWrite _ _ => true
  | .pwrRun _ => true
  | .pwrHold _ => true
  | .pwrSleep _ => true
  | .pwrOff _ => true
  | .offDrainDone _ => true
  | .wakeEvent k => decide (k < 5)
  | .tapTestLogicReset => true
  | .comparatorOutputReturn c => decide (c.k < 32) && decide (c.code < 65536)
  | .driverUndervoltage n which _ => decide (n < 36) && decide (which < 3)
  | .keyProgramDone _ => true

end Sys2Proof
end

