-- ==== Sys2Proof/Certificates/Slice0/Obligations.lean ====
section
/-! DEFINITION. The statements about the machine, for the provers. -/

open Sys2Proof Sys2Proof.Machine Sys2Proof.Safety

/-- One step takes the command in front of the queue (the block model's own rule of stepping, no rule of the spec). -/
def Obligations.StepRunsTheCommandInFront : Prop :=
  ∀ (c : Instr) (rest : List Instr) (s : State), step { s with pending := c :: rest } = exec c { s with pending := rest }

/-- On an empty queue the block idles for one cycle: the model's choice, logged as the idle step. -/
def Obligations.EmptyQueueIdlesOneCycle : Prop :=
  ∀ s : State, s.pending = [] → step s = .next { s with now := s.now + 1 }

/-- No command of the block ends in a fault or a refusal of the model (R43, R44, R54, R65, R77). -/
def Obligations.EveryCommandCompletesInEveryState : Prop :=
  ∀ (i : Instr) (s : State), Completes (exec i s)

/-- The windows are empty after reset; what an unlisted byte reads as is the model's choice. -/
def Obligations.MemoryWindowsAreCanonicalAtReset : Prop :=
  MemCanonical State.reset ∧ ∀ a, State.reset.rdByte a = 0

/-- The canonical form of the event ring and the staging window is kept by every step: equal contents are equal data (invariant; the form is the model's). -/
def Obligations.EveryStepKeepsTheMemoryWindowsCanonical : Prop :=
  ∀ s t : State, MemCanonical s → step s = .next t → MemCanonical t

/-- R64, R41, R40, R45: what the reset values say of bring-up, locks, interrupts and refusals. -/
def Obligations.ResetStateStandsInSupplyCheck : Prop :=
  State.reset.phase = 1 ∧ State.reset.rdB Bup.STATE 4 = true ∧ State.reset.rdF Bup.STATE 9 8 = 0 ∧ State.reset.pending = [] ∧
  (∀ p, p < 0x800 → lockOpen State.reset p = false ∧ State.reset.rd (hIRQ_EN p) = (if p = 1 then 7 else 0) ∧ State.reset.rd (hIRQ_PEND p) = 0 ∧
    (Sys2Proof.Machine.hasHeader p = true → State.reset.rd (hERRINFO p) = 0))

/-- R9 and R10 over the registers that only hold what is written: the command completes, and only that register may change. -/
def Obligations.RegisterWriteTakesEffectOrIsIgnoredByItsAccessCode : Prop :=
  ∀ (port : Port) (a : Nat) (v : Word) (env : WriteEnv) (s : State),
    Instr.wf (.registerWrite port a v env) = true → 0x40 ≤ a % 4096 → a < 0x800000 → Admits s port a →
    (pageKind (pageOf a) = some .id ∨ pageKind (pageOf a) = some .bup ∨ pageKind (pageOf a) = some .host) →
    Gives (.registerWrite port a v env) s (fun t =>
      (match regRow a with
        | some r => t.rd a = (match r.acc with
            | .rw | .rwl => v &&& word r.mask
            | .w1c => s.rd a &&& ~~~v
            | _ => s.rd a)
        | none => t.rd a = s.rd a) ∧ Frame [a] s t)

/-- R41, whole. -/
def Obligations.LockOpensWithItsKeyAndClosesOtherwise : Prop :=
  ∀ (port : Port) (p : Nat) (s : State), Admits s port (hLOCK p) →
    (Instr.wf (.lockWrite port p 0) = true →
      (∀ k, pageKind p = some k →
        headerView k p 0x20 s = setBit (s.rd (hLOCK p)) 1 (k.password && k.lockable)) ∧
      (p ≠ SecKey.page → Gives (.lockWrite port p 0x6F70656E) s (fun t =>
        t.rd (hLOCK p) = 1 ∧ lockOpen t p = true ∧ KMap.get (fun _ => 0) t.fab.lockAt p = s.now ∧ Frame [hLOCK p] s t)) ∧
      Gives (.lockWrite port p 0) s (fun t => t.rd (hLOCK p) = 0 ∧ lockOpen t p = false ∧ Frame [hLOCK p] s t) ∧
      (∀ v : Word, v ≠ 0x6F70656E → v ≠ 0 → Gives (.lockWrite port p v) s (fun t =>
        t.rd (hLOCK p) = 0 ∧ fld (t.rd (hERRINFO p)) 31 24 = 3 ∧ fld (t.rd (hERRINFO p)) 23 20 = port.num ∧
        fld (t.rd (hERRINFO p)) 11 0 = 0x20 ∧ Frame [hLOCK p, hERRINFO p, hIRQ_RAW p, hIRQ_PEND p] s t))) ∧
    (∀ (k : PageKind) (v : Word) (env : WriteEnv), pageKind p = some k → k.header = true → k.lockable = false → p < 0x400 →
      Gives (.registerWrite port (hLOCK p) v env) s (fun t => Frame [] s t))

/-- R42: expiry one second after the later of the opening and the last accepted RW/L write, checked between descriptors. -/
def Obligations.OpenLockExpiresBetweenFrames : Prop :=
  ∀ (p : Nat) (s : State),
    (lockOpen s p = true → (∀ k, k < 16 → dmaState s k ≠ 2) → Gives (.lockExpiry p) s (fun t =>
      t.rd (hLOCK p) = 0 ∧ KMap.get (fun _ => 0) s.fab.lockAt p + 800000000 ≤ t.now ∧ s.now ≤ t.now ∧ Frame [hLOCK p] s t)) ∧
    (lockOpen s p = false ∨ (∃ k, k < 16 ∧ dmaState s k = 2) → exec (.lockExpiry p) s = .next s)

/-- R40, R45, R58: the three writable header registers of interrupts and refusals. -/
def Obligations.InterruptRegistersFollowTheirWrites : Prop :=
  ∀ (port : Port) (p : Nat) (v again : Word) (s : State),
    (Instr.wf (.irqEnWrite port p v) = true → Admits s port (hIRQ_EN p) → Gives (.irqEnWrite port p v) s (fun t =>
      t.rd (hIRQ_EN p) = v ∧ t.rd (hIRQ_PEND p) = s.rd (hIRQ_PEND p) ||| (v &&& ~~~(s.rd (hIRQ_EN p)) &&& s.rd (hIRQ_RAW p)) ∧
      Frame [hIRQ_EN p, hIRQ_PEND p] s t)) ∧
    (Instr.wf (.irqPendClear port p v again) = true → Admits s port (hIRQ_PEND p) → Gives (.irqPendClear port p v again) s (fun t =>
      t.rd (hIRQ_PEND p) = ((s.rd (hIRQ_PEND p) &&& ~~~v) ||| (again &&& s.rd (hIRQ_EN p))) ∧
      Frame (if p = MeasCtl.page 0 ∧ bit v 5 = true then [hIRQ_PEND p, MeasCtl.TRIG_SEQ 0] else [hIRQ_PEND p]) s t)) ∧
    (Instr.wf (.errinfoClear port p v) = true → Admits s port (hERRINFO p) → Gives (.errinfoClear port p v) s (fun t =>
      t.rd (hERRINFO p) = 0 ∧ bit (t.rd (hIRQ_RAW p)) 30 = false ∧ Frame [hERRINFO p, hIRQ_RAW p] s t))

/-- R43, R45 and bit 30 of R40, for a write under a closed LOCK. -/
def Obligations.RefusedWriteLeavesItsRegisterAndIsRecorded : Prop :=
  ∀ (port : Port) (a : Nat) (v : Word) (env : WriteEnv) (s : State),
    Instr.wf (.registerWrite port a v env) = true → a < 0x800000 → homePage a = pageOf a → gateCode s port a = .locked →
    Gives (.registerWrite port a v env) s (fun t =>
      t.rd (hERRINFO (pageOf a)) = word (2 * 2 ^ 24 + port.num * 2 ^ 20 + (if s.rd (hERRINFO (pageOf a)) = 0 then 0 else 2 ^ 19) + a % 4096) ∧
      bit (t.rd (hIRQ_RAW (pageOf a))) 30 = true ∧ Frame (hERRINFO (pageOf a) :: irqRegs (pageOf a)) s t)

/-- R47-R50: requesting, landing and reading a snapshot. -/
def Obligations.SnapshotTakeCopyAndGeneration : Prop :=
  ∀ (port : Port) (r : Reader) (p dt : Nat) (v : Word) (s : State), hasSnap p = true →
    (Instr.wf (.snapshotTake port p v) = true → Admits s port (hSNAP_CTRL p) → Gives (.snapshotTake port p v) s (fun t =>
      copying t p = true ∧ Frame ([hSNAP_CTRL p, hSNAP_GEN p, hSNAP_GEN 0x052] ++ irqRegs p) s t)) ∧
    (s.inService = true → s.rdF (hSNAP_CTRL p) 7 4 ≠ 0 → Gives (.autoSnapshot p) s (fun t =>
      copying t p = true ∧ Frame [hSNAP_GEN p, hSNAP_GEN 0x052] s t)) ∧
    (KMap.wf rst s.live = true → copying s p = true → Gives (.snapshotCopyDone p dt) s (fun t =>
      t.rdF (hSNAP_GEN p) 23 0 = nextGen (s.rdF (hSNAP_GEN p) 23 0) ∧ t.rdB (hSNAP_GEN p) 24 = true ∧ copying t p = false ∧
      (p ≠ 0x081 → p ≠ 0x183 → ∀ a, inGroup p a = true → t.rd a = s.rdL a) ∧ (∀ a, t.rdByte a = s.rdByte a))) ∧
    (s.rdF (hSNAP_GEN p) 23 0 ≠ 0 → KMap.get (fun _ => 0) s.fab.oldest p ≠ 0 → ageLimit s p < 0xFFFFFFFF →
      Gives (.doldrumsSet p) s (fun t => t.rdB (hSNAP_GEN p) 27 = true ∧ bit (t.rd (hIRQ_RAW p)) 31 = true ∧
        Frame (hSNAP_GEN p :: irqRegs p) s t)) ∧
    (Instr.wf (.snapGenRead r p) = true → readCode s (readerPort r) (hSNAP_GEN p) = .none → Gives (.snapGenRead r p) s (fun t =>
      KMap.get (fun _ => 0) t.fab.seen (p * 64 + r.num) = s.rdF (hSNAP_GEN p) 23 0 + 1 ∧ Frame [] s t))

/-- R53, R54 and R503 for frames of one word. -/
def Obligations.HostFramesAnswerAndApply : Prop :=
  ∀ (l : List Nat) (fast : Bool) (env : WriteEnv) (s : State), tooFast fast s = false →
    (l.length = 7 → l.getD 4 0 = 0 → crcOk 5 l = true → bytesNat ((l.drop 1).take 3) % 4 = 0 →
      bytesNat ((l.drop 1).take 3) < 0x800000 → readCode (selectLines s) .host (bytesNat ((l.drop 1).take 3)) = .none →
      bytesNat ((l.drop 1).take 3) % 4096 ≠ 0x2C → bytesNat ((l.drop 1).take 3) ≠ CleTel.TICK_LO → bytesNat ((l.drop 1).take 3) ≠ Ptp.PTP_NS →
      Gives (.hostRead l { fast := fast }) s (fun t =>
        t.host.answer = readAnswer 0 [viewWord (bytesNat ((l.drop 1).take 3)) (selectLines s)] ∧ Frame [] s t)) ∧
    (7 ≤ l.length → crcOk 5 l = false → Gives (.hostRead l { fast := fast }) s (fun t =>
      t.host.answer = readAnswer 9 (List.replicate (l.getD 4 0 + 1) 0) ∧ Frame [] s t)) ∧
    (∀ u, l.length = 11 → l.getD 0 0 = 2 → l.getD 4 0 = 0 → crcOk 9 l = true → bytesNat ((l.drop 1).take 3) % 4 = 0 →
      bytesNat ((l.drop 1).take 3) < 0x800000 →
      writeCore .host env (bytesNat ((l.drop 1).take 3)) (bytesWord ((l.drop 5).take 4)) (selectLines s) = (u, .none) → u.phase = s.phase →
      Gives (.hostWrite l { fast := fast } env) s (fun t =>
        t.host.resCode = .none ∧ t.host.resCount = 1 ∧ ∀ a, t.rd a = u.rd a ∧ t.rdByte a = u.rdByte a)) ∧
    (4 ≤ l.length → l.getD 0 0 = 2 → (l.length ≠ 4 * (l.getD 4 0 + 1) + 7 ∨ crcOk (4 * (l.getD 4 0 + 1) + 5) l = false) →
      Gives (.hostWrite l { fast := fast } env) s (fun t =>
        t.host.resCode = .frame ∧ t.host.resCount = 0 ∧ Frame (hERRINFO HostP.page :: irqRegs HostP.page) s t)) ∧
    (3 ≤ l.length → crcOk 1 l = true → s.twin.write = none → Gives (.hostResult l fast false) s (fun t =>
      t.host.answer = withCrc [s.host.resCode.num, s.host.resCount / 256 % 256, s.host.resCount % 256,
        s.host.resOffset / 256 % 256, s.host.resOffset % 256] ∧ Frame [] s t))

/-- R381, R384, R385. -/
def Obligations.CanFramesLandInTheirObjects : Prop :=
  ∀ (port : Port) (ch : Nat) (f : CanFrame) (sof : Nat) (s : State), ch < 4 →
    (s.rdB (Can.CTRL ch) 0 = false ∨ s.rdF (Can.ECR ch) 17 16 = 2 →
      Gives (.canFrameReceived ch f.id f.xtd f.rtr f.fdf f.brs f.esi f.dlc f.data sof) s (fun t => Frame [] s t)) ∧
    (s.rdB (Can.CTRL ch) 0 = true → s.rdF (Can.ECR ch) 17 16 ≠ 2 →
      ((∀ o < 128, headTakes s ch o f = false) →
        Gives (.canFrameReceived ch f.id f.xtd f.rtr f.fdf f.brs f.esi f.dlc f.data sof) s (fun t =>
          t.rdL (Can.DROPPED ch) = (if s.rdL (Can.DROPPED ch) = 0xFFFFFFFF then 0xFFFFFFFF else s.rdL (Can.DROPPED ch) + 1) ∧
          Frame (Can.ECR ch :: irqRegs (Can.page ch)) s t)) ∧
      (∀ h < 128, headTakes s ch h f = true → (∀ o < h, headTakes s ch o f = false) → s.rdF (Obj.OBJ_CFG (objOf ch h)) 30 24 = 1 →
        objMode s ch h = 1 → objOwn s ch h = false →
        Gives (.canFrameReceived ch f.id f.xtd f.rtr f.fdf f.brs f.esi f.dlc f.data sof) s (fun t => objOwn t ch h = true ∧
          t.rdF (Obj.OBJ_DLC (objOf ch h)) 3 0 = f.dlc % 16 ∧ t.rd (Obj.OBJ_TS (objOf ch h)) = word (s.engine - sof) ∧
          (∀ a, a ∉ Can.ECR ch :: irqRegs (Can.page ch) ++ wakeRegs → (a < Obj.OBJ_CFG (objOf ch h) ∨ Obj.OBJ_CFG (objOf ch h) + 0x80 ≤ a) →
            t.rd a = s.rd a) ∧ ∀ a, t.rdByte a = s.rdByte a))) ∧
    (Admits s port (Can.RECOVER ch) → s.rdF (Can.ECR ch) 17 16 = 2 → Gives (.canRecover port ch) s (fun t =>
      (canOf t ch).recover = true ∧ Frame [] s t)) ∧
    (s.rdF (Can.ECR ch) 17 16 = 2 → ((canOf s ch).recover = true ∨ s.rdB (Can.CTRL ch) 3 = true) → Gives (.busOffRecoveryDone ch) s (fun t =>
      t.rdF (Can.ECR ch) 17 0 = 0 ∧ (canOf t ch).recover = false ∧ Frame [Can.ECR ch] s t))

/-- R381, R384, R386, R389. -/
def Obligations.CanTransmissionsEndWithTheirResult : Prop :=
  ∀ (port : Port) (ch o : Nat) (v : Word) (sof lec : Nat) (won : Bool) (s : State), ch < 4 → o < 128 →
    ((canOf s ch).onBus = some o →
      (objMode s ch o = 2 → Gives (.canTxAttemptEnd ch .ok sof) s (fun t => objPending t ch o = false ∧ objOwn t ch o = true ∧
        t.rdF (Obj.OBJ_STAT (objOf ch o)) 4 2 = 1 ∧ t.rd (Obj.OBJ_TS (objOf ch o)) = word (s.engine - sof) ∧
        t.rdF (Can.ECR ch) 7 0 = s.rdF (Can.ECR ch) 7 0 - 1 ∧
        Frame ([Obj.OBJ_STAT (objOf ch o), Obj.OBJ_TS (objOf ch o), Can.ECR ch] ++ irqRegs (Can.page ch)) s t)) ∧
      ((canOf s ch).abort = false → Gives (.canTxAttemptEnd ch .lost sof) s (fun t =>
        (canSends s ch = true → (canOf t ch).onBus = arbWinner s ch) ∧ Frame [] s t)) ∧
      (s.rdF (Can.ECR ch) 7 0 + 8 ≤ 255 → (lec ≠ 3 ∨ s.rdF (Can.ECR ch) 17 16 ≠ 1) → Gives (.canTxAttemptEnd ch (.error lec won) sof) s (fun t =>
        t.rdF (Can.ECR ch) 7 0 = s.rdF (Can.ECR ch) 7 0 + 8 ∧ t.rdF (Can.ECR ch) 22 20 = lec % 8 ∧
        ((canOf s ch).abort = true → objPending t ch o = false ∧ t.rdF (Obj.OBJ_STAT (objOf ch o)) 4 2 = 4) ∧
        Frame ([Obj.OBJ_STAT (objOf ch o), Can.ECR ch] ++ irqRegs (Can.page ch)) s t))) ∧
    (Admits s port (Obj.OBJ_CMD (objOf ch o)) →
      (objMode s ch o = 1 ∨ objMode s ch o = 3 → Gives (.objAck port ch o) s (fun t => objOwn t ch o = false ∧
        Frame [Obj.OBJ_STAT (objOf ch o)] s t)) ∧
      (objMode s ch o = 2 → objOwn s ch o = true → Gives (.objSend port ch o) s (fun t =>
        t.rd (Obj.OBJ_STAT (objOf ch o)) = ((s.rd (Obj.OBJ_STAT (objOf ch o)) &&& 0xFFFF0000) ||| 2) ∧ Frame [Obj.OBJ_STAT (objOf ch o)] s t)) ∧
      (objPending s ch o = true → (canOf s ch).onBus ≠ some o → Gives (.objAbort port ch o) s (fun t => objPending t ch o = false ∧
        t.rdF (Obj.OBJ_STAT (objOf ch o)) 4 2 = 4 ∧ Frame (Obj.OBJ_STAT (objOf ch o) :: irqRegs (Can.page ch)) s t)) ∧
      (objPending s ch o = true → (canOf s ch).onBus = some o → Gives (.objAbort port ch o) s (fun t =>
        (canOf t ch).abort = true ∧ Frame [] s t)) ∧
      (objMode s ch o = 3 → objPending s ch o = false → Gives (.objClaim port ch o) s (fun t => objOwn t ch o = true ∧
        Frame [Obj.OBJ_STAT (objOf ch o)] s t))) ∧
    (Admits s port (Can.CTRL ch) → s.rdB (Can.CTRL ch) 0 = true → bit v 2 = s.rdB (Can.CTRL ch) 2 →
      (bit v 2 = true → 320 ≤ nomCycles (s.rd (Can.NBT ch))) → Gives (.canDisable port ch v) s (fun t =>
        t.rd (Can.CTRL ch) = (setBit v 0 false &&& 0xF) ∧ (∀ x < 128, objPending t ch x = false) ∧ (canOf t ch).onBus = none ∧
        (∀ a, a ∉ Can.CTRL ch :: irqRegs (Can.page ch) → (∀ x < 128, a ≠ Obj.OBJ_STAT (objOf ch x)) → t.rd a = s.rd a) ∧
        ∀ a, t.rdByte a = s.rdByte a))

/-- R391, R392, R394. -/
def Obligations.EthernetSlotsFillAndEmpty : Prop :=
  ∀ (port : Port) (m i sfd data : Nat) (l : List Nat) (v : Word) (s : State), m < 2 → i < 8 →
    (s.rdB (Mac.CTRL m) 0 = true →
      Gives (.macFrameReceived m l false sfd) s (fun t => t.rdL (Mac.RX_BAD m) =
        (if s.rdL (Mac.RX_BAD m) = 0xFFFFFFFF then 0xFFFFFFFF else s.rdL (Mac.RX_BAD m) + 1) ∧ Frame [] s t) ∧
      (60 ≤ l.length → l.length ≤ 1514 → (l.drop 12).take 2 ≠ [0x81, 0x00] → bytesNat ((l.drop 12).take 2) ≠ 0x8808 →
        bytesNat ((l.drop 12).take 2) ≠ 0x88B5 → addrOk s m l = true → (filterOf s m (bytesNat ((l.drop 12).take 2)) none).isSome = true →
        (macOf s m).rxNext % 8 = i → s.rdB (EthRx.SLOT_STAT m i) 0 = false → Gives (.macFrameReceived m l true sfd) s (fun t =>
          t.rdB (EthRx.SLOT_STAT m i) 0 = true ∧ t.rd (EthRx.SLOT_LEN m i) = word l.length ∧ (macOf t m).rxNext = (i + 1) % 8 ∧
          PageFrame [Mac.page m, EthRx.page m i, Sec.page] s t)) ∧
      (s.rdB (EthTx.SLOT_STAT m i) 1 = true → Gives (.macTxDone m i sfd) s (fun t => t.rdB (EthTx.SLOT_STAT m i) 1 = false ∧
        t.rdF (EthTx.SLOT_STAT m i) 4 2 = 1 ∧ (s.rdB (EthTx.SLOT_CFG m i) 0 = false → t.rdB (EthTx.SLOT_STAT m i) 0 = true) ∧
        PageFrame [Mac.page m, EthTx.page m i] s t))) ∧
    (Admits s port (EthRx.SLOT_CMD m i) → Gives (.slotAck port m i true) s (fun t => t.rdB (EthRx.SLOT_STAT m i) 0 = false ∧
      Frame [EthRx.SLOT_STAT m i] s t)) ∧
    (Admits s port (EthTx.SLOT_CMD m i) →
      (s.rdB (EthTx.SLOT_CFG m i) 0 = true → Gives (.slotAck port m i false) s (fun t => t.rdB (EthTx.SLOT_STAT m i) 0 = false ∧
        Frame [EthTx.SLOT_STAT m i] s t)) ∧
      (s.rdB (EthTx.SLOT_CFG m i) 0 = false → s.rdB (EthTx.SLOT_STAT m i) 0 = true → Gives (.slotSendCmd port m i false) s (fun t =>
        t.rd (EthTx.SLOT_STAT m i) = 2 ∧ Frame [EthTx.SLOT_STAT m i] s t)) ∧
      (s.rdB (EthTx.SLOT_STAT m i) 1 = true → Gives (.slotAbort port m i false) s (fun t => t.rdB (EthTx.SLOT_STAT m i) 1 = false ∧
        t.rdF (EthTx.SLOT_STAT m i) 4 2 = 4 ∧ Frame (EthTx.SLOT_STAT m i :: irqRegs (Mac.page m)) s t)) ∧
      (s.rdB (EthTx.SLOT_CFG m i) 0 = true → s.rdB (EthTx.SLOT_STAT m i) 1 = false → Gives (.slotClaim port m i false) s (fun t =>
        t.rdB (EthTx.SLOT_STAT m i) 0 = true ∧ Frame [EthTx.SLOT_STAT m i] s t))) ∧
    (Admits s port (Mac.MDIO_CMD m) → s.rdB (Mac.MDIO_STAT m) 0 = false → Gives (.mdioCmd port m v) s (fun t =>
      t.rdB (Mac.MDIO_STAT m) 0 = true ∧ (macOf t m).mdioRead = bit v 10 ∧ Frame [Mac.MDIO_STAT m] s t)) ∧
    (s.rdB (Mac.MDIO_STAT m) 0 = true → Gives (.mdioDone m data) s (fun t => t.rdB (Mac.MDIO_STAT m) 0 = false ∧
      ((macOf s m).mdioRead = true → t.rdF (Mac.MDIO_STAT m) 31 16 = data % 65536) ∧ Frame (Mac.MDIO_STAT m :: irqRegs (Mac.page m)) s t))

/-- R393, R395, R397. The resolution kept below a nanosecond is 2^-24 ns. -/
def Obligations.PtpClockStepsAndPublicationsFallDue : Prop :=
  ∀ (port : Port) (v : Word) (e moved : Nat) (s : State), e < 16 →
    (Admits s port Ptp.PTP_STEP_S → Gives (.ptpStepS port v) s (fun t =>
      ptpNow t = (((ptpNow s : Int) + (signed32 v * 1000000000 + signed32 s.bus.ptp.stepNs) * 2 ^ 24) % (ptpSpan : Int)).toNat ∧ Frame [] s t)) ∧
    (busyPage s Ptp.page = false → Gives .ptpNsRead s (fun t => t.bus.ptp.latched = ptpSec (ptpNow s) ∧ ptpNow t = ptpNow s ∧ Frame [] s t)) ∧
    (s.rdB (Pub.PUB_CFG e) 0 = true → s.rdB (Pub.PUB_CFG e) 1 = false → 3 < moved → Gives (.publicationDue e moved) s (fun t =>
      (pubOf t e).since = (pubOf s e).since + msCycles (s.rdF (Pub.PUB_CFG e) 31 16) ∧ (pubOf t e).since ≤ t.now ∧
      t.rdF (Pub.PUB_CNT e) 7 0 = min (s.rdF (Pub.PUB_CNT e) 7 0 + 1) 255 ∧ Frame [Pub.PUB_CNT e] s t)) ∧
    (s.rdB (Pub.PUB_CFG e) 0 = false → Gives (.publicationDue e moved) s (fun t => Frame [] s t))

/-- R404, R405, R406, R409, R411. -/
def Obligations.DmaRunsStartMoveAndEnd : Prop :=
  ∀ (port : Port) (k c : Nat) (late : Bool) (env : WriteEnv) (l : List Word) (r : DmaRun) (s : State), k < 16 →
    (Admits s port (DmaCh.CH_CMD k) →
      (dmaState s k ≠ 1 → dmaState s k ≠ 2 → s.rdF (DmaCh.CH_CFG k) 11 8 ≠ 0 → Gives (.dmaStart port k) s (fun t => dmaState t k = 1 ∧
        Frame (DmaCh.CH_STAT k :: irqRegs DmaCh.page) s t)) ∧
      (dmaState s k ≠ 1 → dmaState s k ≠ 2 → s.rdF (DmaCh.CH_CFG k) 11 8 = 0 → Gives (.dmaStart port k) s (fun t =>
        ((dmaState t k = 2 ∧ (dmaRunOf t k).isSome = true) ∨ (dmaState t k = 4 ∧ t.rdF (DmaCh.CH_STAT k) 23 16 = 1 ∧ dmaRunOf t k = none)) ∧
        t.rdF (DmaCh.CH_STAT k) 14 8 = s.rdF (DmaCh.CH_CFG k) 6 0 ∧ Frame ([DmaCh.CH_STAT k, DmaCh.CH_COUNT k] ++ irqRegs DmaCh.page) s t)) ∧
      (dmaState s k = 1 → Gives (.dmaAbort port k) s (fun t => dmaState t k = 0 ∧ Frame [DmaCh.CH_STAT k] s t)) ∧
      (dmaState s k = 2 → dmaRunOf s k = some r → Gives (.dmaAbort port k) s (fun t =>
        dmaRunOf t k = some { r with abort := true } ∧ Frame [] s t))) ∧
    (dmaRunOf s k = some r → r.abort = false → r.snap = false →
      (r.phase = .write → r.asked = true → r.answer = some (0, l) → r.writes + 1 < r.total → Gives (.dmaAccessAnswered k late env) s (fun t =>
        (∃ u, dmaRunOf t k = some u ∧ u.writes = r.writes + 1 ∧ u.count = r.count + 1) ∧ Frame [] s t)) ∧
      (r.phase = .fence → r.posted = false → bit (r.word 0) 4 = false → Gives (.dmaAccessAnswered k late env) s (fun t =>
        t.rd (DmaCh.CH_COUNT k) = word r.count ∧ dmaRunOf t k = none ∧ dmaState t k = (if s.rdB (DmaCh.CH_CFG k) 14 then 1 else 3) ∧
        t.rd (DmaCh.CH_RUNS k) = (if s.rd (DmaCh.CH_RUNS k) = 0xFFFFFFFF then 0xFFFFFFFF else s.rd (DmaCh.CH_RUNS k) + 1) ∧
        Frame ([DmaCh.CH_STAT k, DmaCh.CH_COUNT k, DmaCh.CH_RUNS k] ++ irqRegs DmaCh.page ++ irqRegs Dma.page) s t)) ∧
      (r.phase = .read → r.asked = true → r.answer = some (c, l) → c ≠ 0 → Gives (.dmaAccessAnswered k late env) s (fun t =>
        dmaState t k = 4 ∧ t.rdF (DmaCh.CH_STAT k) 23 16 = 2 ∧ t.rdF (DmaCh.CH_STAT k) 31 24 = c % 256 ∧ dmaRunOf t k = none ∧
        t.rd (DmaCh.CH_COUNT k) = word r.count ∧ Frame ([DmaCh.CH_STAT k, DmaCh.CH_COUNT k] ++ irqRegs DmaCh.page) s t))) ∧
    (dmaRunOf s k = some r → Gives (.dmaAccessTimeout k) s (fun t => dmaState t k = 4 ∧ t.rdF (DmaCh.CH_STAT k) 23 16 = 6 ∧
      t.rd (DmaCh.CH_COUNT k) = word r.count ∧ dmaRunOf t k = none ∧ r.at_ + 80000 ≤ t.now ∧
      Frame ([DmaCh.CH_STAT k, DmaCh.CH_COUNT k] ++ irqRegs DmaCh.page) s t))

/-- R417-R426. The stored signatures are free constants of Config; a test's own is its MISR with the closing word (signatureOf). -/
def Obligations.SelfTestsIsolateJudgeAndRetire : Prop :=
  ∀ (n t0 p c b : Nat) (codes : Nat × Nat × Nat) (logic mem : List (BitVec 64)) (ls ms : Nat) (fixed : Bool) (s : State),
    (s.inService = true → s.bist.cur = none → Gives .bistSliceStart s (fun t => t.bist.cur = some (s.bist.next % 8) ∧
      t.bist.lastTick = some (sliceDue s) ∧ s.ofTick (sliceDue s) ≤ t.now ∧ t.rdF (hSTATUS Bist.page) 6 4 = s.bist.next % 8 ∧
      (s.bist.next % 8 < 4 → laneRetired s = false → t.cle.bistLane = some (s.bist.next % 8)) ∧ Frame [hSTATUS Bist.page] s t)) ∧
    (s.bist.cur = some n → s.bist.lastTick = some t0 → n < 8 → (bankRetired s = false → signatureOf (0x10 + n) n mem ms = Config.signature (0x10 + n) n) →
      ((logicTested s n = true → signatureOf n n logic ls = Config.signature n n) → Gives (.bistSliceEnd logic ls mem ms [] []) s (fun t =>
        t.bist.cur = none ∧ t.bist.next = (n + 1) % 8 ∧ t.cle.bistLane = none ∧ s.ofTick (t0 + 40000) ≤ t.now ∧
        (n = 7 → t.rdB (hSTATUS Bist.page) 0 = !s.bist.cycleBad) ∧ Frame [hSTATUS Bist.page] s t)) ∧
      (logicTested s n = true → signatureOf n n logic ls ≠ Config.signature n n → Gives (.bistSliceEnd logic ls mem ms [] []) s (fun t =>
        t.bist.cur = none ∧ t.rdB Bist.RETIRED n = true ∧ t.rd Bist.SIG_HI = (signatureOf n n logic ls).1 ∧ t.rd Bist.SIG_LO = (signatureOf n n logic ls).2 ∧ inLockout t = true ∧
        ∀ a, t.rdByte a = s.rdByte a))) ∧
    (4 ≤ p → p < 8 → s.bist.cur = none → copyRetired s p = false → Gives (.datapathLockstepMismatch p) s (fun t =>
      t.rdB Bist.RETIRED p = true ∧ t.rdF Bist.LAST_FAIL 7 0 = p ∧ inLockout t = true ∧ ∀ a, t.rdByte a = s.rdByte a)) ∧
    (copyRetired s p = true → Gives (.datapathLockstepMismatch p) s (fun t => Frame [] s t)) ∧
    (c < 32 → s.inService = true →
      (stepsOk (checkResults s c codes) = true → Gives (.converterCheckOverdue c (some codes)) s (fun t => KMap.get (fun _ => 0) t.bist.fails c = 0 ∧
        KMap.get (fun _ => 0) t.bist.checked c = t.now ∧ Frame [] s t)) ∧
      Gives (.converterCheckOverdue c none) s (fun t => KMap.get (fun _ => 0) t.bist.fails c = 2 ∧
        t.rdF Bist.LAST_FAIL 7 0 = 0x20 + c / 16 ∧ inLockout t = true ∧ ∀ a, t.rdByte a = s.rdByte a)) ∧
    Gives (.eccErrorDetected (.bank b) true) s (fun t => Frame (irqRegs Bist.page) s t ∧ t.rdL BistTel.ECC_CORR =
      (if s.rdL BistTel.ECC_CORR = 0xFFFFFFFF then 0xFFFFFFFF else s.rdL BistTel.ECC_CORR + 1)) ∧
    Gives (.eccErrorDetected (.bank b) false) s (fun t => t.rdB Bist.RETIRED (8 + b % 8) = true ∧ inLockout t = true ∧
      ∀ a, t.rdByte a = s.rdByte a) ∧
    Gives (.eccErrorDetected .sram false) s (fun t => Frame [] s t ∧ t.rdL BistTel.ECC_UNCORR =
      (if s.rdL BistTel.ECC_UNCORR = 0xFFFFFFFF then 0xFFFFFFFF else s.rdL BistTel.ECC_UNCORR + 1)) ∧
    (∀ m, (ctxOf s m).spec ≠ none → Gives (.eccErrorDetected (.buffer m) fixed) s (fun t =>
      (∃ b, (ctxOf t m).spec = some b ∧ b.bad = true) ∧ Frame [] s t))

/-- R427, R429. -/
def Obligations.HostTestsAndFuseRepair : Prop :=
  ∀ (port : Port) (v : Word) (p at_ dt : Nat) (test : List (BitVec 64)) (steps : Nat) (ok : Bool) (s : State),
    (Admits s port Bist.BIST_CMD → s.bist.host = none → p = fld v 7 0 → (p < 8 ∨ (0x10 ≤ p ∧ p < 0x18) ∨ p = 0x20 ∨ p = 0x21) →
      activeControl s p = false → Gives (.bistCmd port v) s (fun t => t.bist.host = some (p, s.now) ∧ t.rdF Bist.HOST_STAT 7 0 = 1 ∧
        t.rdF Bist.HOST_STAT 15 8 = p ∧ t.rdB (hSTATUS Bist.page) 3 = true ∧ Frame [Bist.HOST_STAT, hSTATUS Bist.page] s t)) ∧
    (s.bist.host = some (p, at_) → p < 0x20 →
      (signatureOf p 0xFF test steps = Config.signature p 0xFF → Gives (.hostTestDone test steps [] []) s (fun t => t.bist.host = none ∧
        t.rd Bist.HOST_STAT = word (2 + 256 * p) ∧ Frame ([Bist.HOST_STAT, hSTATUS Bist.page] ++ irqRegs Bist.page) s t)) ∧
      (signatureOf p 0xFF test steps ≠ Config.signature p 0xFF → Gives (.hostTestDone test steps [] []) s (fun t => t.bist.host = none ∧
        t.rd Bist.HOST_STAT = word (3 + 256 * p) ∧ inLockout t = true ∧ ∀ a, t.rdByte a = s.rdByte a))) ∧
    (Admits s port Bist.FUSE_CMD → lockOpen s Bist.page = true → v = 0x46555345 → lcState s ≠ 2 →
      s.rdF Bist.REPAIR_STAT 7 0 + s.rdF Bist.REPAIR_STAT 15 8 ≤ 64 →
      (anyTbRun s = false → Gives (.fuseCmd port v) s (fun t => t.bist.fuseAt = some s.now ∧ Frame [] s t)) ∧
      (anyTbRun s = true → Gives (.fuseCmd port v) s (fun t => t.bist.fuseAt = s.bist.fuseAt))) ∧
    (s.bist.fuseAt = some at_ → Gives (.fuseProgramDone dt ok) s (fun t => t.bist.fuseAt = none ∧ t.rdB Bist.REPAIR_STAT 24 = !ok ∧
      t.rdF Bist.REPAIR_STAT 15 8 = (s.rdF Bist.REPAIR_STAT 15 8 + (if ok then s.rdF Bist.REPAIR_STAT 7 0 else 0)) % 256 ∧
      t.now ≤ max s.now (at_ + 40000000) ∧ Frame [Bist.REPAIR_STAT] s t))

/-- R433, R435-R437, R439. -/
def Obligations.EventsReachTheRingWithTheirWords : Prop :=
  ∀ (e : Event) (rest : List Event) (s : State),
    (s.evq = [] → exec .eventRecord s = .next s) ∧
    (nextEvent s.evq = some (e, rest) → s.inService = true → (e.cls = .safety ∨ e.marker = true) → s.ev.owed = 0 → evFill s < 6143 → s.ev.storm = none →
      alarmRouted s e.cls.num = false → Gives .eventRecord s (fun t => t.evq = rest ∧ t.rd Evrec.WR_SEQ = s.rd Evrec.WR_SEQ + 1 ∧
        (∀ j < 8, t.rdMem (0x480000 + 0x20 * ((s.rd Evrec.WR_SEQ).toNat % 8192) + 4 * j) =
          (entryWords s (s.rd Evrec.WR_SEQ) (eventEntry e)).getD j 0) ∧
        (∀ a, a ∉ Evrec.WR_SEQ :: irqRegs Evrec.page → t.rd a = s.rd a) ∧
        ∀ a, (a < 0x480000 + 0x20 * ((s.rd Evrec.WR_SEQ).toNat % 8192) ∨ 0x480000 + 0x20 * ((s.rd Evrec.WR_SEQ).toNat % 8192) + 32 ≤ a) →
          t.rdByte a = s.rdByte a))

/-- R435, R437, R438, R440, R441, R443. -/
def Obligations.RecorderClocksAndCommands : Prop :=
  ∀ (port : Port) (v : Word) (k dt : Nat) (b : EvBucket) (w : List Word) (rest : List (List Word)) (s : State),
    (s.ev.srcs = [(k, b)] → 0 < b.tally → 0 < (classRate s b.last.cls).2 → Gives .tokenRefill s (fun t =>
      (∃ u, t.ev.srcs = [(k, u)] ∧ u.tally = 0) ∧ refillAt s b ≤ t.now ∧ (evRoutes s = [] →
        ∀ a, a ∉ [Evrec.WR_SEQ, Evrec.LOSS0 0, Evrec.LOSS0 1, Evrec.LOSS0 2, Evrec.LOSS0 3] ++ irqRegs Evrec.page → t.rd a = s.rd a))) ∧
    (s.inService = true → Gives .stormWindowEnd s (fun t => t.ev.winTick = (s.ev.winTick / 8000000 + 1) * 8000000 ∧ t.ev.winCount = 0 ∧
      s.ofTick t.ev.winTick ≤ t.now ∧ (s.ev.storm = none → t.ev.winFails = 0 ∧ Frame [] s t))) ∧
    (s.ev.storm = none → Gives .summaryPeriodEnd s (fun t => Frame [] s t)) ∧
    (s.ev.storm.isSome = true → Gives .summaryPeriodEnd s (fun t => t.ev.sums = s.ev.sums + 1 ∧
      s.ev.period.at_ + s.rdF Evrec.STORM_CFG 31 16 * 800000 ≤ t.ev.period.at_ ∧ (evRoutes s = [] → Frame (irqRegs Evrec.page) s t))) ∧
    (Admits s port Evrec.RD_SEQ → (v - s.rd Evrec.RD_SEQ).toNat ≤ evFill s → Gives (.rdSeqWrite port v) s (fun t =>
      t.rd Evrec.RD_SEQ = v ∧ evFill t = evFill s - (v - s.rd Evrec.RD_SEQ).toNat ∧ Frame (Evrec.RD_SEQ :: irqRegs Evrec.page) s t)) ∧
    (Admits s port Evrec.RD_SEQ → evFill s < (v - s.rd Evrec.RD_SEQ).toNat → Gives (.rdSeqWrite port v) s (fun t =>
      t.rd Evrec.RD_SEQ = s.rd Evrec.RD_SEQ)) ∧
    (Admits s port Evrec.NV_CLR → lockOpen s Evrec.page = true → v = 0x4556434C →
      (s.ev.nvQueue = [] → Gives (.nvClr port v) s (fun t => t.ev.nvFirst.length = 1 ∧ t.ev.nvLast.length = 1 ∧ t.ev.nvClear = false)) ∧
      (s.ev.nvQueue ≠ [] → Gives (.nvClr port v) s (fun t => t.ev.nvClear = true ∧ t.ev.nvQueue = s.ev.nvQueue ∧ Frame [] s t))) ∧
    (s.ev.nvQueue = w :: rest → s.ev.nvClear = false → Gives (.nvEntryWritten dt) s (fun t => t.ev.nvQueue = rest ∧ t.ev.nvLast.head? = some w ∧
      t.ev.nvLast = (w :: s.ev.nvLast).take 128 ∧ t.now ≤ max s.now (s.ev.nvAt + 1600000) ∧ Frame [] s t)) ∧
    (Admits s port Evrec.CNT_CLR → Gives (.cntClr port v) s (fun t =>
      (∀ c < 4, t.rd (Evrec.LOSS0 c) = if bit v c then 0 else s.rd (Evrec.LOSS0 c)) ∧ (bit v 4 = true → t.rdF Evrec.NV_CNT 31 16 = 0) ∧
      Frame [Evrec.LOSS0 0, Evrec.LOSS0 1, Evrec.LOSS0 2, Evrec.LOSS0 3, Evrec.NV_CNT] s t))

/-- R445, R447, R448, R458. -/
def Obligations.ImageSessionsOpenTakeBlocksAndClose : Prop :=
  ∀ (port : Port) (n src b a dt len frag : Nat) (l : List Nat) (s : State), n = inactiveSlot s →
    (Admits s port Fwim.FW_CMD →
      (src < 8 → s.fw.holder = none → s.phase ≠ 10 → slotIn s 4 = none → fwPhase s = 0 → Gives (.fwOpen port src) s (fun t =>
        t.fw.holder = some port ∧ slotState t n = 1 ∧ t.rdF Fwim.FW_STAT 15 12 = src ∧ t.rd Fwim.BLK_DONE = 0 ∧ t.fw.eraseAt = some s.now ∧
        t.fw.sessAt = s.now ∧ (∀ x < 1024, blockDone t n x = false) ∧ Frame [Fwim.FW_STAT, Fwim.BLK_DONE] s t)) ∧
      (src < 8 → s.fw.holder.isSome = true → Gives (.fwOpen port src) s (fun t => t.fw = s.fw ∧ t.rdF Fwim.REFUSED_SRC 3 0 = src ∧
        Frame ([Fwim.REFUSED_SRC, hERRINFO Fwim.page] ++ irqRegs Fwim.page) s t)) ∧
      (fwHeld s port = false → s.fw.holder.isSome = true → Gives (.fwClose port) s (fun t => t.fw.holder = none ∧
        t.rdF Fwim.FW_STAT 15 12 = 0 ∧ (slotState s n = 1 → slotState t n = 2) ∧ Frame [Fwim.FW_STAT] s t)) ∧
      (fwHeld s port = false → s.fw.holder.isSome = true → s.fw.eraseAt = none → s.fw.progAt = none → b = s.rdF Fwim.BLK_NUM 9 0 →
        blockDone s n b = false → Gives (.fwBlock port) s (fun t =>
          (s.rd Fwim.BLK_CRC = word (Crc.crc32c (wordsBytes (stagingWords s b))) → t.fw.progAt = some (b, s.now) ∧ t.rdF Fwim.FW_STAT 23 16 = 0) ∧
          (s.rd Fwim.BLK_CRC ≠ word (Crc.crc32c (wordsBytes (stagingWords s b))) → t.fw.progAt = none ∧ t.rdF Fwim.FW_STAT 23 16 = 1) ∧
          t.fw.sessAt = s.now ∧ Frame [Fwim.FW_STAT] s t)) ∧
      (lockOpen s Fwim.page = true → fwHeld s port = false → (slotState s n = 6 ∨ slotState s n = 7) → Gives (.fwErase port) s (fun t =>
        slotState t n = 0 ∧ t.rd Fwim.BLK_DONE = 0 ∧ Frame [Fwim.BLK_DONE] s t))) ∧
    (s.fw.eraseAt = some a → Gives (.eraseDone dt) s (fun t => t.fw.eraseAt = none ∧ t.now ≤ max s.now (a + 320000000) ∧ Frame [] s t)) ∧
    (s.fw.progAt = some (b, a) → b < 1024 → Gives (.blockProgrammed dt) s (fun t => t.fw.progAt = none ∧ blockDone t n b = true ∧
      (∀ j < 1024, slotWord t n (1024 * b + j) = s.rdMem (stagingOf b + 4 * j)) ∧ t.now ≤ max s.now (a + 1600000) ∧
      Frame (Fwim.BLK_DONE :: irqRegs Fwim.page) s t)) ∧
    (s.fw.holder.isSome = true → Gives .sessionIdleTimeout s (fun t => t.fw.holder = none ∧ t.rdF Fwim.FW_STAT 15 12 = 0 ∧
      s.fw.sessAt + 48000000000 ≤ t.now ∧ Frame [Fwim.FW_STAT] s t)) ∧
    (s.inService = true → s.rdB SecDbg.DBG_HSTAT 0 = false → pwrState s ≠ 2 → 1 ≤ src → src ≤ 6 → l.getD 0 0 = 0x14 → supPair s = 0 →
      len = bytesNat ((l.drop 6).take 2) → frag = bytesNat ((l.drop 4).take 2) → b = bytesNat ((l.drop 2).take 2) → 0 < len → len ≤ 52 →
      frag + len ≤ 4096 → 12 + len ≤ l.length → stagingCode s .tykor0 (stagingOf b + 4 * (frag / 4)) = .none → Gives (.fwRecord src l) s (fun t =>
        (∀ j < len, t.rdByte (stagingOf b + (frag + j)) = BitVec.ofNat 8 (l.getD (12 + j) 0)) ∧
        (∀ x, (x < stagingOf b + frag ∨ stagingOf b + (frag + len) ≤ x) → t.rdByte x = s.rdByte x) ∧ ∀ x, t.rd x = s.rd x))

/-- R449, R450, R453-R456. -/
def Obligations.ImagesAreVerifiedHandedOverAndTried : Prop :=
  ∀ (port : Port) (n m a dt : Nat) (s : State), n = inactiveSlot s →
    (Admits s port Fwim.FW_CMD → fwHeld s port = false →
      ((slotState s n = 1 ∨ slotState s n = 2) → s.fw.verifyAt = none → Gives (.fwVerify port) s (fun t =>
        t.fw.verifyAt = some s.now ∧ Frame [] s t)) ∧
      (lockOpen s Fwim.page = true → s.phase ≠ 10 → slotState s n = 3 → slotState s (1 - n) = 5 → s.fw.holder = none → supPair s = 0 →
        fwPhase s = 0 → fld (slotWord s n 6) 15 8 ≤ s.rdF Fwim.RUN_FMT 7 0 → s.rdF Fwim.RUN_FMT 7 0 ≤ fld (slotWord s n 6) 7 0 →
        s.fw.arb ≤ slotArb s n → Gives (.fwActivate port) s (fun t => slotState t n = 4 ∧ slotState t (1 - n) = 6 ∧ t.fw.active = n ∧
          fwPhase t = 1 ∧ t.fw.actAt = s.now ∧ t.fw.back = false ∧ Frame [Fwim.FW_STAT] s t)) ∧
      (lockOpen s Fwim.page = true → s.phase = 10 → slotState s 0 = 3 → s.fw.arb ≤ slotArb s 0 → Gives (.fwActivate port) s (fun t =>
        t.rdB Bup.RST_CAUSE 5 = true ∧ t.phase = 1 ∧ ∀ x, t.rdByte x = 0)) ∧
      (slotIn s 4 = some m →
        (port = .tykor1 → supPair s = 1 → fwPhase s = 0 → Gives (.fwConfirm port) s (fun t => slotState t m = 5 ∧
          t.fw.arb = max s.fw.arb (slotArb s m) ∧ t.fw.trialAt = none ∧ fwPhase t = 1 ∧ t.fw.back = true ∧
          Frame (Fwim.FW_STAT :: irqRegs Fwim.page) s t)) ∧
        (port ≠ .tykor1 → Gives (.fwConfirm port) s (fun t => t.fw = s.fw)) ∧
        (lockOpen s Fwim.page = true → Gives (.fwReject port) s (fun t => slotState t m = 7 ∧ fwPhase t = 0 ∧ t.fw.trialAt = none ∧
          t.rdF Fwim.LAST_FAIL 7 0 = 0xB ∧ Frame ([Fwim.FW_STAT, Fwim.LAST_FAIL] ++ irqRegs Fwim.page) s t)))) ∧
    (s.fw.verifyAt = some a →
      (verifyCode s n = 0 → Gives (.verifyDone dt) s (fun t => t.fw.verifyAt = none ∧ slotState t n = 3 ∧ t.fw.holder = none ∧
        t.now ≤ max s.now (a + 48000000) ∧ Frame (Fwim.FW_STAT :: irqRegs Fwim.page) s t)) ∧
      (verifyCode s n ≠ 0 → Gives (.verifyDone dt) s (fun t => t.fw.verifyAt = none ∧ slotState t n = 2 ∧
        t.rdF Fwim.LAST_FAIL 7 0 = verifyCode s n ∧ Frame [Fwim.LAST_FAIL] s t))) ∧
    (fwPhase s = 1 →
      Gives (.pairReady dt) s (fun t => fwPhase t = 3 ∧ t.now ≤ max s.now (s.fw.actAt + 160000000) ∧
        Frame (Fwim.FW_STAT :: irqRegs Fwim.page) s t) ∧
      (s.fw.back = true → Gives .readyTimeout s (fun t => fwPhase t = 0 ∧ t.fw.retryTick = some ((t.engine / 800000000 + 1) * 800000000) ∧
        s.fw.actAt + 160000000 ≤ t.now ∧ Frame [Fwim.FW_STAT] s t)) ∧
      (s.fw.back = false → slotIn s 4 = some m → slotState s (1 - m) = 6 → Gives .readyTimeout s (fun t => fwPhase t = 0 ∧
        slotState t m = 7 ∧ slotState t (1 - m) = 5 ∧ t.fw.active = 1 - m ∧ t.rdF Fwim.LAST_FAIL 7 0 = 9 ∧
        Frame [Fwim.FW_STAT, Fwim.LAST_FAIL] s t))) ∧
    (fwPhase s = 3 → Gives .handoff s (fun t => fwPhase t = 4 ∧ Frame [Fwim.FW_STAT] s t)) ∧
    (s.fw.trialAt = some a → slotIn s 4 = some m → Gives .trialTimeout s (fun t => slotState t m = 7 ∧ t.fw.trialAt = none ∧
      t.rdF Fwim.LAST_FAIL 7 0 = 0xA ∧ a + 24000000000 ≤ t.now ∧ Frame ([Fwim.FW_STAT, Fwim.LAST_FAIL] ++ irqRegs Fwim.page) s t)) ∧
    (s.fw.retryTick = some a → Gives .supervisionReturnRetry s (fun t => fwPhase t = 1 ∧ t.fw.back = true ∧ t.fw.retryTick = none ∧
      s.ofTick a ≤ t.now ∧ t.fw.actAt = t.now ∧ Frame [Fwim.FW_STAT] s t))

/-- R461, R463-R466. -/
def Obligations.LifecycleKeysAndScan : Prop :=
  ∀ (port : Port) (v : Word) (a b k dt at_ : Nat) (ws : List Word) (dbg : Bool) (s : State),
    (Admits s port Sec.LC_CMD → lockOpen s Sec.page = true → lcRow v = some (a, b) →
      (lcState s = a → anyTbRun s = false → lcAllowed s b = true → Gives (.lcCmd port v) s (fun t => t.sec.lcAt = some (b, s.now) ∧ Frame [] s t)) ∧
      (lcState s ≠ a ∨ anyTbRun s = true → Gives (.lcCmd port v) s (fun t => t.sec.lcAt = s.sec.lcAt))) ∧
    (s.sec.lcAt = some (b, at_) → b < 4 → Gives (.lcProgramDone dt) s (fun t => lcState t = b ∧ t.sec.lcAt = none ∧
      t.rdB Bup.RST_CAUSE 5 = true ∧ t.phase = 1 ∧ t.now ≤ max s.now (at_ + 16000000) ∧ ∀ x, t.rdByte x = 0)) ∧
    (Admits s port SecKey.KEY_CMD → s.sec.keyAt = none → bit v 4 = true → bit v 8 = false →
      (P256.onCurve (bytesNat (wordsBytes ((keyBuf s).take 8))) (bytesNat (wordsBytes ((keyBuf s).drop 8))) = true →
        s.rdB SecKey.KEY_STAT (fld v 1 0) = false → Gives (.keyProgram port v) s (fun t =>
          t.sec.keyAt = some (fld v 1 0, some (keyBuf s), false, s.now) ∧ (∀ j < 16, t.rd (SecKey.KEY_BUF0 j) = 0) ∧
          (∀ x, (∀ j < 16, x ≠ SecKey.KEY_BUF0 j) → t.rd x = s.rd x) ∧ ∀ x, t.rdByte x = s.rdByte x)) ∧
      (P256.onCurve (bytesNat (wordsBytes ((keyBuf s).take 8))) (bytesNat (wordsBytes ((keyBuf s).drop 8))) = false →
        Gives (.keyProgram port v) s (fun t => t.sec.keyAt = none ∧ t.sec.keys = s.sec.keys ∧ t.rd SecKey.KEY_STAT = s.rd SecKey.KEY_STAT ∧ ∀ j < 16, t.rd (SecKey.KEY_BUF0 j) = 0))) ∧
    (s.sec.keyAt = some (k, some ws, dbg, at_) → k < 4 → Gives (.keyProgramDone dt) s (fun t => t.sec.keyAt = none ∧
      t.rdB SecKey.KEY_STAT k = true ∧ KMap.get (fun _ => []) t.sec.keys k = ws ∧ t.rd (SecKey.KEY_FP0 k) = keyPrint ws ∧
      t.now ≤ max s.now (at_ + 8000000) ∧ Frame [SecKey.KEY_STAT, SecKey.KEY_FP0 k] s t)) ∧
    (Admits s port Sec.KEY_REVOKE → lockOpen s Sec.page = true → fld v 31 16 = 0x5256 →
      (∀ n, slotIn s 4 = some n ∨ slotIn s 5 = some n → fld (slotWord s n 7) 1 0 ≠ fld v 1 0) → s.rdB SecKey.KEY_STAT (fld v 1 0) = true →
      Gives (.keyRevoke port v) s (fun t => t.rdB SecKey.KEY_STAT (4 + fld v 1 0) = true ∧ Frame [SecKey.KEY_STAT] s t)) ∧
    (∀ c, c = 0 ∨ c = 3 ∨ c = 4 → pwrState s ≠ 3 →
      (lcState s ≠ 2 → Gives (.tapUpdateIr c) s (fun t => t.sec.tap = c ∧ t.bu.tapHold = true ∧ t.rdB Bup.RST_CAUSE 11 = true ∧ t.phase = 1)) ∧
      (lcState s = 2 → s.phase ≠ 10 → Gives (.tapUpdateIr c) s (fun t => t.sec.tap = 0x1F ∧ t.bu.tapHold = false ∧ Frame [] s t))) ∧
    Gives (.tapUpdateIr 1) s (fun t => t.sec.tap = 1 ∧ t.bu.tapHold = false ∧
      (s.part = .sep9640 → tapData t &&& 0x0FFFFFFF = 0x0964074B) ∧ Frame [] s t) ∧
    Gives .tapTestLogicReset s (fun t => t.sec.tap = 1 ∧ t.bu.tapHold = false ∧ Frame [] s t)

/-- R467-R470. The noise source's nonce is an operand. -/
def Obligations.DebugGrantsOpenAndEnd : Prop :=
  ∀ (port : Port) (nonce : List Word) (level dt a k : Nat) (v : Word) (s : State),
    (port ≠ .debug → Admits s port SecDbg.DBG_CMD → ∀ i ∈ [Instr.dbgChal port nonce, Instr.dbgAuth port level, Instr.closeGrant port, Instr.sysrst port],
      Gives i s (fun t => t.sec = s.sec ∧ t.phase = s.phase)) ∧
    (Admits s .debug SecDbg.DBG_CMD →
      (s.sec.blockAt = none → Gives (.dbgChal .debug nonce) s (fun t => (∀ j < 8, t.rd (SecDbg.DBG_CHAL0 j) = nonce.getD j 0) ∧
        t.sec.nonceAt = some s.now ∧ (∀ x, (∀ j < 8, x ≠ SecDbg.DBG_CHAL0 j) → t.rd x = s.rd x) ∧ ∀ x, t.rdByte x = s.rdByte x)) ∧
      ((level = 1 ∨ level = 2 ∨ level = 4) → s.sec.nonceAt = some a → s.now ≤ a + 8000000000 → Gives (.dbgAuth .debug level) s (fun t =>
        t.sec.nonceAt = none ∧ t.sec.authAt = some (level, s.now) ∧ Frame [] s t)) ∧
      Gives (.closeGrant .debug) s (fun t => t.sec.grant = 0 ∧ t.sec.returnOk = false ∧ t.rd SecDbg.DBG_HALT = 0 ∧ t.rd SecDbg.DBG_HSTAT = 0 ∧
        Frame [SecDbg.DBG_HALT, SecDbg.DBG_HSTAT] s t) ∧
      (2 ≤ dbgLevel s → Gives (.sysrst .debug) s (fun t => t.rdB Bup.RST_CAUSE 11 = true ∧ t.phase = 1 ∧ ∀ x, t.rdByte x = 0)) ∧
      (dbgLevel s < 2 → Gives (.sysrst .debug) s (fun t => t.sec.dbgCode = .denied ∧ t.sec.grant = s.sec.grant ∧
        t.phase = s.phase ∧ ∀ a, t.rdByte a = s.rdByte a))) ∧
    (s.sec.authAt = some (level, a) → k = s.rdF SecKey.KEY_STAT 9 8 → Gives (.authDone dt) s (fun t => t.sec.authAt = none ∧
      t.now ≤ max s.now (a + 48000000) ∧ Frame (irqRegs Sec.page) s t ∧
      (if s.rdB SecKey.KEY_STAT 10 && keyUsable s k && keyVerifies s k (grantDigest s level)
          (bytesNat (wordsBytes ((List.range 8).map (fun j => s.rd (SecDbg.DBG_RESP0 j)))))
          (bytesNat (wordsBytes ((List.range 8).map (fun j => s.rd (SecDbg.DBG_RESP0 (8 + j))))))
        then t.sec.grant = min level 2 ∧ t.sec.fails = 0 ∧ t.sec.returnOk = decide (level = 4)
        else t.sec.grant = s.sec.grant ∧ t.sec.fails = s.sec.fails + 1 ∧
          t.sec.blockAt = if 5 ≤ s.sec.fails + 1 then some t.now else none))) ∧
    (s.sec.nonceAt = some a → Gives .nonceExpiry s (fun t => t.sec.nonceAt = none ∧ a + 8000000000 ≤ t.now ∧ Frame [] s t)) ∧
    (s.sec.blockAt = some a → Gives .debugBlockExpiry s (fun t => t.sec.blockAt = none ∧ t.sec.fails = 0 ∧ a + 240000000000 ≤ t.now ∧ Frame [] s t)) ∧
    (Admits s port SecDbg.DBG_HALT →
      ((v &&& 0xF &&& ~~~(s.rd SecDbg.DBG_HALT) = 0) ∨ (dbgLevel s = 3 ∧ lcState s = 0 ∧ pwrState s ≠ 2 ∧ anyTbRun s = false)) →
      Gives (.dbgHaltWrite port v) s (fun t => t.rd SecDbg.DBG_HALT = (v &&& 0xF) ∧ t.rd SecDbg.DBG_HSTAT = (v &&& 0xF) ∧
        Frame [SecDbg.DBG_HALT, SecDbg.DBG_HSTAT] s t))

/-- R42, R469, R471-R474. -/
def Obligations.PowerStatesFollowTheirCommands : Prop :=
  ∀ (port : Port) (k dt a : Nat) (s : State),
    (Admits s port Sec.PWR_CMD → s.phase ≠ 10 →
      (pwrState s = 1 → s.rdB Sec.PWR_STAT 2 = false → Gives (.pwrRun port) s (fun t => pwrState t = 0 ∧
        Frame (Sec.PWR_STAT :: irqRegs Sec.page) s t)) ∧
      (pwrState s = 2 → Gives (.pwrRun port) s (fun t => pwrState t = 0 ∧ t.rdB Sec.WAKE_STAT 8 = true ∧
        Frame ([Sec.PWR_STAT, Sec.WAKE_STAT] ++ irqRegs Sec.page) s t)) ∧
      (pwrState s = 0 → s.rdB Sec.PWR_STAT 2 = false → busyCtxs s = [] → (∀ m < 4, machQuiet s m = true) → Gives (.pwrHold port) s (fun t =>
        pwrState t = 1 ∧ (∀ p, lockReg (hLOCK p) = true → lockOpen t p = false) ∧ t.sec.grant = 0 ∧ (∀ x < 8, tbRun s x = true → t.rdB (Tb.TB_STAT x) 1 = true) ∧
        ∀ x, t.rdByte x = s.rdByte x)) ∧
      (pwrState s < 2 → s.rdB Sec.PWR_STAT 2 = false → sleepReady s = true → Gives (.pwrSleep port) s (fun t =>
        t.rdB Sec.PWR_STAT 2 = true ∧ pwrState t = pwrState s ∧ Frame [Sec.PWR_STAT] s t))) ∧
    (Admits s port Sec.PWR_CMD → lockOpen s Sec.page = true → anyTbRun s = false → s.sec.offAt = none → Gives (.pwrOff port) s (fun t =>
      t.sec.offAt = some s.now ∧ Frame [] s t)) ∧
    (s.sec.offAt = some a → Gives (.offDrainDone dt) s (fun t => pwrState t = 3 ∧ t.sec.pwrdn = true ∧ t.bu.padHold = true ∧
      t.ev.nvQueue = [] ∧ t.now ≤ max s.now (a + 80000000) ∧ ∀ x, t.rdByte x = 0)) ∧
    (k < 5 → s.rdB Sec.WAKE_CFG k = true → pwrState s = 2 → Gives (.wakeEvent k) s (fun t => pwrState t = 0 ∧
      t.rdB Sec.WAKE_STAT k = true ∧ Frame ([Sec.PWR_STAT, Sec.WAKE_STAT] ++ irqRegs Sec.page) s t)) ∧
    (s.rdB Sec.WAKE_CFG k = false → exec (.wakeEvent k) s = .next s)

/-- R34, whole. -/
def Obligations.UnmappedAddressesAnswerOutOfRange : Prop :=
  ∀ (port : Port) (a : Nat) (v : Word) (env : WriteEnv) (l : List Nat) (s : State), a % 4 = 0 → a < 0x1000000 →
    (isMapped a = false → remoteOpen s a = false →
      (busyUnmapped s port (pageOf a) = false → Gives (.registerWrite port a v env) s (fun t =>
        t.rdF (hERRINFO HostP.page) 31 24 = 4 ∧ t.rdF (hERRINFO HostP.page) 23 20 = port.num ∧ t.rdF (hERRINFO HostP.page) 11 0 = a % 4096 ∧
        Frame (hERRINFO HostP.page :: irqRegs HostP.page) s t)) ∧
      (busyUnmapped s .host (pageOf a) = false → l.length = 7 → l.getD 4 0 = 0 → crcOk 5 l = true → bytesNat ((l.drop 1).take 3) = a →
        Gives (.hostRead l {}) s (fun t => t.host.answer = readAnswer 4 [0] ∧ Frame [] s t))) ∧
    ((pageKind (pageOf a)).isSome = true → regRow a = none →
      viewWord a s = 0 ∧ (Admits s port a → Gives (.registerWrite port a v env) s (fun t => Frame [] s t)))

/-- R74, whole. -/
def Obligations.SoftwareResetsNeedTheirKeyAndTheOpenLock : Prop :=
  ∀ (port : Port) (v : Word) (env : WriteEnv) (s : State), port ≠ .debug → busyPage s Clk.page = false → twinBars s port Clk.page = false →
    (lockOpen s Clk.page = false → Gives (.registerWrite port Clk.SWRST v env) s (fun t =>
      t.rdF (hERRINFO Clk.page) 31 24 = 2 ∧ t.rdF (hERRINFO Clk.page) 23 20 = port.num ∧
      Frame (hERRINFO Clk.page :: irqRegs Clk.page) s t)) ∧
    (lockOpen s Clk.page = true →
      Gives (.registerWrite port Clk.SWRST 0x53595352 env) s (fun t => t.rdB Bup.RST_CAUSE 5 = true ∧ t.phase = 1 ∧ ∀ a, t.rdByte a = 0) ∧
      Gives (.registerWrite port Clk.SWRST 0x53555052 env) s (fun t => t.rdB Bup.RST_CAUSE 18 = true ∧ t.phase = s.phase ∧
        ∀ a, t.rdByte a = s.rdByte a) ∧
      (v ≠ 0x53595352 → v ≠ 0x53555052 → Gives (.registerWrite port Clk.SWRST v env) s (fun t =>
        t.rdF (hERRINFO Clk.page) 31 24 = 3 ∧ t.rdF (hERRINFO Clk.page) 23 20 = port.num ∧
        Frame (hERRINFO Clk.page :: irqRegs Clk.page) s t)))

/-- R60, R62, R70, R74: what each reset of the control path records. -/
def Obligations.SystemAndPowerOnResetsShowTheirCause : Prop :=
  ∀ (port : Port) (k : Nat) (s : State),
    Gives .powerOnReset s (fun t => t.rd Bup.RST_CAUSE = 1 ∧ t.phase = 1 ∧ t.pending = s.pending ∧ ∀ a, t.rdByte a = 0) ∧
    (1 ∉ s.bu.railsLow → Gives (.brownOut [1]) s (fun t => t.rd Bup.RST_CAUSE = 1 ∧ t.phase = 1 ∧ 1 ∈ t.bu.railsLow)) ∧
    (k = 0 ∨ k = 2 ∨ k = 3 → k ∉ s.bu.railsLow → Gives (.brownOut [k]) s (fun t =>
      t.rdB Bup.RST_CAUSE (if k = 0 then 1 else k) = true ∧ t.phase = 1 ∧ k ∈ t.bu.railsLow ∧ t.bu.padHold = true ∧ ∀ a, t.rdByte a = 0)) ∧
    (s.bu.railsLow = [k] → Gives (.railRelease k) s (fun t => t.bu.railsLow = [] ∧ t.bu.padHold = false ∧ (s.phase = 1 → t.bu.since = s.now) ∧
      Frame [] s t)) ∧
    Gives .nrstAssert s (fun t => t.rdB Bup.RST_CAUSE 4 = true ∧ t.rdF Bup.RST_COUNT 15 0 = min (s.rdF Bup.RST_COUNT 15 0 + 1) 0xFFFF ∧
      t.phase = 1 ∧ ∀ a, t.rdByte a = 0) ∧
    (Admits s port Clk.SWRST → lockOpen s Clk.page = true → Gives (.swrstSystem port) s (fun t =>
      t.rdB Bup.RST_CAUSE 5 = true ∧ t.rdF Bup.RST_COUNT 15 0 = min (s.rdF Bup.RST_COUNT 15 0 + 1) 0xFFFF ∧ t.phase = 1 ∧ ∀ a, t.rdByte a = 0))

/-- R62, R70, R74: supervisor resets leave the control path running. -/
def Obligations.SupervisorResetsLeaveBringUpAlone : Prop :=
  ∀ (port : Port) (v : Word) (s : State),
    (pairsRun s = true → Gives .tykorLockstepMismatch s (fun t =>
      t.rdB Bup.RST_CAUSE 16 = true ∧ t.phase = s.phase ∧ ∀ a, t.rdByte a = s.rdByte a)) ∧
    (pairsRun s = true → s.rdB SecDbg.DBG_HSTAT (supPair s) = false → Gives .supervisorWatchdogExpiry s (fun t =>
      t.rdB Bup.RST_CAUSE 17 = true ∧ t.phase = s.phase ∧ ∀ a, t.rdByte a = s.rdByte a)) ∧
    (Admits s port Clk.SWRST → lockOpen s Clk.page = true → Gives (.swrstSupervisor port) s (fun t =>
      t.rdB Bup.RST_CAUSE 18 = true ∧ t.phase = s.phase ∧ ∀ a, t.rdByte a = s.rdByte a)) ∧
    (Admits s port Bup.RST_CAUSE → Gives (.rstCauseClear port v) s (fun t =>
      t.rd Bup.RST_CAUSE = s.rd Bup.RST_CAUSE &&& ~~~v ∧ Frame [Bup.RST_CAUSE] s t))

/-- R64 with the causes of FAIL of R69: the order of states, whatever else the state holds. -/
def Obligations.BringUpTakesItsStatesInOrder : Prop :=
  ∀ (b : Bool) (n least dt : Nat) (s : State),
    (s.phase = 1 → s.bu.railsLow = [] → s.bu.tapHold = false → pwrState s ≠ 3 → Gives (.supplyCheckDone dt) s (fun t =>
      t.phase = 2 ∧ Frame [Bup.STATE] s t)) ∧
    (s.phase = 2 → Gives (.fuseLoadDone b dt) s (fun t => t.bu.irqDrive = true ∧
      (if b then t.phase = 3 ∧ Frame [Bup.STATE] s t
       else t.phase = 15 ∧ fld (t.rd Bup.FAIL) 15 8 = 2 ∧ Frame ([Bup.STATE, Bup.FAIL] ++ irqRegs Bup.page) s t))) ∧
    (s.phase = 3 → Gives (.refEdgesPresent dt) s (fun t =>
      t.phase = 4 ∧ t.rdF Bup.STATE 9 8 = 0 ∧ t.rd Clk.PLL_STATUS = 2 ∧ Frame [Bup.STATE, Clk.PLL_STATUS] s t)) ∧
    (s.phase = 4 → s.rdF Bup.STATE 9 8 < 3 → Gives (.pllLocked dt) s (fun t =>
      t.phase = 5 ∧ t.rdB Bup.STATE 4 = false ∧ t.rdF Bup.STATE 9 8 = s.rdF Bup.STATE 9 8 + 1 ∧ t.rd Clk.PLL_STATUS = 3 ∧
      Frame [Bup.STATE, Clk.PLL_STATUS] s t)) ∧
    (s.phase = 4 → s.rdF Bup.STATE 9 8 < 3 → Gives .pllAttemptTimeout s (fun t => t.rdF Bup.STATE 9 8 = s.rdF Bup.STATE 9 8 + 1 ∧
      (if s.rdF Bup.STATE 9 8 = 2 then t.phase = 15 ∧ t.rd Bup.FAIL = 0x104 else t.phase = 4) ∧
      Frame ([Bup.STATE, Bup.FAIL] ++ irqRegs Bup.page) s t)) ∧
    (s.phase = 5 → Gives (.memRepairDone b n least dt) s (fun t =>
      t.rdF Bist.REPAIR_STAT 7 0 = n % 256 ∧ t.rdF Bist.REPAIR_STAT 23 16 = least % 256 ∧
      (if b then t.phase = 6 else t.phase = 15 ∧ fld (t.rd Bup.FAIL) 15 8 = 3) ∧
      Frame ([Bup.STATE, Bup.FAIL, Bist.REPAIR_STAT] ++ irqRegs Bup.page) s t)) ∧
    (s.phase = 6 → Gives (.islandStartDone b dt) s (fun t =>
      if b then t.phase = 15 ∧ fld (t.rd Bup.FAIL) 15 8 = 4
      else t.phase = 7 ∧ t.isl.run = true ∧ t.bu.islWatch = true ∧ t.bu.rootWatch = true ∧ t.bu.islNotes = true))

/-- R64, R66, R67: the end of bring-up; R63: the end of an island restart. -/
def Obligations.BringUpEndsInServiceOrRecovery : Prop :=
  ∀ (b : Bool) (dt : Nat) (s : State),
    (s.phase = 7 → Gives (.imageSelect dt) s (fun t =>
      ((t.phase = 8 ∧ t.therm.run = true) ∨ (t.phase = 10 ∧ bit (t.rd (hIRQ_RAW Bup.page)) 1 = true)) ∧
      (s.rdF Sec.LC_STATE 1 0 = 0 → t.phase = 10))) ∧
    (s.phase = 8 → Gives (.pageInitDone dt) s (fun t =>
      t.phase = 9 ∧ t.inService = true ∧ t.engine = 0 ∧ bit (t.rd (hIRQ_RAW Bup.page)) 0 = true ∧ ∀ a, t.rdByte a = s.rdByte a)) ∧
    (s.isl.restart ≠ none → 7 ≤ s.phase → s.phase ≠ 15 → Gives (.islandSelfTestDone b dt) s (fun t =>
      t.isl.run = true ∧ t.isl.restart = none ∧ ∀ a, t.rdByte a = s.rdByte a))

/-- R75 and R76: watch windows, reactions once per episode, and the two reference faults. -/
def Obligations.ClockWatchesReactOncePerEpisode : Prop :=
  ∀ (n : Nat) (s : State),
    (s.bu.rootWatch = true → 29440 ≤ n → n ≤ 34560 → Gives (.rootWatchWindowEnd n) s (fun t =>
      t.rd Clk.WATCH_ISL = word n ∧ t.bu.rootFails = 0 ∧ t.bu.rootReacted = false ∧ Frame (Clk.WATCH_ISL :: irqRegs Clk.page) s t)) ∧
    (s.bu.rootWatch = true → (n < 29440 ∨ 34560 < n) → s.bu.rootFails = 0 → Gives (.rootWatchWindowEnd n) s (fun t =>
      t.rdB Clk.WATCH_ISL 16 = true ∧ t.bu.rootFails = 1 ∧ Frame (Clk.WATCH_ISL :: irqRegs Clk.page) s t)) ∧
    (s.bu.rootWatch = true → (n < 29440 ∨ 34560 < n) → 1 ≤ s.bu.rootFails → s.bu.rootReacted = false →
      Gives (.rootWatchWindowEnd n) s (fun t => t.rdB Bup.RST_CAUSE 9 = true ∧ t.isl.restart ≠ none ∧ t.bu.rootReacted = true)) ∧
    (s.bu.islWatch = true → 92000 ≤ n → n ≤ 108000 → Gives (.islandWatchWindowEnd n) s (fun t =>
      t.rd Clk.WATCH_ROOT = word n ∧ t.bu.islFails = 0 ∧ t.bu.islReacted = false ∧ Frame (Clk.WATCH_ROOT :: irqRegs Clk.page) s t)) ∧
    (s.bu.islWatch = true → (n < 92000 ∨ 108000 < n) → 1 ≤ s.bu.islFails → s.bu.islReacted = false →
      Gives (.islandWatchWindowEnd n) s (fun t => t.rdB Bup.RST_CAUSE 8 = true ∧ t.phase = 1)) ∧
    (s.bu.rootWatch = true → s.bu.rootReacted = false → Gives (.partnerClockStopped true) s (fun t =>
      t.rdB Bup.RST_CAUSE 9 = true ∧ t.isl.restart ≠ none)) ∧
    (s.bu.islWatch = true → s.bu.islReacted = false → Gives (.partnerClockStopped false) s (fun t =>
      t.rdB Bup.RST_CAUSE 8 = true ∧ t.phase = 1)) ∧
    (s.phase = 4 → Gives .refLoss s (fun t => t.phase = 3 ∧ t.rd Clk.PLL_STATUS = 0 ∧ Frame [Bup.STATE, Clk.PLL_STATUS] s t)) ∧
    (s.phase ≠ 4 → s.rdB Bup.STATE 4 = false → Gives .refLoss s (fun t => t.rdB Bup.RST_CAUSE 6 = true ∧ t.phase = 1)) ∧
    (s.rdB Bup.STATE 4 = false → Gives .pllUnlock s (fun t => t.rdB Bup.RST_CAUSE 7 = true ∧ t.phase = 1))

/-- R82, R83, R217: numbering of sample sets. -/
def Obligations.CommonTriggerNumbersItsSet : Prop :=
  ∀ (port : Port) (t : Nat) (v : Word) (s : State),
    (Admits s port (MeasCtl.TRIG_SW 0) → bit v 0 = true → s.rdB (MeasCtl.TRIG_CFG 0) 16 = true → triggerCollides s = false →
      Gives (.trigSwFire port v false) s (fun u =>
        u.rdF (MeasCtl.TRIG_SEQ 0) 15 0 = (s.rdF (MeasCtl.TRIG_SEQ 0) 15 0 + 1) % 65536 ∧ u.rdF (MeasCtl.TRIG_SEQ 0) 19 16 = 0xF ∧
        u.meas.lastTrig = some s.now ∧ u.meas.converting = true ∧ (s.meas.gains = [] → Frame [MeasCtl.TRIG_SEQ 0] s u))) ∧
    (Admits s port (MeasCtl.TRIG_SW 0) → bit v 0 = true → s.rdB (MeasCtl.TRIG_CFG 0) 16 = true → triggerCollides s = true →
      Gives (.trigSwFire port v false) s (fun u =>
        u.rdF (MeasCtl.TRIG_SEQ 0) 15 0 = s.rdF (MeasCtl.TRIG_SEQ 0) 15 0 ∧
        u.rdF (MeasCtl.TRIG_SEQ 0) 31 24 = min (s.rdF (MeasCtl.TRIG_SEQ 0) 31 24 + 1) 255 ∧
        Frame (MeasCtl.TRIG_SEQ 0 :: irqRegs (MeasCtl.page 0)) s u)) ∧
    (tbRun s t = true → trigDueNow s t = true → (tbOf s t).timingAt ≤ (s.now : Int) → Gives (.timebaseTrigger t) s (fun u =>
      (tbOf u t).trigIdx = (tbOf s t).updCount ∧ u.now = s.now ∧ ∀ a, u.rdByte a = s.rdByte a)) ∧
    (tbRun s t = true → trigDueNow s t = false → (tbOf s t).trigIdx ≤ (tbOf s t).updCount → (tbOf s t).timingAt ≤ trigInstant s t →
      Gives (.timebaseTrigger t) s (fun u =>
        (tbOf u t).trigIdx = (tbOf s t).updCount + 1 ∧ trigInstant s t ≤ (u.now : Int) ∧ ∀ a, u.rdByte a = s.rdByte a)) ∧
    (tbRun s t = false → exec (.timebaseTrigger t) s = .next s)

/-- R81, R85, R92, R96: from conversion to sample. -/
def Obligations.ConversionsBecomeReleasedSamples : Prop :=
  ∀ (levels : List Int) (x c : Nat) (bits : List Bool) (s : State),
    (∀ t0, s.meas.lastTrig = some t0 → s.meas.converting = true → Gives (.sarConversionDone levels) s (fun u =>
      (∃ it, u.meas.ready = s.meas.ready ++ [it] ∧ it.at_ = t0 ∧ it.doneAt = t0 + 160 ∧ it.seq = s.rdF (MeasCtl.TRIG_SEQ 0) 15 0) ∧
      u.meas.converting = false ∧ t0 + 160 ≤ u.now ∧ Frame [] s u)) ∧
    (∀ g, s.meas.sdTags.find? (fun g => decide (g.chan = 28 * x + c)) = some g → Gives (.sdFilterRelease x c bits) s (fun u =>
      (∃ it, u.meas.ready = s.meas.ready ++ [it] ∧ it.seq = g.seq ∧ it.at_ = g.at_ ∧
        it.codes = [(g, sdCode g.n (sdSum g.n bits))]) ∧ g.due ≤ u.now ∧
      u.meas.sdTags = s.meas.sdTags.erase g ∧ Frame [] s u)) ∧
    (∀ it rest, s.meas.ready = it :: rest → Gives .sampleSetRelease s (fun u =>
      u.meas.ready = rest ∧ it.doneAt + 40 ≤ u.now ∧ (∀ a, u.rdByte a = s.rdByte a) ∧
      ∀ g code, it.codes = [(g, code)] → g.chan < 56 → chanEn s (g.chan / 28) (g.chan % 28) = true →
        (srcStored u (32 * (g.chan / 28) + g.chan % 28)).value = correct (factored g code) g.ofs g.gain ∧
        (srcStored u (32 * (g.chan / 28) + g.chan % 28)).seq = g.seq))

/-- R86-R94, R104, R105 for single channels and chains; CONV_OFS and CONV_GAIN after calibration are free values of the model. -/
def Obligations.ChannelAndCalibrationWritesLand : Prop :=
  ∀ (port : Port) (x c dt : Nat) (v : Word) (s : State), x < 2 → c < 28 →
    (Admits s port (MeasCh.CH_CFG x c) → inUse s x c = false → (s.rdB (MeasCh.CH_CFG x c) 0 = false ∨ bit v 0 = true ∨ pairSide s x c = false) →
      chCfgRange s x c v = true → Gives (.chCfgWrite port x c v) s (fun t =>
        t.rd (MeasCh.CH_CFG x c) = v &&& 0xF777 ∧ Frame ([MeasCh.CH_CFG x c, MeasCh.CH_STATUS x c, Bup.READY] ++ irqRegs (MeasCtl.page x)) s t)) ∧
    (Admits s port (MeasCh.CH_OFS x c) → inUse s x c = false → Gives (.chOfsWrite port x c v) s (fun t =>
      t.rd (MeasCh.CH_OFS x c) = v &&& 0xFFFFFF ∧ t.rdB (MeasCh.CH_STATUS x c) 5 = true ∧ Frame [MeasCh.CH_OFS x c, MeasCh.CH_STATUS x c] s t)) ∧
    (Admits s port (MeasCh.CH_GAIN x c) → inUse s x c = false → Gives (.chGainWrite port x c v) s (fun t =>
      t.rd (MeasCh.CH_GAIN x c) = v ∧
      t.meas.gains.getLast? = some { chan := 28 * x + c, ofs := s.rd (MeasCh.CH_OFS x c), gain := v, at_ := s.now, pend := (chanOf s x c).ofsNew } ∧
      Frame [MeasCh.CH_GAIN x c] s t)) ∧
    ((chanOf s x c).settle ≠ none → chanEn s x c = true → refLost s x c = false → Gives (.refSettleDone x c dt) s (fun t =>
      t.rdB (MeasCh.CH_STATUS x c) 0 = true ∧ (chanOf t x c).settle = none ∧
      Frame ([MeasCh.CH_STATUS x c, Bup.READY] ++ irqRegs (MeasCtl.page x)) s t)) ∧
    (chanEn s x c = true → 16 ≤ c → Gives (.sdStuckDetect x c) s (fun t =>
      t.rdB (MeasCh.CH_STATUS x c) 2 = true ∧ Frame (MeasCh.CH_STATUS x c :: irqRegs (MeasCtl.page x)) s t)) ∧
    (s.rdB (MeasCh.CH_STATUS x c) 2 = true → s.rdB (MeasCtl.SDCLK_CFG x) 8 = true → Gives (.sdStuckClear x c) s (fun t =>
      t.rdB (MeasCh.CH_STATUS x c) 2 = false ∧ Frame (MeasCh.CH_STATUS x c :: irqRegs (MeasCtl.page x)) s t)) ∧
    (Admits s port (MeasCtl.CAL_CMD x) → bit v 0 = true → anyInUse s x (List.range 28) = false → calibrating s x = false →
      Gives (.calStart port x v) s (fun t => t.rd (MeasCtl.CAL_STATUS x) = 1 ∧ t.rdB Bup.READY x = false ∧
        Frame [MeasCtl.CAL_STATUS x, Bup.READY] s t)) ∧
    (calibrating s x = true → Gives (.calDone x none) s (fun t =>
      t.rd (MeasCtl.CAL_STATUS x) = 2 ∧ t.rdB Bup.READY x = true ∧ calibrating t x = false ∧
      Frame ([MeasCtl.CAL_STATUS x, Bup.READY] ++ irqRegs (MeasCtl.page x) ++ (List.range 16).map (MeasCh.CONV_OFS x)
        ++ (List.range 16).map (MeasCh.CONV_GAIN x)) s t)) ∧
    (∀ sd conv code, conv < 16 → code < 256 → calibrating s x = true → Gives (.calDone x (some (sd, conv, code))) s (fun t =>
      t.rdF (MeasCtl.CAL_STATUS x) 1 0 = 3 ∧ t.rdF (MeasCtl.CAL_STATUS x) 7 4 = conv ∧ t.rdF (MeasCtl.CAL_STATUS x) 15 8 = code ∧
      Frame (MeasCtl.CAL_STATUS x :: irqRegs (MeasCtl.page x)) s t))

/-- R99, R107: configuration and reaction of a pair. -/
def Obligations.CrosswindPairsAreWrittenAndRearmed : Prop :=
  ∀ (port : Port) (k : Nat) (v : Word) (s : State), k < 28 →
    (Admits s port (Xw.CW_PAIR k) →
      sidesInUse s k (s.rdF (Xw.CW_PAIR k) 4 0) (s.rdF (Xw.CW_PAIR k) 12 8) = false → sidesInUse s k (fld v 4 0) (fld v 12 8) = false →
      cwPairRange v = true → (bit v 16 = false ∨ (chanEn s 0 (fld v 4 0) = true ∧ chanEn s 1 (fld v 12 8) = true)) →
      Gives (.cwPairWrite port k v) s (fun t =>
        t.rd (Xw.CW_PAIR k) = v &&& 0xFF7F1F1F ∧ Frame ([Xw.CW_PAIR k, Xw.CW_STAT k] ++ irqRegs Xw.page) s t)) ∧
    (Admits s port (Xw.CW_STAT k) → s.rdB (Xw.CW_STAT k) 0 = false → Gives (.cwReactedClear port k) s (fun t =>
      t.rdB (Xw.CW_STAT k) 1 = false ∧ (∀ a, t.rdByte a = s.rdByte a) ∧
      (anyLatched s = false → Frame (Xw.CW_STAT k :: irqRegs Xw.page) s t))) ∧
    (Admits s port (Xw.CW_STAT k) → s.rdB (Xw.CW_STAT k) 0 = true → Gives (.cwReactedClear port k) s (fun t =>
      fld (t.rd (hERRINFO Xw.page)) 31 24 = 8 ∧ t.rd (Xw.CW_STAT k) = s.rd (Xw.CW_STAT k) ∧ Frame (hERRINFO Xw.page :: irqRegs Xw.page) s t))

/-- R123, R124, R137, R138: the commands of CLE.CMD for a context that is in no group. -/
def Obligations.ContextCommandsMoveTheContext : Prop :=
  ∀ (port : Port) (n : Nat) (s : State), n < 512 → ctxMember s n = none → Admits s port Cle.CMD →
    (ctxState s n = 0 → ctxLaw s n ≠ 0 → 2000 ≤ ctxPeriod s n → ctxPeriod s n ≤ 1600000 →
      destOk s n (ctxLaw s n) (s.rdF (Ctx.DEST n) 11 0) = true → (ctxFast s n = true → ctxPeriod s n = tbInterval s (ctxTb s n)) →
      admissionOk (s.wrF (Ctx.STATE n) 2 0 1) = true → mirrorFull s [ctxPeriod s n] = false →
      Gives (.ctxEnable port n) s (fun t => ctxState t n = 1 ∧ liveCnt t n = 0 ∧ t.rd (Ctx.COUNTS n) = 0 ∧ t.rd Cle.CMD_LAST = word (n + 0x1000) ∧
        Frame ([Ctx.STATE n, Ctx.COUNTS n, Cle.CMD_LAST, hSTATUS Cle.page] ++ irqRegs Cle.page) s t)) ∧
    (ctxState s n = 1 → closeGate s = true → closeNeeds s n = true → s.rdF (Ctx.STATE n) 11 8 = 0 →
      Gives (.ctxClose port n) s (fun t => ctxState t n = 2 ∧ t.rd (Ctx.CFG_CRC n) = recordCrc s n ∧ t.rd Cle.CMD_LAST = word (n + 0x2000) ∧
        Frame ([Ctx.STATE n, Ctx.COUNTS n, Ctx.CFG_CRC n, Cle.CMD_LAST, hSTATUS Cle.page] ++ irqRegs Cle.page) s t)) ∧
    (ctxLive s n = true → Gives (.ctxOpen port n) s (fun t => ctxState t n = 1 ∧ t.rd Cle.CMD_LAST = word (n + 0x3000) ∧
        Frame ([Ctx.STATE n, Ctx.COUNTS n, Cle.CMD_LAST, hSTATUS Cle.page] ++ irqRegs Cle.page) s t)) ∧
    (ctxState s n = 1 → Gives (.ctxDisable port n) s (fun t => ctxState t n = 0 ∧ t.rd Cle.CMD_LAST = word (n + 0x4000) ∧
        ((∀ r ∈ (ctxOf s n).run, r.started = false) → (ctxOf t n).run = none) ∧ (∀ a, t.rdByte a = s.rdByte a) ∧
        (anyLatched s = false → Frame ([Ctx.STATE n, Ctx.COUNTS n, Cle.CMD_LAST, hSTATUS Cle.page] ++ irqRegs Cle.page) s t))) ∧
    (ctxState s n = 5 ∨ ctxState s n = 1 → liveCnt s n < liveLimit s n → (ctxState s n = 5 → recordCrc s n = s.rd (Ctx.CFG_CRC n)) →
      Gives (.ctxClear port n) s (fun t => ctxState t n = 1 ∧ t.rdF (Ctx.STATE n) 11 8 = 0 ∧ t.rd Cle.CMD_LAST = word (n + 0x5000) ∧ (∀ a, t.rdByte a = s.rdByte a) ∧
        (anyLatched s = false → Frame ([Ctx.STATE n, Ctx.COUNTS n, Cle.CMD_LAST, hSTATUS Cle.page] ++ irqRegs Cle.page) s t)))

/-- R43, R124, R138: refusals of CLE.CMD. -/
def Obligations.RefusedContextCommandLeavesTheContext : Prop :=
  ∀ (port : Port) (n : Nat) (s : State), n < 512 → Admits s port Cle.CMD →
    (ctxState s n ≠ 0 → Gives (.ctxEnable port n) s (fun t => t.rd Cle.CMD_LAST = word (n + 0x1000 + 5 * 2 ^ 16) ∧
      fld (t.rd (hERRINFO Cle.page)) 31 24 = 5 ∧ Frame (Cle.CMD_LAST :: hERRINFO Cle.page :: irqRegs Cle.page) s t)) ∧
    (ctxState s n ≠ 1 → Gives (.ctxClose port n) s (fun t => t.rd Cle.CMD_LAST = word (n + 0x2000 + 6 * 2 ^ 16) ∧
      fld (t.rd (hERRINFO Cle.page)) 31 24 = 6 ∧ Frame (Cle.CMD_LAST :: hERRINFO Cle.page :: irqRegs Cle.page) s t)) ∧
    (ctxLive s n = false → Gives (.ctxOpen port n) s (fun t => t.rd Cle.CMD_LAST = word (n + 0x3000 + 5 * 2 ^ 16) ∧
      fld (t.rd (hERRINFO Cle.page)) 31 24 = 5 ∧ Frame (Cle.CMD_LAST :: hERRINFO Cle.page :: irqRegs Cle.page) s t)) ∧
    (ctxState s n ≠ 1 → Gives (.ctxDisable port n) s (fun t => t.rd Cle.CMD_LAST = word (n + 0x4000 + 6 * 2 ^ 16) ∧
      fld (t.rd (hERRINFO Cle.page)) 31 24 = 6 ∧ Frame (Cle.CMD_LAST :: hERRINFO Cle.page :: irqRegs Cle.page) s t))

/-- R119, R121, R132, R137-R139, R157. -/
def Obligations.EngineRegistersTakeTheirWrites : Prop :=
  ∀ (port : Port) (n o g : Nat) (v : Word) (s : State), n < 512 →
    (∀ r, 0x30 ≤ o → o < 0x90 → o % 4 = 0 → regRow (Ctx.LAW_CFG n + o) = some r → Admits s port (Ctx.LAW_CFG n + o) →
      (ctxState s n = 1 → coefRange s n o v = true → Gives (.contextRecordWrite port n o v) s (fun t =>
        t.rd (Ctx.LAW_CFG n + o) = v &&& word r.mask ∧ Frame [Ctx.LAW_CFG n + o] s t)) ∧
      (ctxState s n ≠ 1 → Gives (.contextRecordWrite port n o v) s (fun t =>
        fld (t.rd (hERRINFO Cle.page)) 31 24 = 7 ∧ Frame (hERRINFO Cle.page :: irqRegs Cle.page) s t))) ∧
    (Admits s port Cle.CTRL → fld v 1 0 ≠ 3 → countOk s (fld v 1 0) = true → loadOk s (fld v 1 0) = true → coincident s = true →
      Gives (.profileWrite port v) s (fun t => t.rd Cle.CTRL = word (fld v 1 0) ∧
        t.rdB (hSTATUS Cle.page) 0 = decide (fld v 1 0 ≠ s.cle.profile) ∧ Frame [Cle.CTRL, hSTATUS Cle.page] s t)) ∧
    (Admits s port Cle.SPEC_CTRL → Gives (.specCtrlWrite port v) s (fun t =>
      t.rd Cle.SPEC_CTRL = v &&& 1 ∧ Frame [Cle.SPEC_CTRL] s t)) ∧
    (g < 64 → Admits s port (Hw.HW_CMD g) → hwPersist s g = false → Gives (.hwResume port g) s (fun t =>
      (s.rdB (Hw.HW_STAT g) 1 = true → (hwOf t g).resume = true) ∧ Frame [] s t)) ∧
    Gives .tickLoRead s (fun t => t.rd CleTel.TICK_HI = word (s.engine / 2 ^ 32) ∧ Frame [CleTel.TICK_HI] s t)

/-- R26, R110, R128, R129. -/
def Obligations.EpochAndReleasesKeepTheirGrid : Prop :=
  ∀ (n : Nat) (s : State),
    (s.inService = true → Gives .schedulerEpoch s (fun t =>
      t.bu.epoch = s.bu.epoch + 1 ∧ t.cle.profile = profileNext s ∧ s.ofTick (nextEpoch s) ≤ t.now ∧ ∀ a, t.rdByte a = s.rdByte a)) ∧
    (s.inService = true → ctxFast s n = false → 1 ≤ ctxState s n → ctxState s n ≤ 4 → ctxPeriod s n ≠ 0 → (ctxOf s n).run = none →
      ctxMember s n = none → Gives (.periodicRelease n) s (fun t =>
        (∃ r, (ctxOf t n).run = some r ∧ r.relAt = t.now ∧ r.fast = false ∧ r.started = false) ∧
        (ctxOf t n).relTick = some (nextRelease s n) ∧ s.ofTick (nextRelease s n) ≤ t.now ∧ Frame [] s t)) ∧
    (∀ r, (ctxOf s n).run = some r → r.started = true → r.deadline < (r.doneAt : Int) → ctxMember s n = none →
      (ctxState s n = 3 ∨ ctxState s n = 4) → Gives (.commitDeadlineOverrun n) s (fun t =>
        ctxState t n = (if ctxState s n = 3 then 4 else 5) ∧ (ctxOf t n).run = none ∧ r.deadline ≤ (t.now : Int) ∧ ∀ a, t.rdByte a = s.rdByte a)) ∧
    (ctxFast s n = true → 1 ≤ ctxState s n → ctxState s n ≤ 4 → ctxMember s n = none → Gives (.triggerTimeoutMiss n) s (fun t =>
      liveCnt t n = min (liveCnt s n + 1) 255 ∧ (ctxOf s n).trigAt + (3 * ctxPeriod s n + 1) / 2 ≤ t.now ∧ ∀ a, t.rdByte a = s.rdByte a))

/-- R111, R123, R143, R145, R154: dispatch and commit. -/
def Obligations.LanesRunAndCommitTheWork : Prop :=
  ∀ (k seg n : Nat) (s : State),
    (laneFree s k = true → s.rdB SecDbg.DBG_HSTAT 2 = false → s.twin.held = [] →
      (∀ r, edf (fastReady s) = some n → (ctxOf s n).run = some r → ctxSrc s n 6 = none → ctxSrc s n 7 = none → runMissing s n r = false →
        Gives (.contextDispatch k seg) s (fun t => (∃ l, (k, l) ∈ t.cle.lanes ∧ l.ctx = n) ∧
          (∃ q, (ctxOf t n).run = some q ∧ q.started = true ∧ q.lane = k) ∧ liveCnt t n = 0 ∧ Frame [Ctx.STATE n] s t)) ∧
      (∀ p, edf (fastReady s) = none → edf (periodicReady s) = some n → (ctxOf s n).run = none → (ctxOf s n).pre = some p →
        Gives (.contextDispatch k seg) s (fun t => (∃ l, (k, l) ∈ t.cle.lanes ∧ l.ctx = n ∧ l.gen = some (ctxOf s n).preGen) ∧ Frame [] s t))) ∧
    (∀ e, s.cle.lanes.find? (fun e => decide (e.1 = k)) = some e → Gives (.segmentEnd k seg) s (fun t => e.2.till ≤ t.now ∧
      (s.rdB SecDbg.DBG_HSTAT 2 = true → (∀ l, (k, l) ∉ t.cle.lanes) ∧ Frame [] s t))) ∧
    (∀ e p, s.cle.lanes.find? (fun e => decide (e.2.ctx = n ∧ e.2.gen = some (ctxOf s n).preGen) && e.2.last) = some e →
      s.cle.lanes.find? (fun x => decide (x.1 = e.1)) = some e → (ctxOf s n).pre = some p →
      Gives (.precomputeDone n) s (fun t => (ctxOf t n).pre = none ∧ (ctxOf t n).spec ≠ none ∧ e.2.till ≤ t.now ∧ Frame [] s t)) ∧
    (∀ r, (ctxOf s n).run = some r → r.started = true → (r.doneAt : Int) ≤ r.deadline → ctxMember s n = none →
      s.rdF (Ctx.DETECT n) 31 16 = 0 → Gives (.runCommit n) s (fun t => (ctxOf t n).run = none ∧ (ctxOf t n).runs = (ctxOf s n).runs + 1 ∧
        r.doneAt ≤ t.now ∧ (r.st ≠ 1 → t.rdL (Ctx.OUT n) = r.res.out') ∧ ∀ a, t.rdByte a = s.rdByte a))

/-- R177: the commands of `FOC.CMD`, for the states that accept them. -/
def Obligations.MachineCommandsMoveTheMachine : Prop :=
  ∀ (port : Port) (m mode : Nat) (hint : Bool) (s : State), m < 4 → (m = 1 → s.rdB (Foc.CFG 0) 2 = false) → Admits s port (Foc.CMD m) →
    (mode < 3 → machState s m = 1 → tbRun s (machTb s m) = true →
      (mode ≠ 0 → isIm s m = false → vsrcOn s m = true) → (mode ≠ 0 → isIm s m = true → ∀ n ∈ machCtxs s m, ctxLaw s n = 4) →
      (∀ e ∈ (machCtxs s m).zip [0, 1], startCtxOk s m e.1 e.2 = true ∧ startWindowOk s m e.1 = true) →
      modNarrow s m (s.rdF (Foc.MIN_CLEAR m) 15 0) = false → F.eq (s.rd (Foc.STOP_RATE m)) 0 = false →
      (isIm s m = false → F.eq (s.rd (Foc.IPD_ILIM m)) 0 = false) → (∀ n ∈ machCtxs s m, ctxState s n = 1) → mirrorFull s [] = false →
      ((isIm s m = true → machRuns s m = true) → Gives (.focStart port m mode hint) s (fun t =>
        machState t m = (if mode ≠ 0 then 3 else if isIm s m then 4 else 2) ∧
        Frame ([Foc.MSTATE m, Foc.IPD_RESULT m] ++ irqRegs (Foc.page m)) s t)) ∧
      (∀ n < 512, isIm s m = true → machRuns s m = false → machCtxs s m = [n] → closeGate s = true → closeNeeds s n = true →
        s.rdF (Ctx.STATE n) 11 8 = 0 → ctxMember s n = none → Gives (.focStart port m mode hint) s (fun t =>
          machState t m = (if mode ≠ 0 then 3 else 4) ∧ ctxState t n = 2 ∧ ∀ a, t.rdByte a = s.rdByte a))) ∧
    (machState s m = 4 ∨ machState s m = 5 → Gives (.focStop port m) s (fun t =>
      machState t m = 7 ∧ Frame (Foc.MSTATE m :: irqRegs (Foc.page m)) s t)) ∧
    (machState s m = 6 → Gives (.focStop port m) s (fun t => machState t m = 7 ∧ ∀ a, t.rdByte a = s.rdByte a)) ∧
    (1 ≤ machState s m → machState s m ≤ 7 → Gives (.focAsc port m) s (fun t =>
      machState t m = 8 ∧ ∀ a, t.rdByte a = s.rdByte a)) ∧
    (machState s m ≠ 1 → machState s m < 9 → Gives (.focBlock port m) s (fun t =>
      machState t m = 1 ∧ ∀ a, t.rdByte a = s.rdByte a)) ∧
    (machState s m = 1 ∨ machState s m = 8 → (∀ n ∈ machCtxs s m, ctxLive s n = false) → Gives (.focRelease port m) s (fun t =>
      machState t m = 0 ∧ t.rdB (Foc.MSTATE m) 26 = false ∧ ∀ a, t.rdByte a = s.rdByte a)) ∧
    (machState s m = 9 → causePersists s m = false → Gives (.focClear port m) s (fun t =>
      machState t m = (if stopAsc s m then 8 else 1) ∧ t.rdF (Foc.MSTATE m) 15 8 = 0 ∧
      PageFrame [Foc.page m, Ch.page, Grp.page, Trip.page, Prot.page, ProtSrc.page, Sec.page] s t))

/-- R162, R166, R180, R181, R185, R187: the events of time of a machine. -/
def Obligations.MachineTimesRunOut : Prop :=
  ∀ (m dt : Nat) (s : State), m < 4 →
    ((machOf s m).trigNew = true → machState s m ≠ 0 → tbRun s (machTb s m) = true → Gives (.focUpdate m dt) s (fun t =>
      (machOf t m).trigNew = false ∧ (machOf s m).trigAt + 200 ≤ t.now ∧ (∀ a, t.rdByte a = s.rdByte a) ∧
      ∀ c, s.twin.held = [] → machState s m ≤ 8 → overrideCause s m = some c → machState t m = 9 ∧ t.rdF (Foc.MSTATE m) 15 8 = c)) ∧
    (∀ f, (machOf s m).emfAt = some f → machState s m = 3 → isIm s m = false →
      (machOf s m).trigNew = false → (∀ x ∈ (machOf s m).emf, F.lt (magOf x.2.1 x.2.2) (s.rd (Foc.EMF_MIN m)) = true) →
      Gives (.catchWindowEnd m) s (fun t => f + s.rdF (Foc.CATCH_TIME m) 15 0 * 80000 ≤ t.now ∧
        (if (machOf s m).mode = 2 then machState t m = 2 else machState t m = 1 ∧ t.rdF (Foc.MSTATE m) 15 8 = 3) ∧
        ∀ a, t.rdByte a = s.rdByte a)) ∧
    (∀ x, firstClosed s m = some x → machState s m = 5 → (machOf s m).closed = true → (machOf s m).trigNew = false →
      x + s.rdF (Foc.CATCH_TIME m) 31 16 * 80000 ≤ (machOf s m).trigAt → Gives (.syncDwellElapsed m) s (fun t =>
        machState t m = 6 ∧ (machOf t m).tq = 0 ∧ Frame (Foc.MSTATE m :: irqRegs (Foc.page m)) s t)) ∧
    (∀ x, firstClosed s m = some x → machState s m = 4 → (machOf s m).closed = true → Gives (.magTimeElapsed m) s (fun t =>
      machState t m = 6 ∧ (machOf t m).tq = 0 ∧ x + s.rdF (Foc.MAG_TIME m) 15 0 * 80000 ≤ t.now ∧
      Frame (Foc.MSTATE m :: irqRegs (Foc.page m)) s t)) ∧
    (machState s m = 6 → s.rdB (Foc.TQ_CFG m) 0 = true → s.rdB (Foc.MSTATE m) 25 = false → Gives (.torqueInputTimeout m) s (fun t =>
      t.rdB (Foc.MSTATE m) 25 = true ∧ (machOf s m).since + s.rdF (Foc.TQ_CFG m) 15 8 * 80000 ≤ t.now ∧ Frame [Foc.MSTATE m] s t)) ∧
    (s.rdF (Foc.ASC_CFG m) 1 0 = 2 → ascOn s m = true → s.prot.ascStop.contains m = false →
      (tbRun s (machTb s m) = true → Gives (.ascSideAlternate m) s (fun t => (machOf t m).ascDue = true ∧ Frame [] s t)) ∧
      (tbRun s (machTb s m) = false → Gives (.ascSideAlternate m) s (fun t =>
        KMap.get (fun _ => 0) t.prot.ascSide m = (KMap.get (fun _ => 0) s.prot.ascSide m + 1) % 2 ∧ ∀ a, t.rdByte a = s.rdByte a)))

/-- R199, R202, R204: the commands of a profile channel. -/
def Obligations.ProfileCommandsMoveTheChannel : Prop :=
  ∀ (port : Port) (ch : Nat) (imm : Bool) (s : State), ch < 4 → Admits s port (Prof.PCMD ch) →
    (profState s ch = 0 → rampOk (activeSet s ch) = true → mirrorFull s [max 1 (s.rdF (Prof.PCFG ch) 15 8) * 8000] = false →
      Gives (.profEnable port ch) s (fun t => profState t ch = 1 ∧ (profOf t ch).v = 0 ∧ (profOf t ch).tickAt = s.engine ∧
        Frame (Prof.PSTATE ch :: irqRegs (Prof.page ch)) s t)) ∧
    (1 ≤ profState s ch → profState s ch ≤ 3 → profBound s ch = false → targetOk s ch = true → Gives (.profMove port ch) s (fun t =>
      profState t ch = 2 ∧ (profOf t ch).tgtV = s.rd (Prof.TGT_SPEED ch) ∧
      (profOf t ch).tgt = D.mk (s.rd (Prof.TGT_LO ch)) (s.rd (Prof.TGT_HI ch)) ∧
      t.rdB (Prof.PSTATE ch) 9 = false ∧ Frame (Prof.PSTATE ch :: irqRegs (Prof.page ch)) s t)) ∧
    (profState s ch = 6 → targetOk s ch = true → Gives (.profMove port ch) s (fun t =>
      (profState t ch = 7 ∨ profState t ch = 5) ∧ ∀ a, t.rdByte a = s.rdByte a)) ∧
    (profState s ch = 2 → Gives (.profStop port ch) s (fun t =>
      profState t ch = 3 ∧ Frame (Prof.PSTATE ch :: irqRegs (Prof.page ch)) s t)) ∧
    (profState s ch = 7 → Gives (.profStop port ch) s (fun t => (profOf t ch).dropped = true ∧ Frame [] s t)) ∧
    (rampOk (shadowSet s ch) = true → profResting s ch = true → Gives (.profApply port ch imm) s (fun t =>
      (∀ j, j < 9 → t.rd (Prof.ACT_A1 ch j) = s.rd (Prof.A1 ch + 4 * j)) ∧ t.rdB (Prof.PSTATE ch) 8 = false ∧
      Frame (Prof.PSTATE ch :: (List.range 9).map (Prof.ACT_A1 ch) ++ irqRegs (Prof.page ch)) s t)) ∧
    (rampOk (shadowSet s ch) = true → profResting s ch = false → Gives (.profApply port ch imm) s (fun t =>
      (if imm then (profOf t ch).nextSet = some (shadowSet s ch) else (profOf t ch).waitSet = some (shadowSet s ch)) ∧
      t.rdB (Prof.PSTATE ch) 8 = !imm ∧ Frame [Prof.PSTATE ch] s t)) ∧
    (profState s ch = 5 → (profBound s ch = true → machState s (profMach s ch) ≠ 9) → Gives (.profClear port ch) s (fun t =>
      profState t ch = 1 ∧ Frame (Prof.PSTATE ch :: irqRegs (Prof.page ch)) s t)) ∧
    (profResting s ch = true → Gives (.profDisable port ch) s (fun t =>
      profState t ch = 0 ∧ Frame (Prof.PSTATE ch :: irqRegs (Prof.page ch)) s t)) ∧
    (profResting s ch = true → D.isFin (D.mk (s.rd (Prof.TGT_LO ch)) (s.rd (Prof.TGT_HI ch))) = true → Gives (.profSetPos port ch) s (fun t =>
      (profOf t ch).pos = D.mk (s.rd (Prof.TGT_LO ch)) (s.rd (Prof.TGT_HI ch)) ∧ Frame [] s t))

/-- R193, R195, R203. -/
def Obligations.ProfileTicksAndLull : Prop :=
  ∀ (ch : Nat) (s : State), ch < 4 →
    (s.inService = true → profState s ch ≠ 0 → Gives (.profileTick ch) s (fun t =>
      (profOf t ch).tickAt = ((profOf s ch).tickAt / (max 1 (s.rdF (Prof.PCFG ch) 15 8) * 8000) + 1) * (max 1 (s.rdF (Prof.PCFG ch) 15 8) * 8000) ∧
      s.ofTick (profOf t ch).tickAt ≤ t.now ∧ (∀ a, t.rdByte a = s.rdByte a) ∧
      (profState s ch = 1 → profBound s ch = false → (profOf s ch).nextSet = none → s.twin.held = [] →
        profState t ch = 1 ∧ (profOf t ch).v = 0 ∧ (profOf t ch).pos = (profOf s ch).pos ∧ t.rdL (Prof.POS_LO ch) = D.lo (profOf s ch).pos))) ∧
    (∀ x, (profOf s ch).dwellAt = some x → lullCounts s ch = true → Gives (.lullDwellExpiry ch) s (fun t =>
      profState t ch = 6 ∧ (profOf t ch).dwellAt = none ∧ x + s.rdF (Prof.LULL_CFG ch) 15 0 * 8000000 ≤ t.now ∧
      machState t (profMach s ch) = (if s.rdB (Prof.LULL_CFG ch) 17 then 8 else 1) ∧ ∀ a, t.rdByte a = s.rdByte a))

/-- R210-R216, R226: the carriers. The premise on staged writes shuts out states whose staging list names TB_STAT. -/
def Obligations.TimebasesStartRunAndStop : Prop :=
  ∀ (port : Port) (t : Nat) (v : Word) (s : State),
    (Admits s port Tb.TB_START → lockOpen s Tb.page = true → s.pwm.staged = [] → pwrState s ≠ 1 → s.rdB SecDbg.DBG_HSTAT 2 = false →
      (∀ k ∈ maskBits 8 v, tbRun s k = false ∧ (tbDrives s k = true → s.rdB Bup.READY 5 = true) ∧ tbLinkDown s k = false) →
      coincidenceOk ((maskBits 8 v).foldl (fun u k => beginTb ((maskBits 8 v).headD 0) k u) s) = true →
      Gives (.tbStart port v) s (fun u => (∀ k ∈ maskBits 8 v, tbRun u k = true ∧
        u.rdF (Tb.TB_STAT k) 6 4 = (maskBits 8 v).headD 0 ∧ (tbOf u k).updCount = (tbOf s k).updCount + 1) ∧
        ∀ a, u.rdByte a = s.rdByte a)) ∧
    (Admits s port Tb.TB_STOP → bit v 8 = false → Gives (.tbStop port v) s (fun u =>
      (∀ k ∈ maskBits 8 v, tbRun s k = true → u.rdB (Tb.TB_STAT k) 1 = true) ∧ Frame ((List.range 8).map Tb.TB_STAT) s u)) ∧
    (Admits s port Tb.TB_STOP → bit v 8 = true → s.pwm.staged = [] → Gives (.tbStop port v) s (fun u =>
      (∀ k ∈ maskBits 8 v, tbRun u k = false) ∧ ∀ a, u.rdByte a = s.rdByte a)) ∧
    (t < 8 → Admits s port (Tb.TB_SHIFT t) → tbRun s t = true → s.rdB (Tb.TB_STAT t) 2 = false → fld v 11 0 ≠ 0 →
      coincidenceOk (putTb t { tbOf s t with shiftN := fld v 11 0 } s) = true → Gives (.tbShift port t v) s (fun u =>
        u.rdB (Tb.TB_STAT t) 2 = true ∧ (tbOf u t).shiftN = fld v 11 0 ∧ Frame [Tb.TB_STAT t] s u)) ∧
    (t < 8 → tbRun s t = true → s.rdB (Tb.TB_STAT t) 1 = false → Gives (.periodBoundary t) s (fun u =>
      (tbOf s t).base + tbCarrier s t ≤ (u.now : Int) ∧
      (tbOf u t).base = (tbOf s t).base + tbCarrier s t + ((tbOf s t).shiftN : Int) ∧ (tbOf u t).shiftN = 0 ∧
      u.rdA (Tb.TB_PRD t) = s.rd (Tb.TB_PRD t) ∧ PageFrame [Tb.page, Ch.page, Grp.page] s u)) ∧
    (t < 8 → tbRun s t = true → s.rdB (Tb.TB_STAT t) 1 = true → s.pwm.staged = [] → Gives (.periodBoundary t) s (fun u =>
      tbRun u t = false ∧ (tbOf s t).base + tbCarrier s t ≤ (u.now : Int) ∧ ∀ a, u.rdByte a = s.rdByte a)) ∧
    (∀ e, t < 8 → tbRun s t = true → updInPeriod s t = some e → Gives (.updateEvent t) s (fun u =>
      (tbOf u t).lastUpd = e ∧ (tbOf u t).updCount = (tbOf s t).updCount + 1 ∧ e ≤ (u.now : Int) ∧ (∀ a, u.rdByte a = s.rdByte a) ∧
      ((∀ m, m < 4 → machState s m = 0) → ∀ g k, g < 6 → k < 3 → grpTb s g = t →
        u.rdA (Grp.GRP_REFA g + 4 * k) = (if s.rdB (Grp.GRP_HOLD g) 0 then s.rdA (Grp.GRP_REFA g + 4 * k) else s.rd (Grp.GRP_REFA g + 4 * k)))))

/-- R222, R224, R226, R227, R259; the frame of edges is the channel and group pages. -/
def Obligations.SwitchesFollowEdgesAndForces : Prop :=
  ∀ (port : Port) (g x c : Nat) (v : Word) (s : State),
    (∀ e, grpEn s g = true → tbRun s (grpTb s g) = true → nextEdge8 s g x = some e → nextTest8 s g x = none → Gives (.compareEdge g x) s (fun t =>
      (legOf t g x).mark8 = e ∧ e ≤ 8 * (t.now : Int) ∧ PageFrame [Ch.page, Grp.page] s t)) ∧
    (c < 52 → chPending s c = true → (interlockClear s c).1 = true → Gives (.deadTimeEnd c) s (fun t =>
      chPending t c = false ∧ (wants s c = true → chLevel t c = true ∧ (interlockClear s c).2 + (chOf s c).pendDt8 ≤ 8 * (t.now : Int)) ∧
      (wants s c = false → chLevel t c = chLevel s c) ∧ Frame [Ch.CH_STAT c] s t)) ∧
    (∀ st, g < 6 → x < 3 → (legOf s g x).npTo = some st → Gives (.npDwellEnd g x) s (fun t =>
      (legOf t g x).phys = some st ∧ (legOf t g x).npTo = none ∧ t.rdB (Grp.GRP_STAT g) (16 + x) = false ∧
      PageFrame [Ch.page, Grp.page] s t)) ∧
    (c < 52 → Admits s port (Ch.CH_FORCE c) → fld v 1 0 ≠ 3 → (s.part = .sep9624 → 24 ≤ c → c < 36 → fld v 1 0 = 0) →
      (fld v 1 0 = 2 → ∀ j ∈ interlockSet s c, lastForce s j ≠ 2) →
      (chanTb s c = none → Gives (.chForceWrite port c v) s (fun t =>
        t.rd (Ch.CH_FORCE c) = v &&& 3 ∧ t.rdA (Ch.CH_FORCE c) = v &&& 3 ∧ PageFrame [Ch.page, Grp.page] s t)) ∧
      (∀ tb st, chanTb s c = some (tb, st) → windowClosed s tb = false → reloadCycle s tb = false → Gives (.chForceWrite port c v) s (fun t =>
        t.rd (Ch.CH_FORCE c) = v &&& 3 ∧ t.rdA (Ch.CH_FORCE c) = s.rdA (Ch.CH_FORCE c) ∧ Frame [Ch.CH_FORCE c] s t))) ∧
    (g < 6 → Admits s port (Grp.GRP_HOLD g) → groupOwned s g = false →
      (windowClosed s (grpTb s g) = false → reloadCycle s (grpTb s g) = false → Gives (.grpHoldWrite port g v) s (fun t =>
        t.rd (Grp.GRP_HOLD g) = v &&& 1 ∧ t.rdA (Grp.GRP_HOLD g) = s.rdA (Grp.GRP_HOLD g) ∧ Frame [Grp.GRP_HOLD g] s t)) ∧
      (windowClosed s (grpTb s g) = true → Gives (.grpHoldWrite port g v) s (fun t =>
        t.pwm.staged = s.pwm.staged ++ [{ tb := grpTb s g, addr := Grp.GRP_HOLD g, val := v &&& 1, at_ := s.now }] ∧ t.rdB (Grp.GRP_STAT g) 1 = true ∧
        Frame (Grp.GRP_STAT g :: irqRegs Tb.page) s t))) ∧
    (∀ i, (legOf s g x).oneAt = some i → (g = 2 ∨ g = 3) → grpMode s g = 2 → Gives (.bsMaxonExpiry g x) s (fun t =>
      (legOf t g x).refresh = true ∧ i + s.rdF Gl.BS_CFG 31 16 * 800 ≤ t.now ∧ Frame [] s t))

/-- R228, R229, R275. -/
def Obligations.TripPinsShowFilterAndLatch : Prop :=
  ∀ (port : Port) (k n : Nat) (b : Bool) (v : Word) (s : State), k < 8 →
    ((tripOf s k).pin ≠ b → Gives (.tripPinEdge k b n) s (fun t =>
      (tripOf t k).pin = b ∧ (∃ e, (tripOf t k).line = (tripOf s k).line ++ [e] ∧ e.2 = b ∧ s.now + min n 2 ≤ e.1) ∧ Frame [] s t)) ∧
    ((tripOf s k).pin = b → exec (.tripPinEdge k b n) s = .next s) ∧
    (∀ q, tripHeld (s.rdF (Trip.TRIP_CFG0 k) 9 0) (tripOf s k).filt (tripOf s k).line = some q → Gives (.tripFilterQualified k) s (fun t =>
      (tripOf t k).filt = !(tripOf s k).filt ∧ (tripOf t k).line = q.2 ∧ q.1 ≤ t.now ∧
      t.rdB Trip.TRIP_STAT (8 + k) = (!(tripOf s k).filt == s.rdB (Trip.TRIP_CFG0 k) 17) ∧ ∀ a, t.rdByte a = s.rdByte a)) ∧
    (Admits s port Trip.TRIP_CLR → (∀ j ∈ maskBits 8 v, s.rdB Trip.TRIP_STAT (8 + j) = false) → Gives (.tripClr port v) s (fun t =>
      (∀ j ∈ maskBits 8 v, isLatched t (32 + j) = false ∧ t.rdB Trip.TRIP_STAT (16 + j) = false) ∧
      PageFrame [Trip.page, Ch.page, Grp.page, Prot.page, ProtSrc.page, Sec.page] s t)) ∧
    (Admits s port Trip.TRIP_CLR → (∃ j ∈ maskBits 8 v, s.rdB Trip.TRIP_STAT (8 + j) = true) → Gives (.tripClr port v) s (fun t =>
      fld (t.rd (hERRINFO Trip.page)) 31 24 = 8 ∧ Frame (hERRINFO Trip.page :: irqRegs Trip.page) s t))

/-- R265, R270, R275-R277. -/
def Obligations.SquallSourcesLatchAndClear : Prop :=
  ∀ (port : Port) (k n : Nat) (b : Bool) (v : Word) (s : State),
    (∀ above below : Bool, k < 32 →
      above = (if s.rdB (ProtCmp.CMP_STAT k) 1 then decide (cmpLevel s (ProtCmp.CMP_HI k) ≤ n + 64) else decide (cmpLevel s (ProtCmp.CMP_HI k) < n)) →
      below = (if s.rdB (ProtCmp.CMP_STAT k) 2 then decide (n ≤ cmpLevel s (ProtCmp.CMP_LO k) + 64) else decide (n < cmpLevel s (ProtCmp.CMP_LO k))) →
      ∀ i ∈ [Instr.comparatorTrip k n, Instr.comparatorOutputReturn { k := k, code := n }], Gives i s (fun t =>
        t.rd (ProtCmp.CMP_STAT k) = word (bitN (cmpOut (s.rdF (ProtCmp.CMP_CFG k) 2 1) above below) + at' (bitN above) 1 + at' (bitN below) 2) ∧
        (cmpOut (s.rdF (ProtCmp.CMP_CFG k) 2 1) above below = true → s.rdB (ProtCmp.CMP_STAT k) 0 = false → s.rdB (ProtCmp.CMP_CFG k) 0 = true →
          armed s = true → s.rdB (ProtSrc.SRC_CFG k) 0 = true → isLatched t k = true) ∧ ∀ a, t.rdByte a = s.rdByte a)) ∧
    (Admits s port (if b then ProtSrc.SRC_CLR1 else ProtSrc.SRC_CLR0) → lockedOut s = false →
      ((∀ j ∈ clrSources b v, causeActive s j = false) → Gives (.srcClr port b v) s (fun t =>
        (∀ j ∈ clrSources b v, isLatched t j = false) ∧ (∀ j, j ∉ clrSources b v → isLatched t j = isLatched s j) ∧
        PageFrame [Trip.page, Ch.page, Grp.page, Prot.page, ProtSrc.page, Sec.page] s t)) ∧
      ((∃ j ∈ clrSources b v, causeActive s j = true) → Gives (.srcClr port b v) s (fun t =>
        fld (t.rd (hERRINFO ProtSrc.page)) 31 24 = 8 ∧ Frame (hERRINFO ProtSrc.page :: irqRegs ProtSrc.page) s t))) ∧
    (∀ l, n < 46 → s.prot.lats.find? (fun l => decide (l.src = n)) = some l → s.rdB (ProtSrc.SRC_CFG n) 2 = true → lockedOut s = false →
      n ∉ s.prot.noRetry → causeActive s n = false → Gives (.retryWaitExpiry n) s (fun t =>
        isLatched t n = false ∧ l.at_ + s.rdF Prot.RETRY_CFG 23 8 * 800000 ≤ t.now ∧ ∀ a, t.rdByte a = s.rdByte a)) ∧
    (Admits s port Prot.LOCKOUT_CLR → lockOpen s Prot.page = true → lockedOut s = true → (∀ l ∈ s.prot.lats, causeActive s l.src = false) →
      Gives (.lockoutClr port 0x50524F54) s (fun t => lockedOut t = false ∧ isLatched t 47 = false ∧ t.prot.tries = [] ∧
        ∀ a, t.rdByte a = s.rdByte a))

/-- R280-R286, R289. -/
def Obligations.LinkProtectionActsOnTheDcLink : Prop :=
  ∀ (port : Port) (k : Nat) (v : Word) (s : State),
    (Admits s port Prot.CTRL → bit v 0 = true → s.rdB Prot.DCL_CFG 15 = true → (srcNow s (s.rdF Prot.DCL_CFG 11 0)).valid = true →
      levelsOk (levels s) = true → ((chopChans s).isEmpty = false → s.rdB Prot.CHOP_CFG 4 = true ∨ F.pos (s.rd Prot.CHOP_DV) = true) →
      anyLatched s = false → Gives (.protArm port v) s (fun t => armed t = true ∧
        PageFrame [Prot.page, ProtSrc.page, Bup.page, Sec.page] s t)) ∧
    (Admits s port Prot.CTRL → bit v 0 = false → (∀ t, t < 8 → tbRun s t = false ∨ tbDrives s t = false) → Gives (.protArm port v) s (fun t =>
      armed t = false ∧ PageFrame [Prot.page, ProtSrc.page, Bup.page, Ch.page, Grp.page, Sec.page] s t)) ∧
    (∀ x, s.prot.chopAt = some x → s.prot.chopSeen = false → s.rdB Prot.CHOP_CFG 4 = true → F.pos (s.rd Prot.CHOP_DV) = false →
      Gives .chopResponseTimeout s (fun t => chopFault t = true ∧ x + s.rdF Prot.CHOP_CFG 23 16 * 800 ≤ t.now ∧
        PageFrame [Prot.page, ProtSrc.page, Ch.page, Grp.page, Sec.page] s t)) ∧
    (k < 2 → s.rdB Prot.CHOP_CFG 24 = true → s.rdB Prot.CHOP_CFG k = true → Gives (.chfltInput k true) s (fun t =>
      chopFault t = true ∧ k ∈ t.prot.chflt ∧ PageFrame [Prot.page, ProtSrc.page, Ch.page, Grp.page, Sec.page] s t)) ∧
    ((s.rdB Prot.CHOP_CFG 24 = false ∨ ∀ j ∈ s.prot.chflt, j ≠ k → s.rdB Prot.CHOP_CFG j = false) →
      Gives (.chfltInput k false) s (fun t => k ∉ t.prot.chflt ∧ Frame [] s t)) ∧
    (∀ x, s.prot.escAt = some x → escalated s = true → F.le (s.rd Prot.OV1_OFF) (dcl s).value = true → Gives .escTimeExpiry s (fun t =>
      escAsc t = true ∧ x + s.rdF Prot.ESC_CFG 31 16 * 80000 ≤ t.now ∧ ∀ a, t.rdByte a = s.rdByte a)) ∧
    (Admits s port Prot.ESC_CLR → bit v 0 = true → s.prot.chflt = [] → F.le (s.rd Prot.OV1_OFF) (dcl s).value = false →
      Gives (.escClr port v) s (fun t => chopFault t = false ∧ escalated t = false ∧ escAsc t = false ∧
        PageFrame [Prot.page, ProtSrc.page, Ch.page, Grp.page, Sec.page] s t)) ∧
    (armed s = true → Gives .dclStaleTimeout s (fun t => t.rdB (hSTATUS Prot.page) 9 = true ∧ (dcl s).at_ + 80000 ≤ t.now ∧
      PageFrame [Prot.page, ProtSrc.page, Sec.page] s t)) ∧
    (Admits s port Prot.DIS_CMD → disAllowed s (s.rdF Prot.DIS_CFG 1 0) = true → Gives (.disStart port) s (fun t =>
      discharging t = true ∧ t.rdF Prot.DIS_STAT 3 2 = s.rdF Prot.DIS_CFG 1 0 ∧ PageFrame [Prot.page, ProtSrc.page, Ch.page, Grp.page, Sec.page] s t)) ∧
    (Admits s port Prot.DIS_CMD → discharging s = true → Gives (.disStop port) s (fun t =>
      t.rdF Prot.DIS_STAT 1 0 = 0 ∧ PageFrame [Prot.page, ProtSrc.page, Ch.page, Grp.page, Sec.page] s t)) ∧
    (discharging s = true → Gives .disTimeout s (fun t => t.rdF Prot.DIS_STAT 1 0 = 3 ∧ s.prot.disAt + 1600000000 ≤ t.now ∧
      PageFrame [Prot.page, ProtSrc.page, Ch.page, Grp.page, Sec.page] s t)) ∧
    (s.rdB Prot.DIS_CFG 3 = true → discharging s = false → disAllowed s (s.rdF Prot.DIS_CFG 1 0) = true → Gives .kfbOpenTimeout s (fun t =>
      discharging t = true ∧ PageFrame [Prot.page, ProtSrc.page, Ch.page, Grp.page, Sec.page] s t))

/-- R238, R244, R245, R247, R248, R253, R262, R287. -/
def Obligations.GateLinksTrainAndReport : Prop :=
  ∀ (port : Port) (n f rt dt l : Nat) (b : Bool) (s : State), n < 36 →
    Gives .gridFrame s (fun t => t.gl.gridAt = some (gridDue s) ∧ gridDue s ≤ t.now ∧ (glState s n = 0 → posOf t n = posOf s n) ∧ Frame [] s t) ∧
    (glState s n ≠ 0 → uplinkGood s n f rt = true → dType f = 0 →
      (∀ a, (posOf s n).asked.find? (fun a => decide (a.seq = dSeq f)) = some a → a.idx = none) → Gives (.uplinkFrame n f rt) s (fun t =>
        t.rdF (GlPos.GL_DRV n) 9 0 = uStatus f ∧ (posOf t n).bad = 0 ∧ (posOf t n).goodAt = some s.now ∧ ∀ a, t.rdByte a = s.rdByte a)) ∧
    (∀ i, i = Instr.uplinkMissing n ∨ (i = Instr.uplinkFrame n f rt ∧ uplinkGood s n f rt = false) → glState s n ≠ 0 →
      ((glState s n ≠ 3 ∨ (posOf s n).bad + 1 < 3) → Gives i s (fun t => (posOf t n).bad = (posOf s n).bad + 1 ∧ Frame [] s t)) ∧
      (glState s n = 3 → 3 ≤ (posOf s n).bad + 1 → Gives i s (fun t => glState t n = 4 ∧ ∀ a, t.rdByte a = s.rdByte a))) ∧
    Completes (exec (.uplinkMissing n) s) ∧
    (Admits s port (GlPos.GL_CMD n) → (s.part = .sep9624 → n < 24) → glMode s n = 1 → glState s n ≠ 2 →
      (chanIdle s n = true ∨ (chOf s n).gov = 1 ∨ (chOf s n).gov = 2) → Gives (.glTrain port n b) s (fun t =>
        glState t n = 2 ∧ (∃ r, (posOf t n).train = some r ∧ r.clear = b ∧ s.now < r.at_) ∧ (∀ a, t.rdByte a = s.rdByte a) ∧
        (anyLatched s = false → PageFrame [Gl.page, GlPos.page] s t))) ∧
    (Admits s port (GlPos.GL_CMD n) → (chOf s n).gov ≠ 7 → (glState s n = 3 ∨ glState s n = 4) → Gives (.glDrop port n) s (fun t =>
      glState t n = 1 ∧ (∀ a, t.rdByte a = s.rdByte a) ∧ (anyLatched s = false → PageFrame [Gl.page, GlPos.page] s t))) ∧
    (∀ r d, (posOf s n).train = some r → glState s n = 2 → r.retry = false → trainVerdict r = (none, d) → Gives (.trainingDone n dt) s (fun t =>
      glState t n = 3 ∧ t.rdF (GlPos.GL_STAT n) 31 16 = d ∧ (posOf t n).train = none ∧ r.at_ + 5120 ≤ t.now ∧
      PageFrame [Gl.page, GlPos.page] s t)) ∧
    (∀ r c d, (posOf s n).train = some r → glState s n = 2 → r.retry = false → trainVerdict r = (some c, d) → Gives (.trainingDone n dt) s (fun t =>
      glState t n = 1 ∧ t.rdF (GlPos.GL_STAT n) 11 8 = c ∧ (posOf t n).train = none ∧ PageFrame [Gl.page, GlPos.page] s t)) ∧
    (l < 6 → Gives (.bsuvInput l b) s (fun t => t.rdB Gl.BS_STAT l = b ∧ hasForce t .bootstrap l = b ∧
      PageFrame [Gl.page, Ch.page, Grp.page, Prot.page, ProtSrc.page, Sec.page] s t))

/-- R249-R252, R255, R257: the driver's own state machine. -/
def Obligations.DriversJudgeFramesAndLatch : Prop :=
  ∀ (n p f w m : Nat) (late b : Bool) (s : State), p < 2 →
    (downGood (drvNow s n) p f late = true → Gives (.driverDownlinkFrame n p f late m) s (fun t =>
      ((drvOf t n).port p).bad = 0 ∧ ((drvOf t n).port p).lost = false ∧ ((drvOf t n).port p).seq = some (dSeq f) ∧ Frame [] s t)) ∧
    (∀ i, i = Instr.driverFrameMissing n p ∨ (i = Instr.driverDownlinkFrame n p f late m ∧ downGood (drvNow s n) p f late = false) →
      Gives i s (fun t => ((drvOf t n).port p).bad = ((drvNow s n).port p).bad + 1 ∧ ((drvOf t n).port p).upErr = true ∧ Frame [] s t)) ∧
    Completes (exec (.driverFrameMissing n p) s) ∧
    ((drvOf s n).edges ≠ [] → (drvOf s n).offAt = none → (drvOf s n).pinWait = none → Gives (.driverEdgeExecute n) s (fun t =>
      (∃ e ∈ (drvOf s n).edges, (∀ x ∈ (drvOf s n).edges, e.1 ≤ x.1) ∧ (drvOf t n).edges = (drvOf s n).edges.erase e ∧ e.1 ≤ 8 * (t.now : Int) ∧
        (drvOf t n).level = (if (drvOf s n).phase = .armed ∨ (drvOf s n).phase = .holdover then e.2 else (drvOf s n).level)) ∧ Frame [] s t)) ∧
    ((drvNow s n).phase = .holdover → Gives (.driverHoldExpiry n) s (fun t => (drvOf t n).level = false ∧ (drvOf t n).edges = [] ∧
      (((drvOf s n).port p).phase ≠ .untrained → ((drvOf t n).port p).phase = .latched) ∧ (drvNow s n).holdAt < t.now ∧ Frame [] s t)) ∧
    (∀ x, (drvOf s n).pinWait = some x → Gives (.driverPinMismatch n) s (fun t => (drvOf t n).pinWait = none ∧ x + 40 ≤ t.now ∧
      ((drvNow (s.reach (x + 40)) n).pinWait ≠ none → (drvOf t n).level = false ∧
        (((drvOf s n).port p).phase ≠ .untrained → ((drvOf t n).port p).phase = .latched)) ∧ Frame [] s t)) ∧
    Gives (.driverDesat n true) s (fun t => (drvOf t n).desat = true ∧ (drvOf t n).desatNow = true ∧ (drvOf t n).level = false ∧
      (((drvOf s n).port p).phase ≠ .untrained → ((drvOf t n).port p).phase = .latched) ∧ Frame [] s t) ∧
    Gives (.driverDesat n false) s (fun t => (drvOf t n).desatNow = false ∧ (drvOf t n).desat = (drvOf s n).desat ∧ Frame [] s t) ∧
    Gives (.driverPowerUp n) s (fun t => drvOf t n = {} ∧ gateLevel t n = false ∧ Frame [] s t) ∧
    Gives (.driverUndervoltage n w b) s (fun t => (w < 2 → b = true → gateLevel t n = false) ∧
      (w = 0 → (drvOf t n).uvPos = b) ∧ (w = 1 → (drvOf t n).uvNeg = b) ∧ (2 ≤ w → (drvOf t n).ot = b) ∧ Frame [] s t)

/-- R295-R326: what time and the checks bring about on the island. -/
def Obligations.IslandTimersAndChecksStopTheGroups : Prop :=
  ∀ (pins bad : Word) (g k carrier dt : Nat) (l : List Nat) (s : State),
    (s.isl.run = true → s.isl.restart = none → s.rdB SecDbg.DBG_HSTAT 3 = false → Gives (.islandCycle pins bad) s (fun t =>
      t.isl.cycleAt = s.isl.cycleAt + 80000 ∧ t.isl.cycleAt ≤ t.now ∧ (∀ a, t.rdByte a = s.rdByte a) ∧
      (bad &&& s.isl.outBad &&& 0x3F ≠ 0 → t.rdB Safe.LO_CAUSE 20 = true))) ∧
    (s.isl.run = true → Gives .islandLockstepMismatch s (fun t => inLockout t = true ∧ t.rdB Safe.LO_CAUSE 18 = true ∧
      grpState t 0 = 0 ∧ grpState t 1 = 0 ∧ ∀ a, t.rdByte a = s.rdByte a)) ∧
    (s.isl.run = true → s.isl.selfBad = false → Gives (.islandSelfTest true) s (fun t => inLockout t = true ∧
      t.rdB Safe.LO_CAUSE 19 = true ∧ t.isl.selfBad = true ∧ ∀ a, t.rdByte a = s.rdByte a)) ∧
    (s.isl.run = true → Gives (.islandSelfTest false) s (fun t => t.isl.selfBad = false ∧ Frame [] s t)) ∧
    (s.isl.run = true → s.isl.setExists = true →
      (cbCrc s s.committed = s.rd (Param.CB_CRC 0) → Gives .cbCrcCheck s (fun t => t.isl.cbBad = false ∧ Frame [] s t)) ∧
      (cbCrc s s.committed ≠ s.rd (Param.CB_CRC 0) → s.isl.cbBad = false → Gives .cbCrcCheck s (fun t => inLockout t = true ∧
        t.rdB Safe.LO_CAUSE 27 = true ∧ ∀ a, t.rdByte a = s.rdByte a)) ∧
      Gives (.paramCrcCheck false) s (fun t => t.isl.paramBad = false ∧ Frame [] s t) ∧
      (s.isl.paramBad = false → Gives (.paramCrcCheck true) s (fun t => inLockout t = true ∧ t.rdB Safe.LO_CAUSE 28 = true ∧
        ∀ a, t.rdByte a = s.rdByte a))) ∧
    (g < 2 → grpState s g = 1 → Gives (.ss1TimerExpiry g) s (fun t => grpState t g = 0 ∧
      (sgOf s g).ss1At + msCycles (par s (Param.SS1_T g) 15 0) ≤ t.now ∧ ∀ a, t.rdByte a = s.rdByte a)) ∧
    (∀ x, (sgOf s g).stoDue = some x → Gives (.sbcDelayExpiry g) s (fun t => (sgOf t g).stoDue = none ∧ x ≤ t.now ∧
      ∀ a, t.rdByte a = s.rdByte a)) ∧
    (g < 2 → grpState s g = 3 → (sgOf s g).ascOk = false → Gives (.ascConfirmTimeout g) s (fun t => grpState t g = 0 ∧ inLockout t = true ∧
      (sgOf s g).ascAt + 800000 ≤ t.now ∧ ∀ a, t.rdByte a = s.rdByte a)) ∧
    (k < 4 → s.isl.run = true → parB s (SafeTg.TG_CFG k) 0 = true → (tgOf s k).lost = false → Gives (.telegramWatchdogExpiry k) s (fun t =>
      (tgOf t k).lost = true ∧ Frame ([SafeTg.TG_STAT k, Bup.READY] ++ irqRegs Safe.page ++ wakeRegs) s t)) ∧
    (∀ p r, (tgOf s k).held = p :: r → Gives (.telegramCopyTimeout k) s (fun t => p ∉ (tgOf t k).held ∧ p.at_ + 4000000 ≤ t.now ∧
      Frame [] s t)) ∧
    (k < 4 → s.isl.run = true → parB s (SafeTg.TG_CFG k) 0 = true → (tgOf s k).held = [] →
      (carrier = par s (SafeTg.TG_CFG k) 6 4 → copyOk s k 0 l = true → Gives (.telegramCopyReceived k carrier l) s (fun t =>
        (∃ p, (tgOf t k).held = [p] ∧ p.seq = (parseCopy l).2.2.seq ∧ p.data = (parseCopy l).2.2.data ∧ p.at_ = s.now) ∧ Frame [] s t)) ∧
      (carrier = par s (SafeTg.TG_CFG k) 6 4 → copyOk s k 0 l = false → Gives (.telegramCopyReceived k carrier l) s (fun t =>
        (tgOf t k).held = [] ∧ (s.rdL (SafeTel.TG_BAD k) ≠ 0xFFFFFFFF → t.rdL (SafeTel.TG_BAD k) = s.rdL (SafeTel.TG_BAD k) + 1) ∧
        Frame [] s t))) ∧
    (s.part = .sep9640 → s.isl.run = true → s.isl.tpNext = 0 → tpHeld s = false → s.isl.tpTill + 800000 ≤ s.isl.tpPeriod + msCycles (par s SafeIn.TP_CFG 15 0) →
      Gives (.testPulse dt) s (fun t => t.isl.tpOut = 0 ∧ t.isl.tpNext = 1 ∧ t.isl.tpTill = t.now + 800 * par s SafeIn.TP_CFG 25 16 ∧
        t.isl.tpPeriod = t.now ∧ Frame ((List.range 16).map SafeIn.SI_STAT) s t)) ∧
    (k < 16 → par s Param.GUARD_PERIOD 15 0 ≠ 0 → s.rdB (SafeIn.SI_STAT k) 5 = true → Gives (.guardPeriodExpiry k) s (fun t =>
      t.rdB (SafeIn.SI_STAT k) 5 = false ∧ (siOf s k).openAt + par s Param.GUARD_PERIOD 15 0 * 2880000000000 ≤ t.now ∧
      Frame ([SafeIn.SI_STAT k, Bup.READY] ++ irqRegs Safe.page ++ wakeRegs) s t)) ∧
    (sgEn s g = true → par s (Param.PROOF_INT g) 15 0 ≠ 0 → Gives (.proofDue g) s (fun t =>
      (sgOf s g).stoppedAt + par s (Param.PROOF_INT g) 15 0 * 2880000000000 ≤ t.now ∧ Frame (Bup.READY :: irqRegs Safe.page ++ wakeRegs) s t))

/-- R300, R304, R321, R323, R324: the host's commands to the island. -/
def Obligations.IslandHostCommandsAndPassword : Prop :=
  ∀ (port : Port) (len user dt : Nat) (v : Word) (s : State),
    (Admits s port Safe.HOST_DEMAND → Gives (.hostDemandWrite port v) s (fun t => t.rd Safe.HOST_DEMAND = v &&& 0xF ∧
      Frame ([Safe.HOST_DEMAND, Bup.READY] ++ irqRegs Safe.page ++ wakeRegs) s t)) ∧
    (Admits s port Safe.REL_CMD → (∀ g, g < 2 → bit v g = true → grpState s g = 0 ∧ parB s (Param.GCFG g) 2 = true ∧ canRelease s g = true) →
      Gives (.relCmd port v) s (fun t => (∀ g, g < 2 → bit v g = true → (sgOf t g).relReq = true) ∧ Frame [] s t)) ∧
    (Admits s port Safe.BRK_REQ → Gives (.brkReqWrite port v) s (fun t => t.rd Safe.BRK_REQ = v &&& 1 ∧ Frame [Safe.BRK_REQ] s t)) ∧
    (Admits s port Safe.LO_KEY → inLockout s = true → islandPersists s = false → Gives (.loKey port 0x4F415448) s (fun t =>
      t.isl.keyAt = some s.now ∧ Frame [] s t)) ∧
    (∀ x, s.isl.keyAt = some x → Gives .loKeyTimeout s (fun t => t.isl.keyAt = none ∧ x + 1600000000 ≤ t.now ∧ Frame [] s t)) ∧
    (∀ h, Admits s port SafePw.PW_CMD → s.isl.pwHash = some h → s.isl.pwBlock = none → len ≤ 32 → user < 65536 →
      (pwHashOf s.isl.pwSalt (pwEntered s len) = h → Gives (.pwLogin port len user) s (fun t => t.isl.session = some user ∧ t.isl.pwFails = 0 ∧
        (∀ j, j < 8 → t.rd (SafePw.PW_BUF0 j) = 0) ∧ Frame ((List.range 8).map SafePw.PW_BUF0) s t)) ∧
      (pwHashOf s.isl.pwSalt (pwEntered s len) ≠ h → Gives (.pwLogin port len user) s (fun t => t.isl.session = s.isl.session ∧
        t.isl.pwFails = s.isl.pwFails + 1 ∧ (s.isl.pwFails = 4 → t.isl.pwBlock = some (s.now + 240000000000)) ∧
        fld (t.rd (hERRINFO SafePw.page)) 31 24 = 3 ∧
        Frame ((List.range 8).map SafePw.PW_BUF0 ++ irqRegs Safe.page ++ wakeRegs ++ hERRINFO SafePw.page :: irqRegs SafePw.page) s t))) ∧
    (Admits s port SafePw.PW_CMD → Gives (.pwLogout port) s (fun t => t.isl.session = none ∧ (∀ j, j < 8 → t.rd (SafePw.PW_BUF0 j) = 0) ∧
      Frame ((List.range 8).map SafePw.PW_BUF0) s t)) ∧
    (Admits s port SafePw.PW_CMD → (s.isl.pwHash = none ∨ s.isl.session ≠ none) → 8 ≤ len → len ≤ 32 →
      (∀ c ∈ pwEntered s len, 0x21 ≤ c ∧ c ≤ 0x7E) → Gives (.pwSet port len user) s (fun t => t.isl.pwHash.isSome = true ∧
        t.isl.logSeq = s.isl.logSeq + 1 ∧ Frame ((List.range 8).map SafePw.PW_BUF0) s t)) ∧
    (s.isl.session ≠ none → Gives .sessionTimeout s (fun t => t.isl.session = none ∧ s.isl.sessAt + 48000000000 ≤ t.now ∧ Frame [] s t)) ∧
    (∀ x, s.isl.pwBlock = some x → Gives .loginBlockExpiry s (fun t => t.isl.pwBlock = none ∧ t.isl.pwFails = 0 ∧ x ≤ t.now ∧ Frame [] s t)) ∧
    (∀ u, Admits s port Safe.PARAM_CMD → s.rdF Sec.LC_STATE 1 0 ≠ 0 → s.rdF Sec.LC_STATE 1 0 ≠ 3 → s.isl.session = some u →
      s.isl.commitAt = none → (∀ g, g < 2 → sgEn s g = true → grpState s g = 0) → setOk s (editCopy s) = true →
      Gives (.paramCommit port) s (fun t => t.isl.commitAt = some s.now ∧ t.isl.commitSet = editCopy s ∧ t.isl.commitUser = u ∧ Frame [] s t)) ∧
    (∀ x, s.isl.commitAt = some x → s.now + dt ≤ x + 160000000 → Gives (.paramCommitDone dt) s (fun t => t.committed = s.isl.commitSet ∧
      t.isl.setExists = true ∧ t.isl.commitAt = none ∧ t.rd Safe.PARAM_CRC = paramCrc s.isl.commitSet ∧ ∀ a, t.rdByte a = s.rdByte a)) ∧
    (Admits s port Safe.PARAM_CMD → s.isl.commitAt = none → Gives (.paramDiscard port) s (fun t =>
      (∀ a, paramReg a = true → t.rd a = s.rdC a) ∧ (∀ a, paramReg a = false → t.rd a = s.rd a) ∧ ∀ a, t.rdByte a = s.rdByte a))

/-- R336-R348; the operand `val` of HK_SLOT_END is the model's choice (log entry 187). -/
def Obligations.ThermalRoundsRearmAndAcknowledge : Prop :=
  ∀ (port : Port) (code code2 m : Nat) (val v : Word) (s : State),
    (s.therm.run = true → s.therm.slot < 96 → Gives (.hkSlotEnd code code2 val) s (fun t => t.therm.slot = s.therm.slot + 1 ∧
      t.therm.slotAt = s.therm.slotAt + 16384 ∧ t.therm.slotAt ≤ t.now ∧ (∀ a, t.rdByte a = s.rdByte a) ∧
      (s.therm.halted = true → s.therm.grace = [] → Frame [] s t) ∧
      (s.therm.halted = false → hkEn s s.therm.slot = true →
        t.rdB (ThermCh.HK_STAT s.therm.slot) 5 = hkValid s s.therm.slot code code2 (hkValue s s.therm.slot code code2 val) ∧
        (hkValid s s.therm.slot code code2 (hkValue s s.therm.slot code code2 val) = true →
          t.rdL (Therm.HK_VAL s.therm.slot) = hkValue s s.therm.slot code code2 val)))) ∧
    (s.therm.run = true → s.therm.slot = 96 → Gives (.closingSlot code) s (fun t => t.therm.slot = 0 ∧
      t.therm.slotAt = s.therm.slotAt + 65536 ∧ t.therm.slotAt ≤ t.now ∧ t.therm.halted = !decide (1980 ≤ code ∧ code ≤ 2020) ∧
      t.rdB Therm.THR_STAT 14 = decide (1980 ≤ code ∧ code ≤ 2020) ∧ (¬(1980 ≤ code ∧ code ≤ 2020) → t.rd Therm.REARM_STAT = 0) ∧
      ∀ a, t.rdByte a = s.rdByte a)) ∧
    (∀ e, m < 4 → s.therm.grace.find? (fun e => decide (e.1 = m)) = some e → s.therm.run = false → thrBit s m = true → Gives (.graceExpiry m) s (fun t =>
      t.rdB Therm.THR_STAT (4 + m) = true ∧ e.2 ≤ t.now ∧ (∀ x ∈ t.therm.grace, x.1 ≠ m) ∧ ∀ a, t.rdByte a = s.rdByte a)) ∧
    (Admits s port Therm.REARM → lockOpen s Therm.page = true → thrBit s 12 = true → s.rdB Therm.REARM_STAT 16 = true →
      Gives (.rearm port 0x5448524D) s (fun t => thrBit t 12 = false ∧ ∀ a, t.rdByte a = s.rdByte a)) ∧
    (Admits s port Therm.SD_ACK → thrBit s 13 = true → v = s.rd Therm.SD_SEQ → Gives (.sdAck port v) s (fun t => thrBit t 13 = false ∧
      (∀ j, j < 7 → t.rd (Therm.SD_SEQ + 4 * j) = 0) ∧
      Frame (Therm.THR_STAT :: (List.range 7).map (fun j => Therm.SD_SEQ + 4 * j) ++ irqRegs Therm.page ++ wakeRegs) s t)) ∧
    (Admits s port Therm.SD_ACK → (thrBit s 13 = false ∨ v ≠ s.rd Therm.SD_SEQ) → Gives (.sdAck port v) s (fun t =>
      fld (t.rd (hERRINFO Therm.page)) 31 24 = 3 ∧ Frame (hERRINFO Therm.page :: irqRegs Therm.page) s t))

/-- R354, R355, R359, R362, R367, R375. -/
def Obligations.SlotsKeepTheLinkAndMirrorRecords : Prop :=
  ∀ (b body : List Nat) (commas irq : Bool) (age : Nat) (s : State),
    (linkActive s = true → s.twin.detach = false → s.twin.takeAt = none → Gives .slotSend s (fun t => t.twin.seq = (s.twin.seq + 1) % 256 ∧
      (∃ f, t.twin.slotAt = some f ∧ s.now ≤ f ∧ f ≤ t.now) ∧ PageFrame [Twin.page] s t)) ∧
    (linkActive s = true → s.twin.detach = true → s.twin.before < 16 → Gives .slotSend s (fun t => t.twin.detach = false ∧
      twinState t = (if twinState s = 7 then s.twin.before else 0) ∧ ∀ a, t.rdByte a = s.rdByte a)) ∧
    (twinState s = 3 → s.twin.detach = false → (∃ x ∈ s.twin.takeAt, x ≤ s.now) → Gives .slotSend s (fun t => twinState t = 2 ∧
      t.twin.takeAt = none ∧ t.twin.passive = false ∧ ∀ a, t.rdByte a = s.rdByte a)) ∧
    (linkActive s = true → slotGood s commas b = true → Gives (.slotReceived commas b irq) s (fun t =>
      t.twin.rxSeq = some (b.getD 0 0) ∧ t.twin.bad = 0 ∧ ∀ a, t.rdByte a = s.rdByte a)) ∧
    (∀ i, i = Instr.slotMissing ∨ (i = Instr.slotReceived commas b irq ∧ slotGood s commas b = false) → linkActive s = true →
      (s.twin.bad ≠ 1 → Gives i s (fun t => t.twin.bad = s.twin.bad + 1 ∧ Frame [] s t)) ∧
      (s.twin.bad = 1 → Gives i s (fun t => linkUp t = false ∧ ∀ a, t.rdByte a = s.rdByte a))) ∧
    Completes (exec .slotMissing s) ∧
    (linkUp s = true → Gives .laneAlignmentLost s (fun t => linkUp t = false ∧ ∀ a, t.rdByte a = s.rdByte a)) ∧
    (twinState s = 3 →
      Gives (.ctxMirror body age false) s (fun t => t.rd (Ctx.STATE (bytesNat (body.take 2) % 512)) = recWord body 0 ∧
        t.rdL (Ctx.OUT (bytesNat (body.take 2) % 512)) = recWord body 1 ∧ Frame [Ctx.STATE (bytesNat (body.take 2) % 512)] s t) ∧
      Gives (.machMirror body age false) s (fun t => t.rd (Foc.MSTATE (body.getD 0 0 % 4)) = recWord body 8 ∧
        (machOf t (body.getD 0 0 % 4)).theta = recWord body 0 ∧ (machOf t (body.getD 0 0 % 4)).tq = recWord body 4 ∧
        Frame [Foc.MSTATE (body.getD 0 0 % 4)] s t) ∧
      Gives (.profMirror body age false) s (fun t => t.rd (Prof.PSTATE (body.getD 0 0 % 4)) = recWord body 6 ∧
        (profOf t (body.getD 0 0 % 4)).v = recWord body 2 ∧ Frame [Prof.PSTATE (body.getD 0 0 % 4)] s t) ∧
      Gives (.grpMirror body age false) s (fun t => t.rd (Hw.HW_STAT (body.getD 0 0 % 64)) = recWord body 0 ∧
        t.rdL (Hw.HW_OUT (body.getD 0 0 % 64)) = recWord body 1 ∧ Frame [Hw.HW_STAT (body.getD 0 0 % 64)] s t) ∧
      ∀ i ∈ [Instr.ctxMirror body age true, Instr.machMirror body age true, Instr.profMirror body age true, Instr.grpMirror body age true],
        Gives i s (fun t => t.twin.held.length = s.twin.held.length + 1 ∧ Frame (Twin.STATE :: irqRegs Twin.page) s t))

/-- R356, R360, R372. -/
def Obligations.LinkMessagesAreAppliedOnceAndAnswered : Prop :=
  ∀ (body : List Nat) (env : WriteEnv) (copy : Bool) (q : Nat) (s : State), q = bytesNat (body.take 2) →
    (linkServes s = true → answered s q = none → Gives (.twinWrite body env copy) s (fun t => ∃ m,
      m.kind = 8 ∧ m.bulk = body.take 2 ++ [(takeEntries copy env ((List.range (body.getD 2 0)).map (writeEntry body)) s).2.num] ∧
      t.twin.queue.getLast? = some m ∧ answered t q = some m)) ∧
    (linkServes s = true → answered s q = none → body.getD 2 0 = 0 → Gives (.twinWrite body env copy) s (fun t =>
      Frame (Twin.STATE :: irqRegs Twin.page) s t)) ∧
    (∀ m, linkServes s = true → answered s q = some m →
      Gives (.twinWrite body env copy) s (fun t => t.twin.queue = s.twin.queue ++ [m] ∧ Frame [] s t) ∧
      Gives (.twinReadReq body) s (fun t => t.twin.queue = s.twin.queue ++ [m] ∧ Frame [] s t)) ∧
    (linkServes s = true → answered s q = none → Gives (.twinReadReq body) s (fun t => (∃ m l, t.twin.queue.getLast? = some m ∧ m.kind = 7 ∧
      m.bulk = body.take 2 ++ l ∧ answered t q = some m) ∧ ∀ a, t.rdByte a = s.rdByte a)) ∧
    (∀ m, waitsFor s 6 q = some m → Gives (.twinReadRsp body) s (fun t => waitsFor t 6 q = none ∧ Frame [] s t)) ∧
    (∀ m, waitsFor s 5 q = some m → m.fwd = true → m.copy = false → body.getD 2 0 = 0 → Gives (.twinAck body) s (fun t =>
      waitsFor t 5 q = none ∧ Frame [] s t)) ∧
    (∀ m k, waitsFor s 5 q = some m → m.fwd = false → m.dma = some k → Gives (.twinAck body) s (fun t =>
      waitsFor t 5 q = none ∧ (∀ r, dmaRunOf s k = some r → r.asked = true → ∃ u, dmaRunOf t k = some u ∧ u.answer = some (body.getD 2 0, [])) ∧
      Frame [] s t)) ∧
    (∀ m, s.twin.asked.find? (fun m => decide (m.mseq = q)) = some m →
      (∀ x ∈ s.twin.queue, x.mseq = q → x.kind ≠ 5 ∧ x.kind ≠ 6) → Gives (.messageRetransmit q) s (fun t =>
        t.twin.queue = s.twin.queue ++ [{ m with again := true }] ∧ m.sentAt + 800 ≤ t.now ∧ Frame [] s t))

/-- R357-R360, R363, R367, R368, R373. The operands of HELLO beyond its bytes are the model's choice (log entry 195). -/
def Obligations.PairingCommandsMoveTheTwinState : Prop :=
  ∀ (port : Port) (v : Word) (body : List Nat) (delay up : Nat) (skew : Int) (tbs : List (Nat × Nat)) (s : State),
    (Admits s port Twin.CMD →
      (twinState s = 0 ∨ twinState s = 6 → Gives (.twinAttach port) s (fun t => twinState t = 1 ∧ t.twin.attAt = s.now ∧ Frame [Twin.STATE] s t)) ∧
      (twinState s ≠ 0 → ((twinState s = 4 ∨ twinState s = 5) → anyTbRun s = false ∧ s.twin.peerRuns = false) →
        Gives (.twinDetach port) s (fun t => t.twin.detach = true ∧ Frame [] s t)) ∧
      (twinState s = 2 → s.rdB Twin.STATE 18 = true → s.twin.swap = none → Gives (.twinSwap port) s (fun t =>
        t.twin.swap = some port ∧ Frame [] s t)) ∧
      (twinState s = 2 → port ≠ .twin → Gives (.twinCfgCopy port) s (fun t => copyPending t = true ∧ Frame [] s t)) ∧
      ((twinState s = 0 ∨ twinState s = 6) → s.twin.recover = true → Gives (.twinServe port) s (fun t =>
        twinState t = 7 ∧ t.twin.before = twinState s ∧ Frame [Twin.STATE] s t))) ∧
    Gives .laneAligned s (fun t => linkUp t = true ∧ t.twin.rxSeq = none ∧ t.twin.bad = 0 ∧ Frame (Twin.STATE :: irqRegs Twin.page) s t) ∧
    (twinState s = 1 → s.twin.step < 2 → s.twin.before < 16 → Gives .attachTimeout s (fun t => twinState t = s.twin.before ∧
      t.rdF Twin.STATE 11 8 = 1 ∧ t.twin.step = 0 ∧ s.twin.attAt + (if s.twin.step = 0 then 40000 else 80000000) ≤ t.now ∧
      Frame (Twin.STATE :: irqRegs Twin.page) s t)) ∧
    (body.getD 2 0 % 16 ≠ 3 → twinState s = 0 → Gives (.twinHello body delay skew up tbs) s (fun t =>
      t.rdF Twin.PEER 15 0 = bytesNat (body.take 2) % 65536 ∧ Frame [Twin.PEER] s t)) ∧
    (∀ c, body.getD 2 0 % 16 ≠ 3 → twinState s = 1 → s.twin.step = 1 → s.twin.before < 16 →
      helloFault body skew (!tbs.isEmpty) (s.wrF Twin.PEER 15 0 (bytesNat (body.take 2))) = some c → Gives (.twinHello body delay skew up tbs) s
        (fun t => twinState t = s.twin.before ∧ t.rdF Twin.STATE 11 8 = c ∧ Frame ([Twin.STATE, Twin.PEER] ++ irqRegs Twin.page) s t)) ∧
    (body.getD 2 0 % 16 ≠ 3 → twinState s = 1 → s.twin.step = 1 → twinMode s = 2 →
      helloFault body skew (!tbs.isEmpty) (s.wrF Twin.PEER 15 0 (bytesNat (body.take 2))) = none → Gives (.twinHello body delay skew up tbs) s
        (fun t => twinState t = (if twinSecond s then 5 else 4) ∧ t.rd Twin.LINK_DELAY = word (delay % 65536) ∧ t.twin.passive = false ∧
          ∀ a, t.rdByte a = s.rdByte a)) ∧
    (∀ x, s.twin.offer = some x → Gives .handoverOfferTimeout s (fun t => t.twin.offer = none ∧ x + 320 ≤ t.now ∧
      Frame (hERRINFO Twin.page :: irqRegs Twin.page) s t)) ∧
    (∀ x, s.twin.tookAt = some x → Gives .ownerRefuseTimeout s (fun t => t.twin.tookAt = none ∧ x + 1600 ≤ t.now ∧
      Frame (Twin.STATE :: irqRegs Twin.page) s t)) ∧
    (Admits s port Twin.TB_SYNC → port ≠ .twin → pwrState s ≠ 1 → s.rdB SecDbg.DBG_HSTAT 2 = false → twinState s = 4 →
      (lockOpen s Tb.page = false → Gives (.twinTbSync port v .none) s (fun t => t.twin.queue = s.twin.queue ∧
        (∀ k < 8, tbRun t k = tbRun s k) ∧ PageFrame [Twin.page] s t)) ∧
      (lockOpen s Tb.page = true → fld v 7 0 = 0 → Gives (.twinTbSync port v .none) s (fun t => t.twin.queue.length = s.twin.queue.length + 1 ∧ Frame [] s t)) ∧
      (lockOpen s Tb.page = true → s.pwm.staged = [] → (tbStartWrite (word (fld v 7 0)) { s with now := s.now + 1600 }).2 = .none → Gives (.twinTbSync port v .none) s (fun t =>
        (∀ k ∈ maskBits 8 (word (fld v 7 0)), tbRun t k = true) ∧ t.now = s.now ∧ ∀ a, t.rdByte a = s.rdByte a)))
end

