-- ==== Sys2Proof/Laws/Bist.lean ====
section
/-! SUPPORT. The signature register of self-test (R424) reaches every signature: a response exists for each. -/

namespace Sys2Proof.Laws.Bist
open Sys2Proof.Machine

/-- The MISR state from which a zero response leads to `t`. -/
def misrBack (t : BitVec 64) : BitVec 64 :=
  if t.getLsbD 0 then ((t ^^^ 0x1B) >>> 1) ||| 0x8000000000000000 else t >>> 1

/-- Down and up again loses nothing where bit 0 is clear. -/
theorem shift_back {u : BitVec 64} (h : u.getLsbD 0 = false) : (u >>> 1) <<< 1 = u := by
  apply BitVec.eq_of_getLsbD_eq
  intro i hi
  rcases i with _ | i
  · simpa using h.symm
  · simp [hi, Nat.add_comm]

/-- A response is added to the state that its clock reaches. -/
theorem misrStep_back (t w : BitVec 64) : misrStep (misrBack t) w = t ^^^ w := by
  unfold misrStep misrBack
  cases h : t.getLsbD 0
  · simp [shift_back h]
  · have h' : (t ^^^ 0x1B).getLsbD 0 = false := by simp [h]
    have top : ((t ^^^ 0x1B) >>> 1 ||| 0x8000000000000000 : BitVec 64).getLsbD 63 = true := by
      rw [BitVec.getLsbD_or]; simp
    have z : (0x8000000000000000 : BitVec 64) <<< 1 = 0 := by decide
    simp only [if_true, top, BitVec.shiftLeft_or_distrib, shift_back h', z]
    rw [show ((t ^^^ 0x1B) ||| 0 : BitVec 64) = t ^^^ 0x1B by simp, BitVec.xor_assoc t, BitVec.xor_self]
    simp

/-- A response that gives a portion's test a wanted signature. -/
def responseFor (p slice steps : Nat) (x : Word × Word) : BitVec 64 :=
  misrStep 0xFFFFFFFFFFFFFFFF 0 ^^^ misrBack ((x.1 ++ x.2) ^^^ closingWord p slice steps)

/-- That response gives it. -/
theorem signatureOf_responseFor (p slice steps : Nat) (x : Word × Word) :
    signatureOf p slice [responseFor p slice steps x] steps = x := by
  have e : misrStep 0xFFFFFFFFFFFFFFFF (responseFor p slice steps x) = misrBack ((x.1 ++ x.2) ^^^ closingWord p slice steps) := by
    simp only [responseFor, misrStep, ← BitVec.xor_assoc]
    simp
  simp only [signatureOf, List.foldl_cons, List.foldl_nil, e, misrStep_back]
  rw [BitVec.xor_assoc, BitVec.xor_self, BitVec.xor_zero]
  apply Prod.ext
  · apply BitVec.eq_of_getLsbD_eq
    intro i hi
    rw [BitVec.getLsbD_extractLsb', BitVec.getLsbD_append]
    simp only [hi, decide_true, Bool.true_and]
    rw [if_neg (by omega)]
    congr 1
    omega
  · apply BitVec.eq_of_getLsbD_eq
    intro i hi
    rw [BitVec.getLsbD_extractLsb', BitVec.getLsbD_append]
    simp [hi]
end Sys2Proof.Laws.Bist
end

