-- ==== Sys2Proof/Laws/KMap.lean ====
section
/-! SUPPORT. The laws of sparse maps: a read after a write, and that every map operation keeps the canonical form. -/

namespace Sys2Proof.Machine.KMap

variable {α : Type}

theorem get_erase_ne (d : Nat → α) (m : List (Nat × α)) (a b : Nat) (h : b ≠ a) :
    get d (erase m a) b = get d m b := by
  induction m with
  | nil => rfl
  | cons e r ih =>
    obtain ⟨c, w⟩ := e
    by_cases hc : c = a
    · subst hc; simp [erase, get, ih, Ne.symm h]
    · simp [erase, hc, get, ih]

theorem get_erase_self (d : Nat → α) (m : List (Nat × α)) (a : Nat) : get d (erase m a) a = d a := by
  induction m with
  | nil => rfl
  | cons e r ih =>
    obtain ⟨c, w⟩ := e
    by_cases hc : c = a
    · simp [erase, hc, ih]
    · simp [erase, hc, get, ih]

theorem get_insert_ne (d : Nat → α) (m : List (Nat × α)) (a b : Nat) (v : α) (h : b ≠ a) :
    get d (insert m a v) b = get d m b := by
  induction m with
  | nil => simp [insert, get, Ne.symm h]
  | cons e r ih =>
    obtain ⟨c, w⟩ := e
    by_cases hc : c < a
    · simp [insert, hc, get, ih]
    · simp [insert, hc, get, Ne.symm h]

theorem get_insert_erase (d : Nat → α) (m : List (Nat × α)) (a : Nat) (v : α) :
    get d (insert (erase m a) a v) a = v := by
  induction m with
  | nil => simp [erase, insert, get]
  | cons e r ih =>
    obtain ⟨c, w⟩ := e
    by_cases hc : c = a
    · simp [erase, hc, ih]
    · by_cases hl : c < a
      · simp [erase, hc, insert, hl, get, ih]
      · simp [erase, hc, insert, hl, get]

theorem erase_eq_filter (m : List (Nat × α)) (a : Nat) : erase m a = m.filter (fun e => decide (e.1 ≠ a)) := by
  induction m with
  | nil => rfl
  | cons e r ih =>
    obtain ⟨c, w⟩ := e
    by_cases hc : c = a <;> simp [erase, hc, ih]

theorem mem_insert {m : List (Nat × α)} {a : Nat} {v : α} {e : Nat × α} (h : e ∈ insert m a v) : e = (a, v) ∨ e ∈ m := by
  induction m with
  | nil => simpa [insert] using h
  | cons f r ih =>
    obtain ⟨c, w⟩ := f
    by_cases hc : c < a
    · simp only [insert, hc, if_true, List.mem_cons] at h ⊢
      rcases h with rfl | h
      · exact .inr (.inl rfl)
      · exact (ih h).imp_right .inr
    · simpa [insert, hc] using h

theorem pairwise_insert {m : List (Nat × α)} {a : Nat} {v : α} (hp : m.Pairwise (fun e f => e.1 < f.1))
    (hn : ∀ e ∈ m, e.1 ≠ a) : (insert m a v).Pairwise (fun e f => e.1 < f.1) := by
  induction m with
  | nil => simp [insert]
  | cons f r ih =>
    obtain ⟨c, w⟩ := f
    have h1 := List.pairwise_cons.1 hp
    by_cases hc : c < a
    · simp only [insert, hc, if_true]
      refine List.pairwise_cons.2 ⟨?_, ih h1.2 fun e he => hn e (List.mem_cons_of_mem _ he)⟩
      intro e he
      rcases mem_insert he with rfl | he
      · exact hc
      · exact h1.1 e he
    · simp only [insert, hc, if_false]
      have hca : a < c := Nat.lt_of_le_of_ne (Nat.le_of_not_lt hc) (Ne.symm (hn _ (List.mem_cons_self ..)))
      refine List.pairwise_cons.2 ⟨?_, hp⟩
      intro e he
      rcases List.mem_cons.1 he with rfl | he
      · exact hca
      · exact Nat.lt_trans hca (h1.1 e he)

variable [DecidableEq α]

/-- A read after a write: the written key reads the value, every other key reads as before. -/
theorem get_set (d : Nat → α) (m : List (Nat × α)) (a b : Nat) (v : α) :
    get d (set d m a v) b = if b = a then v else get d m b := by
  by_cases h : b = a
  · subst h
    by_cases hv : v = d b
    · simp [set, hv, get_erase_self]
    · simp [set, hv, get_insert_erase]
  · by_cases hv : v = d a
    · simp [set, hv, h, get_erase_ne d m a b h]
    · simp [set, hv, h, get_insert_ne d _ a b v h, get_erase_ne d m a b h]

@[simp] theorem get_set_self (d : Nat → α) (m : List (Nat × α)) (a : Nat) (v : α) : get d (set d m a v) a = v := by
  simp [get_set]

theorem get_set_ne (d : Nat → α) (m : List (Nat × α)) (a b : Nat) (v : α) (h : b ≠ a) :
    get d (set d m a v) b = get d m b := by
  simp [get_set, h]

/-- The canonical form, said as an order on the keys and a property of each entry. -/
theorem wf_iff (d : Nat → α) (m : List (Nat × α)) :
    wf d m = true ↔ m.Pairwise (fun e f => e.1 < f.1) ∧ ∀ e ∈ m, e.2 ≠ d e.1 := by
  induction m with
  | nil => simp [wf]
  | cons e r ih =>
    obtain ⟨a, v⟩ := e
    cases r with
    | nil => simp [wf]
    | cons f q =>
      obtain ⟨b, w⟩ := f
      simp only [wf, Bool.and_eq_true, decide_eq_true_eq, ih]
      constructor
      · rintro ⟨⟨hab, hv⟩, hp, hn⟩
        refine ⟨?_, ?_⟩
        · refine List.pairwise_cons.2 ⟨?_, hp⟩
          intro e he
          rcases List.mem_cons.1 he with rfl | he
          · exact hab
          · exact Nat.lt_trans hab ((List.pairwise_cons.1 hp).1 e he)
        · intro e he
          rcases List.mem_cons.1 he with rfl | he
          · exact hv
          · exact hn e he
      · rintro ⟨hp, hn⟩
        have h1 := List.pairwise_cons.1 hp
        exact ⟨⟨h1.1 _ (List.mem_cons_self ..), hn _ (List.mem_cons_self ..)⟩, h1.2,
          fun e he => hn e (List.mem_cons_of_mem _ he)⟩

theorem wf_filter (d : Nat → α) (m : List (Nat × α)) (p : Nat × α → Bool) (h : wf d m = true) :
    wf d (m.filter p) = true := by
  rw [wf_iff] at *
  exact ⟨h.1.filter p, fun e he => h.2 e (List.mem_filter.1 he).1⟩

theorem wf_erase (d : Nat → α) (m : List (Nat × α)) (a : Nat) (h : wf d m = true) : wf d (erase m a) = true := by
  rw [erase_eq_filter]; exact wf_filter d m _ h

/-- A write keeps the canonical form. -/
theorem wf_set (d : Nat → α) (m : List (Nat × α)) (a : Nat) (v : α) (h : wf d m = true) : wf d (set d m a v) = true := by
  have he := wf_erase d m a h
  by_cases hv : v = d a
  · simpa [set, hv] using he
  · simp only [set, hv, if_false]
    rw [wf_iff] at *
    refine ⟨pairwise_insert he.1 ?_, ?_⟩
    · intro e hm
      rw [erase_eq_filter] at hm
      simpa using (List.mem_filter.1 hm).2
    · intro e hm
      rcases mem_insert hm with rfl | hm
      · exact hv
      · exact he.2 e hm

theorem wf_dropWhere (d : Nat → α) (p : Nat → Bool) (m : List (Nat × α)) (h : wf d m = true) :
    wf d (dropWhere p m) = true := wf_filter d m _ h

/-- Filling keys from another canonical map keeps the canonical form. -/
theorem wf_copyWhere (d : Nat → α) (p : Nat → Bool) (src m : List (Nat × α)) (hs : wf d src = true)
    (hm : wf d m = true) : wf d (copyWhere p src m) = true := by
  have hs' := (wf_iff d _).1 (wf_filter d src (fun e => p e.1) hs)
  have hm' := (wf_iff d _).1 (wf_filter d m (fun e => !p e.1) hm)
  rw [wf_iff, copyWhere]
  have key : ∀ l : List (Nat × α), l.Pairwise (fun e f => e.1 < f.1) → (∀ e ∈ l, p e.1 = true) →
      (∀ e ∈ l, e.2 ≠ d e.1) →
      (l.foldr (fun e acc => insert acc e.1 e.2) (m.filter (fun e => !p e.1))).Pairwise (fun e f => e.1 < f.1) ∧
      (∀ e ∈ l.foldr (fun e acc => insert acc e.1 e.2) (m.filter (fun e => !p e.1)), e.2 ≠ d e.1) ∧
      (∀ e ∈ l.foldr (fun e acc => insert acc e.1 e.2) (m.filter (fun e => !p e.1)), e ∈ l ∨ p e.1 = false) := by
    intro l
    induction l with
    | nil =>
      intro _ _ _
      refine ⟨hm'.1, hm'.2, fun e he => .inr ?_⟩
      simpa using (List.mem_filter.1 he).2
    | cons f r ih =>
      intro hp hq hd
      have h1 := List.pairwise_cons.1 hp
      obtain ⟨i1, i2, i3⟩ := ih h1.2 (fun e he => hq e (List.mem_cons_of_mem _ he)) fun e he => hd e (List.mem_cons_of_mem _ he)
      simp only [List.foldr_cons]
      refine ⟨pairwise_insert i1 ?_, ?_, ?_⟩
      · intro e he
        rcases i3 e he with h | h
        · exact Nat.ne_of_gt (h1.1 e h)
        · intro hc
          have := hq f (List.mem_cons_self ..)
          rw [hc] at h; simp [this] at h
      · intro e he
        rcases mem_insert he with rfl | he
        · exact hd f (List.mem_cons_self ..)
        · exact i2 e he
      · intro e he
        rcases mem_insert he with rfl | he
        · exact .inl (List.mem_cons_self ..)
        · exact (i3 e he).imp_left (List.mem_cons_of_mem _)
  obtain ⟨k1, k2, -⟩ := key _ hs'.1 (fun e he => by simpa using (List.mem_filter.1 he).2) hs'.2
  exact ⟨k1, k2⟩

end Sys2Proof.Machine.KMap
end

