-- ==== Sys2Proof/Laws/State.lean ====
section
/-! SUPPORT. What each named update does to each field of the state: one lemma per field and update, so that no later
proof unfolds a record update; and what a read of a register gives after each of them. -/

namespace Sys2Proof.Machine.State

variable (s : State)

/-! ### wr -/

@[simp] theorem wr_pending (a : Nat) (v : Word) : (s.wr a v).pending = s.pending := by cases s; rfl
@[simp] theorem wr_part (a : Nat) (v : Word) : (s.wr a v).part = s.part := by cases s; rfl
@[simp] theorem wr_now (a : Nat) (v : Word) : (s.wr a v).now = s.now := by cases s; rfl
@[simp] theorem wr_live (a : Nat) (v : Word) : (s.wr a v).live = s.live := by cases s; rfl
@[simp] theorem wr_active (a : Nat) (v : Word) : (s.wr a v).active = s.active := by cases s; rfl
@[simp] theorem wr_committed (a : Nat) (v : Word) : (s.wr a v).committed = s.committed := by cases s; rfl
@[simp] theorem wr_mem (a : Nat) (v : Word) : (s.wr a v).mem = s.mem := by cases s; rfl
@[simp] theorem wr_evq (a : Nat) (v : Word) : (s.wr a v).evq = s.evq := by cases s; rfl
@[simp] theorem wr_free (a : Nat) (v : Word) : (s.wr a v).free = s.free := by cases s; rfl
@[simp] theorem wr_fab (a : Nat) (v : Word) : (s.wr a v).fab = s.fab := by cases s; rfl
@[simp] theorem wr_host (a : Nat) (v : Word) : (s.wr a v).host = s.host := by cases s; rfl
@[simp] theorem wr_bu (a : Nat) (v : Word) : (s.wr a v).bu = s.bu := by cases s; rfl
@[simp] theorem wr_isl (a : Nat) (v : Word) : (s.wr a v).isl = s.isl := by cases s; rfl
@[simp] theorem wr_srcs (a : Nat) (v : Word) : (s.wr a v).srcs = s.srcs := by cases s; rfl
@[simp] theorem wr_inputs (a : Nat) (v : Word) : (s.wr a v).inputs = s.inputs := by cases s; rfl
@[simp] theorem wr_meas (a : Nat) (v : Word) : (s.wr a v).meas = s.meas := by cases s; rfl
@[simp] theorem wr_pwm (a : Nat) (v : Word) : (s.wr a v).pwm = s.pwm := by cases s; rfl
@[simp] theorem wr_gl (a : Nat) (v : Word) : (s.wr a v).gl = s.gl := by cases s; rfl
@[simp] theorem wr_drivers (a : Nat) (v : Word) : (s.wr a v).drivers = s.drivers := by cases s; rfl
@[simp] theorem wr_prot (a : Nat) (v : Word) : (s.wr a v).prot = s.prot := by cases s; rfl
@[simp] theorem wr_cle (a : Nat) (v : Word) : (s.wr a v).cle = s.cle := by cases s; rfl
@[simp] theorem wr_foc (a : Nat) (v : Word) : (s.wr a v).foc = s.foc := by cases s; rfl
@[simp] theorem wr_prof (a : Nat) (v : Word) : (s.wr a v).prof = s.prof := by cases s; rfl
@[simp] theorem wr_dma (a : Nat) (v : Word) : (s.wr a v).dma = s.dma := by cases s; rfl
@[simp] theorem wr_bus (a : Nat) (v : Word) : (s.wr a v).bus = s.bus := by cases s; rfl
@[simp] theorem wr_therm (a : Nat) (v : Word) : (s.wr a v).therm = s.therm := by cases s; rfl
@[simp] theorem wr_twin (a : Nat) (v : Word) : (s.wr a v).twin = s.twin := by cases s; rfl
@[simp] theorem wr_bist (a : Nat) (v : Word) : (s.wr a v).bist = s.bist := by cases s; rfl
@[simp] theorem wr_ev (a : Nat) (v : Word) : (s.wr a v).ev = s.ev := by cases s; rfl
@[simp] theorem wr_fw (a : Nat) (v : Word) : (s.wr a v).fw = s.fw := by cases s; rfl
@[simp] theorem wr_sec (a : Nat) (v : Word) : (s.wr a v).sec = s.sec := by cases s; rfl

/-! ### wrL -/

@[simp] theorem wrL_pending (a : Nat) (v : Word) : (s.wrL a v).pending = s.pending := by cases s; rfl
@[simp] theorem wrL_part (a : Nat) (v : Word) : (s.wrL a v).part = s.part := by cases s; rfl
@[simp] theorem wrL_now (a : Nat) (v : Word) : (s.wrL a v).now = s.now := by cases s; rfl
@[simp] theorem wrL_regs (a : Nat) (v : Word) : (s.wrL a v).regs = s.regs := by cases s; rfl
@[simp] theorem wrL_active (a : Nat) (v : Word) : (s.wrL a v).active = s.active := by cases s; rfl
@[simp] theorem wrL_committed (a : Nat) (v : Word) : (s.wrL a v).committed = s.committed := by cases s; rfl
@[simp] theorem wrL_mem (a : Nat) (v : Word) : (s.wrL a v).mem = s.mem := by cases s; rfl
@[simp] theorem wrL_evq (a : Nat) (v : Word) : (s.wrL a v).evq = s.evq := by cases s; rfl
@[simp] theorem wrL_free (a : Nat) (v : Word) : (s.wrL a v).free = s.free := by cases s; rfl
@[simp] theorem wrL_fab (a : Nat) (v : Word) : (s.wrL a v).fab = s.fab := by cases s; rfl
@[simp] theorem wrL_host (a : Nat) (v : Word) : (s.wrL a v).host = s.host := by cases s; rfl
@[simp] theorem wrL_bu (a : Nat) (v : Word) : (s.wrL a v).bu = s.bu := by cases s; rfl
@[simp] theorem wrL_isl (a : Nat) (v : Word) : (s.wrL a v).isl = s.isl := by cases s; rfl
@[simp] theorem wrL_srcs (a : Nat) (v : Word) : (s.wrL a v).srcs = s.srcs := by cases s; rfl
@[simp] theorem wrL_inputs (a : Nat) (v : Word) : (s.wrL a v).inputs = s.inputs := by cases s; rfl
@[simp] theorem wrL_meas (a : Nat) (v : Word) : (s.wrL a v).meas = s.meas := by cases s; rfl
@[simp] theorem wrL_pwm (a : Nat) (v : Word) : (s.wrL a v).pwm = s.pwm := by cases s; rfl
@[simp] theorem wrL_gl (a : Nat) (v : Word) : (s.wrL a v).gl = s.gl := by cases s; rfl
@[simp] theorem wrL_drivers (a : Nat) (v : Word) : (s.wrL a v).drivers = s.drivers := by cases s; rfl
@[simp] theorem wrL_prot (a : Nat) (v : Word) : (s.wrL a v).prot = s.prot := by cases s; rfl
@[simp] theorem wrL_cle (a : Nat) (v : Word) : (s.wrL a v).cle = s.cle := by cases s; rfl
@[simp] theorem wrL_foc (a : Nat) (v : Word) : (s.wrL a v).foc = s.foc := by cases s; rfl
@[simp] theorem wrL_prof (a : Nat) (v : Word) : (s.wrL a v).prof = s.prof := by cases s; rfl
@[simp] theorem wrL_dma (a : Nat) (v : Word) : (s.wrL a v).dma = s.dma := by cases s; rfl
@[simp] theorem wrL_bus (a : Nat) (v : Word) : (s.wrL a v).bus = s.bus := by cases s; rfl
@[simp] theorem wrL_therm (a : Nat) (v : Word) : (s.wrL a v).therm = s.therm := by cases s; rfl
@[simp] theorem wrL_twin (a : Nat) (v : Word) : (s.wrL a v).twin = s.twin := by cases s; rfl
@[simp] theorem wrL_bist (a : Nat) (v : Word) : (s.wrL a v).bist = s.bist := by cases s; rfl
@[simp] theorem wrL_ev (a : Nat) (v : Word) : (s.wrL a v).ev = s.ev := by cases s; rfl
@[simp] theorem wrL_fw (a : Nat) (v : Word) : (s.wrL a v).fw = s.fw := by cases s; rfl
@[simp] theorem wrL_sec (a : Nat) (v : Word) : (s.wrL a v).sec = s.sec := by cases s; rfl

/-! ### wrA -/

@[simp] theorem wrA_pending (a : Nat) (v : Word) : (s.wrA a v).pending = s.pending := by cases s; rfl
@[simp] theorem wrA_part (a : Nat) (v : Word) : (s.wrA a v).part = s.part := by cases s; rfl
@[simp] theorem wrA_now (a : Nat) (v : Word) : (s.wrA a v).now = s.now := by cases s; rfl
@[simp] theorem wrA_regs (a : Nat) (v : Word) : (s.wrA a v).regs = s.regs := by cases s; rfl
@[simp] theorem wrA_live (a : Nat) (v : Word) : (s.wrA a v).live = s.live := by cases s; rfl
@[simp] theorem wrA_committed (a : Nat) (v : Word) : (s.wrA a v).committed = s.committed := by cases s; rfl
@[simp] theorem wrA_mem (a : Nat) (v : Word) : (s.wrA a v).mem = s.mem := by cases s; rfl
@[simp] theorem wrA_evq (a : Nat) (v : Word) : (s.wrA a v).evq = s.evq := by cases s; rfl
@[simp] theorem wrA_free (a : Nat) (v : Word) : (s.wrA a v).free = s.free := by cases s; rfl
@[simp] theorem wrA_fab (a : Nat) (v : Word) : (s.wrA a v).fab = s.fab := by cases s; rfl
@[simp] theorem wrA_host (a : Nat) (v : Word) : (s.wrA a v).host = s.host := by cases s; rfl
@[simp] theorem wrA_bu (a : Nat) (v : Word) : (s.wrA a v).bu = s.bu := by cases s; rfl
@[simp] theorem wrA_isl (a : Nat) (v : Word) : (s.wrA a v).isl = s.isl := by cases s; rfl
@[simp] theorem wrA_srcs (a : Nat) (v : Word) : (s.wrA a v).srcs = s.srcs := by cases s; rfl
@[simp] theorem wrA_inputs (a : Nat) (v : Word) : (s.wrA a v).inputs = s.inputs := by cases s; rfl
@[simp] theorem wrA_meas (a : Nat) (v : Word) : (s.wrA a v).meas = s.meas := by cases s; rfl
@[simp] theorem wrA_pwm (a : Nat) (v : Word) : (s.wrA a v).pwm = s.pwm := by cases s; rfl
@[simp] theorem wrA_gl (a : Nat) (v : Word) : (s.wrA a v).gl = s.gl := by cases s; rfl
@[simp] theorem wrA_drivers (a : Nat) (v : Word) : (s.wrA a v).drivers = s.drivers := by cases s; rfl
@[simp] theorem wrA_prot (a : Nat) (v : Word) : (s.wrA a v).prot = s.prot := by cases s; rfl
@[simp] theorem wrA_cle (a : Nat) (v : Word) : (s.wrA a v).cle = s.cle := by cases s; rfl
@[simp] theorem wrA_foc (a : Nat) (v : Word) : (s.wrA a v).foc = s.foc := by cases s; rfl
@[simp] theorem wrA_prof (a : Nat) (v : Word) : (s.wrA a v).prof = s.prof := by cases s; rfl
@[simp] theorem wrA_dma (a : Nat) (v : Word) : (s.wrA a v).dma = s.dma := by cases s; rfl
@[simp] theorem wrA_bus (a : Nat) (v : Word) : (s.wrA a v).bus = s.bus := by cases s; rfl
@[simp] theorem wrA_therm (a : Nat) (v : Word) : (s.wrA a v).therm = s.therm := by cases s; rfl
@[simp] theorem wrA_twin (a : Nat) (v : Word) : (s.wrA a v).twin = s.twin := by cases s; rfl
@[simp] theorem wrA_bist (a : Nat) (v : Word) : (s.wrA a v).bist = s.bist := by cases s; rfl
@[simp] theorem wrA_ev (a : Nat) (v : Word) : (s.wrA a v).ev = s.ev := by cases s; rfl
@[simp] theorem wrA_fw (a : Nat) (v : Word) : (s.wrA a v).fw = s.fw := by cases s; rfl
@[simp] theorem wrA_sec (a : Nat) (v : Word) : (s.wrA a v).sec = s.sec := by cases s; rfl

/-! ### wrByte -/

@[simp] theorem wrByte_pending (a : Nat) (b : Byte) : (s.wrByte a b).pending = s.pending := by cases s; rfl
@[simp] theorem wrByte_part (a : Nat) (b : Byte) : (s.wrByte a b).part = s.part := by cases s; rfl
@[simp] theorem wrByte_now (a : Nat) (b : Byte) : (s.wrByte a b).now = s.now := by cases s; rfl
@[simp] theorem wrByte_regs (a : Nat) (b : Byte) : (s.wrByte a b).regs = s.regs := by cases s; rfl
@[simp] theorem wrByte_live (a : Nat) (b : Byte) : (s.wrByte a b).live = s.live := by cases s; rfl
@[simp] theorem wrByte_active (a : Nat) (b : Byte) : (s.wrByte a b).active = s.active := by cases s; rfl
@[simp] theorem wrByte_committed (a : Nat) (b : Byte) : (s.wrByte a b).committed = s.committed := by cases s; rfl
@[simp] theorem wrByte_evq (a : Nat) (b : Byte) : (s.wrByte a b).evq = s.evq := by cases s; rfl
@[simp] theorem wrByte_free (a : Nat) (b : Byte) : (s.wrByte a b).free = s.free := by cases s; rfl
@[simp] theorem wrByte_fab (a : Nat) (b : Byte) : (s.wrByte a b).fab = s.fab := by cases s; rfl
@[simp] theorem wrByte_host (a : Nat) (b : Byte) : (s.wrByte a b).host = s.host := by cases s; rfl
@[simp] theorem wrByte_bu (a : Nat) (b : Byte) : (s.wrByte a b).bu = s.bu := by cases s; rfl
@[simp] theorem wrByte_isl (a : Nat) (b : Byte) : (s.wrByte a b).isl = s.isl := by cases s; rfl
@[simp] theorem wrByte_srcs (a : Nat) (b : Byte) : (s.wrByte a b).srcs = s.srcs := by cases s; rfl
@[simp] theorem wrByte_inputs (a : Nat) (b : Byte) : (s.wrByte a b).inputs = s.inputs := by cases s; rfl
@[simp] theorem wrByte_meas (a : Nat) (b : Byte) : (s.wrByte a b).meas = s.meas := by cases s; rfl
@[simp] theorem wrByte_pwm (a : Nat) (b : Byte) : (s.wrByte a b).pwm = s.pwm := by cases s; rfl
@[simp] theorem wrByte_gl (a : Nat) (b : Byte) : (s.wrByte a b).gl = s.gl := by cases s; rfl
@[simp] theorem wrByte_drivers (a : Nat) (b : Byte) : (s.wrByte a b).drivers = s.drivers := by cases s; rfl
@[simp] theorem wrByte_prot (a : Nat) (b : Byte) : (s.wrByte a b).prot = s.prot := by cases s; rfl
@[simp] theorem wrByte_cle (a : Nat) (b : Byte) : (s.wrByte a b).cle = s.cle := by cases s; rfl
@[simp] theorem wrByte_foc (a : Nat) (b : Byte) : (s.wrByte a b).foc = s.foc := by cases s; rfl
@[simp] theorem wrByte_prof (a : Nat) (b : Byte) : (s.wrByte a b).prof = s.prof := by cases s; rfl
@[simp] theorem wrByte_dma (a : Nat) (b : Byte) : (s.wrByte a b).dma = s.dma := by cases s; rfl
@[simp] theorem wrByte_bus (a : Nat) (b : Byte) : (s.wrByte a b).bus = s.bus := by cases s; rfl
@[simp] theorem wrByte_therm (a : Nat) (b : Byte) : (s.wrByte a b).therm = s.therm := by cases s; rfl
@[simp] theorem wrByte_twin (a : Nat) (b : Byte) : (s.wrByte a b).twin = s.twin := by cases s; rfl
@[simp] theorem wrByte_bist (a : Nat) (b : Byte) : (s.wrByte a b).bist = s.bist := by cases s; rfl
@[simp] theorem wrByte_ev (a : Nat) (b : Byte) : (s.wrByte a b).ev = s.ev := by cases s; rfl
@[simp] theorem wrByte_fw (a : Nat) (b : Byte) : (s.wrByte a b).fw = s.fw := by cases s; rfl
@[simp] theorem wrByte_sec (a : Nat) (b : Byte) : (s.wrByte a b).sec = s.sec := by cases s; rfl

/-! ### tick -/

@[simp] theorem tick_pending (n : Nat) : (s.tick n).pending = s.pending := by cases s; rfl
@[simp] theorem tick_part (n : Nat) : (s.tick n).part = s.part := by cases s; rfl
@[simp] theorem tick_regs (n : Nat) : (s.tick n).regs = s.regs := by cases s; rfl
@[simp] theorem tick_live (n : Nat) : (s.tick n).live = s.live := by cases s; rfl
@[simp] theorem tick_active (n : Nat) : (s.tick n).active = s.active := by cases s; rfl
@[simp] theorem tick_committed (n : Nat) : (s.tick n).committed = s.committed := by cases s; rfl
@[simp] theorem tick_mem (n : Nat) : (s.tick n).mem = s.mem := by cases s; rfl
@[simp] theorem tick_evq (n : Nat) : (s.tick n).evq = s.evq := by cases s; rfl
@[simp] theorem tick_free (n : Nat) : (s.tick n).free = s.free := by cases s; rfl
@[simp] theorem tick_fab (n : Nat) : (s.tick n).fab = s.fab := by cases s; rfl
@[simp] theorem tick_host (n : Nat) : (s.tick n).host = s.host := by cases s; rfl
@[simp] theorem tick_bu (n : Nat) : (s.tick n).bu = s.bu := by cases s; rfl
@[simp] theorem tick_isl (n : Nat) : (s.tick n).isl = s.isl := by cases s; rfl
@[simp] theorem tick_srcs (n : Nat) : (s.tick n).srcs = s.srcs := by cases s; rfl
@[simp] theorem tick_inputs (n : Nat) : (s.tick n).inputs = s.inputs := by cases s; rfl
@[simp] theorem tick_meas (n : Nat) : (s.tick n).meas = s.meas := by cases s; rfl
@[simp] theorem tick_pwm (n : Nat) : (s.tick n).pwm = s.pwm := by cases s; rfl
@[simp] theorem tick_gl (n : Nat) : (s.tick n).gl = s.gl := by cases s; rfl
@[simp] theorem tick_drivers (n : Nat) : (s.tick n).drivers = s.drivers := by cases s; rfl
@[simp] theorem tick_prot (n : Nat) : (s.tick n).prot = s.prot := by cases s; rfl
@[simp] theorem tick_cle (n : Nat) : (s.tick n).cle = s.cle := by cases s; rfl
@[simp] theorem tick_foc (n : Nat) : (s.tick n).foc = s.foc := by cases s; rfl
@[simp] theorem tick_prof (n : Nat) : (s.tick n).prof = s.prof := by cases s; rfl
@[simp] theorem tick_dma (n : Nat) : (s.tick n).dma = s.dma := by cases s; rfl
@[simp] theorem tick_bus (n : Nat) : (s.tick n).bus = s.bus := by cases s; rfl
@[simp] theorem tick_therm (n : Nat) : (s.tick n).therm = s.therm := by cases s; rfl
@[simp] theorem tick_twin (n : Nat) : (s.tick n).twin = s.twin := by cases s; rfl
@[simp] theorem tick_bist (n : Nat) : (s.tick n).bist = s.bist := by cases s; rfl
@[simp] theorem tick_ev (n : Nat) : (s.tick n).ev = s.ev := by cases s; rfl
@[simp] theorem tick_fw (n : Nat) : (s.tick n).fw = s.fw := by cases s; rfl
@[simp] theorem tick_sec (n : Nat) : (s.tick n).sec = s.sec := by cases s; rfl

/-! ### reach -/

@[simp] theorem reach_pending (t : Nat) : (s.reach t).pending = s.pending := by cases s; rfl
@[simp] theorem reach_part (t : Nat) : (s.reach t).part = s.part := by cases s; rfl
@[simp] theorem reach_regs (t : Nat) : (s.reach t).regs = s.regs := by cases s; rfl
@[simp] theorem reach_live (t : Nat) : (s.reach t).live = s.live := by cases s; rfl
@[simp] theorem reach_active (t : Nat) : (s.reach t).active = s.active := by cases s; rfl
@[simp] theorem reach_committed (t : Nat) : (s.reach t).committed = s.committed := by cases s; rfl
@[simp] theorem reach_mem (t : Nat) : (s.reach t).mem = s.mem := by cases s; rfl
@[simp] theorem reach_evq (t : Nat) : (s.reach t).evq = s.evq := by cases s; rfl
@[simp] theorem reach_free (t : Nat) : (s.reach t).free = s.free := by cases s; rfl
@[simp] theorem reach_fab (t : Nat) : (s.reach t).fab = s.fab := by cases s; rfl
@[simp] theorem reach_host (t : Nat) : (s.reach t).host = s.host := by cases s; rfl
@[simp] theorem reach_bu (t : Nat) : (s.reach t).bu = s.bu := by cases s; rfl
@[simp] theorem reach_isl (t : Nat) : (s.reach t).isl = s.isl := by cases s; rfl
@[simp] theorem reach_srcs (t : Nat) : (s.reach t).srcs = s.srcs := by cases s; rfl
@[simp] theorem reach_inputs (t : Nat) : (s.reach t).inputs = s.inputs := by cases s; rfl
@[simp] theorem reach_meas (t : Nat) : (s.reach t).meas = s.meas := by cases s; rfl
@[simp] theorem reach_pwm (t : Nat) : (s.reach t).pwm = s.pwm := by cases s; rfl
@[simp] theorem reach_gl (t : Nat) : (s.reach t).gl = s.gl := by cases s; rfl
@[simp] theorem reach_drivers (t : Nat) : (s.reach t).drivers = s.drivers := by cases s; rfl
@[simp] theorem reach_prot (t : Nat) : (s.reach t).prot = s.prot := by cases s; rfl
@[simp] theorem reach_cle (t : Nat) : (s.reach t).cle = s.cle := by cases s; rfl
@[simp] theorem reach_foc (t : Nat) : (s.reach t).foc = s.foc := by cases s; rfl
@[simp] theorem reach_prof (t : Nat) : (s.reach t).prof = s.prof := by cases s; rfl
@[simp] theorem reach_dma (t : Nat) : (s.reach t).dma = s.dma := by cases s; rfl
@[simp] theorem reach_bus (t : Nat) : (s.reach t).bus = s.bus := by cases s; rfl
@[simp] theorem reach_therm (t : Nat) : (s.reach t).therm = s.therm := by cases s; rfl
@[simp] theorem reach_twin (t : Nat) : (s.reach t).twin = s.twin := by cases s; rfl
@[simp] theorem reach_bist (t : Nat) : (s.reach t).bist = s.bist := by cases s; rfl
@[simp] theorem reach_ev (t : Nat) : (s.reach t).ev = s.ev := by cases s; rfl
@[simp] theorem reach_fw (t : Nat) : (s.reach t).fw = s.fw := by cases s; rfl
@[simp] theorem reach_sec (t : Nat) : (s.reach t).sec = s.sec := by cases s; rfl

/-! ### stampNow -/

@[simp] theorem stampNow_pending (a : Nat) : (s.stampNow a).pending = s.pending := by cases s; rfl
@[simp] theorem stampNow_part (a : Nat) : (s.stampNow a).part = s.part := by cases s; rfl
@[simp] theorem stampNow_now (a : Nat) : (s.stampNow a).now = s.now := by cases s; rfl
@[simp] theorem stampNow_regs (a : Nat) : (s.stampNow a).regs = s.regs := by cases s; rfl
@[simp] theorem stampNow_live (a : Nat) : (s.stampNow a).live = s.live := by cases s; rfl
@[simp] theorem stampNow_active (a : Nat) : (s.stampNow a).active = s.active := by cases s; rfl
@[simp] theorem stampNow_committed (a : Nat) : (s.stampNow a).committed = s.committed := by cases s; rfl
@[simp] theorem stampNow_mem (a : Nat) : (s.stampNow a).mem = s.mem := by cases s; rfl
@[simp] theorem stampNow_evq (a : Nat) : (s.stampNow a).evq = s.evq := by cases s; rfl
@[simp] theorem stampNow_free (a : Nat) : (s.stampNow a).free = s.free := by cases s; rfl
@[simp] theorem stampNow_host (a : Nat) : (s.stampNow a).host = s.host := by cases s; rfl
@[simp] theorem stampNow_bu (a : Nat) : (s.stampNow a).bu = s.bu := by cases s; rfl
@[simp] theorem stampNow_isl (a : Nat) : (s.stampNow a).isl = s.isl := by cases s; rfl
@[simp] theorem stampNow_srcs (a : Nat) : (s.stampNow a).srcs = s.srcs := by cases s; rfl
@[simp] theorem stampNow_inputs (a : Nat) : (s.stampNow a).inputs = s.inputs := by cases s; rfl
@[simp] theorem stampNow_meas (a : Nat) : (s.stampNow a).meas = s.meas := by cases s; rfl
@[simp] theorem stampNow_pwm (a : Nat) : (s.stampNow a).pwm = s.pwm := by cases s; rfl
@[simp] theorem stampNow_gl (a : Nat) : (s.stampNow a).gl = s.gl := by cases s; rfl
@[simp] theorem stampNow_drivers (a : Nat) : (s.stampNow a).drivers = s.drivers := by cases s; rfl
@[simp] theorem stampNow_prot (a : Nat) : (s.stampNow a).prot = s.prot := by cases s; rfl
@[simp] theorem stampNow_cle (a : Nat) : (s.stampNow a).cle = s.cle := by cases s; rfl
@[simp] theorem stampNow_foc (a : Nat) : (s.stampNow a).foc = s.foc := by cases s; rfl
@[simp] theorem stampNow_prof (a : Nat) : (s.stampNow a).prof = s.prof := by cases s; rfl
@[simp] theorem stampNow_dma (a : Nat) : (s.stampNow a).dma = s.dma := by cases s; rfl
@[simp] theorem stampNow_bus (a : Nat) : (s.stampNow a).bus = s.bus := by cases s; rfl
@[simp] theorem stampNow_therm (a : Nat) : (s.stampNow a).therm = s.therm := by cases s; rfl
@[simp] theorem stampNow_twin (a : Nat) : (s.stampNow a).twin = s.twin := by cases s; rfl
@[simp] theorem stampNow_bist (a : Nat) : (s.stampNow a).bist = s.bist := by cases s; rfl
@[simp] theorem stampNow_ev (a : Nat) : (s.stampNow a).ev = s.ev := by cases s; rfl
@[simp] theorem stampNow_fw (a : Nat) : (s.stampNow a).fw = s.fw := by cases s; rfl
@[simp] theorem stampNow_sec (a : Nat) : (s.stampNow a).sec = s.sec := by cases s; rfl

/-! ### emit -/

@[simp] theorem emit_pending (c : EvClass) (page code obj : Nat) (detail : Word) : (s.emit c page code obj detail).pending = s.pending := by cases s; rfl
@[simp] theorem emit_part (c : EvClass) (page code obj : Nat) (detail : Word) : (s.emit c page code obj detail).part = s.part := by cases s; rfl
@[simp] theorem emit_now (c : EvClass) (page code obj : Nat) (detail : Word) : (s.emit c page code obj detail).now = s.now := by cases s; rfl
@[simp] theorem emit_regs (c : EvClass) (page code obj : Nat) (detail : Word) : (s.emit c page code obj detail).regs = s.regs := by cases s; rfl
@[simp] theorem emit_live (c : EvClass) (page code obj : Nat) (detail : Word) : (s.emit c page code obj detail).live = s.live := by cases s; rfl
@[simp] theorem emit_active (c : EvClass) (page code obj : Nat) (detail : Word) : (s.emit c page code obj detail).active = s.active := by cases s; rfl
@[simp] theorem emit_committed (c : EvClass) (page code obj : Nat) (detail : Word) : (s.emit c page code obj detail).committed = s.committed := by cases s; rfl
@[simp] theorem emit_mem (c : EvClass) (page code obj : Nat) (detail : Word) : (s.emit c page code obj detail).mem = s.mem := by cases s; rfl
@[simp] theorem emit_free (c : EvClass) (page code obj : Nat) (detail : Word) : (s.emit c page code obj detail).free = s.free := by cases s; rfl
@[simp] theorem emit_fab (c : EvClass) (page code obj : Nat) (detail : Word) : (s.emit c page code obj detail).fab = s.fab := by cases s; rfl
@[simp] theorem emit_host (c : EvClass) (page code obj : Nat) (detail : Word) : (s.emit c page code obj detail).host = s.host := by cases s; rfl
@[simp] theorem emit_bu (c : EvClass) (page code obj : Nat) (detail : Word) : (s.emit c page code obj detail).bu = s.bu := by cases s; rfl
@[simp] theorem emit_isl (c : EvClass) (page code obj : Nat) (detail : Word) : (s.emit c page code obj detail).isl = s.isl := by cases s; rfl
@[simp] theorem emit_srcs (c : EvClass) (page code obj : Nat) (detail : Word) : (s.emit c page code obj detail).srcs = s.srcs := by cases s; rfl
@[simp] theorem emit_inputs (c : EvClass) (page code obj : Nat) (detail : Word) : (s.emit c page code obj detail).inputs = s.inputs := by cases s; rfl
@[simp] theorem emit_meas (c : EvClass) (page code obj : Nat) (detail : Word) : (s.emit c page code obj detail).meas = s.meas := by cases s; rfl
@[simp] theorem emit_pwm (c : EvClass) (page code obj : Nat) (detail : Word) : (s.emit c page code obj detail).pwm = s.pwm := by cases s; rfl
@[simp] theorem emit_gl (c : EvClass) (page code obj : Nat) (detail : Word) : (s.emit c page code obj detail).gl = s.gl := by cases s; rfl
@[simp] theorem emit_drivers (c : EvClass) (page code obj : Nat) (detail : Word) : (s.emit c page code obj detail).drivers = s.drivers := by cases s; rfl
@[simp] theorem emit_prot (c : EvClass) (page code obj : Nat) (detail : Word) : (s.emit c page code obj detail).prot = s.prot := by cases s; rfl
@[simp] theorem emit_cle (c : EvClass) (page code obj : Nat) (detail : Word) : (s.emit c page code obj detail).cle = s.cle := by cases s; rfl
@[simp] theorem emit_foc (c : EvClass) (page code obj : Nat) (detail : Word) : (s.emit c page code obj detail).foc = s.foc := by cases s; rfl
@[simp] theorem emit_prof (c : EvClass) (page code obj : Nat) (detail : Word) : (s.emit c page code obj detail).prof = s.prof := by cases s; rfl
@[simp] theorem emit_dma (c : EvClass) (page code obj : Nat) (detail : Word) : (s.emit c page code obj detail).dma = s.dma := by cases s; rfl
@[simp] theorem emit_bus (c : EvClass) (page code obj : Nat) (detail : Word) : (s.emit c page code obj detail).bus = s.bus := by cases s; rfl
@[simp] theorem emit_therm (c : EvClass) (page code obj : Nat) (detail : Word) : (s.emit c page code obj detail).therm = s.therm := by cases s; rfl
@[simp] theorem emit_twin (c : EvClass) (page code obj : Nat) (detail : Word) : (s.emit c page code obj detail).twin = s.twin := by cases s; rfl
@[simp] theorem emit_bist (c : EvClass) (page code obj : Nat) (detail : Word) : (s.emit c page code obj detail).bist = s.bist := by cases s; rfl
@[simp] theorem emit_ev (c : EvClass) (page code obj : Nat) (detail : Word) : (s.emit c page code obj detail).ev = s.ev := by cases s; rfl
@[simp] theorem emit_fw (c : EvClass) (page code obj : Nat) (detail : Word) : (s.emit c page code obj detail).fw = s.fw := by cases s; rfl
@[simp] theorem emit_sec (c : EvClass) (page code obj : Nat) (detail : Word) : (s.emit c page code obj detail).sec = s.sec := by cases s; rfl

/-! ### wrF -/

@[simp] theorem wrF_pending (a hi lo v : Nat) : (s.wrF a hi lo v).pending = s.pending := wr_pending ..
@[simp] theorem wrF_part (a hi lo v : Nat) : (s.wrF a hi lo v).part = s.part := wr_part ..
@[simp] theorem wrF_now (a hi lo v : Nat) : (s.wrF a hi lo v).now = s.now := wr_now ..
@[simp] theorem wrF_live (a hi lo v : Nat) : (s.wrF a hi lo v).live = s.live := wr_live ..
@[simp] theorem wrF_active (a hi lo v : Nat) : (s.wrF a hi lo v).active = s.active := wr_active ..
@[simp] theorem wrF_committed (a hi lo v : Nat) : (s.wrF a hi lo v).committed = s.committed := wr_committed ..
@[simp] theorem wrF_mem (a hi lo v : Nat) : (s.wrF a hi lo v).mem = s.mem := wr_mem ..
@[simp] theorem wrF_evq (a hi lo v : Nat) : (s.wrF a hi lo v).evq = s.evq := wr_evq ..
@[simp] theorem wrF_free (a hi lo v : Nat) : (s.wrF a hi lo v).free = s.free := wr_free ..
@[simp] theorem wrF_fab (a hi lo v : Nat) : (s.wrF a hi lo v).fab = s.fab := wr_fab ..
@[simp] theorem wrF_host (a hi lo v : Nat) : (s.wrF a hi lo v).host = s.host := wr_host ..
@[simp] theorem wrF_bu (a hi lo v : Nat) : (s.wrF a hi lo v).bu = s.bu := wr_bu ..
@[simp] theorem wrF_isl (a hi lo v : Nat) : (s.wrF a hi lo v).isl = s.isl := wr_isl ..
@[simp] theorem wrF_srcs (a hi lo v : Nat) : (s.wrF a hi lo v).srcs = s.srcs := wr_srcs ..
@[simp] theorem wrF_inputs (a hi lo v : Nat) : (s.wrF a hi lo v).inputs = s.inputs := wr_inputs ..
@[simp] theorem wrF_meas (a hi lo v : Nat) : (s.wrF a hi lo v).meas = s.meas := wr_meas ..
@[simp] theorem wrF_pwm (a hi lo v : Nat) : (s.wrF a hi lo v).pwm = s.pwm := wr_pwm ..
@[simp] theorem wrF_gl (a hi lo v : Nat) : (s.wrF a hi lo v).gl = s.gl := wr_gl ..
@[simp] theorem wrF_drivers (a hi lo v : Nat) : (s.wrF a hi lo v).drivers = s.drivers := wr_drivers ..
@[simp] theorem wrF_prot (a hi lo v : Nat) : (s.wrF a hi lo v).prot = s.prot := wr_prot ..
@[simp] theorem wrF_cle (a hi lo v : Nat) : (s.wrF a hi lo v).cle = s.cle := wr_cle ..
@[simp] theorem wrF_foc (a hi lo v : Nat) : (s.wrF a hi lo v).foc = s.foc := wr_foc ..
@[simp] theorem wrF_prof (a hi lo v : Nat) : (s.wrF a hi lo v).prof = s.prof := wr_prof ..
@[simp] theorem wrF_dma (a hi lo v : Nat) : (s.wrF a hi lo v).dma = s.dma := wr_dma ..
@[simp] theorem wrF_bus (a hi lo v : Nat) : (s.wrF a hi lo v).bus = s.bus := wr_bus ..
@[simp] theorem wrF_therm (a hi lo v : Nat) : (s.wrF a hi lo v).therm = s.therm := wr_therm ..
@[simp] theorem wrF_twin (a hi lo v : Nat) : (s.wrF a hi lo v).twin = s.twin := wr_twin ..
@[simp] theorem wrF_bist (a hi lo v : Nat) : (s.wrF a hi lo v).bist = s.bist := wr_bist ..
@[simp] theorem wrF_ev (a hi lo v : Nat) : (s.wrF a hi lo v).ev = s.ev := wr_ev ..
@[simp] theorem wrF_fw (a hi lo v : Nat) : (s.wrF a hi lo v).fw = s.fw := wr_fw ..
@[simp] theorem wrF_sec (a hi lo v : Nat) : (s.wrF a hi lo v).sec = s.sec := wr_sec ..

/-! ### wrB -/

@[simp] theorem wrB_pending (a i : Nat) (b : Bool) : (s.wrB a i b).pending = s.pending := wr_pending ..
@[simp] theorem wrB_part (a i : Nat) (b : Bool) : (s.wrB a i b).part = s.part := wr_part ..
@[simp] theorem wrB_now (a i : Nat) (b : Bool) : (s.wrB a i b).now = s.now := wr_now ..
@[simp] theorem wrB_live (a i : Nat) (b : Bool) : (s.wrB a i b).live = s.live := wr_live ..
@[simp] theorem wrB_active (a i : Nat) (b : Bool) : (s.wrB a i b).active = s.active := wr_active ..
@[simp] theorem wrB_committed (a i : Nat) (b : Bool) : (s.wrB a i b).committed = s.committed := wr_committed ..
@[simp] theorem wrB_mem (a i : Nat) (b : Bool) : (s.wrB a i b).mem = s.mem := wr_mem ..
@[simp] theorem wrB_evq (a i : Nat) (b : Bool) : (s.wrB a i b).evq = s.evq := wr_evq ..
@[simp] theorem wrB_free (a i : Nat) (b : Bool) : (s.wrB a i b).free = s.free := wr_free ..
@[simp] theorem wrB_fab (a i : Nat) (b : Bool) : (s.wrB a i b).fab = s.fab := wr_fab ..
@[simp] theorem wrB_host (a i : Nat) (b : Bool) : (s.wrB a i b).host = s.host := wr_host ..
@[simp] theorem wrB_bu (a i : Nat) (b : Bool) : (s.wrB a i b).bu = s.bu := wr_bu ..
@[simp] theorem wrB_isl (a i : Nat) (b : Bool) : (s.wrB a i b).isl = s.isl := wr_isl ..
@[simp] theorem wrB_srcs (a i : Nat) (b : Bool) : (s.wrB a i b).srcs = s.srcs := wr_srcs ..
@[simp] theorem wrB_inputs (a i : Nat) (b : Bool) : (s.wrB a i b).inputs = s.inputs := wr_inputs ..
@[simp] theorem wrB_meas (a i : Nat) (b : Bool) : (s.wrB a i b).meas = s.meas := wr_meas ..
@[simp] theorem wrB_pwm (a i : Nat) (b : Bool) : (s.wrB a i b).pwm = s.pwm := wr_pwm ..
@[simp] theorem wrB_gl (a i : Nat) (b : Bool) : (s.wrB a i b).gl = s.gl := wr_gl ..
@[simp] theorem wrB_drivers (a i : Nat) (b : Bool) : (s.wrB a i b).drivers = s.drivers := wr_drivers ..
@[simp] theorem wrB_prot (a i : Nat) (b : Bool) : (s.wrB a i b).prot = s.prot := wr_prot ..
@[simp] theorem wrB_cle (a i : Nat) (b : Bool) : (s.wrB a i b).cle = s.cle := wr_cle ..
@[simp] theorem wrB_foc (a i : Nat) (b : Bool) : (s.wrB a i b).foc = s.foc := wr_foc ..
@[simp] theorem wrB_prof (a i : Nat) (b : Bool) : (s.wrB a i b).prof = s.prof := wr_prof ..
@[simp] theorem wrB_dma (a i : Nat) (b : Bool) : (s.wrB a i b).dma = s.dma := wr_dma ..
@[simp] theorem wrB_bus (a i : Nat) (b : Bool) : (s.wrB a i b).bus = s.bus := wr_bus ..
@[simp] theorem wrB_therm (a i : Nat) (b : Bool) : (s.wrB a i b).therm = s.therm := wr_therm ..
@[simp] theorem wrB_twin (a i : Nat) (b : Bool) : (s.wrB a i b).twin = s.twin := wr_twin ..
@[simp] theorem wrB_bist (a i : Nat) (b : Bool) : (s.wrB a i b).bist = s.bist := wr_bist ..
@[simp] theorem wrB_ev (a i : Nat) (b : Bool) : (s.wrB a i b).ev = s.ev := wr_ev ..
@[simp] theorem wrB_fw (a i : Nat) (b : Bool) : (s.wrB a i b).fw = s.fw := wr_fw ..
@[simp] theorem wrB_sec (a i : Nat) (b : Bool) : (s.wrB a i b).sec = s.sec := wr_sec ..

/-! ### inc -/

@[simp] theorem inc_pending (a : Nat) : (s.inc a).pending = s.pending := wr_pending ..
@[simp] theorem inc_part (a : Nat) : (s.inc a).part = s.part := wr_part ..
@[simp] theorem inc_now (a : Nat) : (s.inc a).now = s.now := wr_now ..
@[simp] theorem inc_live (a : Nat) : (s.inc a).live = s.live := wr_live ..
@[simp] theorem inc_active (a : Nat) : (s.inc a).active = s.active := wr_active ..
@[simp] theorem inc_committed (a : Nat) : (s.inc a).committed = s.committed := wr_committed ..
@[simp] theorem inc_mem (a : Nat) : (s.inc a).mem = s.mem := wr_mem ..
@[simp] theorem inc_evq (a : Nat) : (s.inc a).evq = s.evq := wr_evq ..
@[simp] theorem inc_free (a : Nat) : (s.inc a).free = s.free := wr_free ..
@[simp] theorem inc_fab (a : Nat) : (s.inc a).fab = s.fab := wr_fab ..
@[simp] theorem inc_host (a : Nat) : (s.inc a).host = s.host := wr_host ..
@[simp] theorem inc_bu (a : Nat) : (s.inc a).bu = s.bu := wr_bu ..
@[simp] theorem inc_isl (a : Nat) : (s.inc a).isl = s.isl := wr_isl ..
@[simp] theorem inc_srcs (a : Nat) : (s.inc a).srcs = s.srcs := wr_srcs ..
@[simp] theorem inc_inputs (a : Nat) : (s.inc a).inputs = s.inputs := wr_inputs ..
@[simp] theorem inc_meas (a : Nat) : (s.inc a).meas = s.meas := wr_meas ..
@[simp] theorem inc_pwm (a : Nat) : (s.inc a).pwm = s.pwm := wr_pwm ..
@[simp] theorem inc_gl (a : Nat) : (s.inc a).gl = s.gl := wr_gl ..
@[simp] theorem inc_drivers (a : Nat) : (s.inc a).drivers = s.drivers := wr_drivers ..
@[simp] theorem inc_prot (a : Nat) : (s.inc a).prot = s.prot := wr_prot ..
@[simp] theorem inc_cle (a : Nat) : (s.inc a).cle = s.cle := wr_cle ..
@[simp] theorem inc_foc (a : Nat) : (s.inc a).foc = s.foc := wr_foc ..
@[simp] theorem inc_prof (a : Nat) : (s.inc a).prof = s.prof := wr_prof ..
@[simp] theorem inc_dma (a : Nat) : (s.inc a).dma = s.dma := wr_dma ..
@[simp] theorem inc_bus (a : Nat) : (s.inc a).bus = s.bus := wr_bus ..
@[simp] theorem inc_therm (a : Nat) : (s.inc a).therm = s.therm := wr_therm ..
@[simp] theorem inc_twin (a : Nat) : (s.inc a).twin = s.twin := wr_twin ..
@[simp] theorem inc_bist (a : Nat) : (s.inc a).bist = s.bist := wr_bist ..
@[simp] theorem inc_ev (a : Nat) : (s.inc a).ev = s.ev := wr_ev ..
@[simp] theorem inc_fw (a : Nat) : (s.inc a).fw = s.fw := wr_fw ..
@[simp] theorem inc_sec (a : Nat) : (s.inc a).sec = s.sec := wr_sec ..

/-! ### incL -/

@[simp] theorem incL_pending (a : Nat) : (s.incL a).pending = s.pending := wrL_pending ..
@[simp] theorem incL_part (a : Nat) : (s.incL a).part = s.part := wrL_part ..
@[simp] theorem incL_now (a : Nat) : (s.incL a).now = s.now := wrL_now ..
@[simp] theorem incL_regs (a : Nat) : (s.incL a).regs = s.regs := wrL_regs ..
@[simp] theorem incL_active (a : Nat) : (s.incL a).active = s.active := wrL_active ..
@[simp] theorem incL_committed (a : Nat) : (s.incL a).committed = s.committed := wrL_committed ..
@[simp] theorem incL_mem (a : Nat) : (s.incL a).mem = s.mem := wrL_mem ..
@[simp] theorem incL_evq (a : Nat) : (s.incL a).evq = s.evq := wrL_evq ..
@[simp] theorem incL_free (a : Nat) : (s.incL a).free = s.free := wrL_free ..
@[simp] theorem incL_fab (a : Nat) : (s.incL a).fab = s.fab := wrL_fab ..
@[simp] theorem incL_host (a : Nat) : (s.incL a).host = s.host := wrL_host ..
@[simp] theorem incL_bu (a : Nat) : (s.incL a).bu = s.bu := wrL_bu ..
@[simp] theorem incL_isl (a : Nat) : (s.incL a).isl = s.isl := wrL_isl ..
@[simp] theorem incL_srcs (a : Nat) : (s.incL a).srcs = s.srcs := wrL_srcs ..
@[simp] theorem incL_inputs (a : Nat) : (s.incL a).inputs = s.inputs := wrL_inputs ..
@[simp] theorem incL_meas (a : Nat) : (s.incL a).meas = s.meas := wrL_meas ..
@[simp] theorem incL_pwm (a : Nat) : (s.incL a).pwm = s.pwm := wrL_pwm ..
@[simp] theorem incL_gl (a : Nat) : (s.incL a).gl = s.gl := wrL_gl ..
@[simp] theorem incL_drivers (a : Nat) : (s.incL a).drivers = s.drivers := wrL_drivers ..
@[simp] theorem incL_prot (a : Nat) : (s.incL a).prot = s.prot := wrL_prot ..
@[simp] theorem incL_cle (a : Nat) : (s.incL a).cle = s.cle := wrL_cle ..
@[simp] theorem incL_foc (a : Nat) : (s.incL a).foc = s.foc := wrL_foc ..
@[simp] theorem incL_prof (a : Nat) : (s.incL a).prof = s.prof := wrL_prof ..
@[simp] theorem incL_dma (a : Nat) : (s.incL a).dma = s.dma := wrL_dma ..
@[simp] theorem incL_bus (a : Nat) : (s.incL a).bus = s.bus := wrL_bus ..
@[simp] theorem incL_therm (a : Nat) : (s.incL a).therm = s.therm := wrL_therm ..
@[simp] theorem incL_twin (a : Nat) : (s.incL a).twin = s.twin := wrL_twin ..
@[simp] theorem incL_bist (a : Nat) : (s.incL a).bist = s.bist := wrL_bist ..
@[simp] theorem incL_ev (a : Nat) : (s.incL a).ev = s.ev := wrL_ev ..
@[simp] theorem incL_fw (a : Nat) : (s.incL a).fw = s.fw := wrL_fw ..
@[simp] theorem incL_sec (a : Nat) : (s.incL a).sec = s.sec := wrL_sec ..

/-! ### incSat -/

@[simp] theorem incSat_pending (a hi lo : Nat) : (s.incSat a hi lo).pending = s.pending := wr_pending ..
@[simp] theorem incSat_part (a hi lo : Nat) : (s.incSat a hi lo).part = s.part := wr_part ..
@[simp] theorem incSat_now (a hi lo : Nat) : (s.incSat a hi lo).now = s.now := wr_now ..
@[simp] theorem incSat_live (a hi lo : Nat) : (s.incSat a hi lo).live = s.live := wr_live ..
@[simp] theorem incSat_active (a hi lo : Nat) : (s.incSat a hi lo).active = s.active := wr_active ..
@[simp] theorem incSat_committed (a hi lo : Nat) : (s.incSat a hi lo).committed = s.committed := wr_committed ..
@[simp] theorem incSat_mem (a hi lo : Nat) : (s.incSat a hi lo).mem = s.mem := wr_mem ..
@[simp] theorem incSat_evq (a hi lo : Nat) : (s.incSat a hi lo).evq = s.evq := wr_evq ..
@[simp] theorem incSat_free (a hi lo : Nat) : (s.incSat a hi lo).free = s.free := wr_free ..
@[simp] theorem incSat_fab (a hi lo : Nat) : (s.incSat a hi lo).fab = s.fab := wr_fab ..
@[simp] theorem incSat_host (a hi lo : Nat) : (s.incSat a hi lo).host = s.host := wr_host ..
@[simp] theorem incSat_bu (a hi lo : Nat) : (s.incSat a hi lo).bu = s.bu := wr_bu ..
@[simp] theorem incSat_isl (a hi lo : Nat) : (s.incSat a hi lo).isl = s.isl := wr_isl ..
@[simp] theorem incSat_srcs (a hi lo : Nat) : (s.incSat a hi lo).srcs = s.srcs := wr_srcs ..
@[simp] theorem incSat_inputs (a hi lo : Nat) : (s.incSat a hi lo).inputs = s.inputs := wr_inputs ..
@[simp] theorem incSat_meas (a hi lo : Nat) : (s.incSat a hi lo).meas = s.meas := wr_meas ..
@[simp] theorem incSat_pwm (a hi lo : Nat) : (s.incSat a hi lo).pwm = s.pwm := wr_pwm ..
@[simp] theorem incSat_gl (a hi lo : Nat) : (s.incSat a hi lo).gl = s.gl := wr_gl ..
@[simp] theorem incSat_drivers (a hi lo : Nat) : (s.incSat a hi lo).drivers = s.drivers := wr_drivers ..
@[simp] theorem incSat_prot (a hi lo : Nat) : (s.incSat a hi lo).prot = s.prot := wr_prot ..
@[simp] theorem incSat_cle (a hi lo : Nat) : (s.incSat a hi lo).cle = s.cle := wr_cle ..
@[simp] theorem incSat_foc (a hi lo : Nat) : (s.incSat a hi lo).foc = s.foc := wr_foc ..
@[simp] theorem incSat_prof (a hi lo : Nat) : (s.incSat a hi lo).prof = s.prof := wr_prof ..
@[simp] theorem incSat_dma (a hi lo : Nat) : (s.incSat a hi lo).dma = s.dma := wr_dma ..
@[simp] theorem incSat_bus (a hi lo : Nat) : (s.incSat a hi lo).bus = s.bus := wr_bus ..
@[simp] theorem incSat_therm (a hi lo : Nat) : (s.incSat a hi lo).therm = s.therm := wr_therm ..
@[simp] theorem incSat_twin (a hi lo : Nat) : (s.incSat a hi lo).twin = s.twin := wr_twin ..
@[simp] theorem incSat_bist (a hi lo : Nat) : (s.incSat a hi lo).bist = s.bist := wr_bist ..
@[simp] theorem incSat_ev (a hi lo : Nat) : (s.incSat a hi lo).ev = s.ev := wr_ev ..
@[simp] theorem incSat_fw (a hi lo : Nat) : (s.incSat a hi lo).fw = s.fw := wr_fw ..
@[simp] theorem incSat_sec (a hi lo : Nat) : (s.incSat a hi lo).sec = s.sec := wr_sec ..

/-! ### produce -/

@[simp] theorem produce_pending (a : Nat) (v : Word) : (s.produce a v).pending = s.pending := by rw [produce, stampNow_pending, wrL_pending]
@[simp] theorem produce_part (a : Nat) (v : Word) : (s.produce a v).part = s.part := by rw [produce, stampNow_part, wrL_part]
@[simp] theorem produce_now (a : Nat) (v : Word) : (s.produce a v).now = s.now := by rw [produce, stampNow_now, wrL_now]
@[simp] theorem produce_regs (a : Nat) (v : Word) : (s.produce a v).regs = s.regs := by rw [produce, stampNow_regs, wrL_regs]
@[simp] theorem produce_active (a : Nat) (v : Word) : (s.produce a v).active = s.active := by rw [produce, stampNow_active, wrL_active]
@[simp] theorem produce_committed (a : Nat) (v : Word) : (s.produce a v).committed = s.committed := by rw [produce, stampNow_committed, wrL_committed]
@[simp] theorem produce_mem (a : Nat) (v : Word) : (s.produce a v).mem = s.mem := by rw [produce, stampNow_mem, wrL_mem]
@[simp] theorem produce_evq (a : Nat) (v : Word) : (s.produce a v).evq = s.evq := by rw [produce, stampNow_evq, wrL_evq]
@[simp] theorem produce_free (a : Nat) (v : Word) : (s.produce a v).free = s.free := by rw [produce, stampNow_free, wrL_free]
@[simp] theorem produce_host (a : Nat) (v : Word) : (s.produce a v).host = s.host := by rw [produce, stampNow_host, wrL_host]
@[simp] theorem produce_bu (a : Nat) (v : Word) : (s.produce a v).bu = s.bu := by rw [produce, stampNow_bu, wrL_bu]
@[simp] theorem produce_isl (a : Nat) (v : Word) : (s.produce a v).isl = s.isl := by rw [produce, stampNow_isl, wrL_isl]
@[simp] theorem produce_srcs (a : Nat) (v : Word) : (s.produce a v).srcs = s.srcs := by rw [produce, stampNow_srcs, wrL_srcs]
@[simp] theorem produce_inputs (a : Nat) (v : Word) : (s.produce a v).inputs = s.inputs := by rw [produce, stampNow_inputs, wrL_inputs]
@[simp] theorem produce_meas (a : Nat) (v : Word) : (s.produce a v).meas = s.meas := by rw [produce, stampNow_meas, wrL_meas]
@[simp] theorem produce_pwm (a : Nat) (v : Word) : (s.produce a v).pwm = s.pwm := by rw [produce, stampNow_pwm, wrL_pwm]
@[simp] theorem produce_gl (a : Nat) (v : Word) : (s.produce a v).gl = s.gl := by rw [produce, stampNow_gl, wrL_gl]
@[simp] theorem produce_drivers (a : Nat) (v : Word) : (s.produce a v).drivers = s.drivers := by rw [produce, stampNow_drivers, wrL_drivers]
@[simp] theorem produce_prot (a : Nat) (v : Word) : (s.produce a v).prot = s.prot := by rw [produce, stampNow_prot, wrL_prot]
@[simp] theorem produce_cle (a : Nat) (v : Word) : (s.produce a v).cle = s.cle := by rw [produce, stampNow_cle, wrL_cle]
@[simp] theorem produce_foc (a : Nat) (v : Word) : (s.produce a v).foc = s.foc := by rw [produce, stampNow_foc, wrL_foc]
@[simp] theorem produce_prof (a : Nat) (v : Word) : (s.produce a v).prof = s.prof := by rw [produce, stampNow_prof, wrL_prof]
@[simp] theorem produce_dma (a : Nat) (v : Word) : (s.produce a v).dma = s.dma := by rw [produce, stampNow_dma, wrL_dma]
@[simp] theorem produce_bus (a : Nat) (v : Word) : (s.produce a v).bus = s.bus := by rw [produce, stampNow_bus, wrL_bus]
@[simp] theorem produce_therm (a : Nat) (v : Word) : (s.produce a v).therm = s.therm := by rw [produce, stampNow_therm, wrL_therm]
@[simp] theorem produce_twin (a : Nat) (v : Word) : (s.produce a v).twin = s.twin := by rw [produce, stampNow_twin, wrL_twin]
@[simp] theorem produce_bist (a : Nat) (v : Word) : (s.produce a v).bist = s.bist := by rw [produce, stampNow_bist, wrL_bist]
@[simp] theorem produce_ev (a : Nat) (v : Word) : (s.produce a v).ev = s.ev := by rw [produce, stampNow_ev, wrL_ev]
@[simp] theorem produce_fw (a : Nat) (v : Word) : (s.produce a v).fw = s.fw := by rw [produce, stampNow_fw, wrL_fw]
@[simp] theorem produce_sec (a : Nat) (v : Word) : (s.produce a v).sec = s.sec := by rw [produce, stampNow_sec, wrL_sec]

/-! ### putRaw -/

@[simp] theorem putRaw_pending (p : Nat) (w : Word) : (s.putRaw p w).pending = s.pending := by rw [putRaw, wr_pending, wr_pending]
@[simp] theorem putRaw_part (p : Nat) (w : Word) : (s.putRaw p w).part = s.part := by rw [putRaw, wr_part, wr_part]
@[simp] theorem putRaw_now (p : Nat) (w : Word) : (s.putRaw p w).now = s.now := by rw [putRaw, wr_now, wr_now]
@[simp] theorem putRaw_live (p : Nat) (w : Word) : (s.putRaw p w).live = s.live := by rw [putRaw, wr_live, wr_live]
@[simp] theorem putRaw_active (p : Nat) (w : Word) : (s.putRaw p w).active = s.active := by rw [putRaw, wr_active, wr_active]
@[simp] theorem putRaw_committed (p : Nat) (w : Word) : (s.putRaw p w).committed = s.committed := by rw [putRaw, wr_committed, wr_committed]
@[simp] theorem putRaw_mem (p : Nat) (w : Word) : (s.putRaw p w).mem = s.mem := by rw [putRaw, wr_mem, wr_mem]
@[simp] theorem putRaw_evq (p : Nat) (w : Word) : (s.putRaw p w).evq = s.evq := by rw [putRaw, wr_evq, wr_evq]
@[simp] theorem putRaw_free (p : Nat) (w : Word) : (s.putRaw p w).free = s.free := by rw [putRaw, wr_free, wr_free]
@[simp] theorem putRaw_fab (p : Nat) (w : Word) : (s.putRaw p w).fab = s.fab := by rw [putRaw, wr_fab, wr_fab]
@[simp] theorem putRaw_host (p : Nat) (w : Word) : (s.putRaw p w).host = s.host := by rw [putRaw, wr_host, wr_host]
@[simp] theorem putRaw_bu (p : Nat) (w : Word) : (s.putRaw p w).bu = s.bu := by rw [putRaw, wr_bu, wr_bu]
@[simp] theorem putRaw_isl (p : Nat) (w : Word) : (s.putRaw p w).isl = s.isl := by rw [putRaw, wr_isl, wr_isl]
@[simp] theorem putRaw_srcs (p : Nat) (w : Word) : (s.putRaw p w).srcs = s.srcs := by rw [putRaw, wr_srcs, wr_srcs]
@[simp] theorem putRaw_inputs (p : Nat) (w : Word) : (s.putRaw p w).inputs = s.inputs := by rw [putRaw, wr_inputs, wr_inputs]
@[simp] theorem putRaw_meas (p : Nat) (w : Word) : (s.putRaw p w).meas = s.meas := by rw [putRaw, wr_meas, wr_meas]
@[simp] theorem putRaw_pwm (p : Nat) (w : Word) : (s.putRaw p w).pwm = s.pwm := by rw [putRaw, wr_pwm, wr_pwm]
@[simp] theorem putRaw_gl (p : Nat) (w : Word) : (s.putRaw p w).gl = s.gl := by rw [putRaw, wr_gl, wr_gl]
@[simp] theorem putRaw_drivers (p : Nat) (w : Word) : (s.putRaw p w).drivers = s.drivers := by rw [putRaw, wr_drivers, wr_drivers]
@[simp] theorem putRaw_prot (p : Nat) (w : Word) : (s.putRaw p w).prot = s.prot := by rw [putRaw, wr_prot, wr_prot]
@[simp] theorem putRaw_cle (p : Nat) (w : Word) : (s.putRaw p w).cle = s.cle := by rw [putRaw, wr_cle, wr_cle]
@[simp] theorem putRaw_foc (p : Nat) (w : Word) : (s.putRaw p w).foc = s.foc := by rw [putRaw, wr_foc, wr_foc]
@[simp] theorem putRaw_prof (p : Nat) (w : Word) : (s.putRaw p w).prof = s.prof := by rw [putRaw, wr_prof, wr_prof]
@[simp] theorem putRaw_dma (p : Nat) (w : Word) : (s.putRaw p w).dma = s.dma := by rw [putRaw, wr_dma, wr_dma]
@[simp] theorem putRaw_bus (p : Nat) (w : Word) : (s.putRaw p w).bus = s.bus := by rw [putRaw, wr_bus, wr_bus]
@[simp] theorem putRaw_therm (p : Nat) (w : Word) : (s.putRaw p w).therm = s.therm := by rw [putRaw, wr_therm, wr_therm]
@[simp] theorem putRaw_twin (p : Nat) (w : Word) : (s.putRaw p w).twin = s.twin := by rw [putRaw, wr_twin, wr_twin]
@[simp] theorem putRaw_bist (p : Nat) (w : Word) : (s.putRaw p w).bist = s.bist := by rw [putRaw, wr_bist, wr_bist]
@[simp] theorem putRaw_ev (p : Nat) (w : Word) : (s.putRaw p w).ev = s.ev := by rw [putRaw, wr_ev, wr_ev]
@[simp] theorem putRaw_fw (p : Nat) (w : Word) : (s.putRaw p w).fw = s.fw := by rw [putRaw, wr_fw, wr_fw]
@[simp] theorem putRaw_sec (p : Nat) (w : Word) : (s.putRaw p w).sec = s.sec := by rw [putRaw, wr_sec, wr_sec]

/-! ### raw -/

@[simp] theorem raw_pending (p i : Nat) (b : Bool) : (s.raw p i b).pending = s.pending := by rw [raw, putRaw_pending]
@[simp] theorem raw_part (p i : Nat) (b : Bool) : (s.raw p i b).part = s.part := by rw [raw, putRaw_part]
@[simp] theorem raw_now (p i : Nat) (b : Bool) : (s.raw p i b).now = s.now := by rw [raw, putRaw_now]
@[simp] theorem raw_live (p i : Nat) (b : Bool) : (s.raw p i b).live = s.live := by rw [raw, putRaw_live]
@[simp] theorem raw_active (p i : Nat) (b : Bool) : (s.raw p i b).active = s.active := by rw [raw, putRaw_active]
@[simp] theorem raw_committed (p i : Nat) (b : Bool) : (s.raw p i b).committed = s.committed := by rw [raw, putRaw_committed]
@[simp] theorem raw_mem (p i : Nat) (b : Bool) : (s.raw p i b).mem = s.mem := by rw [raw, putRaw_mem]
@[simp] theorem raw_evq (p i : Nat) (b : Bool) : (s.raw p i b).evq = s.evq := by rw [raw, putRaw_evq]
@[simp] theorem raw_free (p i : Nat) (b : Bool) : (s.raw p i b).free = s.free := by rw [raw, putRaw_free]
@[simp] theorem raw_fab (p i : Nat) (b : Bool) : (s.raw p i b).fab = s.fab := by rw [raw, putRaw_fab]
@[simp] theorem raw_host (p i : Nat) (b : Bool) : (s.raw p i b).host = s.host := by rw [raw, putRaw_host]
@[simp] theorem raw_bu (p i : Nat) (b : Bool) : (s.raw p i b).bu = s.bu := by rw [raw, putRaw_bu]
@[simp] theorem raw_isl (p i : Nat) (b : Bool) : (s.raw p i b).isl = s.isl := by rw [raw, putRaw_isl]
@[simp] theorem raw_srcs (p i : Nat) (b : Bool) : (s.raw p i b).srcs = s.srcs := by rw [raw, putRaw_srcs]
@[simp] theorem raw_inputs (p i : Nat) (b : Bool) : (s.raw p i b).inputs = s.inputs := by rw [raw, putRaw_inputs]
@[simp] theorem raw_meas (p i : Nat) (b : Bool) : (s.raw p i b).meas = s.meas := by rw [raw, putRaw_meas]
@[simp] theorem raw_pwm (p i : Nat) (b : Bool) : (s.raw p i b).pwm = s.pwm := by rw [raw, putRaw_pwm]
@[simp] theorem raw_gl (p i : Nat) (b : Bool) : (s.raw p i b).gl = s.gl := by rw [raw, putRaw_gl]
@[simp] theorem raw_drivers (p i : Nat) (b : Bool) : (s.raw p i b).drivers = s.drivers := by rw [raw, putRaw_drivers]
@[simp] theorem raw_prot (p i : Nat) (b : Bool) : (s.raw p i b).prot = s.prot := by rw [raw, putRaw_prot]
@[simp] theorem raw_cle (p i : Nat) (b : Bool) : (s.raw p i b).cle = s.cle := by rw [raw, putRaw_cle]
@[simp] theorem raw_foc (p i : Nat) (b : Bool) : (s.raw p i b).foc = s.foc := by rw [raw, putRaw_foc]
@[simp] theorem raw_prof (p i : Nat) (b : Bool) : (s.raw p i b).prof = s.prof := by rw [raw, putRaw_prof]
@[simp] theorem raw_dma (p i : Nat) (b : Bool) : (s.raw p i b).dma = s.dma := by rw [raw, putRaw_dma]
@[simp] theorem raw_bus (p i : Nat) (b : Bool) : (s.raw p i b).bus = s.bus := by rw [raw, putRaw_bus]
@[simp] theorem raw_therm (p i : Nat) (b : Bool) : (s.raw p i b).therm = s.therm := by rw [raw, putRaw_therm]
@[simp] theorem raw_twin (p i : Nat) (b : Bool) : (s.raw p i b).twin = s.twin := by rw [raw, putRaw_twin]
@[simp] theorem raw_bist (p i : Nat) (b : Bool) : (s.raw p i b).bist = s.bist := by rw [raw, putRaw_bist]
@[simp] theorem raw_ev (p i : Nat) (b : Bool) : (s.raw p i b).ev = s.ev := by rw [raw, putRaw_ev]
@[simp] theorem raw_fw (p i : Nat) (b : Bool) : (s.raw p i b).fw = s.fw := by rw [raw, putRaw_fw]
@[simp] theorem raw_sec (p i : Nat) (b : Bool) : (s.raw p i b).sec = s.sec := by rw [raw, putRaw_sec]

/-! ### refuseAt -/

@[simp] theorem refuseAt_pending (p : Nat) (port : Port) (c : RefCode) (off : Nat) : (s.refuseAt p port c off).pending = s.pending := by rw [refuseAt, raw_pending, wr_pending]
@[simp] theorem refuseAt_part (p : Nat) (port : Port) (c : RefCode) (off : Nat) : (s.refuseAt p port c off).part = s.part := by rw [refuseAt, raw_part, wr_part]
@[simp] theorem refuseAt_now (p : Nat) (port : Port) (c : RefCode) (off : Nat) : (s.refuseAt p port c off).now = s.now := by rw [refuseAt, raw_now, wr_now]
@[simp] theorem refuseAt_live (p : Nat) (port : Port) (c : RefCode) (off : Nat) : (s.refuseAt p port c off).live = s.live := by rw [refuseAt, raw_live, wr_live]
@[simp] theorem refuseAt_active (p : Nat) (port : Port) (c : RefCode) (off : Nat) : (s.refuseAt p port c off).active = s.active := by rw [refuseAt, raw_active, wr_active]
@[simp] theorem refuseAt_committed (p : Nat) (port : Port) (c : RefCode) (off : Nat) : (s.refuseAt p port c off).committed = s.committed := by rw [refuseAt, raw_committed, wr_committed]
@[simp] theorem refuseAt_mem (p : Nat) (port : Port) (c : RefCode) (off : Nat) : (s.refuseAt p port c off).mem = s.mem := by rw [refuseAt, raw_mem, wr_mem]
@[simp] theorem refuseAt_evq (p : Nat) (port : Port) (c : RefCode) (off : Nat) : (s.refuseAt p port c off).evq = s.evq := by rw [refuseAt, raw_evq, wr_evq]
@[simp] theorem refuseAt_free (p : Nat) (port : Port) (c : RefCode) (off : Nat) : (s.refuseAt p port c off).free = s.free := by rw [refuseAt, raw_free, wr_free]
@[simp] theorem refuseAt_fab (p : Nat) (port : Port) (c : RefCode) (off : Nat) : (s.refuseAt p port c off).fab = s.fab := by rw [refuseAt, raw_fab, wr_fab]
@[simp] theorem refuseAt_host (p : Nat) (port : Port) (c : RefCode) (off : Nat) : (s.refuseAt p port c off).host = s.host := by rw [refuseAt, raw_host, wr_host]
@[simp] theorem refuseAt_bu (p : Nat) (port : Port) (c : RefCode) (off : Nat) : (s.refuseAt p port c off).bu = s.bu := by rw [refuseAt, raw_bu, wr_bu]
@[simp] theorem refuseAt_isl (p : Nat) (port : Port) (c : RefCode) (off : Nat) : (s.refuseAt p port c off).isl = s.isl := by rw [refuseAt, raw_isl, wr_isl]
@[simp] theorem refuseAt_srcs (p : Nat) (port : Port) (c : RefCode) (off : Nat) : (s.refuseAt p port c off).srcs = s.srcs := by rw [refuseAt, raw_srcs, wr_srcs]
@[simp] theorem refuseAt_inputs (p : Nat) (port : Port) (c : RefCode) (off : Nat) : (s.refuseAt p port c off).inputs = s.inputs := by rw [refuseAt, raw_inputs, wr_inputs]
@[simp] theorem refuseAt_meas (p : Nat) (port : Port) (c : RefCode) (off : Nat) : (s.refuseAt p port c off).meas = s.meas := by rw [refuseAt, raw_meas, wr_meas]
@[simp] theorem refuseAt_pwm (p : Nat) (port : Port) (c : RefCode) (off : Nat) : (s.refuseAt p port c off).pwm = s.pwm := by rw [refuseAt, raw_pwm, wr_pwm]
@[simp] theorem refuseAt_gl (p : Nat) (port : Port) (c : RefCode) (off : Nat) : (s.refuseAt p port c off).gl = s.gl := by rw [refuseAt, raw_gl, wr_gl]
@[simp] theorem refuseAt_drivers (p : Nat) (port : Port) (c : RefCode) (off : Nat) : (s.refuseAt p port c off).drivers = s.drivers := by rw [refuseAt, raw_drivers, wr_drivers]
@[simp] theorem refuseAt_prot (p : Nat) (port : Port) (c : RefCode) (off : Nat) : (s.refuseAt p port c off).prot = s.prot := by rw [refuseAt, raw_prot, wr_prot]
@[simp] theorem refuseAt_cle (p : Nat) (port : Port) (c : RefCode) (off : Nat) : (s.refuseAt p port c off).cle = s.cle := by rw [refuseAt, raw_cle, wr_cle]
@[simp] theorem refuseAt_foc (p : Nat) (port : Port) (c : RefCode) (off : Nat) : (s.refuseAt p port c off).foc = s.foc := by rw [refuseAt, raw_foc, wr_foc]
@[simp] theorem refuseAt_prof (p : Nat) (port : Port) (c : RefCode) (off : Nat) : (s.refuseAt p port c off).prof = s.prof := by rw [refuseAt, raw_prof, wr_prof]
@[simp] theorem refuseAt_dma (p : Nat) (port : Port) (c : RefCode) (off : Nat) : (s.refuseAt p port c off).dma = s.dma := by rw [refuseAt, raw_dma, wr_dma]
@[simp] theorem refuseAt_bus (p : Nat) (port : Port) (c : RefCode) (off : Nat) : (s.refuseAt p port c off).bus = s.bus := by rw [refuseAt, raw_bus, wr_bus]
@[simp] theorem refuseAt_therm (p : Nat) (port : Port) (c : RefCode) (off : Nat) : (s.refuseAt p port c off).therm = s.therm := by rw [refuseAt, raw_therm, wr_therm]
@[simp] theorem refuseAt_twin (p : Nat) (port : Port) (c : RefCode) (off : Nat) : (s.refuseAt p port c off).twin = s.twin := by rw [refuseAt, raw_twin, wr_twin]
@[simp] theorem refuseAt_bist (p : Nat) (port : Port) (c : RefCode) (off : Nat) : (s.refuseAt p port c off).bist = s.bist := by rw [refuseAt, raw_bist, wr_bist]
@[simp] theorem refuseAt_ev (p : Nat) (port : Port) (c : RefCode) (off : Nat) : (s.refuseAt p port c off).ev = s.ev := by rw [refuseAt, raw_ev, wr_ev]
@[simp] theorem refuseAt_fw (p : Nat) (port : Port) (c : RefCode) (off : Nat) : (s.refuseAt p port c off).fw = s.fw := by rw [refuseAt, raw_fw, wr_fw]
@[simp] theorem refuseAt_sec (p : Nat) (port : Port) (c : RefCode) (off : Nat) : (s.refuseAt p port c off).sec = s.sec := by rw [refuseAt, raw_sec, wr_sec]

/-! ### wrMem -/

@[simp] theorem wrMem_pending (a : Nat) (v : Word) : (s.wrMem a v).pending = s.pending := by rw [wrMem, wrByte_pending, wrByte_pending, wrByte_pending, wrByte_pending]
@[simp] theorem wrMem_part (a : Nat) (v : Word) : (s.wrMem a v).part = s.part := by rw [wrMem, wrByte_part, wrByte_part, wrByte_part, wrByte_part]
@[simp] theorem wrMem_now (a : Nat) (v : Word) : (s.wrMem a v).now = s.now := by rw [wrMem, wrByte_now, wrByte_now, wrByte_now, wrByte_now]
@[simp] theorem wrMem_regs (a : Nat) (v : Word) : (s.wrMem a v).regs = s.regs := by rw [wrMem, wrByte_regs, wrByte_regs, wrByte_regs, wrByte_regs]
@[simp] theorem wrMem_live (a : Nat) (v : Word) : (s.wrMem a v).live = s.live := by rw [wrMem, wrByte_live, wrByte_live, wrByte_live, wrByte_live]
@[simp] theorem wrMem_active (a : Nat) (v : Word) : (s.wrMem a v).active = s.active := by rw [wrMem, wrByte_active, wrByte_active, wrByte_active, wrByte_active]
@[simp] theorem wrMem_committed (a : Nat) (v : Word) : (s.wrMem a v).committed = s.committed := by rw [wrMem, wrByte_committed, wrByte_committed, wrByte_committed, wrByte_committed]
@[simp] theorem wrMem_evq (a : Nat) (v : Word) : (s.wrMem a v).evq = s.evq := by rw [wrMem, wrByte_evq, wrByte_evq, wrByte_evq, wrByte_evq]
@[simp] theorem wrMem_free (a : Nat) (v : Word) : (s.wrMem a v).free = s.free := by rw [wrMem, wrByte_free, wrByte_free, wrByte_free, wrByte_free]
@[simp] theorem wrMem_fab (a : Nat) (v : Word) : (s.wrMem a v).fab = s.fab := by rw [wrMem, wrByte_fab, wrByte_fab, wrByte_fab, wrByte_fab]
@[simp] theorem wrMem_host (a : Nat) (v : Word) : (s.wrMem a v).host = s.host := by rw [wrMem, wrByte_host, wrByte_host, wrByte_host, wrByte_host]
@[simp] theorem wrMem_bu (a : Nat) (v : Word) : (s.wrMem a v).bu = s.bu := by rw [wrMem, wrByte_bu, wrByte_bu, wrByte_bu, wrByte_bu]
@[simp] theorem wrMem_isl (a : Nat) (v : Word) : (s.wrMem a v).isl = s.isl := by rw [wrMem, wrByte_isl, wrByte_isl, wrByte_isl, wrByte_isl]
@[simp] theorem wrMem_srcs (a : Nat) (v : Word) : (s.wrMem a v).srcs = s.srcs := by rw [wrMem, wrByte_srcs, wrByte_srcs, wrByte_srcs, wrByte_srcs]
@[simp] theorem wrMem_inputs (a : Nat) (v : Word) : (s.wrMem a v).inputs = s.inputs := by rw [wrMem, wrByte_inputs, wrByte_inputs, wrByte_inputs, wrByte_inputs]
@[simp] theorem wrMem_meas (a : Nat) (v : Word) : (s.wrMem a v).meas = s.meas := by rw [wrMem, wrByte_meas, wrByte_meas, wrByte_meas, wrByte_meas]
@[simp] theorem wrMem_pwm (a : Nat) (v : Word) : (s.wrMem a v).pwm = s.pwm := by rw [wrMem, wrByte_pwm, wrByte_pwm, wrByte_pwm, wrByte_pwm]
@[simp] theorem wrMem_gl (a : Nat) (v : Word) : (s.wrMem a v).gl = s.gl := by rw [wrMem, wrByte_gl, wrByte_gl, wrByte_gl, wrByte_gl]
@[simp] theorem wrMem_drivers (a : Nat) (v : Word) : (s.wrMem a v).drivers = s.drivers := by rw [wrMem, wrByte_drivers, wrByte_drivers, wrByte_drivers, wrByte_drivers]
@[simp] theorem wrMem_prot (a : Nat) (v : Word) : (s.wrMem a v).prot = s.prot := by rw [wrMem, wrByte_prot, wrByte_prot, wrByte_prot, wrByte_prot]
@[simp] theorem wrMem_cle (a : Nat) (v : Word) : (s.wrMem a v).cle = s.cle := by rw [wrMem, wrByte_cle, wrByte_cle, wrByte_cle, wrByte_cle]
@[simp] theorem wrMem_foc (a : Nat) (v : Word) : (s.wrMem a v).foc = s.foc := by rw [wrMem, wrByte_foc, wrByte_foc, wrByte_foc, wrByte_foc]
@[simp] theorem wrMem_prof (a : Nat) (v : Word) : (s.wrMem a v).prof = s.prof := by rw [wrMem, wrByte_prof, wrByte_prof, wrByte_prof, wrByte_prof]
@[simp] theorem wrMem_dma (a : Nat) (v : Word) : (s.wrMem a v).dma = s.dma := by rw [wrMem, wrByte_dma, wrByte_dma, wrByte_dma, wrByte_dma]
@[simp] theorem wrMem_bus (a : Nat) (v : Word) : (s.wrMem a v).bus = s.bus := by rw [wrMem, wrByte_bus, wrByte_bus, wrByte_bus, wrByte_bus]
@[simp] theorem wrMem_therm (a : Nat) (v : Word) : (s.wrMem a v).therm = s.therm := by rw [wrMem, wrByte_therm, wrByte_therm, wrByte_therm, wrByte_therm]
@[simp] theorem wrMem_twin (a : Nat) (v : Word) : (s.wrMem a v).twin = s.twin := by rw [wrMem, wrByte_twin, wrByte_twin, wrByte_twin, wrByte_twin]
@[simp] theorem wrMem_bist (a : Nat) (v : Word) : (s.wrMem a v).bist = s.bist := by rw [wrMem, wrByte_bist, wrByte_bist, wrByte_bist, wrByte_bist]
@[simp] theorem wrMem_ev (a : Nat) (v : Word) : (s.wrMem a v).ev = s.ev := by rw [wrMem, wrByte_ev, wrByte_ev, wrByte_ev, wrByte_ev]
@[simp] theorem wrMem_fw (a : Nat) (v : Word) : (s.wrMem a v).fw = s.fw := by rw [wrMem, wrByte_fw, wrByte_fw, wrByte_fw, wrByte_fw]
@[simp] theorem wrMem_sec (a : Nat) (v : Word) : (s.wrMem a v).sec = s.sec := by rw [wrMem, wrByte_sec, wrByte_sec, wrByte_sec, wrByte_sec]

/-! ### pulse -/

@[simp] theorem pulse_pending (p i : Nat) : (s.pulse p i).pending = s.pending := by
  unfold pulse; split
  · rfl
  · rw [wr_pending, raw_pending]
@[simp] theorem pulse_part (p i : Nat) : (s.pulse p i).part = s.part := by
  unfold pulse; split
  · rfl
  · rw [wr_part, raw_part]
@[simp] theorem pulse_now (p i : Nat) : (s.pulse p i).now = s.now := by
  unfold pulse; split
  · rfl
  · rw [wr_now, raw_now]
@[simp] theorem pulse_live (p i : Nat) : (s.pulse p i).live = s.live := by
  unfold pulse; split
  · rfl
  · rw [wr_live, raw_live]
@[simp] theorem pulse_active (p i : Nat) : (s.pulse p i).active = s.active := by
  unfold pulse; split
  · rfl
  · rw [wr_active, raw_active]
@[simp] theorem pulse_committed (p i : Nat) : (s.pulse p i).committed = s.committed := by
  unfold pulse; split
  · rfl
  · rw [wr_committed, raw_committed]
@[simp] theorem pulse_mem (p i : Nat) : (s.pulse p i).mem = s.mem := by
  unfold pulse; split
  · rfl
  · rw [wr_mem, raw_mem]
@[simp] theorem pulse_evq (p i : Nat) : (s.pulse p i).evq = s.evq := by
  unfold pulse; split
  · rfl
  · rw [wr_evq, raw_evq]
@[simp] theorem pulse_free (p i : Nat) : (s.pulse p i).free = s.free := by
  unfold pulse; split
  · rfl
  · rw [wr_free, raw_free]
@[simp] theorem pulse_fab (p i : Nat) : (s.pulse p i).fab = s.fab := by
  unfold pulse; split
  · rfl
  · rw [wr_fab, raw_fab]
@[simp] theorem pulse_host (p i : Nat) : (s.pulse p i).host = s.host := by
  unfold pulse; split
  · rfl
  · rw [wr_host, raw_host]
@[simp] theorem pulse_bu (p i : Nat) : (s.pulse p i).bu = s.bu := by
  unfold pulse; split
  · rfl
  · rw [wr_bu, raw_bu]
@[simp] theorem pulse_isl (p i : Nat) : (s.pulse p i).isl = s.isl := by
  unfold pulse; split
  · rfl
  · rw [wr_isl, raw_isl]
@[simp] theorem pulse_srcs (p i : Nat) : (s.pulse p i).srcs = s.srcs := by
  unfold pulse; split
  · rfl
  · rw [wr_srcs, raw_srcs]
@[simp] theorem pulse_inputs (p i : Nat) : (s.pulse p i).inputs = s.inputs := by
  unfold pulse; split
  · rfl
  · rw [wr_inputs, raw_inputs]
@[simp] theorem pulse_meas (p i : Nat) : (s.pulse p i).meas = s.meas := by
  unfold pulse; split
  · rfl
  · rw [wr_meas, raw_meas]
@[simp] theorem pulse_pwm (p i : Nat) : (s.pulse p i).pwm = s.pwm := by
  unfold pulse; split
  · rfl
  · rw [wr_pwm, raw_pwm]
@[simp] theorem pulse_gl (p i : Nat) : (s.pulse p i).gl = s.gl := by
  unfold pulse; split
  · rfl
  · rw [wr_gl, raw_gl]
@[simp] theorem pulse_drivers (p i : Nat) : (s.pulse p i).drivers = s.drivers := by
  unfold pulse; split
  · rfl
  · rw [wr_drivers, raw_drivers]
@[simp] theorem pulse_prot (p i : Nat) : (s.pulse p i).prot = s.prot := by
  unfold pulse; split
  · rfl
  · rw [wr_prot, raw_prot]
@[simp] theorem pulse_cle (p i : Nat) : (s.pulse p i).cle = s.cle := by
  unfold pulse; split
  · rfl
  · rw [wr_cle, raw_cle]
@[simp] theorem pulse_foc (p i : Nat) : (s.pulse p i).foc = s.foc := by
  unfold pulse; split
  · rfl
  · rw [wr_foc, raw_foc]
@[simp] theorem pulse_prof (p i : Nat) : (s.pulse p i).prof = s.prof := by
  unfold pulse; split
  · rfl
  · rw [wr_prof, raw_prof]
@[simp] theorem pulse_dma (p i : Nat) : (s.pulse p i).dma = s.dma := by
  unfold pulse; split
  · rfl
  · rw [wr_dma, raw_dma]
@[simp] theorem pulse_bus (p i : Nat) : (s.pulse p i).bus = s.bus := by
  unfold pulse; split
  · rfl
  · rw [wr_bus, raw_bus]
@[simp] theorem pulse_therm (p i : Nat) : (s.pulse p i).therm = s.therm := by
  unfold pulse; split
  · rfl
  · rw [wr_therm, raw_therm]
@[simp] theorem pulse_twin (p i : Nat) : (s.pulse p i).twin = s.twin := by
  unfold pulse; split
  · rfl
  · rw [wr_twin, raw_twin]
@[simp] theorem pulse_bist (p i : Nat) : (s.pulse p i).bist = s.bist := by
  unfold pulse; split
  · rfl
  · rw [wr_bist, raw_bist]
@[simp] theorem pulse_ev (p i : Nat) : (s.pulse p i).ev = s.ev := by
  unfold pulse; split
  · rfl
  · rw [wr_ev, raw_ev]
@[simp] theorem pulse_fw (p i : Nat) : (s.pulse p i).fw = s.fw := by
  unfold pulse; split
  · rfl
  · rw [wr_fw, raw_fw]
@[simp] theorem pulse_sec (p i : Nat) : (s.pulse p i).sec = s.sec := by
  unfold pulse; split
  · rfl
  · rw [wr_sec, raw_sec]

/-! ### Reads after writes -/

theorem rd_wr (a b : Nat) (v : Word) : (s.wr a v).rd b = if b = a then v else s.rd b :=
  KMap.get_set rst s.regs a b v

@[simp] theorem rd_wr_self (a : Nat) (v : Word) : (s.wr a v).rd a = v := by simp [rd_wr]

theorem rd_wr_ne (a b : Nat) (v : Word) (h : b ≠ a) : (s.wr a v).rd b = s.rd b := by simp [rd_wr, h]

theorem rdL_wrL (a b : Nat) (v : Word) : (s.wrL a v).rdL b = if b = a then v else s.rdL b :=
  KMap.get_set rst s.live a b v

@[simp] theorem rdL_wrL_self (a : Nat) (v : Word) : (s.wrL a v).rdL a = v := by simp [rdL_wrL]

theorem rdA_wrA (a b : Nat) (v : Word) : (s.wrA a v).rdA b = if b = a then v else s.rdA b :=
  KMap.get_set rst s.active a b v

@[simp] theorem rdA_wrA_self (a : Nat) (v : Word) : (s.wrA a v).rdA a = v := by simp [rdA_wrA]

theorem rdByte_wrByte (a b : Nat) (v : Byte) : (s.wrByte a v).rdByte b = if b = a then v else s.rdByte b :=
  KMap.get_set (fun _ => 0) s.mem a b v

/-- A visible register is read from the visible registers alone. -/
theorem rd_congr {s t : State} (h : t.regs = s.regs) (a : Nat) : t.rd a = s.rd a := by simp [rd, h]

theorem rdL_congr {s t : State} (h : t.live = s.live) (a : Nat) : t.rdL a = s.rdL a := by simp [rdL, h]

@[simp] theorem rd_wrL (a b : Nat) (v : Word) : (s.wrL a v).rd b = s.rd b := by cases s; rfl
@[simp] theorem rd_wrA (a b : Nat) (v : Word) : (s.wrA a v).rd b = s.rd b := by cases s; rfl
@[simp] theorem rd_tick (n b : Nat) : (s.tick n).rd b = s.rd b := by cases s; rfl
@[simp] theorem rd_reach (n b : Nat) : (s.reach n).rd b = s.rd b := by cases s; rfl
@[simp] theorem rd_emit (c : EvClass) (p k o b : Nat) (d : Word) : (s.emit c p k o d).rd b = s.rd b := by cases s; rfl
@[simp] theorem rd_stampNow (a b : Nat) : (s.stampNow a).rd b = s.rd b := by cases s; rfl
@[simp] theorem rd_produce (a b : Nat) (v : Word) : (s.produce a v).rd b = s.rd b := by cases s; rfl
@[simp] theorem rd_incL (a b : Nat) : (s.incL a).rd b = s.rd b := by cases s; rfl
@[simp] theorem rdL_wr (a b : Nat) (v : Word) : (s.wr a v).rdL b = s.rdL b := by cases s; rfl
@[simp] theorem rdL_emit (c : EvClass) (p k o b : Nat) (d : Word) : (s.emit c p k o d).rdL b = s.rdL b := by cases s; rfl
@[simp] theorem rdL_raw (p i b : Nat) (x : Bool) : (s.raw p i x).rdL b = s.rdL b := by cases s; rfl
@[simp] theorem rdL_reach (n b : Nat) : (s.reach n).rdL b = s.rdL b := by cases s; rfl

theorem rd_wrF (a hi lo v b : Nat) : (s.wrF a hi lo v).rd b = if b = a then setFld (s.rd a) hi lo v else s.rd b :=
  s.rd_wr a b _

theorem rd_wrB (a i b : Nat) (x : Bool) : (s.wrB a i x).rd b = if b = a then setBit (s.rd a) i x else s.rd b :=
  s.rd_wr a b _

theorem rd_inc (a b : Nat) : (s.inc a).rd b = if b = a then s.rd a + 1 else s.rd b := s.rd_wr a b _

/-- Setting or clearing a raw condition leaves every register but IRQ_RAW and IRQ_PEND of its page alone (R40). -/
theorem rd_raw_ne (p i a : Nat) (b : Bool) (h1 : a ≠ hIRQ_RAW p) (h2 : a ≠ hIRQ_PEND p) :
    (s.raw p i b).rd a = s.rd a := by
  simp [raw, putRaw, rd_wr, h1, h2]

/-- The raw register after a condition is set or cleared. -/
theorem rd_raw_self (p i : Nat) (b : Bool) : (s.raw p i b).rd (hIRQ_RAW p) = setBit (s.rd (hIRQ_RAW p)) i b := by
  have h : hIRQ_RAW p ≠ hIRQ_PEND p := by simp [hIRQ_RAW, hIRQ_PEND]
  simp [raw, putRaw, rd_wr, h]

/-- A pulse leaves every register but IRQ_RAW and IRQ_PEND of its page alone (R40). -/
theorem rd_pulse_ne (p i a : Nat) (h1 : a ≠ hIRQ_RAW p) (h2 : a ≠ hIRQ_PEND p) : (s.pulse p i).rd a = s.rd a := by
  unfold pulse
  split
  · rfl
  · rw [rd_wr_ne _ _ _ _ h1, rd_raw_ne _ _ _ _ _ h1 h2]

/-! ### Canonical forms -/

/-- Storing a byte keeps the canonical form of the memory windows. -/
@[simp] theorem wf_wrByte (a : Nat) (b : Byte) (h : Memory.wf s.mem = true) :
    Memory.wf (s.wrByte a b).mem = true := KMap.wf_set _ _ _ _ h

/-- Storing a word keeps it. -/
@[simp] theorem wf_wrMem (a : Nat) (v : Word) (h : Memory.wf s.mem = true) :
    Memory.wf (s.wrMem a v).mem = true :=
  wf_wrByte _ _ _ (wf_wrByte _ _ _ (wf_wrByte _ _ _ (wf_wrByte _ _ _ h)))

/-- A register write keeps the canonical form of the visible registers. -/
theorem wf_wr (a : Nat) (v : Word) (h : KMap.wf rst s.regs = true) : KMap.wf rst (s.wr a v).regs = true :=
  KMap.wf_set _ _ _ _ h

end Sys2Proof.Machine.State
end

