-- ==== Sys2Proof/Machine/Arrive.lean ====
section
/-! DEFINITION. Accesses that reach the device in one CLK_FAB cycle (R58): the order in which they join the queue. -/

namespace Sys2Proof.Machine

/-- The requester of a register access (R45); none for an event of the device or its surroundings. -/
def requester : Instr → Option Port
  | .registerWrite p _ _ _ => some p
  | .lockWrite p _ _ => some p
  | .errinfoClear p _ _ => some p
  | .irqPendClear p _ _ _ => some p
  | .irqEnWrite p _ _ => some p
  | .snapshotTake p _ _ => some p
  | .swrstSystem p => some p
  | .swrstSupervisor p => some p
  | .rstCauseClear p _ => some p
  | .trigSwFire p _ _ => some p
  | .chCfgWrite p _ _ _ => some p
  | .calStart p _ _ => some p
  | .chOfsWrite p _ _ _ => some p
  | .chGainWrite p _ _ _ => some p
  | .cwPairWrite p _ _ => some p
  | .cwReactedClear p _ => some p
  | .ctxEnable p _ => some p
  | .ctxClose p _ => some p
  | .ctxOpen p _ => some p
  | .ctxDisable p _ => some p
  | .ctxClear p _ => some p
  | .contextRecordWrite p _ _ _ => some p
  | .profileWrite p _ => some p
  | .hwResume p _ => some p
  | .specCtrlWrite p _ => some p
  | .focStart p _ _ _ => some p
  | .focStop p _ => some p
  | .focAsc p _ => some p
  | .focBlock p _ => some p
  | .focRelease p _ => some p
  | .focClear p _ => some p
  | .profEnable p _ => some p
  | .profMove p _ => some p
  | .profStop p _ => some p
  | .profApply p _ _ => some p
  | .profClear p _ => some p
  | .profDisable p _ => some p
  | .profSetPos p _ => some p
  | .tbStart p _ => some p
  | .tbStop p _ => some p
  | .tbShift p _ _ => some p
  | .chForceWrite p _ _ => some p
  | .grpHoldWrite p _ _ => some p
  | .tripClr p _ => some p
  | .glTrain p _ _ => some p
  | .glDrop p _ => some p
  | .srcClr p _ _ => some p
  | .lockoutClr p _ => some p
  | .protArm p _ => some p
  | .escClr p _ => some p
  | .disStart p => some p
  | .disStop p => some p
  | .hostDemandWrite p _ => some p
  | .relCmd p _ => some p
  | .brkReqWrite p _ => some p
  | .loKey p _ => some p
  | .pwLogin p _ _ => some p
  | .pwLogout p => some p
  | .pwSet p _ _ => some p
  | .paramCommit p => some p
  | .paramDiscard p => some p
  | .rearm p _ => some p
  | .sdAck p _ => some p
  | .twinAttach p => some p
  | .twinDetach p => some p
  | .twinSwap p => some p
  | .twinCfgCopy p => some p
  | .twinServe p => some p
  | .twinTbSync p _ _ => some p
  | .canRecover p _ => some p
  | .objAck p _ _ => some p
  | .objSend p _ _ => some p
  | .objAbort p _ _ => some p
  | .objClaim p _ _ => some p
  | .canDisable p _ _ => some p
  | .slotAck p _ _ _ => some p
  | .slotSendCmd p _ _ _ => some p
  | .slotAbort p _ _ _ => some p
  | .slotClaim p _ _ _ => some p
  | .mdioCmd p _ _ => some p
  | .ptpStepS p _ => some p
  | .dmaStart p _ => some p
  | .dmaAbort p _ => some p
  | .bistCmd p _ => some p
  | .fuseCmd p _ => some p
  | .rdSeqWrite p _ => some p
  | .nvClr p _ => some p
  | .cntClr p _ => some p
  | .fwOpen p _ => some p
  | .fwClose p => some p
  | .fwBlock p => some p
  | .fwVerify p => some p
  | .fwActivate p => some p
  | .fwConfirm p => some p
  | .fwReject p => some p
  | .fwErase p => some p
  | .lcCmd p _ => some p
  | .keyProgram p _ => some p
  | .keyRevoke p _ => some p
  | .dbgChal p _ => some p
  | .dbgAuth p _ => some p
  | .closeGrant p => some p
  | .sysrst p => some p
  | .dbgHaltWrite p _ => some p
  | .pwrRun p => some p
  | .pwrHold p => some p
  | .pwrSleep p => some p
  | .pwrOff p => some p
  | .hostRead _ _ => some .host
  | .hostWrite _ _ _ => some .host
  | .hostResult _ _ _ => some .host
  | .snapGenRead (.port p) _ => some p
  | .snapGenRead _ _ => some .dma
  | .dmaAccessAnswered _ _ _ => some .dma
  | .twinWrite _ _ _ => some .twin
  | .twinReadReq _ => some .twin
  | _ => none

/-- The place of a requester in the fixed order of R58: Tykor pair 0, host port, DMA, twin, Tykor pair 1, debug port. -/
def portRank : Port → Nat
  | .tykor0 => 0 | .host => 1 | .dma => 2 | .twin => 3 | .tykor1 => 4 | .debug => 5

/-- The place of an access among those of DMA channels that are ready together: those with PRIO first, then the lowest channel
(R403). -/
def chanRank (s : State) : Instr → Nat
  | .dmaAccessAnswered k _ _ => (if s.rdB (DmaCh.CH_CFG k) 13 then 0 else 16) + k
  | _ => 0

/-- The place of a command; an event that is no access comes before the accesses of its cycle. -/
def cycleRank (s : State) (c : Instr) : Nat :=
  match requester c with
  | some p => (portRank p + 1) * 64 + chanRank s c
  | none => 0

/-- Put a command behind those of lower or equal place. -/
def placeIn (s : State) (c : Instr) : List Instr → List Instr
  | [] => [c]
  | d :: l => if cycleRank s c < cycleRank s d then c :: d :: l else d :: placeIn s c l

/-- The commands of one cycle in the order of R58 and R403; those of one requester stay in the order in which it sends them. -/
def cycleOrder (s : State) (l : List Instr) : List Instr := l.foldl (fun acc c => placeIn s c acc) []

/-- The commands `l` reach the device in one CLK_FAB cycle, behind those that wait. -/
def State.arrive (l : List Instr) (s : State) : State := { s with pending := s.pending ++ cycleOrder s l }

end Sys2Proof.Machine
end

