-- ==== Sys2Proof/Tests/Slice0.lean ====
section
/-! SUPPORT. Tests: for every statement with premises a state and operands that meet them, clause by clause; an ill-formed command for each
well-formedness check; and a few commands with their results written out by hand from the spec. -/

namespace Sys2Proof.Tests

open Sys2Proof.Machine Sys2Proof.Safety Sys2Proof.Laws.Bist

/-! One proof at a time, so that the checks of many do not run beside one another. -/

set_option Elab.async false

/-- A state in SERVICE with the given registers. -/
def sv (l : List (Nat × Word)) : State := l.foldl (fun s e => s.wr e.1 e.2) (State.reset.wr Bup.STATE 9)

/-- A request with its CRC. -/
def wc (l : List Nat) : List Nat := (withCrc l).map (·.toNat)

/-- The same with every rail up. -/
def up (l : List (Nat × Word)) : State := let s := sv l; { s with bu := { s.bu with railsLow := [] } }

/-- A public key: the base point of P-256, so the private key is 1. -/
def signedKey : List Word :=
  [0x6B17D1F2, 0xE12C4247, 0xF8BCE6E5, 0x63A440F2, 0x77037D81, 0x2DEB33A0, 0xF4A13945, 0xD898C296, 
   0x4FE342E2, 0xFE1A7F9B, 0x8EE7EB4A, 0x7C0F9E16, 0x2BCE3357, 0x6B315ECE, 0xCBB64068, 0x37BF51F5]

/-- The words that are not zero of an image of one block, its SIG made outside with that key and the nonce 1 (R446). -/
def signedImage : List (Nat × Word) :=
  [(0, 0x53455046), (1, 1), (2, 4096), (5, 1)] ++ [0x6B17D1F2, 0xE12C4247, 0xF8BCE6E5, 0x63A440F2, 0x77037D81, 0x2DEB33A0, 0xF4A13945, 0xD898C296, 
   0xB3210687, 0xCB55FFF4, 0x6B61BFAF, 0xCC6E211A, 0x0AA31638, 0x157A4CDC, 0x2BDAE8C9, 0xB0AFDA7B].zipIdx.map (fun e => (16 + e.2, e.1))

/-- What holds nothing is not something. -/
theorem ne_of_none {α : Type} {o : Option α} {n : α} (h : o = none) : o ≠ some n := by simp [h]

/-- A signature that differs from `x`, whatever `x` is. -/
theorem ne_sig (x : Word × Word) : (x.1 + 1, (0 : Word)) ≠ x := by
  intro h
  have e : x.1 + 1 = x.1 := congrArg Prod.fst h
  simp at e

/-- The premises of EmptyQueueIdlesOneCycle can be met. -/
theorem test_witness_EmptyQueueIdlesOneCycle :
    ∃ (s : State), s.pending = [] :=
  ⟨State.reset, by decide +kernel⟩

/-- The premises of EveryStepKeepsTheMemoryWindowsCanonical can be met. -/
theorem test_witness_EveryStepKeepsTheMemoryWindowsCanonical :
    ∃ (s : State) (t : State), step s = .next t ∧ MemCanonical s :=
  ⟨State.reset, { State.reset with now := 1 }, rfl, by unfold MemCanonical; decide +kernel⟩

/-- The premises of ResetStateStandsInSupplyCheck can be met. -/
theorem test_witness_ResetStateStandsInSupplyCheck :
    (∃ (p : Nat), p < 0x800) ∧
    (∃ (p : Nat), p < 0x800) ∧
    (∃ (p : Nat), p < 0x800 ∧ Sys2Proof.Machine.hasHeader p = true) :=
  ⟨⟨1, by decide +kernel⟩,
   ⟨0x7FF, by decide +kernel⟩,
   ⟨1, by decide +kernel⟩⟩

/-- The premises of RegisterWriteTakesEffectOrIsIgnoredByItsAccessCode can be met. -/
theorem test_witness_RegisterWriteTakesEffectOrIsIgnoredByItsAccessCode :
    ∃ (port : Port) (a : Nat) (v : Word) (env : WriteEnv) (s : State), Instr.wf (.registerWrite port a v env) = true ∧ 0x40 ≤ a % 4096 ∧
      a < 0x800000 ∧ Admits s port a ∧ (pageKind (pageOf a) = some .id ∨ pageKind (pageOf a) = some .bup ∨ pageKind (pageOf a) = some .host) :=
  ⟨.host, Bup.RST_CAUSE, 1, {}, sv [], by unfold Admits; decide +kernel⟩

/-- The premises of LockOpensWithItsKeyAndClosesOtherwise can be met. -/
theorem test_witness_LockOpensWithItsKeyAndClosesOtherwise :
    (∃ (port : Port) (p : Nat) (s : State) (k : PageKind), Admits s port (hLOCK p) ∧ Instr.wf (.lockWrite port p 0) = true ∧ pageKind p = some k) ∧
    (∃ (port : Port) (p : Nat) (s : State), Admits s port (hLOCK p) ∧ Instr.wf (.lockWrite port p 0) = true ∧ p ≠ SecKey.page) ∧
    (∃ (port : Port) (p : Nat) (s : State), Admits s port (hLOCK p) ∧ Instr.wf (.lockWrite port p 0) = true) ∧
    (∃ (port : Port) (p : Nat) (s : State) (v : Word), Admits s port (hLOCK p) ∧ Instr.wf (.lockWrite port p 0) = true ∧ v ≠ 0x6F70656E ∧ v ≠ 0) ∧
    (∃ (port : Port) (p : Nat) (s : State) (k : PageKind), Admits s port (hLOCK p) ∧ pageKind p = some k ∧ k.header = true ∧ k.lockable = false ∧
      p < 0x400) :=
  ⟨⟨.host, Clk.page, sv [], .clk, by unfold Admits; decide +kernel⟩,
   ⟨.host, Clk.page, sv [], by unfold Admits; decide +kernel⟩,
   ⟨.host, Clk.page, sv [(hLOCK Clk.page, 1)], by unfold Admits; decide +kernel⟩,
   ⟨.host, Clk.page, sv [(hLOCK Clk.page, 1)], 7, by unfold Admits; decide +kernel⟩,
   ⟨.host, 0, sv [], .id, by unfold Admits; decide +kernel⟩⟩

/-- The premises of OpenLockExpiresBetweenFrames can be met. -/
theorem test_witness_OpenLockExpiresBetweenFrames :
    (∃ (p : Nat) (s : State), lockOpen s p = true ∧ (∀ k, k < 16 → dmaState s k ≠ 2)) ∧
    (∃ (p : Nat) (s : State), (lockOpen s p = false ∨ (∃ k, k < 16 ∧ dmaState s k = 2))) :=
  ⟨⟨Clk.page, sv [(hLOCK Clk.page, 1)], by decide +kernel⟩,
   ⟨Clk.page, sv [], by decide +kernel⟩⟩

/-- The premises of InterruptRegistersFollowTheirWrites can be met. -/
theorem test_witness_InterruptRegistersFollowTheirWrites :
    (∃ (port : Port) (p : Nat) (v : Word) (s : State), Instr.wf (.irqEnWrite port p v) = true ∧ Admits s port (hIRQ_EN p)) ∧
    (∃ (port : Port) (p : Nat) (v : Word) (again : Word) (s : State), Instr.wf (.irqPendClear port p v again) = true ∧ Admits s port (hIRQ_PEND p)) ∧
    (∃ (port : Port) (p : Nat) (v : Word) (s : State), Instr.wf (.errinfoClear port p v) = true ∧ Admits s port (hERRINFO p)) :=
  ⟨⟨.host, Clk.page, 3, sv [(hIRQ_RAW Clk.page, 3), (hIRQ_PEND Clk.page, 2), (hERRINFO Clk.page, 0x2000000)], by unfold Admits; decide +kernel⟩,
   ⟨.host, Clk.page, 3, 1, sv [(hIRQ_RAW Clk.page, 3), (hIRQ_PEND Clk.page, 2), (hERRINFO Clk.page, 0x2000000)], by unfold Admits; decide +kernel⟩,
   ⟨.host, Clk.page, 3, sv [(hIRQ_RAW Clk.page, 3), (hIRQ_PEND Clk.page, 2), (hERRINFO Clk.page, 0x2000000)], by unfold Admits; decide +kernel⟩⟩

/-- The premises of RefusedWriteLeavesItsRegisterAndIsRecorded can be met. -/
theorem test_witness_RefusedWriteLeavesItsRegisterAndIsRecorded :
    ∃ (port : Port) (a : Nat) (v : Word) (env : WriteEnv) (s : State), Instr.wf (.registerWrite port a v env) = true ∧ a < 0x800000 ∧
      homePage a = pageOf a ∧ gateCode s port a = .locked :=
  ⟨.host, Clk.REF_CFG, 1, {}, sv [], by decide +kernel⟩

/-- The premises of SnapshotTakeCopyAndGeneration can be met. -/
theorem test_witness_SnapshotTakeCopyAndGeneration :
    (∃ (port : Port) (p : Nat) (v : Word) (s : State), hasSnap p = true ∧ Instr.wf (.snapshotTake port p v) = true ∧ Admits s port (hSNAP_CTRL p)) ∧
    (∃ (p : Nat) (s : State), hasSnap p = true ∧ s.inService = true ∧ s.rdF (hSNAP_CTRL p) 7 4 ≠ 0) ∧
    (∃ (p : Nat) (s : State), hasSnap p = true ∧ KMap.wf rst s.live = true ∧ copying s p = true) ∧
    (∃ (p : Nat) (s : State), hasSnap p = true ∧ s.rdF (hSNAP_GEN p) 23 0 ≠ 0 ∧ KMap.get (fun _ => 0) s.fab.oldest p ≠ 0 ∧
      ageLimit s p < 0xFFFFFFFF) ∧
    (∃ (r : Reader) (p : Nat) (s : State), hasSnap p = true ∧ Instr.wf (.snapGenRead r p) = true ∧ readCode s (readerPort r) (hSNAP_GEN p) = .none) :=
  ⟨⟨.host, Therm.page, 1, sv [], by unfold Admits; decide +kernel⟩,
   ⟨Therm.page, sv [(hSNAP_CTRL Therm.page, 0x10)], by decide +kernel⟩,
   ⟨Therm.page, sv [(hSNAP_GEN Therm.page, 0x2000000)], by decide +kernel⟩,
   ⟨Therm.page, { sv [(hSNAP_GEN Therm.page, 1)] with fab := { State.reset.fab with oldest := [(Therm.page, 1)] } }, by decide +kernel⟩,
   ⟨.port .host, Therm.page, sv [], by decide +kernel⟩⟩

/-- The premises of HostFramesAnswerAndApply can be met. -/
theorem test_witness_HostFramesAnswerAndApply :
    (∃ (l : List Nat) (fast : Bool) (s : State), tooFast fast s = false ∧ l.length = 7 ∧ l.getD 4 0 = 0 ∧ crcOk 5 l = true ∧
      bytesNat ((l.drop 1).take 3) % 4 = 0 ∧ bytesNat ((l.drop 1).take 3) < 0x800000 ∧
      readCode (selectLines s) .host (bytesNat ((l.drop 1).take 3)) = .none ∧ bytesNat ((l.drop 1).take 3) % 4096 ≠ 0x2C ∧
      bytesNat ((l.drop 1).take 3) ≠ CleTel.TICK_LO ∧ bytesNat ((l.drop 1).take 3) ≠ Ptp.PTP_NS) ∧
    (∃ (l : List Nat) (fast : Bool) (s : State), tooFast fast s = false ∧ 7 ≤ l.length ∧ crcOk 5 l = false) ∧
    (∃ (l : List Nat) (fast : Bool) (env : WriteEnv) (s : State) (u : State), tooFast fast s = false ∧ l.length = 11 ∧ l.getD 0 0 = 2 ∧
      l.getD 4 0 = 0 ∧ crcOk 9 l = true ∧ bytesNat ((l.drop 1).take 3) % 4 = 0 ∧ bytesNat ((l.drop 1).take 3) < 0x800000 ∧
      writeCore .host env (bytesNat ((l.drop 1).take 3)) (bytesWord ((l.drop 5).take 4)) (selectLines s) = (u, .none) ∧ u.phase = s.phase) ∧
    (∃ (l : List Nat) (fast : Bool) (s : State), tooFast fast s = false ∧ 4 ≤ l.length ∧ l.getD 0 0 = 2 ∧
      (l.length ≠ 4 * (l.getD 4 0 + 1) + 7 ∨ crcOk (4 * (l.getD 4 0 + 1) + 5) l = false)) ∧
    (∃ (l : List Nat) (fast : Bool) (s : State), tooFast fast s = false ∧ 3 ≤ l.length ∧ crcOk 1 l = true ∧ s.twin.write = none) :=
  ⟨⟨wc [3, 0, 0x10, 0x40, 0], false, sv [], by decide +kernel⟩,
   ⟨[3, 0, 0x10, 0x40, 0, 0, 0], false, sv [], by decide +kernel⟩,
   ⟨wc [2, 0, 0x10, 0x48, 0, 0, 0, 0, 1], false, {}, sv [], (writeCore .host {} 0x1048 1 (selectLines (sv []))).1, by decide +kernel⟩,
   ⟨[2, 0, 0, 0, 0], false, sv [], by decide +kernel⟩,
   ⟨wc [5], false, sv [], by decide +kernel⟩⟩

/-- The premises of SystemAndPowerOnResetsShowTheirCause can be met. -/
theorem test_witness_SystemAndPowerOnResetsShowTheirCause :
    (∃ (s : State), 1 ∉ s.bu.railsLow) ∧
    (∃ (k : Nat) (s : State), (k = 0 ∨ k = 2 ∨ k = 3) ∧ k ∉ s.bu.railsLow) ∧
    (∃ (k : Nat) (s : State), s.bu.railsLow = [k]) ∧
    (∃ (port : Port) (s : State), Admits s port Clk.SWRST ∧ lockOpen s Clk.page = true) :=
  ⟨⟨up [(hLOCK Clk.page, 1)], by decide +kernel⟩,
   ⟨0, up [(hLOCK Clk.page, 1)], by decide +kernel⟩,
   ⟨0, { State.reset with bu := { State.reset.bu with railsLow := [0] } }, by decide +kernel⟩,
   ⟨.host, up [(hLOCK Clk.page, 1)], by unfold Admits; decide +kernel⟩⟩

/-- The premises of SupervisorResetsLeaveBringUpAlone can be met. -/
theorem test_witness_SupervisorResetsLeaveBringUpAlone :
    (∃ (s : State), pairsRun s = true) ∧
    (∃ (s : State), pairsRun s = true ∧ s.rdB SecDbg.DBG_HSTAT (supPair s) = false) ∧
    (∃ (port : Port) (s : State), Admits s port Clk.SWRST ∧ lockOpen s Clk.page = true) ∧
    (∃ (port : Port) (s : State), Admits s port Bup.RST_CAUSE) :=
  ⟨⟨sv [(hLOCK Clk.page, 1)], by decide +kernel⟩,
   ⟨sv [(hLOCK Clk.page, 1)], by decide +kernel⟩,
   ⟨.host, sv [(hLOCK Clk.page, 1)], by unfold Admits; decide +kernel⟩,
   ⟨.host, sv [(hLOCK Clk.page, 1)], by unfold Admits; decide +kernel⟩⟩

/-- The premises of BringUpTakesItsStatesInOrder can be met. -/
theorem test_witness_BringUpTakesItsStatesInOrder :
    (∃ (s : State), s.phase = 1 ∧ s.bu.railsLow = [] ∧ s.bu.tapHold = false ∧ pwrState s ≠ 3) ∧
    (∃ (s : State), s.phase = 2) ∧
    (∃ (s : State), s.phase = 3) ∧
    (∃ (s : State), s.phase = 4 ∧ s.rdF Bup.STATE 9 8 < 3) ∧
    (∃ (s : State), s.phase = 4 ∧ s.rdF Bup.STATE 9 8 < 3) ∧
    (∃ (s : State), s.phase = 5) ∧
    (∃ (s : State), s.phase = 6) :=
  ⟨⟨up [(Bup.STATE, 1)], by decide +kernel⟩,
   ⟨up [(Bup.STATE, 2)], by decide +kernel⟩,
   ⟨up [(Bup.STATE, 3)], by decide +kernel⟩,
   ⟨up [(Bup.STATE, 4)], by decide +kernel⟩,
   ⟨up [(Bup.STATE, 0x204)], by decide +kernel⟩,
   ⟨up [(Bup.STATE, 5)], by decide +kernel⟩,
   ⟨up [(Bup.STATE, 6)], by decide +kernel⟩⟩

/-- The premises of BringUpEndsInServiceOrRecovery can be met. -/
theorem test_witness_BringUpEndsInServiceOrRecovery :
    (∃ (s : State), s.phase = 7) ∧
    (∃ (s : State), s.phase = 8) ∧
    (∃ (s : State), s.isl.restart ≠ none ∧ 7 ≤ s.phase ∧ s.phase ≠ 15) :=
  ⟨⟨up [(Bup.STATE, 7)], by decide +kernel⟩,
   ⟨up [(Bup.STATE, 8)], by decide +kernel⟩,
   ⟨{ up [] with isl := { State.reset.isl with restart := some 1 } }, by decide +kernel⟩⟩

/-- The premises of ClockWatchesReactOncePerEpisode can be met. -/
theorem test_witness_ClockWatchesReactOncePerEpisode :
    (∃ (n : Nat) (s : State), s.bu.rootWatch = true ∧ 29440 ≤ n ∧ n ≤ 34560) ∧
    (∃ (n : Nat) (s : State), s.bu.rootWatch = true ∧ (n < 29440 ∨ 34560 < n) ∧ s.bu.rootFails = 0) ∧
    (∃ (n : Nat) (s : State), s.bu.rootWatch = true ∧ (n < 29440 ∨ 34560 < n) ∧ 1 ≤ s.bu.rootFails ∧ s.bu.rootReacted = false) ∧
    (∃ (n : Nat) (s : State), s.bu.islWatch = true ∧ 92000 ≤ n ∧ n ≤ 108000) ∧
    (∃ (n : Nat) (s : State), s.bu.islWatch = true ∧ (n < 92000 ∨ 108000 < n) ∧ 1 ≤ s.bu.islFails ∧ s.bu.islReacted = false) ∧
    (∃ (s : State), s.bu.rootWatch = true ∧ s.bu.rootReacted = false) ∧
    (∃ (s : State), s.bu.islWatch = true ∧ s.bu.islReacted = false) ∧
    (∃ (s : State), s.phase = 4) ∧
    (∃ (s : State), s.phase ≠ 4 ∧ s.rdB Bup.STATE 4 = false) ∧
    (∃ (s : State), s.rdB Bup.STATE 4 = false) :=
  ⟨⟨29440, { up [] with bu := { State.reset.bu with rootWatch := true, islWatch := true, railsLow := [] } }, by decide +kernel⟩,
   ⟨34561, { up [] with bu := { State.reset.bu with rootWatch := true, islWatch := true, railsLow := [] } }, by decide +kernel⟩,
   ⟨29439, { up [] with bu := { State.reset.bu with rootWatch := true, islWatch := true, rootFails := 1, islFails := 1, railsLow := [] } },
     by decide +kernel⟩,
   ⟨92000, { up [] with bu := { State.reset.bu with rootWatch := true, islWatch := true, railsLow := [] } }, by decide +kernel⟩,
   ⟨108001, { up [] with bu := { State.reset.bu with rootWatch := true, islWatch := true, rootFails := 1, islFails := 1, railsLow := [] } },
     by decide +kernel⟩,
   ⟨{ up [] with bu := { State.reset.bu with rootWatch := true, islWatch := true, railsLow := [] } }, by decide +kernel⟩,
   ⟨{ up [] with bu := { State.reset.bu with rootWatch := true, islWatch := true, railsLow := [] } }, by decide +kernel⟩,
   ⟨up [(Bup.STATE, 4)], by decide +kernel⟩,
   ⟨up [], by decide +kernel⟩,
   ⟨up [], by decide +kernel⟩⟩

/-- The premises of CommonTriggerNumbersItsSet can be met. -/
theorem test_witness_CommonTriggerNumbersItsSet :
    (∃ (port : Port) (v : Word) (s : State), Admits s port (MeasCtl.TRIG_SW 0) ∧ bit v 0 = true ∧ s.rdB (MeasCtl.TRIG_CFG 0) 16 = true ∧
      triggerCollides s = false) ∧
    (∃ (port : Port) (v : Word) (s : State), Admits s port (MeasCtl.TRIG_SW 0) ∧ bit v 0 = true ∧ s.rdB (MeasCtl.TRIG_CFG 0) 16 = true ∧
      triggerCollides s = true) ∧
    (∃ (t : Nat) (s : State), tbRun s t = true ∧ trigDueNow s t = true ∧ (tbOf s t).timingAt ≤ (s.now : Int)) ∧
    (∃ (t : Nat) (s : State), tbRun s t = true ∧ trigDueNow s t = false ∧ (tbOf s t).trigIdx ≤ (tbOf s t).updCount ∧
      (tbOf s t).timingAt ≤ trigInstant s t) ∧
    (∃ (t : Nat) (s : State), tbRun s t = false) :=
  ⟨⟨.host, 1, up [(MeasCtl.TRIG_CFG 0, 0x10000)], by unfold Admits; decide +kernel⟩,
   ⟨.host, 1, { up [(MeasCtl.TRIG_CFG 0, 0x10000)] with meas := { State.reset.meas with lastTrig := some 0 } }, by unfold Admits; decide +kernel⟩,
   ⟨0, putTb 0 { updCount := 1 } (up [(Tb.TB_TRIG 0, 0), (Tb.TB_STAT 0, 1), (Tb.TB_PRD 0, 1000)]), by decide +kernel⟩,
   ⟨0, up [(Tb.TB_STAT 0, 1), (Tb.TB_PRD 0, 1000)], by decide +kernel⟩,
   ⟨0, up [], by decide +kernel⟩⟩

/-- The premises of ConversionsBecomeReleasedSamples can be met. -/
theorem test_witness_ConversionsBecomeReleasedSamples :
    (∃ (s : State) (t0 : Nat), s.meas.lastTrig = some t0 ∧ s.meas.converting = true) ∧
    (∃ (x : Nat) (c : Nat) (s : State) (g : ConvTag), s.meas.sdTags.find? (fun g => decide (g.chan = 28 * x + c)) = some g) ∧
    (∃ (s : State) (it : ReadyItem) (rest : List ReadyItem), s.meas.ready = it :: rest) :=
  ⟨⟨{ up [] with meas := { State.reset.meas with lastTrig := some 0, converting := true } }, 0, by decide +kernel⟩,
   ⟨0, 16, { up [] with meas := { State.reset.meas with sdTags := [{ chan := 16, seq := 1, at_ := 0, ofs := 0, gain := 0 }] } }, { chan := 16, seq := 1, at_ := 0, ofs := 0, gain := 0 },
     by decide +kernel⟩,
   ⟨{ up [] with meas := { State.reset.meas with ready := [{ seq := 1, at_ := 0, doneAt := 5, codes := [] }] } }, { seq := 1, at_ := 0, doneAt := 5, codes := [] },
     [], by decide +kernel⟩⟩

/-- The premises of ChannelAndCalibrationWritesLand can be met. -/
theorem test_witness_ChannelAndCalibrationWritesLand :
    (∃ (port : Port) (x : Nat) (c : Nat) (v : Word) (s : State), x < 2 ∧ c < 28 ∧ Admits s port (MeasCh.CH_CFG x c) ∧ inUse s x c = false ∧
      (s.rdB (MeasCh.CH_CFG x c) 0 = false ∨ bit v 0 = true ∨ pairSide s x c = false) ∧ chCfgRange s x c v = true) ∧
    (∃ (port : Port) (x : Nat) (c : Nat) (s : State), x < 2 ∧ c < 28 ∧ Admits s port (MeasCh.CH_OFS x c) ∧ inUse s x c = false) ∧
    (∃ (port : Port) (x : Nat) (c : Nat) (s : State), x < 2 ∧ c < 28 ∧ Admits s port (MeasCh.CH_GAIN x c) ∧ inUse s x c = false) ∧
    (∃ (x : Nat) (c : Nat) (s : State), x < 2 ∧ c < 28 ∧ (chanOf s x c).settle ≠ none ∧ chanEn s x c = true ∧ refLost s x c = false) ∧
    (∃ (x : Nat) (c : Nat) (s : State), x < 2 ∧ c < 28 ∧ chanEn s x c = true ∧ 16 ≤ c) ∧
    (∃ (x : Nat) (c : Nat) (s : State), x < 2 ∧ c < 28 ∧ s.rdB (MeasCh.CH_STATUS x c) 2 = true ∧ s.rdB (MeasCtl.SDCLK_CFG x) 8 = true) ∧
    (∃ (port : Port) (x : Nat) (c : Nat) (v : Word) (s : State), x < 2 ∧ c < 28 ∧ Admits s port (MeasCtl.CAL_CMD x) ∧ bit v 0 = true ∧
      anyInUse s x (List.range 28) = false ∧ calibrating s x = false) ∧
    (∃ (x : Nat) (c : Nat) (s : State), x < 2 ∧ c < 28 ∧ calibrating s x = true) ∧
    (∃ (x : Nat) (c : Nat) (s : State) (conv : Nat) (code : Nat), x < 2 ∧ c < 28 ∧ conv < 16 ∧ code < 256 ∧ calibrating s x = true) :=
  ⟨⟨.host, 1, 27, 0x401, up [(hLOCK (pageOf (MeasCh.CH_CFG 1 27)), 1), (hLOCK (pageOf (MeasCtl.CAL_CMD 1)), 1)], by unfold Admits; decide +kernel⟩,
   ⟨.host, 1, 27, up [(hLOCK (pageOf (MeasCh.CH_CFG 1 27)), 1), (hLOCK (pageOf (MeasCtl.CAL_CMD 1)), 1)], by unfold Admits; decide +kernel⟩,
   ⟨.host, 1, 27, up [(hLOCK (pageOf (MeasCh.CH_CFG 1 27)), 1), (hLOCK (pageOf (MeasCtl.CAL_CMD 1)), 1)], by unfold Admits; decide +kernel⟩,
   ⟨1, 27, putChan 1 27 { settle := some 0 } (up [(MeasCh.CH_CFG 1 27, 1)]), by decide +kernel⟩,
   ⟨1, 27, up [(MeasCh.CH_CFG 1 27, 1)], by decide +kernel⟩,
   ⟨1, 27, up [(MeasCh.CH_STATUS 1 27, 4), (MeasCtl.SDCLK_CFG 1, 0x100)], by decide +kernel⟩,
   ⟨.host, 1, 27, 1, up [(hLOCK (pageOf (MeasCh.CH_CFG 1 27)), 1), (hLOCK (pageOf (MeasCtl.CAL_CMD 1)), 1)], by unfold Admits; decide +kernel⟩,
   ⟨1, 27, up [(MeasCtl.CAL_STATUS 1, 1)], by decide +kernel⟩,
   ⟨1, 27, up [(MeasCtl.CAL_STATUS 1, 1)], 15, 255, by decide +kernel⟩⟩

/-- The premises of CrosswindPairsAreWrittenAndRearmed can be met. -/
theorem test_witness_CrosswindPairsAreWrittenAndRearmed :
    (∃ (port : Port) (k : Nat) (v : Word) (s : State), k < 28 ∧ Admits s port (Xw.CW_PAIR k) ∧
      sidesInUse s k (s.rdF (Xw.CW_PAIR k) 4 0) (s.rdF (Xw.CW_PAIR k) 12 8) = false ∧ sidesInUse s k (fld v 4 0) (fld v 12 8) = false ∧
      cwPairRange v = true ∧ (bit v 16 = false ∨ (chanEn s 0 (fld v 4 0) = true ∧ chanEn s 1 (fld v 12 8) = true))) ∧
    (∃ (port : Port) (k : Nat) (s : State), k < 28 ∧ Admits s port (Xw.CW_STAT k) ∧ s.rdB (Xw.CW_STAT k) 0 = false) ∧
    (∃ (port : Port) (k : Nat) (s : State), k < 28 ∧ Admits s port (Xw.CW_STAT k) ∧ s.rdB (Xw.CW_STAT k) 0 = true) :=
  ⟨⟨.host, 27, 0xFF301B1B, up [(hLOCK Xw.page, 1)], by unfold Admits; decide +kernel⟩,
   ⟨.host, 27, up [(hLOCK Xw.page, 1)], by unfold Admits; decide +kernel⟩,
   ⟨.host, 27, up [(hLOCK Xw.page, 1), (Xw.CW_STAT 27, 3)], by unfold Admits; decide +kernel⟩⟩

/-- The premises of ContextCommandsMoveTheContext can be met. -/
theorem test_witness_ContextCommandsMoveTheContext :
    (∃ (port : Port) (n : Nat) (s : State), n < 512 ∧ ctxMember s n = none ∧ Admits s port Cle.CMD ∧ ctxState s n = 0 ∧ ctxLaw s n ≠ 0 ∧
      2000 ≤ ctxPeriod s n ∧ ctxPeriod s n ≤ 1600000 ∧ destOk s n (ctxLaw s n) (s.rdF (Ctx.DEST n) 11 0) = true ∧ (ctxFast s n = true →
      ctxPeriod s n = tbInterval s (ctxTb s n)) ∧ admissionOk (s.wrF (Ctx.STATE n) 2 0 1) = true ∧ mirrorFull s [ctxPeriod s n] = false) ∧
    (∃ (port : Port) (n : Nat) (s : State), n < 512 ∧ ctxMember s n = none ∧ Admits s port Cle.CMD ∧ ctxState s n = 1 ∧ closeGate s = true ∧
      closeNeeds s n = true ∧ s.rdF (Ctx.STATE n) 11 8 = 0) ∧
    (∃ (port : Port) (n : Nat) (s : State), n < 512 ∧ ctxMember s n = none ∧ Admits s port Cle.CMD ∧ ctxLive s n = true) ∧
    (∃ (port : Port) (n : Nat) (s : State), n < 512 ∧ ctxMember s n = none ∧ Admits s port Cle.CMD ∧ ctxState s n = 1) ∧
    (∃ (port : Port) (n : Nat) (s : State), n < 512 ∧ ctxMember s n = none ∧ Admits s port Cle.CMD ∧ (ctxState s n = 5 ∨ ctxState s n = 1) ∧
      liveCnt s n < liveLimit s n ∧ (ctxState s n = 5 → recordCrc s n = s.rd (Ctx.CFG_CRC n))) :=
  ⟨⟨.host, 511, { up [(Cle.CTRL, 0), (hLOCK Cle.page, 1), (Ctx.LAW_CFG 511, 0xA), (Ctx.PERIOD 511, 2000), (Ctx.STATE 511, 0)] with cle := { State.reset.cle with profile := 0 } },
    by unfold Admits; decide +kernel⟩,
   ⟨.host, 511, up [(hLOCK Cle.page, 1), (Ctx.LAW_CFG 511, 0xA), (Ctx.PERIOD 511, 2000), (Ctx.STATE 511, 1), (Bup.READY, 0x1F), (Ctx.STATE 0, 3),
     (Ctx.SRC01 511, 0x8100)], by unfold Admits; decide +kernel⟩,
   ⟨.host, 511, up [(hLOCK Cle.page, 1), (Ctx.LAW_CFG 511, 0xA), (Ctx.PERIOD 511, 2000), (Ctx.STATE 511, 3)], by unfold Admits; decide +kernel⟩,
   ⟨.host, 511, up [(hLOCK Cle.page, 1), (Ctx.LAW_CFG 511, 0xA), (Ctx.PERIOD 511, 2000), (Ctx.STATE 511, 1)], by unfold Admits; decide +kernel⟩,
   ⟨.host, 511, up [(hLOCK Cle.page, 1), (Ctx.LAW_CFG 511, 0xA), (Ctx.PERIOD 511, 2000), (Ctx.STATE 511, 5), (Ctx.DETECT 511, 0x0100),
     (Ctx.CFG_CRC 511, recordCrc (up [(Ctx.LAW_CFG 511, 0xA), (Ctx.PERIOD 511, 2000), (Ctx.DETECT 511, 0x0100)]) 511)],
     by unfold Admits; decide +kernel⟩⟩

/-- The premises of RefusedContextCommandLeavesTheContext can be met. -/
theorem test_witness_RefusedContextCommandLeavesTheContext :
    (∃ (port : Port) (n : Nat) (s : State), n < 512 ∧ Admits s port Cle.CMD ∧ ctxState s n ≠ 0) ∧
    (∃ (port : Port) (n : Nat) (s : State), n < 512 ∧ Admits s port Cle.CMD ∧ ctxState s n ≠ 1) ∧
    (∃ (port : Port) (n : Nat) (s : State), n < 512 ∧ Admits s port Cle.CMD ∧ ctxLive s n = false) ∧
    (∃ (port : Port) (n : Nat) (s : State), n < 512 ∧ Admits s port Cle.CMD ∧ ctxState s n ≠ 1) :=
  ⟨⟨.host, 511, up [(hLOCK Cle.page, 1), (Ctx.LAW_CFG 511, 0xA), (Ctx.PERIOD 511, 2000), (Ctx.STATE 511, 1)], by unfold Admits; decide +kernel⟩,
   ⟨.host, 511, up [(hLOCK Cle.page, 1), (Ctx.LAW_CFG 511, 0xA), (Ctx.PERIOD 511, 2000), (Ctx.STATE 511, 0)], by unfold Admits; decide +kernel⟩,
   ⟨.host, 511, up [(hLOCK Cle.page, 1), (Ctx.LAW_CFG 511, 0xA), (Ctx.PERIOD 511, 2000), (Ctx.STATE 511, 1)], by unfold Admits; decide +kernel⟩,
   ⟨.host, 511, up [(hLOCK Cle.page, 1), (Ctx.LAW_CFG 511, 0xA), (Ctx.PERIOD 511, 2000), (Ctx.STATE 511, 3)], by unfold Admits; decide +kernel⟩⟩

/-- The premises of EngineRegistersTakeTheirWrites can be met. -/
theorem test_witness_EngineRegistersTakeTheirWrites :
    (∃ (port : Port) (n : Nat) (o : Nat) (v : Word) (s : State) (r : RegRow), n < 512 ∧ 0x30 ≤ o ∧ o < 0x90 ∧ o % 4 = 0 ∧
      regRow (Ctx.LAW_CFG n + o) = some r ∧ Admits s port (Ctx.LAW_CFG n + o) ∧ ctxState s n = 1 ∧ coefRange s n o v = true) ∧
    (∃ (port : Port) (n : Nat) (o : Nat) (s : State) (r : RegRow), n < 512 ∧ 0x30 ≤ o ∧ o < 0x90 ∧ o % 4 = 0 ∧ regRow (Ctx.LAW_CFG n + o) = some r ∧
      Admits s port (Ctx.LAW_CFG n + o) ∧ ctxState s n ≠ 1) ∧
    (∃ (port : Port) (n : Nat) (v : Word) (s : State), n < 512 ∧ Admits s port Cle.CTRL ∧ fld v 1 0 ≠ 3 ∧ countOk s (fld v 1 0) = true ∧
      loadOk s (fld v 1 0) = true ∧ coincident s = true) ∧
    (∃ (port : Port) (n : Nat) (s : State), n < 512 ∧ Admits s port Cle.SPEC_CTRL) ∧
    (∃ (port : Port) (n : Nat) (g : Nat) (s : State), n < 512 ∧ g < 64 ∧ Admits s port (Hw.HW_CMD g) ∧ hwPersist s g = false) ∧
    (∃ (n : Nat), n < 512) :=
  ⟨⟨.host, 511, 0x30, 0x3F800000, up [(hLOCK Cle.page, 1), (Ctx.LAW_CFG 511, 0xA), (Ctx.PERIOD 511, 2000), (Ctx.STATE 511, 1)], ⟨48, 16, 256, 1, .rwl,
    0, 4294967295⟩, by unfold Admits; decide +kernel⟩,
   ⟨.host, 511, 0x30, up [(hLOCK Cle.page, 1), (Ctx.LAW_CFG 511, 0xA), (Ctx.PERIOD 511, 2000), (Ctx.STATE 511, 3)], ⟨48, 16, 256, 1, .rwl, 0,
     4294967295⟩, by unfold Admits; decide +kernel⟩,
   ⟨.host, 0, 0, up [(hLOCK Cle.page, 1)], by unfold Admits; decide +kernel⟩,
   ⟨.host, 511, up [(hLOCK Cle.page, 1), (Ctx.LAW_CFG 511, 0xA), (Ctx.PERIOD 511, 2000), (Ctx.STATE 511, 1)], by unfold Admits; decide +kernel⟩,
   ⟨.host, 511, 63, up [(hLOCK Cle.page, 1), (Ctx.LAW_CFG 511, 0xA), (Ctx.PERIOD 511, 2000), (Ctx.STATE 511, 1)], by unfold Admits; decide +kernel⟩,
   ⟨511, by decide +kernel⟩⟩

/-- The premises of EpochAndReleasesKeepTheirGrid can be met. -/
theorem test_witness_EpochAndReleasesKeepTheirGrid :
    (∃ (s : State), s.inService = true) ∧
    (∃ (n : Nat) (s : State), s.inService = true ∧ ctxFast s n = false ∧ 1 ≤ ctxState s n ∧ ctxState s n ≤ 4 ∧ ctxPeriod s n ≠ 0 ∧
      (ctxOf s n).run = none ∧ ctxMember s n = none) ∧
    (∃ (n : Nat) (s : State) (r : Run), (ctxOf s n).run = some r ∧ r.started = true ∧ r.deadline < (r.doneAt : Int) ∧ ctxMember s n = none ∧
      (ctxState s n = 3 ∨ ctxState s n = 4)) ∧
    (∃ (n : Nat) (s : State), ctxFast s n = true ∧ 1 ≤ ctxState s n ∧ ctxState s n ≤ 4 ∧ ctxMember s n = none) :=
  ⟨⟨up [], by decide +kernel⟩,
   ⟨511, up [(hLOCK Cle.page, 1), (Ctx.LAW_CFG 511, 0xA), (Ctx.PERIOD 511, 2000), (Ctx.STATE 511, 4)], by decide +kernel⟩,
   ⟨511, putCtx 511 { run := some { relAt := 0, fast := false, deadline := 9, doneAt := 10, started := true } } (up [(hLOCK Cle.page, 1),
     (Ctx.LAW_CFG 511, 0xA), (Ctx.PERIOD 511, 2000), (Ctx.STATE 511,
     4)]), { relAt := 0, fast := false, deadline := 9, doneAt := 10, started := true }, by decide +kernel⟩,
   ⟨511, up [(hLOCK Cle.page, 1), (Ctx.LAW_CFG 511, 4), (Ctx.PERIOD 511, 2000), (Ctx.STATE 511, 4)], by decide +kernel⟩⟩

/-- The premises of LanesRunAndCommitTheWork can be met. -/
theorem test_witness_LanesRunAndCommitTheWork :
    (∃ (k : Nat) (n : Nat) (s : State) (r : Run), laneFree s k = true ∧ s.rdB SecDbg.DBG_HSTAT 2 = false ∧ s.twin.held = [] ∧
      edf (fastReady s) = some n ∧ (ctxOf s n).run = some r ∧ ctxSrc s n 6 = none ∧ ctxSrc s n 7 = none ∧ runMissing s n r = false) ∧
    (∃ (k : Nat) (n : Nat) (s : State) (p : PreRun), laneFree s k = true ∧ s.rdB SecDbg.DBG_HSTAT 2 = false ∧ s.twin.held = [] ∧
      edf (fastReady s) = none ∧ edf (periodicReady s) = some n ∧ (ctxOf s n).run = none ∧ (ctxOf s n).pre = some p) ∧
    (∃ (k : Nat) (s : State) (e : Nat × Lane), s.cle.lanes.find? (fun e => decide (e.1 = k)) = some e) ∧
    (∃ (n : Nat) (s : State) (e : Nat × Lane) (p : PreRun), s.cle.lanes.find? (fun e => decide (e.2.ctx = n ∧
      e.2.gen = some (ctxOf s n).preGen) && e.2.last) = some e ∧ s.cle.lanes.find? (fun x => decide (x.1 = e.1)) = some e ∧
      (ctxOf s n).pre = some p) ∧
    (∃ (n : Nat) (s : State) (r : Run), (ctxOf s n).run = some r ∧ r.started = true ∧ (r.doneAt : Int) ≤ r.deadline ∧ ctxMember s n = none ∧
      s.rdF (Ctx.DETECT n) 31 16 = 0) :=
  ⟨⟨3, 511, putCtx 511 { run := some { relAt := 0, fast := true, deadline := 9, readyAt := some 0 } } (up [(hLOCK Cle.page, 1), (Ctx.LAW_CFG 511,
    0xA), (Ctx.PERIOD 511, 2000), (Ctx.STATE 511, 2)]), { relAt := 0, fast := true, deadline := 9, readyAt := some 0 }, by decide +kernel⟩,
   ⟨3, 511, putCtx 511 { pre := some { segs := 1, cycles := 9 } } (up [(hLOCK Cle.page, 1), (Ctx.LAW_CFG 511, 0xA), (Ctx.PERIOD 511, 2000),
     (Ctx.STATE 511, 3)]), { segs := 1, cycles := 9 }, by decide +kernel⟩,
   ⟨3, { up [] with cle := { State.reset.cle with lanes := [(3, { ctx := 0, till := 5 })] } }, (3, { ctx := 0, till := 5 }), by decide +kernel⟩,
   ⟨511, putCtx 511 { pre := some { segs := 1, cycles := 9 } } { up [(hLOCK Cle.page, 1), (Ctx.LAW_CFG 511, 0xA), (Ctx.PERIOD 511, 2000), (Ctx.STATE 511, 3)] with cle := { State.reset.cle with lanes := [(3, { ctx := 511, gen := some 0, last := true, till := 5 })] } },
     (3, { ctx := 511, gen := some 0, last := true, till := 5 }), { segs := 1, cycles := 9 }, by decide +kernel⟩,
   ⟨511, putCtx 511 { run := some { relAt := 0, fast := false, deadline := 9, doneAt := 9, started := true } } (up [(hLOCK Cle.page, 1),
     (Ctx.LAW_CFG 511, 0xA), (Ctx.PERIOD 511, 2000), (Ctx.STATE 511, 3)]), { relAt := 0, fast := false, deadline := 9, doneAt := 9, started := true },
     by decide +kernel⟩⟩

/-- The premises of MachineCommandsMoveTheMachine can be met. -/
theorem test_witness_MachineCommandsMoveTheMachine :
    (∃ (port : Port) (m : Nat) (mode : Nat) (s : State), m < 4 ∧ (m = 1 → s.rdB (Foc.CFG 0) 2 = false) ∧ Admits s port (Foc.CMD m) ∧ mode < 3 ∧
      machState s m = 1 ∧ tbRun s (machTb s m) = true ∧ (mode ≠ 0 → isIm s m = false → vsrcOn s m = true) ∧ (mode ≠ 0 → isIm s m = true →
      ∀ n ∈ machCtxs s m, ctxLaw s n = 4) ∧ (∀ e ∈ ((machCtxs s m).zip [0, 1] : List (Nat × Nat)), startCtxOk s m e.1 e.2 = true ∧
      startWindowOk s m e.1 = true) ∧ modNarrow s m (s.rdF (Foc.MIN_CLEAR m) 15 0) = false ∧ F.eq (s.rd (Foc.STOP_RATE m)) 0 = false ∧
      (isIm s m = false → F.eq (s.rd (Foc.IPD_ILIM m)) 0 = false) ∧ (∀ n ∈ machCtxs s m, ctxState s n = 1) ∧ mirrorFull s [] = false ∧
      (isIm s m = true → machRuns s m = true)) ∧
    (∃ (port : Port) (m : Nat) (mode : Nat) (s : State) (n : Nat), m < 4 ∧ (m = 1 → s.rdB (Foc.CFG 0) 2 = false) ∧ Admits s port (Foc.CMD m) ∧
      mode < 3 ∧ machState s m = 1 ∧ tbRun s (machTb s m) = true ∧ (mode ≠ 0 → isIm s m = false → vsrcOn s m = true) ∧ (mode ≠ 0 → isIm s m = true →
      ∀ n ∈ machCtxs s m, ctxLaw s n = 4) ∧ (∀ e ∈ ((machCtxs s m).zip [0, 1] : List (Nat × Nat)), startCtxOk s m e.1 e.2 = true ∧
      startWindowOk s m e.1 = true) ∧ modNarrow s m (s.rdF (Foc.MIN_CLEAR m) 15 0) = false ∧ F.eq (s.rd (Foc.STOP_RATE m)) 0 = false ∧
      (isIm s m = false → F.eq (s.rd (Foc.IPD_ILIM m)) 0 = false) ∧ (∀ n ∈ machCtxs s m, ctxState s n = 1) ∧ mirrorFull s [] = false ∧ n < 512 ∧
      isIm s m = true ∧ machRuns s m = false ∧ machCtxs s m = [n] ∧ closeGate s = true ∧ closeNeeds s n = true ∧ s.rdF (Ctx.STATE n) 11 8 = 0 ∧
      ctxMember s n = none) ∧
    (∃ (port : Port) (m : Nat) (s : State), m < 4 ∧ (m = 1 → s.rdB (Foc.CFG 0) 2 = false) ∧ Admits s port (Foc.CMD m) ∧
      (machState s m = 4 ∨ machState s m = 5)) ∧
    (∃ (port : Port) (m : Nat) (s : State), m < 4 ∧ (m = 1 → s.rdB (Foc.CFG 0) 2 = false) ∧ Admits s port (Foc.CMD m) ∧ machState s m = 6) ∧
    (∃ (port : Port) (m : Nat) (s : State), m < 4 ∧ (m = 1 → s.rdB (Foc.CFG 0) 2 = false) ∧ Admits s port (Foc.CMD m) ∧ 1 ≤ machState s m ∧
      machState s m ≤ 7) ∧
    (∃ (port : Port) (m : Nat) (s : State), m < 4 ∧ (m = 1 → s.rdB (Foc.CFG 0) 2 = false) ∧ Admits s port (Foc.CMD m) ∧ machState s m ≠ 1 ∧
      machState s m < 9) ∧
    (∃ (port : Port) (m : Nat) (s : State), m < 4 ∧ (m = 1 → s.rdB (Foc.CFG 0) 2 = false) ∧ Admits s port (Foc.CMD m) ∧
      (machState s m = 1 ∨ machState s m = 8) ∧ (∀ n ∈ machCtxs s m, ctxLive s n = false)) ∧
    (∃ (port : Port) (m : Nat) (s : State), m < 4 ∧ (m = 1 → s.rdB (Foc.CFG 0) 2 = false) ∧ Admits s port (Foc.CMD m) ∧ machState s m = 9 ∧
      causePersists s m = false) :=
  ⟨⟨.host, 3, 0, ((up [(Tb.TB_STAT 0, 1), (Tb.TB_PRD 0, 60000), (Foc.MSTATE 3, 1), (Ctx.LAW_CFG 511, 4), (Ctx.STATE 511, 1), (Foc.CUR_CTX 3, 511),
    (Ctx.DEST 511, 0xF03), (Ctx.SRC01 511, 0x81008100), (Ctx.SRC23 511, 0x84608100), (Ctx.SRC45 511, 0x8100), (Ctx.SPSRC 511, 0x84638464),
    (Foc.STOP_RATE 3, 0x3F800000), (Foc.IPD_ILIM 3, 0x3F800000)]).wrA (Tb.TB_PRD 0) 60000), by unfold Admits; decide +kernel⟩,
   ⟨.host, 3, 0, ((up [(Tb.TB_STAT 0, 1), (Tb.TB_PRD 0, 60000), (Foc.MSTATE 3, 1), (Ctx.LAW_CFG 511, 4), (Ctx.STATE 511, 1), (Foc.CUR_CTX 3, 511),
     (Ctx.DEST 511, 0xF03), (Ctx.SRC01 511, 0x81008100), (Ctx.SRC23 511, 0x84608100), (Ctx.SRC45 511, 0x8100), (Ctx.SPSRC 511, 0x84638464),
     (Foc.STOP_RATE 3, 0x3F800000), (Foc.IPD_ILIM 3, 0x3F800000), (Foc.CFG 3, 1), (Bup.READY, 0x1F), (Ctx.STATE 0, 3)]).wrA (Tb.TB_PRD 0) 60000), 511,
     by unfold Admits; decide +kernel⟩,
   ⟨.host, 3, ((up [(Tb.TB_STAT 0, 1), (Tb.TB_PRD 0, 60000), (Foc.MSTATE 3, 5), (Ctx.LAW_CFG 511, 4), (Ctx.STATE 511, 1), (Foc.CUR_CTX 3, 511),
     (Ctx.DEST 511, 0xF03), (Ctx.SRC01 511, 0x81008100), (Ctx.SRC23 511, 0x84608100), (Ctx.SRC45 511, 0x8100), (Ctx.SPSRC 511, 0x84638464),
     (Foc.STOP_RATE 3, 0x3F800000), (Foc.IPD_ILIM 3, 0x3F800000)]).wrA (Tb.TB_PRD 0) 60000), by unfold Admits; decide +kernel⟩,
   ⟨.host, 3, ((up [(Tb.TB_STAT 0, 1), (Tb.TB_PRD 0, 60000), (Foc.MSTATE 3, 6), (Ctx.LAW_CFG 511, 4), (Ctx.STATE 511, 1), (Foc.CUR_CTX 3, 511),
     (Ctx.DEST 511, 0xF03), (Ctx.SRC01 511, 0x81008100), (Ctx.SRC23 511, 0x84608100), (Ctx.SRC45 511, 0x8100), (Ctx.SPSRC 511, 0x84638464),
     (Foc.STOP_RATE 3, 0x3F800000), (Foc.IPD_ILIM 3, 0x3F800000)]).wrA (Tb.TB_PRD 0) 60000), by unfold Admits; decide +kernel⟩,
   ⟨.host, 3, ((up [(Tb.TB_STAT 0, 1), (Tb.TB_PRD 0, 60000), (Foc.MSTATE 3, 7), (Ctx.LAW_CFG 511, 4), (Ctx.STATE 511, 1), (Foc.CUR_CTX 3, 511),
     (Ctx.DEST 511, 0xF03), (Ctx.SRC01 511, 0x81008100), (Ctx.SRC23 511, 0x84608100), (Ctx.SRC45 511, 0x8100), (Ctx.SPSRC 511, 0x84638464),
     (Foc.STOP_RATE 3, 0x3F800000), (Foc.IPD_ILIM 3, 0x3F800000)]).wrA (Tb.TB_PRD 0) 60000), by unfold Admits; decide +kernel⟩,
   ⟨.host, 3, ((up [(Tb.TB_STAT 0, 1), (Tb.TB_PRD 0, 60000), (Foc.MSTATE 3, 8), (Ctx.LAW_CFG 511, 4), (Ctx.STATE 511, 1), (Foc.CUR_CTX 3, 511),
     (Ctx.DEST 511, 0xF03), (Ctx.SRC01 511, 0x81008100), (Ctx.SRC23 511, 0x84608100), (Ctx.SRC45 511, 0x8100), (Ctx.SPSRC 511, 0x84638464),
     (Foc.STOP_RATE 3, 0x3F800000), (Foc.IPD_ILIM 3, 0x3F800000)]).wrA (Tb.TB_PRD 0) 60000), by unfold Admits; decide +kernel⟩,
   ⟨.host, 3, ((up [(Tb.TB_STAT 0, 1), (Tb.TB_PRD 0, 60000), (Foc.MSTATE 3, 8), (Ctx.LAW_CFG 511, 4), (Ctx.STATE 511, 1), (Foc.CUR_CTX 3, 511),
     (Ctx.DEST 511, 0xF03), (Ctx.SRC01 511, 0x81008100), (Ctx.SRC23 511, 0x84608100), (Ctx.SRC45 511, 0x8100), (Ctx.SPSRC 511, 0x84638464),
     (Foc.STOP_RATE 3, 0x3F800000), (Foc.IPD_ILIM 3, 0x3F800000)]).wrA (Tb.TB_PRD 0) 60000), by unfold Admits; decide +kernel⟩,
   ⟨.host, 3, ((up [(Tb.TB_STAT 0, 1), (Tb.TB_PRD 0, 60000), (Foc.MSTATE 3, 9), (Ctx.LAW_CFG 511, 4), (Ctx.STATE 511, 1), (Foc.CUR_CTX 3, 511),
     (Ctx.DEST 511, 0xF03), (Ctx.SRC01 511, 0x81008100), (Ctx.SRC23 511, 0x84608100), (Ctx.SRC45 511, 0x8100), (Ctx.SPSRC 511, 0x84638464),
     (Foc.STOP_RATE 3, 0x3F800000), (Foc.IPD_ILIM 3, 0x3F800000), (Foc.ASC_CFG 3, 0)]).wrA (Tb.TB_PRD 0) 60000), by unfold Admits; decide +kernel⟩⟩

/-- The premises of MachineTimesRunOut can be met. -/
theorem test_witness_MachineTimesRunOut :
    (∃ (m : Nat) (s : State), m < 4 ∧ (machOf s m).trigNew = true ∧ machState s m ≠ 0 ∧ tbRun s (machTb s m) = true) ∧
    (∃ (m : Nat) (s : State) (f : Nat), m < 4 ∧ (machOf s m).emfAt = some f ∧ machState s m = 3 ∧ isIm s m = false ∧ (machOf s m).trigNew = false ∧
      (∀ x ∈ (machOf s m).emf, F.lt (magOf x.2.1 x.2.2) (s.rd (Foc.EMF_MIN m)) = true)) ∧
    (∃ (m : Nat) (s : State) (x : Nat), m < 4 ∧ firstClosed s m = some x ∧ machState s m = 5 ∧ (machOf s m).closed = true ∧
      (machOf s m).trigNew = false ∧ x + s.rdF (Foc.CATCH_TIME m) 31 16 * 80000 ≤ (machOf s m).trigAt) ∧
    (∃ (m : Nat) (s : State) (x : Nat), m < 4 ∧ firstClosed s m = some x ∧ machState s m = 4 ∧ (machOf s m).closed = true) ∧
    (∃ (m : Nat) (s : State), m < 4 ∧ machState s m = 6 ∧ s.rdB (Foc.TQ_CFG m) 0 = true ∧ s.rdB (Foc.MSTATE m) 25 = false) ∧
    (∃ (m : Nat) (s : State), m < 4 ∧ s.rdF (Foc.ASC_CFG m) 1 0 = 2 ∧ ascOn s m = true ∧ s.prot.ascStop.contains m = false ∧
      tbRun s (machTb s m) = true) ∧
    (∃ (m : Nat) (s : State), m < 4 ∧ s.rdF (Foc.ASC_CFG m) 1 0 = 2 ∧ ascOn s m = true ∧ s.prot.ascStop.contains m = false ∧
      tbRun s (machTb s m) = false) :=
  ⟨⟨3, putMach 3 { trigNew := true } ((up [(Tb.TB_STAT 0, 1), (Tb.TB_PRD 0, 60000), (Foc.MSTATE 3, 1), (Ctx.LAW_CFG 511, 4), (Ctx.STATE 511, 1),
    (Foc.CUR_CTX 3, 511), (Ctx.DEST 511, 0xF03), (Ctx.SRC01 511, 0x81008100), (Ctx.SRC23 511, 0x84608100), (Ctx.SRC45 511, 0x8100), (Ctx.SPSRC 511,
    0x84638464), (Foc.STOP_RATE 3, 0x3F800000), (Foc.IPD_ILIM 3, 0x3F800000)]).wrA (Tb.TB_PRD 0) 60000), by decide +kernel⟩,
   ⟨3, putMach 3 { emfAt := some 5, emf := [(5, 0, 0)] } (((up [(Tb.TB_STAT 0, 1), (Tb.TB_PRD 0, 60000), (Foc.MSTATE 3, 3), (Ctx.LAW_CFG 511, 4),
     (Ctx.STATE 511, 1), (Foc.CUR_CTX 3, 511), (Ctx.DEST 511, 0xF03), (Ctx.SRC01 511, 0x81008100), (Ctx.SRC23 511, 0x84608100), (Ctx.SRC45 511,
     0x8100), (Ctx.SPSRC 511, 0x84638464), (Foc.STOP_RATE 3, 0x3F800000), (Foc.IPD_ILIM 3, 0x3F800000), (Foc.EMF_MIN 3,
     0x3F800000)]).wrA (Tb.TB_PRD 0) 60000)), 5, by decide +kernel⟩,
   ⟨3, putCtx 511 { closedAt := some 0 } (putMach 3 { closed := true, trigAt := 8000000000 } ((up [(Tb.TB_STAT 0, 1), (Tb.TB_PRD 0, 60000),
     (Foc.MSTATE 3, 5), (Ctx.LAW_CFG 511, 4), (Ctx.STATE 511, 1), (Foc.CUR_CTX 3, 511), (Ctx.DEST 511, 0xF03), (Ctx.SRC01 511, 0x81008100),
     (Ctx.SRC23 511, 0x84608100), (Ctx.SRC45 511, 0x8100), (Ctx.SPSRC 511, 0x84638464), (Foc.STOP_RATE 3, 0x3F800000), (Foc.IPD_ILIM 3,
     0x3F800000)]).wrA (Tb.TB_PRD 0) 60000)), 0, by decide +kernel⟩,
   ⟨3, putCtx 511 { closedAt := some 0 } (putMach 3 { closed := true } ((up [(Tb.TB_STAT 0, 1), (Tb.TB_PRD 0, 60000), (Foc.MSTATE 3, 4),
     (Ctx.LAW_CFG 511, 4), (Ctx.STATE 511, 1), (Foc.CUR_CTX 3, 511), (Ctx.DEST 511, 0xF03), (Ctx.SRC01 511, 0x81008100), (Ctx.SRC23 511, 0x84608100),
     (Ctx.SRC45 511, 0x8100), (Ctx.SPSRC 511, 0x84638464), (Foc.STOP_RATE 3, 0x3F800000), (Foc.IPD_ILIM 3, 0x3F800000)]).wrA (Tb.TB_PRD 0) 60000)), 0,
     by decide +kernel⟩,
   ⟨3, ((up [(Tb.TB_STAT 0, 1), (Tb.TB_PRD 0, 60000), (Foc.MSTATE 3, 6), (Ctx.LAW_CFG 511, 4), (Ctx.STATE 511, 1), (Foc.CUR_CTX 3, 511),
     (Ctx.DEST 511, 0xF03), (Ctx.SRC01 511, 0x81008100), (Ctx.SRC23 511, 0x84608100), (Ctx.SRC45 511, 0x8100), (Ctx.SPSRC 511, 0x84638464),
     (Foc.STOP_RATE 3, 0x3F800000), (Foc.IPD_ILIM 3, 0x3F800000), (Foc.TQ_CFG 3, 1)]).wrA (Tb.TB_PRD 0) 60000), by decide +kernel⟩,
   ⟨3, { ((up [(Tb.TB_STAT 0, 1), (Tb.TB_PRD 0, 60000), (Foc.MSTATE 3, 8), (Ctx.LAW_CFG 511, 4), (Ctx.STATE 511, 1), (Foc.CUR_CTX 3, 511), (Ctx.DEST 511, 0xF03), (Ctx.SRC01 511, 0x81008100), (Ctx.SRC23 511, 0x84608100), (Ctx.SRC45 511, 0x8100), (Ctx.SPSRC 511, 0x84638464), (Foc.STOP_RATE 3, 0x3F800000), (Foc.IPD_ILIM 3, 0x3F800000), (Foc.ASC_CFG 3, 2)]).wrA (Tb.TB_PRD 0) 60000) with pwm := { State.reset.pwm with forces := [{ rank := 5, order := 0, tag := .machine, id := 3, on := [0], off := [] }] } },
     by decide +kernel⟩,
   ⟨3, { ((up [(Tb.TB_STAT 0, 1), (Tb.TB_PRD 0, 60000), (Foc.MSTATE 3, 8), (Ctx.LAW_CFG 511, 4), (Ctx.STATE 511, 1), (Foc.CUR_CTX 3, 511), (Ctx.DEST 511, 0xF03), (Ctx.SRC01 511, 0x81008100), (Ctx.SRC23 511, 0x84608100), (Ctx.SRC45 511, 0x8100), (Ctx.SPSRC 511, 0x84638464), (Foc.STOP_RATE 3, 0x3F800000), (Foc.IPD_ILIM 3, 0x3F800000), (Foc.ASC_CFG 3, 2), (Tb.TB_STAT 0, 0)]).wrA (Tb.TB_PRD 0) 60000) with pwm := { State.reset.pwm with forces := [{ rank := 5, order := 0, tag := .machine, id := 3, on := [0], off := [] }] } },
     by decide +kernel⟩⟩

/-- The premises of ProfileCommandsMoveTheChannel can be met. -/
theorem test_witness_ProfileCommandsMoveTheChannel :
    (∃ (port : Port) (ch : Nat) (s : State), ch < 4 ∧ Admits s port (Prof.PCMD ch) ∧ profState s ch = 0 ∧ rampOk (activeSet s ch) = true ∧
      mirrorFull s [max 1 (s.rdF (Prof.PCFG ch) 15 8) * 8000] = false) ∧
    (∃ (port : Port) (ch : Nat) (s : State), ch < 4 ∧ Admits s port (Prof.PCMD ch) ∧ 1 ≤ profState s ch ∧ profState s ch ≤ 3 ∧
      profBound s ch = false ∧ targetOk s ch = true) ∧
    (∃ (port : Port) (ch : Nat) (s : State), ch < 4 ∧ Admits s port (Prof.PCMD ch) ∧ profState s ch = 6 ∧ targetOk s ch = true) ∧
    (∃ (port : Port) (ch : Nat) (s : State), ch < 4 ∧ Admits s port (Prof.PCMD ch) ∧ profState s ch = 2) ∧
    (∃ (port : Port) (ch : Nat) (s : State), ch < 4 ∧ Admits s port (Prof.PCMD ch) ∧ profState s ch = 7) ∧
    (∃ (port : Port) (ch : Nat) (s : State), ch < 4 ∧ Admits s port (Prof.PCMD ch) ∧ rampOk (shadowSet s ch) = true ∧ profResting s ch = true) ∧
    (∃ (port : Port) (ch : Nat) (s : State), ch < 4 ∧ Admits s port (Prof.PCMD ch) ∧ rampOk (shadowSet s ch) = true ∧ profResting s ch = false) ∧
    (∃ (port : Port) (ch : Nat) (s : State), ch < 4 ∧ Admits s port (Prof.PCMD ch) ∧ profState s ch = 5 ∧ (profBound s ch = true →
      machState s (profMach s ch) ≠ 9)) ∧
    (∃ (port : Port) (ch : Nat) (s : State), ch < 4 ∧ Admits s port (Prof.PCMD ch) ∧ profResting s ch = true) ∧
    (∃ (port : Port) (ch : Nat) (s : State), ch < 4 ∧ Admits s port (Prof.PCMD ch) ∧ profResting s ch = true ∧
      D.isFin (D.mk (s.rd (Prof.TGT_LO ch)) (s.rd (Prof.TGT_HI ch))) = true) :=
  ⟨⟨.host, 3, up [(Prof.PSTATE 3, 0), (Prof.ACT_A1 3 0, 0x3F800000), (Prof.ACT_A1 3 1, 0x3F800000), (Prof.ACT_A1 3 2, 0x3F800000), (Prof.ACT_A1 3 3,
    0x3F800000), (Prof.ACT_A1 3 4, 0x3F800000), (Prof.ACT_A1 3 5, 0x3F800000), (Prof.ACT_A1 3 6, 0x3F800000), (Prof.ACT_A1 3 7, 0x3F800000),
    (Prof.ACT_A1 3 8, 0x3F800000), (Prof.A1 3 + 0, 0x3F800000), (Prof.A1 3 + 4, 0x3F800000), (Prof.A1 3 + 8, 0x3F800000), (Prof.A1 3 + 12,
    0x3F800000), (Prof.A1 3 + 16, 0x3F800000), (Prof.A1 3 + 20, 0x3F800000), (Prof.A1 3 + 24, 0x3F800000), (Prof.A1 3 + 28, 0x3F800000),
    (Prof.A1 3 + 32, 0x3F800000)], by unfold Admits; decide +kernel⟩,
   ⟨.host, 3, up [(Prof.PSTATE 3, 3), (Prof.ACT_A1 3 0, 0x3F800000), (Prof.ACT_A1 3 1, 0x3F800000), (Prof.ACT_A1 3 2, 0x3F800000), (Prof.ACT_A1 3 3,
     0x3F800000), (Prof.ACT_A1 3 4, 0x3F800000), (Prof.ACT_A1 3 5, 0x3F800000), (Prof.ACT_A1 3 6, 0x3F800000), (Prof.ACT_A1 3 7, 0x3F800000),
     (Prof.ACT_A1 3 8, 0x3F800000), (Prof.A1 3 + 0, 0x3F800000), (Prof.A1 3 + 4, 0x3F800000), (Prof.A1 3 + 8, 0x3F800000), (Prof.A1 3 + 12,
     0x3F800000), (Prof.A1 3 + 16, 0x3F800000), (Prof.A1 3 + 20, 0x3F800000), (Prof.A1 3 + 24, 0x3F800000), (Prof.A1 3 + 28, 0x3F800000),
     (Prof.A1 3 + 32, 0x3F800000)], by unfold Admits; decide +kernel⟩,
   ⟨.host, 3, up [(Prof.PSTATE 3, 6), (Prof.ACT_A1 3 0, 0x3F800000), (Prof.ACT_A1 3 1, 0x3F800000), (Prof.ACT_A1 3 2, 0x3F800000), (Prof.ACT_A1 3 3,
     0x3F800000), (Prof.ACT_A1 3 4, 0x3F800000), (Prof.ACT_A1 3 5, 0x3F800000), (Prof.ACT_A1 3 6, 0x3F800000), (Prof.ACT_A1 3 7, 0x3F800000),
     (Prof.ACT_A1 3 8, 0x3F800000), (Prof.A1 3 + 0, 0x3F800000), (Prof.A1 3 + 4, 0x3F800000), (Prof.A1 3 + 8, 0x3F800000), (Prof.A1 3 + 12,
     0x3F800000), (Prof.A1 3 + 16, 0x3F800000), (Prof.A1 3 + 20, 0x3F800000), (Prof.A1 3 + 24, 0x3F800000), (Prof.A1 3 + 28, 0x3F800000),
     (Prof.A1 3 + 32, 0x3F800000), (Prof.PCFG 3, 2)], by unfold Admits; decide +kernel⟩,
   ⟨.host, 3, up [(Prof.PSTATE 3, 2), (Prof.ACT_A1 3 0, 0x3F800000), (Prof.ACT_A1 3 1, 0x3F800000), (Prof.ACT_A1 3 2, 0x3F800000), (Prof.ACT_A1 3 3,
     0x3F800000), (Prof.ACT_A1 3 4, 0x3F800000), (Prof.ACT_A1 3 5, 0x3F800000), (Prof.ACT_A1 3 6, 0x3F800000), (Prof.ACT_A1 3 7, 0x3F800000),
     (Prof.ACT_A1 3 8, 0x3F800000), (Prof.A1 3 + 0, 0x3F800000), (Prof.A1 3 + 4, 0x3F800000), (Prof.A1 3 + 8, 0x3F800000), (Prof.A1 3 + 12,
     0x3F800000), (Prof.A1 3 + 16, 0x3F800000), (Prof.A1 3 + 20, 0x3F800000), (Prof.A1 3 + 24, 0x3F800000), (Prof.A1 3 + 28, 0x3F800000),
     (Prof.A1 3 + 32, 0x3F800000)], by unfold Admits; decide +kernel⟩,
   ⟨.host, 3, up [(Prof.PSTATE 3, 7), (Prof.ACT_A1 3 0, 0x3F800000), (Prof.ACT_A1 3 1, 0x3F800000), (Prof.ACT_A1 3 2, 0x3F800000), (Prof.ACT_A1 3 3,
     0x3F800000), (Prof.ACT_A1 3 4, 0x3F800000), (Prof.ACT_A1 3 5, 0x3F800000), (Prof.ACT_A1 3 6, 0x3F800000), (Prof.ACT_A1 3 7, 0x3F800000),
     (Prof.ACT_A1 3 8, 0x3F800000), (Prof.A1 3 + 0, 0x3F800000), (Prof.A1 3 + 4, 0x3F800000), (Prof.A1 3 + 8, 0x3F800000), (Prof.A1 3 + 12,
     0x3F800000), (Prof.A1 3 + 16, 0x3F800000), (Prof.A1 3 + 20, 0x3F800000), (Prof.A1 3 + 24, 0x3F800000), (Prof.A1 3 + 28, 0x3F800000),
     (Prof.A1 3 + 32, 0x3F800000)], by unfold Admits; decide +kernel⟩,
   ⟨.host, 3, up [(Prof.PSTATE 3, 6), (Prof.ACT_A1 3 0, 0x3F800000), (Prof.ACT_A1 3 1, 0x3F800000), (Prof.ACT_A1 3 2, 0x3F800000), (Prof.ACT_A1 3 3,
     0x3F800000), (Prof.ACT_A1 3 4, 0x3F800000), (Prof.ACT_A1 3 5, 0x3F800000), (Prof.ACT_A1 3 6, 0x3F800000), (Prof.ACT_A1 3 7, 0x3F800000),
     (Prof.ACT_A1 3 8, 0x3F800000), (Prof.A1 3 + 0, 0x3F800000), (Prof.A1 3 + 4, 0x3F800000), (Prof.A1 3 + 8, 0x3F800000), (Prof.A1 3 + 12,
     0x3F800000), (Prof.A1 3 + 16, 0x3F800000), (Prof.A1 3 + 20, 0x3F800000), (Prof.A1 3 + 24, 0x3F800000), (Prof.A1 3 + 28, 0x3F800000),
     (Prof.A1 3 + 32, 0x3F800000)], by unfold Admits; decide +kernel⟩,
   ⟨.host, 3, up [(Prof.PSTATE 3, 2), (Prof.ACT_A1 3 0, 0x3F800000), (Prof.ACT_A1 3 1, 0x3F800000), (Prof.ACT_A1 3 2, 0x3F800000), (Prof.ACT_A1 3 3,
     0x3F800000), (Prof.ACT_A1 3 4, 0x3F800000), (Prof.ACT_A1 3 5, 0x3F800000), (Prof.ACT_A1 3 6, 0x3F800000), (Prof.ACT_A1 3 7, 0x3F800000),
     (Prof.ACT_A1 3 8, 0x3F800000), (Prof.A1 3 + 0, 0x3F800000), (Prof.A1 3 + 4, 0x3F800000), (Prof.A1 3 + 8, 0x3F800000), (Prof.A1 3 + 12,
     0x3F800000), (Prof.A1 3 + 16, 0x3F800000), (Prof.A1 3 + 20, 0x3F800000), (Prof.A1 3 + 24, 0x3F800000), (Prof.A1 3 + 28, 0x3F800000),
     (Prof.A1 3 + 32, 0x3F800000)], by unfold Admits; decide +kernel⟩,
   ⟨.host, 3, up [(Prof.PSTATE 3, 5), (Prof.ACT_A1 3 0, 0x3F800000), (Prof.ACT_A1 3 1, 0x3F800000), (Prof.ACT_A1 3 2, 0x3F800000), (Prof.ACT_A1 3 3,
     0x3F800000), (Prof.ACT_A1 3 4, 0x3F800000), (Prof.ACT_A1 3 5, 0x3F800000), (Prof.ACT_A1 3 6, 0x3F800000), (Prof.ACT_A1 3 7, 0x3F800000),
     (Prof.ACT_A1 3 8, 0x3F800000), (Prof.A1 3 + 0, 0x3F800000), (Prof.A1 3 + 4, 0x3F800000), (Prof.A1 3 + 8, 0x3F800000), (Prof.A1 3 + 12,
     0x3F800000), (Prof.A1 3 + 16, 0x3F800000), (Prof.A1 3 + 20, 0x3F800000), (Prof.A1 3 + 24, 0x3F800000), (Prof.A1 3 + 28, 0x3F800000),
     (Prof.A1 3 + 32, 0x3F800000)], by unfold Admits; decide +kernel⟩,
   ⟨.host, 3, up [(Prof.PSTATE 3, 6), (Prof.ACT_A1 3 0, 0x3F800000), (Prof.ACT_A1 3 1, 0x3F800000), (Prof.ACT_A1 3 2, 0x3F800000), (Prof.ACT_A1 3 3,
     0x3F800000), (Prof.ACT_A1 3 4, 0x3F800000), (Prof.ACT_A1 3 5, 0x3F800000), (Prof.ACT_A1 3 6, 0x3F800000), (Prof.ACT_A1 3 7, 0x3F800000),
     (Prof.ACT_A1 3 8, 0x3F800000), (Prof.A1 3 + 0, 0x3F800000), (Prof.A1 3 + 4, 0x3F800000), (Prof.A1 3 + 8, 0x3F800000), (Prof.A1 3 + 12,
     0x3F800000), (Prof.A1 3 + 16, 0x3F800000), (Prof.A1 3 + 20, 0x3F800000), (Prof.A1 3 + 24, 0x3F800000), (Prof.A1 3 + 28, 0x3F800000),
     (Prof.A1 3 + 32, 0x3F800000)], by unfold Admits; decide +kernel⟩,
   ⟨.host, 3, up [(Prof.PSTATE 3, 5), (Prof.ACT_A1 3 0, 0x3F800000), (Prof.ACT_A1 3 1, 0x3F800000), (Prof.ACT_A1 3 2, 0x3F800000), (Prof.ACT_A1 3 3,
     0x3F800000), (Prof.ACT_A1 3 4, 0x3F800000), (Prof.ACT_A1 3 5, 0x3F800000), (Prof.ACT_A1 3 6, 0x3F800000), (Prof.ACT_A1 3 7, 0x3F800000),
     (Prof.ACT_A1 3 8, 0x3F800000), (Prof.A1 3 + 0, 0x3F800000), (Prof.A1 3 + 4, 0x3F800000), (Prof.A1 3 + 8, 0x3F800000), (Prof.A1 3 + 12,
     0x3F800000), (Prof.A1 3 + 16, 0x3F800000), (Prof.A1 3 + 20, 0x3F800000), (Prof.A1 3 + 24, 0x3F800000), (Prof.A1 3 + 28, 0x3F800000),
     (Prof.A1 3 + 32, 0x3F800000)], by unfold Admits; decide +kernel⟩⟩

/-- The premises of ProfileTicksAndLull can be met. -/
theorem test_witness_ProfileTicksAndLull :
    (∃ (ch : Nat) (s : State), ch < 4 ∧ s.inService = true ∧ profState s ch ≠ 0) ∧
    (∃ (ch : Nat) (s : State) (x : Nat), ch < 4 ∧ (profOf s ch).dwellAt = some x ∧ lullCounts s ch = true) :=
  ⟨⟨3, up [(Prof.PSTATE 3, 7), (Prof.ACT_A1 3 0, 0x3F800000), (Prof.ACT_A1 3 1, 0x3F800000), (Prof.ACT_A1 3 2, 0x3F800000), (Prof.ACT_A1 3 3,
    0x3F800000), (Prof.ACT_A1 3 4, 0x3F800000), (Prof.ACT_A1 3 5, 0x3F800000), (Prof.ACT_A1 3 6, 0x3F800000), (Prof.ACT_A1 3 7, 0x3F800000),
    (Prof.ACT_A1 3 8, 0x3F800000), (Prof.A1 3 + 0, 0x3F800000), (Prof.A1 3 + 4, 0x3F800000), (Prof.A1 3 + 8, 0x3F800000), (Prof.A1 3 + 12,
    0x3F800000), (Prof.A1 3 + 16, 0x3F800000), (Prof.A1 3 + 20, 0x3F800000), (Prof.A1 3 + 24, 0x3F800000), (Prof.A1 3 + 28, 0x3F800000),
    (Prof.A1 3 + 32, 0x3F800000)], by decide +kernel⟩,
   ⟨3, putProf 3 { dwellAt := some 0 } { up [(Prof.PSTATE 3, 1), (Prof.ACT_A1 3 0, 0x3F800000), (Prof.ACT_A1 3 1, 0x3F800000), (Prof.ACT_A1 3 2, 0x3F800000), (Prof.ACT_A1 3 3, 0x3F800000), (Prof.ACT_A1 3 4, 0x3F800000), (Prof.ACT_A1 3 5, 0x3F800000), (Prof.ACT_A1 3 6, 0x3F800000), (Prof.ACT_A1 3 7, 0x3F800000), (Prof.ACT_A1 3 8, 0x3F800000), (Prof.A1 3 + 0, 0x3F800000), (Prof.A1 3 + 4, 0x3F800000), (Prof.A1 3 + 8, 0x3F800000), (Prof.A1 3 + 12, 0x3F800000), (Prof.A1 3 + 16, 0x3F800000), (Prof.A1 3 + 20, 0x3F800000), (Prof.A1 3 + 24, 0x3F800000), (Prof.A1 3 + 28, 0x3F800000), (Prof.A1 3 + 32, 0x3F800000), (Prof.PCFG 3, 2), (Prof.LULL_CFG 3, 0x10000), (Foc.MSTATE 0, 6), (Tb.TB_STAT 0, 1), (Prof.LULL_SPEED 3, 0x3F800000)] with srcs := [(0x402, { valid := true })] },
     0, by decide +kernel⟩⟩

/-- The premises of TimebasesStartRunAndStop can be met. -/
theorem test_witness_TimebasesStartRunAndStop :
    (∃ (port : Port) (v : Word) (s : State), Admits s port Tb.TB_START ∧ lockOpen s Tb.page = true ∧ s.pwm.staged = [] ∧ pwrState s ≠ 1 ∧
      s.rdB SecDbg.DBG_HSTAT 2 = false ∧ (∀ k ∈ maskBits 8 v, tbRun s k = false ∧ (tbDrives s k = true → s.rdB Bup.READY 5 = true) ∧
      tbLinkDown s k = false) ∧ coincidenceOk ((maskBits 8 v).foldl (fun u k => beginTb ((maskBits 8 v).headD 0) k u) s) = true) ∧
    (∃ (port : Port) (v : Word) (s : State), Admits s port Tb.TB_STOP ∧ bit v 8 = false) ∧
    (∃ (port : Port) (v : Word) (s : State), Admits s port Tb.TB_STOP ∧ bit v 8 = true ∧ s.pwm.staged = []) ∧
    (∃ (port : Port) (t : Nat) (v : Word) (s : State), t < 8 ∧ Admits s port (Tb.TB_SHIFT t) ∧ tbRun s t = true ∧ s.rdB (Tb.TB_STAT t) 2 = false ∧
      fld v 11 0 ≠ 0 ∧ coincidenceOk (putTb t { tbOf s t with shiftN := fld v 11 0 } s) = true) ∧
    (∃ (t : Nat) (s : State), t < 8 ∧ tbRun s t = true ∧ s.rdB (Tb.TB_STAT t) 1 = false) ∧
    (∃ (t : Nat) (s : State), t < 8 ∧ tbRun s t = true ∧ s.rdB (Tb.TB_STAT t) 1 = true ∧ s.pwm.staged = []) ∧
    (∃ (t : Nat) (s : State) (e : Int), t < 8 ∧ tbRun s t = true ∧ updInPeriod s t = some e) :=
  ⟨⟨.host, 0x80, ((up [(hLOCK Tb.page, 1), (Tb.TB_PRD 7, 1000)]).wrA (Tb.TB_PRD 7) 1000), by unfold Admits; decide +kernel⟩,
   ⟨.host, 0x80, ((up [(hLOCK Tb.page, 1), (Tb.TB_PRD 7, 1000), (Tb.TB_STAT 7, 1)]).wrA (Tb.TB_PRD 7) 1000), by unfold Admits; decide +kernel⟩,
   ⟨.host, 0x180, ((up [(hLOCK Tb.page, 1), (Tb.TB_PRD 7, 1000), (Tb.TB_STAT 7, 1)]).wrA (Tb.TB_PRD 7) 1000), by unfold Admits; decide +kernel⟩,
   ⟨.host, 7, 1, ((up [(hLOCK Tb.page, 1), (Tb.TB_PRD 7, 1000), (Tb.TB_STAT 7, 1)]).wrA (Tb.TB_PRD 7) 1000), by unfold Admits; decide +kernel⟩,
   ⟨7, ((up [(hLOCK Tb.page, 1), (Tb.TB_PRD 7, 1000), (Tb.TB_STAT 7, 1)]).wrA (Tb.TB_PRD 7) 1000), by decide +kernel⟩,
   ⟨7, ((up [(hLOCK Tb.page, 1), (Tb.TB_PRD 7, 1000), (Tb.TB_STAT 7, 3)]).wrA (Tb.TB_PRD 7) 1000), by decide +kernel⟩,
   ⟨7, putTb 7 { lastUpd := -1 } ((up [(hLOCK Tb.page, 1), (Tb.TB_PRD 7, 1000), (Tb.TB_STAT 7, 1)]).wrA (Tb.TB_PRD 7) 1000),
     (updInPeriod (putTb 7 { lastUpd := -1 } ((up [(hLOCK Tb.page, 1), (Tb.TB_PRD 7, 1000), (Tb.TB_STAT 7, 1)]).wrA (Tb.TB_PRD 7) 1000)) 7).getD 0,
     by decide +kernel⟩⟩

/-- The premises of SwitchesFollowEdgesAndForces can be met. -/
theorem test_witness_SwitchesFollowEdgesAndForces :
    (∃ (g : Nat) (x : Nat) (s : State) (e : Int), grpEn s g = true ∧ tbRun s (grpTb s g) = true ∧ nextEdge8 s g x = some e ∧ nextTest8 s g x = none) ∧
    (∃ (c : Nat) (s : State), c < 52 ∧ chPending s c = true ∧ (interlockClear s c).1 = true) ∧
    (∃ (g : Nat) (x : Nat) (s : State) (st : Nat), g < 6 ∧ x < 3 ∧ (legOf s g x).npTo = some st) ∧
    (∃ (port : Port) (c : Nat) (v : Word) (s : State), c < 52 ∧ Admits s port (Ch.CH_FORCE c) ∧ fld v 1 0 ≠ 3 ∧ (s.part = .sep9624 → 24 ≤ c → c < 36 →
      fld v 1 0 = 0) ∧ (fld v 1 0 = 2 → ∀ j ∈ interlockSet s c, lastForce s j ≠ 2) ∧ chanTb s c = none) ∧
    (∃ (port : Port) (c : Nat) (v : Word) (s : State) (tb : Nat) (st : Nat), c < 52 ∧ Admits s port (Ch.CH_FORCE c) ∧ fld v 1 0 ≠ 3 ∧
      (s.part = .sep9624 → 24 ≤ c → c < 36 → fld v 1 0 = 0) ∧ (fld v 1 0 = 2 → ∀ j ∈ interlockSet s c, lastForce s j ≠ 2) ∧ chanTb s c = some (tb,
      st) ∧ windowClosed s tb = false ∧ reloadCycle s tb = false) ∧
    (∃ (port : Port) (g : Nat) (s : State), g < 6 ∧ Admits s port (Grp.GRP_HOLD g) ∧ groupOwned s g = false ∧ windowClosed s (grpTb s g) = false ∧
      reloadCycle s (grpTb s g) = false) ∧
    (∃ (port : Port) (g : Nat) (s : State), g < 6 ∧ Admits s port (Grp.GRP_HOLD g) ∧ groupOwned s g = false ∧ windowClosed s (grpTb s g) = true) ∧
    (∃ (g : Nat) (x : Nat) (s : State) (i : Nat), (legOf s g x).oneAt = some i ∧ (g = 2 ∨ g = 3) ∧ grpMode s g = 2) :=
  ⟨⟨5, 0, putLeg 5 0 { c8 := some 4000, stX := 1 } ((up [(hLOCK Ch.page, 1), (hLOCK Grp.page, 1), (Tb.TB_STAT 0, 1), (Grp.GRP_CFG 5, 0x80000000),
    (Grp.GRP_CFG 3, 0x80000200)]).wrA (Tb.TB_PRD 0) 1000), 4000, by decide +kernel⟩,
   ⟨51, ((up [(hLOCK Ch.page, 1), (hLOCK Grp.page, 1), (Tb.TB_STAT 0, 1), (Grp.GRP_CFG 5, 0x80000000), (Grp.GRP_CFG 3, 0x80000200), (Ch.CH_STAT 51,
     2)]).wrA (Tb.TB_PRD 0) 1000), by decide +kernel⟩,
   ⟨3, 2, putLeg 3 2 { npTo := some 2 } ((up [(hLOCK Ch.page, 1), (hLOCK Grp.page, 1), (Tb.TB_STAT 0, 1), (Grp.GRP_CFG 5, 0x80000000), (Grp.GRP_CFG 3,
     0x80000200)]).wrA (Tb.TB_PRD 0) 1000), 2, by decide +kernel⟩,
   ⟨.host, 51, 2, up [(hLOCK Ch.page, 1)], by unfold Admits; decide +kernel⟩,
   ⟨.host, 51, 1, { ((up [(hLOCK Ch.page, 1), (hLOCK Grp.page, 1), (Tb.TB_STAT 0, 1), (Grp.GRP_CFG 5, 0x80000000), (Grp.GRP_CFG 3, 0x80000200)]).wrA (Tb.TB_PRD 0) 1000) with now := 100 },
     0, Grp.GRP_STAT 5, by unfold Admits; decide +kernel⟩,
   ⟨.host, 5, { ((up [(hLOCK Ch.page, 1), (hLOCK Grp.page, 1), (Tb.TB_STAT 0, 1), (Grp.GRP_CFG 5, 0x80000000), (Grp.GRP_CFG 3, 0x80000200)]).wrA (Tb.TB_PRD 0) 1000) with now := 100 },
     by unfold Admits; decide +kernel⟩,
   ⟨.host, 5, putTb 0 { lastUpd := -9 } ((up [(hLOCK Ch.page, 1), (hLOCK Grp.page, 1), (Tb.TB_STAT 0, 1), (Grp.GRP_CFG 5, 0x80000000), (Grp.GRP_CFG 3,
     0x80000200)]).wrA (Tb.TB_PRD 0) 1000), by unfold Admits; decide +kernel⟩,
   ⟨3, 2, putLeg 3 2 { oneAt := some 5 } ((up [(hLOCK Ch.page, 1), (hLOCK Grp.page, 1), (Tb.TB_STAT 0, 1), (Grp.GRP_CFG 5, 0x80000000),
     (Grp.GRP_CFG 3, 0x80000200)]).wrA (Tb.TB_PRD 0) 1000), 5, by decide +kernel⟩⟩

/-- The premises of TripPinsShowFilterAndLatch can be met. -/
theorem test_witness_TripPinsShowFilterAndLatch :
    (∃ (k : Nat) (b : Bool) (s : State), k < 8 ∧ (tripOf s k).pin ≠ b) ∧
    (∃ (k : Nat) (b : Bool) (s : State), k < 8 ∧ (tripOf s k).pin = b) ∧
    (∃ (k : Nat) (s : State) (q : Nat × List (Nat × Bool)), k < 8 ∧
      tripHeld (s.rdF (Trip.TRIP_CFG0 k) 9 0) (tripOf s k).filt (tripOf s k).line = some q) ∧
    (∃ (port : Port) (k : Nat) (v : Word) (s : State), k < 8 ∧ Admits s port Trip.TRIP_CLR ∧ (∀ j ∈ maskBits 8 v,
      s.rdB Trip.TRIP_STAT (8 + j) = false)) ∧
    (∃ (port : Port) (k : Nat) (v : Word) (s : State), k < 8 ∧ Admits s port Trip.TRIP_CLR ∧ (∃ j ∈ maskBits 8 v,
      s.rdB Trip.TRIP_STAT (8 + j) = true)) :=
  ⟨⟨7, false, up [(hLOCK Trip.page, 1)], by decide +kernel⟩,
   ⟨7, true, up [(hLOCK Trip.page, 1)], by decide +kernel⟩,
   ⟨7, { up [] with pwm := { State.reset.pwm with trips := [(7, { line := [(0, false)] })] } }, (0, []), by decide +kernel⟩,
   ⟨.host, 7, 0x80, up [(hLOCK Trip.page, 1)], by unfold Admits; decide +kernel⟩,
   ⟨.host, 7, 0x80, up [(hLOCK Trip.page, 1), (Trip.TRIP_STAT, 0x8000)], by unfold Admits; decide +kernel⟩⟩

/-- The premises of SquallSourcesLatchAndClear can be met. -/
theorem test_witness_SquallSourcesLatchAndClear :
    (∃ (k : Nat) (n : Nat) (s : State) (above : Bool) (below : Bool) (i : Instr), k < 32 ∧
      above = (if s.rdB (ProtCmp.CMP_STAT k) 1 then decide (cmpLevel s (ProtCmp.CMP_HI k) ≤ n + 64) else decide (cmpLevel s (ProtCmp.CMP_HI k) < n)) ∧
      below = (if s.rdB (ProtCmp.CMP_STAT k) 2 then decide (n ≤ cmpLevel s (ProtCmp.CMP_LO k) + 64) else decide (n < cmpLevel s (ProtCmp.CMP_LO k))) ∧
      i ∈ [Instr.comparatorTrip k n, Instr.comparatorOutputReturn { k := k, code := n }]) ∧
    (∃ (port : Port) (b : Bool) (v : Word) (s : State), Admits s port (if b then ProtSrc.SRC_CLR1 else ProtSrc.SRC_CLR0) ∧ lockedOut s = false ∧
      (∀ j ∈ clrSources b v, causeActive s j = false)) ∧
    (∃ (port : Port) (b : Bool) (v : Word) (s : State), Admits s port (if b then ProtSrc.SRC_CLR1 else ProtSrc.SRC_CLR0) ∧ lockedOut s = false ∧
      (∃ j ∈ clrSources b v, causeActive s j = true)) ∧
    (∃ (n : Nat) (s : State) (l : Latch), n < 46 ∧ s.prot.lats.find? (fun l => decide (l.src = n)) = some l ∧ s.rdB (ProtSrc.SRC_CFG n) 2 = true ∧
      lockedOut s = false ∧ n ∉ s.prot.noRetry ∧ causeActive s n = false) ∧
    (∃ (port : Port) (s : State), Admits s port Prot.LOCKOUT_CLR ∧ lockOpen s Prot.page = true ∧ lockedOut s = true ∧ (∀ l ∈ s.prot.lats,
      causeActive s l.src = false)) :=
  ⟨⟨31, 45, { up [(hLOCK ProtSrc.page, 1), (hLOCK Prot.page, 1), (ProtCmp.CMP_HI 31, 0)] with prot := { State.reset.prot with lats := [{ src := 45, at_ := 0, objs := [], chans := [] }] } },
    true, false, .comparatorTrip 31 45, by decide +kernel⟩,
   ⟨.host, true, 0x2000, { up [(hLOCK ProtSrc.page, 1), (hLOCK Prot.page, 1), (ProtCmp.CMP_HI 31, 0)] with prot := { State.reset.prot with lats := [{ src := 45, at_ := 0, objs := [], chans := [] }] } },
     by unfold Admits; decide +kernel⟩,
   ⟨.host, false, 0x80000000, { up [(hLOCK ProtSrc.page, 1), (hLOCK Prot.page, 1), (ProtCmp.CMP_STAT 31, 1)] with prot := { State.reset.prot with lats := [{ src := 31, at_ := 0, objs := [], chans := [] }] } },
     by unfold Admits; decide +kernel⟩,
   ⟨45, { up [(hLOCK ProtSrc.page, 1), (hLOCK Prot.page, 1), (ProtSrc.SRC_CFG 45, 4)] with prot := { State.reset.prot with lats := [{ src := 45, at_ := 0, objs := [], chans := [] }] } }, { src := 45, at_ := 0, objs := [], chans := [] },
     by decide +kernel⟩,
   ⟨.host, { up [(hLOCK ProtSrc.page, 1), (hLOCK Prot.page, 1), (hSTATUS Prot.page, 4)] with prot := { State.reset.prot with lats := [{ src := 45, at_ := 0, objs := [], chans := [] }] } },
     by unfold Admits; decide +kernel⟩⟩

/-- The premises of LinkProtectionActsOnTheDcLink can be met. -/
theorem test_witness_LinkProtectionActsOnTheDcLink :
    (∃ (port : Port) (v : Word) (s : State), Admits s port Prot.CTRL ∧ bit v 0 = true ∧ s.rdB Prot.DCL_CFG 15 = true ∧
      (srcNow s (s.rdF Prot.DCL_CFG 11 0)).valid = true ∧ levelsOk (levels s) = true ∧ ((chopChans s).isEmpty = false →
      s.rdB Prot.CHOP_CFG 4 = true ∨ F.pos (s.rd Prot.CHOP_DV) = true) ∧ anyLatched s = false) ∧
    (∃ (port : Port) (v : Word) (s : State), Admits s port Prot.CTRL ∧ bit v 0 = false ∧ (∀ t, t < 8 → tbRun s t = false ∨ tbDrives s t = false)) ∧
    (∃ (s : State) (x : Nat), s.prot.chopAt = some x ∧ s.prot.chopSeen = false ∧ s.rdB Prot.CHOP_CFG 4 = true ∧ F.pos (s.rd Prot.CHOP_DV) = false) ∧
    (∃ (k : Nat) (s : State), k < 2 ∧ s.rdB Prot.CHOP_CFG 24 = true ∧ s.rdB Prot.CHOP_CFG k = true) ∧
    (∃ (k : Nat) (s : State), (s.rdB Prot.CHOP_CFG 24 = false ∨ ∀ j ∈ s.prot.chflt, j ≠ k → s.rdB Prot.CHOP_CFG j = false)) ∧
    (∃ (s : State) (x : Nat), s.prot.escAt = some x ∧ escalated s = true ∧ F.le (s.rd Prot.OV1_OFF) (dcl s).value = true) ∧
    (∃ (port : Port) (v : Word) (s : State), Admits s port Prot.ESC_CLR ∧ bit v 0 = true ∧ s.prot.chflt = [] ∧
      F.le (s.rd Prot.OV1_OFF) (dcl s).value = false) ∧
    (∃ (s : State), armed s = true) ∧
    (∃ (port : Port) (s : State), Admits s port Prot.DIS_CMD ∧ disAllowed s (s.rdF Prot.DIS_CFG 1 0) = true) ∧
    (∃ (port : Port) (s : State), Admits s port Prot.DIS_CMD ∧ discharging s = true) ∧
    (∃ (s : State), discharging s = true) ∧
    (∃ (s : State), s.rdB Prot.DIS_CFG 3 = true ∧ discharging s = false ∧ disAllowed s (s.rdF Prot.DIS_CFG 1 0) = true) :=
  ⟨⟨.host, 1, { up [(Prot.OV1_OFF, 0x3F800000), (Prot.OV1_ON, 0x40000000), (Prot.OV2, 0x40000000), (Prot.ESC_LVL, 0x40400000), (Prot.OV3, 0x40800000), (hLOCK Prot.page, 1), (Prot.DCL_CFG, 0x8700)] with srcs := [(0x700, { value := 0x3F800000, valid := true, at_ := 0 })], prot := { State.reset.prot with escAt := none } },
    by unfold Admits; decide +kernel⟩,
   ⟨.host, 0, { up [(Prot.OV1_OFF, 0x3F800000), (Prot.OV1_ON, 0x40000000), (Prot.OV2, 0x40000000), (Prot.ESC_LVL, 0x40400000), (Prot.OV3, 0x40800000), (hLOCK Prot.page, 1), (Prot.CTRL, 1)] with srcs := [(0x700, { value := 0x3F800000, valid := true, at_ := 0 })], prot := { State.reset.prot with escAt := none } },
     by unfold Admits; decide +kernel⟩,
   ⟨{ up [(Prot.OV1_OFF, 0x3F800000), (Prot.OV1_ON, 0x40000000), (Prot.OV2, 0x40000000), (Prot.ESC_LVL, 0x40400000), (Prot.OV3, 0x40800000), (hLOCK Prot.page, 1), (Prot.CHOP_CFG, 0x10)] with srcs := [(0x700, { value := 0x3F800000, valid := true, at_ := 0 })], prot := { State.reset.prot with chopAt := some 0 } },
     0, by decide +kernel⟩,
   ⟨1, { up [(Prot.OV1_OFF, 0x3F800000), (Prot.OV1_ON, 0x40000000), (Prot.OV2, 0x40000000), (Prot.ESC_LVL, 0x40400000), (Prot.OV3, 0x40800000), (hLOCK Prot.page, 1), (Prot.CHOP_CFG, 0x1000002)] with srcs := [(0x700, { value := 0x3F800000, valid := true, at_ := 0 })], prot := { State.reset.prot with escAt := none } },
     by decide +kernel⟩,
   ⟨1, { up [(Prot.OV1_OFF, 0x3F800000), (Prot.OV1_ON, 0x40000000), (Prot.OV2, 0x40000000), (Prot.ESC_LVL, 0x40400000), (Prot.OV3, 0x40800000), (hLOCK Prot.page, 1)] with srcs := [(0x700, { value := 0x3F800000, valid := true, at_ := 0 })], prot := { State.reset.prot with chflt := [1] } },
     by decide +kernel⟩,
   ⟨{ up [(Prot.OV1_OFF, 0x3F800000), (Prot.OV1_ON, 0x40000000), (Prot.OV2, 0x40000000), (Prot.ESC_LVL, 0x40400000), (Prot.OV3, 0x40800000), (hLOCK Prot.page, 1), (hSTATUS Prot.page, 0x20)] with srcs := [(0x700, { value := 0x3F800000, valid := true, at_ := 0 })], prot := { State.reset.prot with escAt := some 0 } },
     0, by decide +kernel⟩,
   ⟨.host, 1, { up [(Prot.OV1_OFF, 0x3F800000), (Prot.OV1_ON, 0x40000000), (Prot.OV2, 0x40000000), (Prot.ESC_LVL, 0x40400000), (Prot.OV3, 0x40800000), (hLOCK Prot.page, 1), (hSTATUS Prot.page, 0x70)] with srcs := [(0x700, { value := 0, valid := true, at_ := 0 })], prot := { State.reset.prot with escAt := none } },
     by unfold Admits; decide +kernel⟩,
   ⟨{ up [(Prot.OV1_OFF, 0x3F800000), (Prot.OV1_ON, 0x40000000), (Prot.OV2, 0x40000000), (Prot.ESC_LVL, 0x40400000), (Prot.OV3, 0x40800000), (hLOCK Prot.page, 1), (Prot.CTRL, 1)] with srcs := [(0x700, { value := 0x3F800000, valid := true, at_ := 0 })], prot := { State.reset.prot with escAt := none } },
     by decide +kernel⟩,
   ⟨.host, { up [(Prot.OV1_OFF, 0x3F800000), (Prot.OV1_ON, 0x40000000), (Prot.OV2, 0x40000000), (Prot.ESC_LVL, 0x40400000), (Prot.OV3, 0x40800000), (hLOCK Prot.page, 1), (Prot.DIS_CFG, 1)] with srcs := [(0x700, { value := 0x3F800000, valid := true, at_ := 0 })], prot := { State.reset.prot with escAt := none } },
     by unfold Admits; decide +kernel⟩,
   ⟨.host, { up [(Prot.OV1_OFF, 0x3F800000), (Prot.OV1_ON, 0x40000000), (Prot.OV2, 0x40000000), (Prot.ESC_LVL, 0x40400000), (Prot.OV3, 0x40800000), (hLOCK Prot.page, 1), (Prot.DIS_STAT, 1)] with srcs := [(0x700, { value := 0x3F800000, valid := true, at_ := 0 })], prot := { State.reset.prot with escAt := none } },
     by unfold Admits; decide +kernel⟩,
   ⟨{ up [(Prot.OV1_OFF, 0x3F800000), (Prot.OV1_ON, 0x40000000), (Prot.OV2, 0x40000000), (Prot.ESC_LVL, 0x40400000), (Prot.OV3, 0x40800000), (hLOCK Prot.page, 1), (Prot.DIS_STAT, 1)] with srcs := [(0x700, { value := 0x3F800000, valid := true, at_ := 0 })], prot := { State.reset.prot with escAt := none } },
     by decide +kernel⟩,
   ⟨{ up [(Prot.OV1_OFF, 0x3F800000), (Prot.OV1_ON, 0x40000000), (Prot.OV2, 0x40000000), (Prot.ESC_LVL, 0x40400000), (Prot.OV3, 0x40800000), (hLOCK Prot.page, 1), (Prot.DIS_CFG, 9)] with srcs := [(0x700, { value := 0x3F800000, valid := true, at_ := 0 })], prot := { State.reset.prot with escAt := none } },
     by decide +kernel⟩⟩

/-- The premises of GateLinksTrainAndReport can be met. -/
theorem test_witness_GateLinksTrainAndReport :
    (∃ (n : Nat), n < 36) ∧
    (∃ (n : Nat) (f : Nat) (rt : Nat) (s : State), (∀ a, (posOf s n).asked.find? (fun a => decide (a.seq = dSeq f)) = some a → a.idx = none) ∧
      n < 36 ∧ glState s n ≠ 0 ∧ uplinkGood s n f rt = true ∧ dType f = 0) ∧
    (∃ (n : Nat) (f : Nat) (rt : Nat) (s : State) (i : Instr), n < 36 ∧ (i = Instr.uplinkMissing n ∨ (i = Instr.uplinkFrame n f rt ∧
      uplinkGood s n f rt = false)) ∧ glState s n ≠ 0 ∧ (glState s n ≠ 3 ∨ (posOf s n).bad + 1 < 3)) ∧
    (∃ (n : Nat) (f : Nat) (rt : Nat) (s : State) (i : Instr), n < 36 ∧ (i = Instr.uplinkMissing n ∨ (i = Instr.uplinkFrame n f rt ∧
      uplinkGood s n f rt = false)) ∧ glState s n ≠ 0 ∧ glState s n = 3 ∧ 3 ≤ (posOf s n).bad + 1) ∧
    (∃ (port : Port) (n : Nat) (s : State), n < 36 ∧ Admits s port (GlPos.GL_CMD n) ∧ (s.part = .sep9624 → n < 24) ∧ glMode s n = 1 ∧
      glState s n ≠ 2 ∧ (chanIdle s n = true ∨ (chOf s n).gov = 1 ∨ (chOf s n).gov = 2)) ∧
    (∃ (port : Port) (n : Nat) (s : State), n < 36 ∧ Admits s port (GlPos.GL_CMD n) ∧ (chOf s n).gov ≠ 7 ∧ (glState s n = 3 ∨ glState s n = 4)) ∧
    (∃ (n : Nat) (s : State) (r : TrainRec) (d : Nat), n < 36 ∧ (posOf s n).train = some r ∧ glState s n = 2 ∧ r.retry = false ∧
      trainVerdict r = (none, d)) ∧
    (∃ (n : Nat) (s : State) (r : TrainRec) (c : Nat) (d : Nat), n < 36 ∧ (posOf s n).train = some r ∧ glState s n = 2 ∧ r.retry = false ∧
      trainVerdict r = (some c, d)) ∧
    (∃ (n : Nat) (l : Nat), n < 36 ∧ l < 6) :=
  ⟨⟨35, by decide +kernel⟩,
   ⟨35, (frameWith 0), 320, up [(hLOCK Gl.page, 1), (hLOCK GlPos.page, 1), (GlPos.GL_CFG 35, 1), (GlPos.GL_STAT 35, 3)],
     fun _ h => absurd h (ne_of_none (by decide +kernel)), by decide +kernel⟩,
   ⟨35, (frameWith 0), 320, up [(hLOCK Gl.page, 1), (hLOCK GlPos.page, 1), (GlPos.GL_CFG 35, 1), (GlPos.GL_STAT 35, 2)], .uplinkMissing 35,
     by decide +kernel⟩,
   ⟨35, (frameWith 0), 320, putPos 35 { bad := 2 } (up [(hLOCK Gl.page, 1), (hLOCK GlPos.page, 1), (GlPos.GL_CFG 35, 1), (GlPos.GL_STAT 35, 3)]),
     .uplinkMissing 35, by decide +kernel⟩,
   ⟨.host, 35, up [(hLOCK Gl.page, 1), (hLOCK GlPos.page, 1), (GlPos.GL_CFG 35, 1)], by unfold Admits; decide +kernel⟩,
   ⟨.host, 35, up [(hLOCK Gl.page, 1), (hLOCK GlPos.page, 1), (GlPos.GL_CFG 35, 1), (GlPos.GL_STAT 35, 4)], by unfold Admits; decide +kernel⟩,
   ⟨35, putPos 35 { train := some { at_ := 0, clear := false, good := 64, early := true, rts := [320], after := some false } } (up [(hLOCK Gl.page,
     1), (hLOCK GlPos.page, 1), (GlPos.GL_CFG 35, 1), (GlPos.GL_STAT 35,
     2)]), { at_ := 0, clear := false, good := 64, early := true, rts := [320], after := some false },
     (trainVerdict { at_ := 0, clear := false, good := 64, early := true, rts := [320], after := some false }).2, by decide +kernel⟩,
   ⟨35, putPos 35 { train := some { at_ := 0, clear := false } } (up [(hLOCK Gl.page, 1), (hLOCK GlPos.page, 1), (GlPos.GL_CFG 35, 1),
     (GlPos.GL_STAT 35, 2)]), { at_ := 0, clear := false }, 1, (trainVerdict { at_ := 0, clear := false }).2, by decide +kernel⟩,
   ⟨35, 5, by decide +kernel⟩⟩

/-- The premises of DriversJudgeFramesAndLatch can be met. -/
theorem test_witness_DriversJudgeFramesAndLatch :
    (∃ (n : Nat) (p : Nat) (f : Nat) (late : Bool) (s : State), p < 2 ∧ downGood (drvNow s n) p f late = true) ∧
    (∃ (n : Nat) (p : Nat) (f : Nat) (m : Nat) (late : Bool) (s : State) (i : Instr), p < 2 ∧
      (i = Instr.driverFrameMissing n p ∨ (i = Instr.driverDownlinkFrame n p f late m ∧ downGood (drvNow s n) p f late = false))) ∧
    (∃ (p : Nat), p < 2) ∧
    (∃ (n : Nat) (p : Nat) (s : State), p < 2 ∧ (drvOf s n).edges ≠ [] ∧ (drvOf s n).offAt = none ∧ (drvOf s n).pinWait = none) ∧
    (∃ (n : Nat) (p : Nat) (s : State), p < 2 ∧ (drvNow s n).phase = .holdover) ∧
    (∃ (n : Nat) (p : Nat) (s : State) (x : Nat), p < 2 ∧ (drvOf s n).pinWait = some x) :=
  ⟨⟨35, 1, (downFrame 2 1 0 0 0), false, up [], by decide +kernel⟩,
   ⟨35, 1, (downFrame 2 1 0 0 0), 0, false, up [], .driverFrameMissing 35 1, by decide +kernel⟩,
   ⟨1, by decide +kernel⟩,
   ⟨35, 1, putDrv 35 { edges := [(8, true)] } (up []), by decide +kernel⟩,
   ⟨35, 1, putDrv 35 { port0 := { phase := .holdover } } (up []), by decide +kernel⟩,
   ⟨35, 1, putDrv 35 { pinWait := some 0 } (up []), 0, by decide +kernel⟩⟩

/-- The premises of IslandTimersAndChecksStopTheGroups can be met. -/
theorem test_witness_IslandTimersAndChecksStopTheGroups :
    (∃ (s : State), s.isl.run = true ∧ s.isl.restart = none ∧ s.rdB SecDbg.DBG_HSTAT 3 = false) ∧
    (∃ (s : State), s.isl.run = true) ∧
    (∃ (s : State), s.isl.run = true ∧ s.isl.selfBad = false) ∧
    (∃ (s : State), s.isl.run = true ∧ s.isl.setExists = true ∧ cbCrc s s.committed = s.rd (Param.CB_CRC 0)) ∧
    (∃ (s : State), s.isl.run = true ∧ s.isl.setExists = true ∧ cbCrc s s.committed ≠ s.rd (Param.CB_CRC 0) ∧ s.isl.cbBad = false) ∧
    (∃ (s : State), s.isl.run = true ∧ s.isl.setExists = true) ∧
    (∃ (s : State), s.isl.run = true ∧ s.isl.setExists = true ∧ s.isl.paramBad = false) ∧
    (∃ (g : Nat) (s : State), g < 2 ∧ grpState s g = 1) ∧
    (∃ (g : Nat) (s : State) (x : Nat), (sgOf s g).stoDue = some x) ∧
    (∃ (g : Nat) (s : State), g < 2 ∧ grpState s g = 3 ∧ (sgOf s g).ascOk = false) ∧
    (∃ (k : Nat) (s : State), k < 4 ∧ s.isl.run = true ∧ parB s (SafeTg.TG_CFG k) 0 = true ∧ (tgOf s k).lost = false) ∧
    (∃ (k : Nat) (s : State) (p : TgCopy) (r : List TgCopy), (tgOf s k).held = p :: r) ∧
    (∃ (k : Nat) (carrier : Nat) (l : List Nat) (s : State), k < 4 ∧ s.isl.run = true ∧ parB s (SafeTg.TG_CFG k) 0 = true ∧ (tgOf s k).held = [] ∧
      carrier = par s (SafeTg.TG_CFG k) 6 4 ∧ copyOk s k 0 l = true) ∧
    (∃ (k : Nat) (carrier : Nat) (l : List Nat) (s : State), k < 4 ∧ s.isl.run = true ∧ parB s (SafeTg.TG_CFG k) 0 = true ∧ (tgOf s k).held = [] ∧
      carrier = par s (SafeTg.TG_CFG k) 6 4 ∧ copyOk s k 0 l = false) ∧
    (∃ (s : State), s.part = .sep9640 ∧ s.isl.run = true ∧ s.isl.tpNext = 0 ∧ tpHeld s = false ∧
      s.isl.tpTill + 800000 ≤ s.isl.tpPeriod + msCycles (par s SafeIn.TP_CFG 15 0)) ∧
    (∃ (k : Nat) (s : State), k < 16 ∧ par s Param.GUARD_PERIOD 15 0 ≠ 0 ∧ s.rdB (SafeIn.SI_STAT k) 5 = true) ∧
    (∃ (g : Nat) (s : State), sgEn s g = true ∧ par s (Param.PROOF_INT g) 15 0 ≠ 0) :=
  ⟨⟨{ up [] with isl := { State.reset.isl with run := true }, committed := [] }, by decide +kernel⟩,
   ⟨{ up [] with isl := { State.reset.isl with run := true }, committed := [] }, by decide +kernel⟩,
   ⟨{ up [] with isl := { State.reset.isl with run := true }, committed := [] }, by decide +kernel⟩,
   ⟨{ up [(Param.CB_CRC 0, cbCrc (up []) [])] with isl := { State.reset.isl with run := true, setExists := true }, committed := [] },
     by decide +kernel⟩,
   ⟨{ up [(Param.CB_CRC 0, cbCrc (up []) [] + 1)] with isl := { State.reset.isl with run := true, setExists := true }, committed := [] },
     by decide +kernel⟩,
   ⟨{ up [] with isl := { State.reset.isl with run := true, setExists := true }, committed := [] }, by decide +kernel⟩,
   ⟨{ up [] with isl := { State.reset.isl with run := true, setExists := true }, committed := [] }, by decide +kernel⟩,
   ⟨1, { up [(Safe.GRP_STATE, 0x10)] with isl := { State.reset.isl with run := true }, committed := [] }, by decide +kernel⟩,
   ⟨1, putSg 1 { stoDue := some 5 } ({ up [] with isl := { State.reset.isl with run := true }, committed := [] }), 5, by decide +kernel⟩,
   ⟨1, { up [(Safe.GRP_STATE, 0x30)] with isl := { State.reset.isl with run := true }, committed := [] }, by decide +kernel⟩,
   ⟨3, { up [] with isl := { State.reset.isl with run := true }, committed := [(SafeTg.TG_CFG 3, 0x1001)] }, by decide +kernel⟩,
   ⟨3, putTg 3 { held := [{ seq := 0, time := 0, data := [], copy := 0, at_ := 0 }] } ({ up [] with isl := { State.reset.isl with run := true }, committed := [] }), { seq := 0, time := 0, data := [], copy := 0, at_ := 0 },
     [], by decide +kernel⟩,
   ⟨3, 0, telegramBytes ({ up [] with isl := { State.reset.isl with run := true }, committed := [(SafeTg.TG_CFG 3, 0x1001)] }) 3 0 1 0 [0], { up [] with isl := { State.reset.isl with run := true }, committed := [(SafeTg.TG_CFG 3, 0x1001)] },
     by decide +kernel⟩,
   ⟨3, 0, [], { up [] with isl := { State.reset.isl with run := true }, committed := [(SafeTg.TG_CFG 3, 0x1001)] }, by decide +kernel⟩,
   ⟨{ { up [] with isl := { State.reset.isl with run := true, tpPeriod := 800000 }, committed := [] } with bu := { State.reset.bu with padHold := false } },
     by decide +kernel⟩,
   ⟨15, { up [(SafeIn.SI_STAT 15, 0x20)] with isl := { State.reset.isl with run := true }, committed := [(Param.GUARD_PERIOD, 1)] },
     by decide +kernel⟩,
   ⟨1, { up [] with isl := { State.reset.isl with run := true }, committed := [(Param.GCFG 1, 1), (Param.PROOF_INT 1, 1)] }, by decide +kernel⟩⟩

/-- The premises of IslandHostCommandsAndPassword can be met. -/
theorem test_witness_IslandHostCommandsAndPassword :
    (∃ (port : Port) (s : State), Admits s port Safe.HOST_DEMAND) ∧
    (∃ (port : Port) (v : Word) (s : State), Admits s port Safe.REL_CMD ∧ (∀ g, g < 2 → bit v g = true → grpState s g = 0 ∧
      parB s (Param.GCFG g) 2 = true ∧ canRelease s g = true)) ∧
    (∃ (port : Port) (s : State), Admits s port Safe.BRK_REQ) ∧
    (∃ (port : Port) (s : State), Admits s port Safe.LO_KEY ∧ inLockout s = true ∧ islandPersists s = false) ∧
    (∃ (s : State) (x : Nat), s.isl.keyAt = some x) ∧
    (∃ (port : Port) (len : Nat) (user : Nat) (s : State) (h : List Byte), Admits s port SafePw.PW_CMD ∧ s.isl.pwHash = some h ∧
      s.isl.pwBlock = none ∧ len ≤ 32 ∧ user < 65536 ∧ pwHashOf s.isl.pwSalt (pwEntered s len) = h) ∧
    (∃ (port : Port) (len : Nat) (user : Nat) (s : State) (h : List Byte), Admits s port SafePw.PW_CMD ∧ s.isl.pwHash = some h ∧
      s.isl.pwBlock = none ∧ len ≤ 32 ∧ user < 65536 ∧ pwHashOf s.isl.pwSalt (pwEntered s len) ≠ h) ∧
    (∃ (port : Port) (s : State), Admits s port SafePw.PW_CMD) ∧
    (∃ (port : Port) (len : Nat) (s : State), Admits s port SafePw.PW_CMD ∧ (s.isl.pwHash = none ∨ s.isl.session ≠ none) ∧ 8 ≤ len ∧ len ≤ 32 ∧
      (∀ c ∈ pwEntered s len, 0x21 ≤ c ∧ c ≤ 0x7E)) ∧
    (∃ (s : State), s.isl.session ≠ none) ∧
    (∃ (s : State) (x : Nat), s.isl.pwBlock = some x) ∧
    (∃ (port : Port) (s : State) (u : Nat), Admits s port Safe.PARAM_CMD ∧ s.rdF Sec.LC_STATE 1 0 ≠ 0 ∧ s.rdF Sec.LC_STATE 1 0 ≠ 3 ∧
      s.isl.session = some u ∧ s.isl.commitAt = none ∧ (∀ g, g < 2 → sgEn s g = true → grpState s g = 0) ∧ setOk s (editCopy s) = true) ∧
    (∃ (dt : Nat) (s : State) (x : Nat), s.isl.commitAt = some x ∧ s.now + dt ≤ x + 160000000) ∧
    (∃ (port : Port) (s : State), Admits s port Safe.PARAM_CMD ∧ s.isl.commitAt = none) :=
  ⟨⟨.host, { up [(hLOCK Safe.page, 1), (hLOCK SafePw.page, 1), (hLOCK (pageOf Safe.HOST_DEMAND), 1)] with isl := { State.reset.isl with run := true }, committed := [] },
    by unfold Admits; decide +kernel⟩,
   ⟨.host, 2, { up [(hLOCK Safe.page, 1), (hLOCK SafePw.page, 1), (hLOCK (pageOf Safe.HOST_DEMAND), 1), (Bup.READY, 0x1F)] with isl := { State.reset.isl with run := true, pwHash := some [], setExists := true }, committed := [(Param.GCFG 1, 5)] },
     by unfold Admits; decide +kernel⟩,
   ⟨.host, { up [(hLOCK Safe.page, 1), (hLOCK SafePw.page, 1), (hLOCK (pageOf Safe.HOST_DEMAND), 1)] with isl := { State.reset.isl with run := true }, committed := [] },
     by unfold Admits; decide +kernel⟩,
   ⟨.host, { up [(hLOCK Safe.page, 1), (hLOCK SafePw.page, 1), (hLOCK (pageOf Safe.HOST_DEMAND), 1), (Safe.LO_CAUSE, 1)] with isl := { State.reset.isl with run := true }, committed := [] },
     by unfold Admits; decide +kernel⟩,
   ⟨{ up [] with isl := { State.reset.isl with run := true, keyAt := some 5 }, committed := [] }, 5, by decide +kernel⟩,
   ⟨.host, 8, 65535, { up [(hLOCK Safe.page, 1), (hLOCK SafePw.page, 1), (hLOCK (pageOf Safe.HOST_DEMAND), 1), (SafePw.PW_BUF0 0, 0x41414141), (SafePw.PW_BUF0 1, 0x41414141), (SafePw.PW_BUF0 2, 0x41414141), (SafePw.PW_BUF0 3, 0x41414141), (SafePw.PW_BUF0 4, 0x41414141), (SafePw.PW_BUF0 5, 0x41414141), (SafePw.PW_BUF0 6, 0x41414141), (SafePw.PW_BUF0 7, 0x41414141)] with isl := { State.reset.isl with run := true, pwHash := some (pwHashOf [] [0x41, 0x41, 0x41, 0x41, 0x41, 0x41, 0x41, 0x41]) }, committed := [] },
     pwHashOf [] [0x41, 0x41, 0x41, 0x41, 0x41, 0x41, 0x41, 0x41], by unfold Admits; decide +kernel⟩,
   ⟨.host, 0, 65535, { up [(hLOCK Safe.page, 1), (hLOCK SafePw.page, 1), (hLOCK (pageOf Safe.HOST_DEMAND), 1)] with isl := { State.reset.isl with run := true, pwHash := some [] }, committed := [] },
     [], by unfold Admits; decide +kernel⟩,
   ⟨.host, { up [(hLOCK Safe.page, 1), (hLOCK SafePw.page, 1), (hLOCK (pageOf Safe.HOST_DEMAND), 1)] with isl := { State.reset.isl with run := true }, committed := [] },
     by unfold Admits; decide +kernel⟩,
   ⟨.host, 8, { up [(hLOCK Safe.page, 1), (hLOCK SafePw.page, 1), (hLOCK (pageOf Safe.HOST_DEMAND), 1), (SafePw.PW_BUF0 0, 0x41414141), (SafePw.PW_BUF0 1, 0x41414141), (SafePw.PW_BUF0 2, 0x41414141), (SafePw.PW_BUF0 3, 0x41414141), (SafePw.PW_BUF0 4, 0x41414141), (SafePw.PW_BUF0 5, 0x41414141), (SafePw.PW_BUF0 6, 0x41414141), (SafePw.PW_BUF0 7, 0x41414141)] with isl := { State.reset.isl with run := true }, committed := [] },
     by unfold Admits; decide +kernel⟩,
   ⟨{ up [] with isl := { State.reset.isl with run := true, session := some 1 }, committed := [] }, by decide +kernel⟩,
   ⟨{ up [] with isl := { State.reset.isl with run := true, pwBlock := some 5 }, committed := [] }, 5, by decide +kernel⟩,
   ⟨.host, { up [(hLOCK Safe.page, 1), (hLOCK SafePw.page, 1), (hLOCK (pageOf Safe.HOST_DEMAND), 1), (Sec.LC_STATE, 1)] with isl := { State.reset.isl with run := true, session := some 1 }, committed := [] },
     1, by unfold Admits; decide +kernel⟩,
   ⟨160000000, { up [] with isl := { State.reset.isl with run := true, commitAt := some 0 }, committed := [] }, 0, by decide +kernel⟩,
   ⟨.host, { up [(hLOCK Safe.page, 1), (hLOCK SafePw.page, 1), (hLOCK (pageOf Safe.HOST_DEMAND), 1)] with isl := { State.reset.isl with run := true }, committed := [] },
     by unfold Admits; decide +kernel⟩⟩

/-- The premises of ThermalRoundsRearmAndAcknowledge can be met. -/
theorem test_witness_ThermalRoundsRearmAndAcknowledge :
    (∃ (s : State), s.therm.run = true ∧ s.therm.slot < 96) ∧
    (∃ (s : State), s.therm.run = true ∧ s.therm.slot = 96) ∧
    (∃ (m : Nat) (s : State) (e : Nat × Nat), m < 4 ∧ s.therm.grace.find? (fun e => decide (e.1 = m)) = some e ∧ s.therm.run = false ∧
      thrBit s m = true) ∧
    (∃ (port : Port) (s : State), Admits s port Therm.REARM ∧ lockOpen s Therm.page = true ∧ thrBit s 12 = true ∧ s.rdB Therm.REARM_STAT 16 = true) ∧
    (∃ (port : Port) (v : Word) (s : State), Admits s port Therm.SD_ACK ∧ thrBit s 13 = true ∧ v = s.rd Therm.SD_SEQ) ∧
    (∃ (port : Port) (v : Word) (s : State), Admits s port Therm.SD_ACK ∧ (thrBit s 13 = false ∨ v ≠ s.rd Therm.SD_SEQ)) :=
  ⟨⟨{ up [(hLOCK Therm.page, 1)] with therm := { State.reset.therm with run := true, slot := 95 } }, by decide +kernel⟩,
   ⟨{ up [(hLOCK Therm.page, 1)] with therm := { State.reset.therm with run := true, slot := 96 } }, by decide +kernel⟩,
   ⟨3, { up [(hLOCK Therm.page, 1), (Therm.THR_STAT, 8)] with therm := { State.reset.therm with grace := [(3, 5)] } }, (3, 5), by decide +kernel⟩,
   ⟨.host, { up [(hLOCK Therm.page, 1), (Therm.THR_STAT, 0x1000), (Therm.REARM_STAT, 0x10000)] with therm := { State.reset.therm with run := false } },
     by unfold Admits; decide +kernel⟩,
   ⟨.host, 0, { up [(hLOCK Therm.page, 1), (Therm.THR_STAT, 0x2000)] with therm := { State.reset.therm with run := false } },
     by unfold Admits; decide +kernel⟩,
   ⟨.host, 0, { up [(hLOCK Therm.page, 1)] with therm := { State.reset.therm with run := false } }, by unfold Admits; decide +kernel⟩⟩

/-- The premises of SlotsKeepTheLinkAndMirrorRecords can be met. -/
theorem test_witness_SlotsKeepTheLinkAndMirrorRecords :
    (∃ (s : State), linkActive s = true ∧ s.twin.detach = false ∧ s.twin.takeAt = none) ∧
    (∃ (s : State), linkActive s = true ∧ s.twin.detach = true ∧ s.twin.before < 16) ∧
    (∃ (s : State), twinState s = 3 ∧ s.twin.detach = false ∧ (∃ x ∈ s.twin.takeAt, x ≤ s.now)) ∧
    (∃ (b : List Nat) (commas : Bool) (s : State), linkActive s = true ∧ slotGood s commas b = true) ∧
    (∃ (b : List Nat) (commas : Bool) (irq : Bool) (s : State) (i : Instr), (i = Instr.slotMissing ∨ (i = Instr.slotReceived commas b irq ∧
      slotGood s commas b = false)) ∧ linkActive s = true ∧ s.twin.bad ≠ 1) ∧
    (∃ (b : List Nat) (commas : Bool) (irq : Bool) (s : State) (i : Instr), (i = Instr.slotMissing ∨ (i = Instr.slotReceived commas b irq ∧
      slotGood s commas b = false)) ∧ linkActive s = true ∧ s.twin.bad = 1) ∧
    (∃ (s : State), linkUp s = true) ∧
    (∃ (s : State), twinState s = 3) ∧
    (∃ (body : List Nat) (age : Nat) (s : State) (i : Instr), twinState s = 3 ∧ i ∈ [Instr.ctxMirror body age true, Instr.machMirror body age true,
      Instr.profMirror body age true, Instr.grpMirror body age true]) :=
  ⟨⟨{ up [(Twin.STATE, 0x10003)] with twin := { State.reset.twin with bad := 0 } }, by decide +kernel⟩,
   ⟨{ up [(Twin.STATE, 0x10003)] with twin := { State.reset.twin with detach := true } }, by decide +kernel⟩,
   ⟨{ up [(Twin.STATE, 0x10003)] with twin := { State.reset.twin with takeAt := some 0, passive := true } }, by decide +kernel⟩,
   ⟨((((List.range 74).set 0 0).set 1 0x10) ++ bytes4 (Crc.crc32c (((List.range 74).set 0 0).set 1 0x10))),
     true, { up [(Twin.STATE, 0x10003)] with twin := { State.reset.twin with bad := 0 } }, by decide +kernel⟩,
   ⟨((((List.range 74).set 0 0).set 1 0x10) ++ bytes4 (Crc.crc32c (((List.range 74).set 0 0).set 1 0x10))), true,
     false, { up [(Twin.STATE, 0x10003)] with twin := { State.reset.twin with bad := 0 } }, .slotMissing, by decide +kernel⟩,
   ⟨((((List.range 74).set 0 0).set 1 0x10) ++ bytes4 (Crc.crc32c (((List.range 74).set 0 0).set 1 0x10))), true,
     false, { up [(Twin.STATE, 0x10003)] with twin := { State.reset.twin with bad := 1 } }, .slotMissing, by decide +kernel⟩,
   ⟨{ up [(Twin.STATE, 0x10003)] with twin := { State.reset.twin with bad := 0 } }, by decide +kernel⟩,
   ⟨{ up [(Twin.STATE, 0x10003)] with twin := { State.reset.twin with bad := 0 } }, by decide +kernel⟩,
   ⟨(List.range 40), 0, { up [(Twin.STATE, 0x10003)] with twin := { State.reset.twin with bad := 0 } }, .ctxMirror (List.range 40) 0 true,
     by decide +kernel⟩⟩

/-- The premises of LinkMessagesAreAppliedOnceAndAnswered can be met. -/
theorem test_witness_LinkMessagesAreAppliedOnceAndAnswered :
    (∃ (body : List Nat) (q : Nat) (s : State), q = bytesNat (body.take 2) ∧ linkServes s = true ∧ answered s q = none) ∧
    (∃ (body : List Nat) (q : Nat) (s : State), q = bytesNat (body.take 2) ∧ linkServes s = true ∧ answered s q = none ∧ body.getD 2 0 = 0) ∧
    (∃ (body : List Nat) (q : Nat) (s : State) (m : TwinMsg), q = bytesNat (body.take 2) ∧ linkServes s = true ∧ answered s q = some m) ∧
    (∃ (body : List Nat) (q : Nat) (s : State), q = bytesNat (body.take 2) ∧ linkServes s = true ∧ answered s q = none) ∧
    (∃ (body : List Nat) (q : Nat) (s : State) (m : TwinMsg), q = bytesNat (body.take 2) ∧ waitsFor s 6 q = some m) ∧
    (∃ (body : List Nat) (q : Nat) (s : State) (m : TwinMsg), q = bytesNat (body.take 2) ∧ waitsFor s 5 q = some m ∧ m.fwd = true ∧ m.copy = false ∧
      body.getD 2 0 = 0) ∧
    (∃ (body : List Nat) (q : Nat) (s : State) (m : TwinMsg) (k : Nat), q = bytesNat (body.take 2) ∧ waitsFor s 5 q = some m ∧ m.fwd = false ∧
      m.dma = some k) ∧
    (∃ (body : List Nat) (q : Nat) (s : State) (m : TwinMsg), q = bytesNat (body.take 2) ∧
      s.twin.asked.find? (fun m => decide (m.mseq = q)) = some m ∧ (∀ x ∈ s.twin.queue, x.mseq = q → x.kind ≠ 5 ∧ x.kind ≠ 6)) :=
  ⟨⟨[0, 1, 0], 1, { up [(Twin.STATE, 0x10002)] with twin := { State.reset.twin with bad := 0 } }, by decide +kernel⟩,
   ⟨[0, 1, 0], 1, { up [(Twin.STATE, 0x10002)] with twin := { State.reset.twin with bad := 0 } }, by decide +kernel⟩,
   ⟨[0, 1, 0], 1, { up [(Twin.STATE, 0x10002)] with twin := { State.reset.twin with done := [(1, { kind := 8, bulk := [], mseq := 1 })] } }, { kind := 8, bulk := [], mseq := 1 },
     by decide +kernel⟩,
   ⟨[0, 1, 0, 0, 0, 1], 1, { up [(Twin.STATE, 0x10002)] with twin := { State.reset.twin with bad := 0 } }, by decide +kernel⟩,
   ⟨[0, 1, 0], 1, { up [(Twin.STATE, 0x10002)] with twin := { State.reset.twin with asked := [{ kind := 6, bulk := [], mseq := 1 }] } }, { kind := 6, bulk := [], mseq := 1 },
     by decide +kernel⟩,
   ⟨[0, 1, 0], 1, { up [(Twin.STATE, 0x10002)] with twin := { State.reset.twin with asked := [{ kind := 5, bulk := [], mseq := 1, fwd := true }] } }, { kind := 5, bulk := [], mseq := 1, fwd := true },
     by decide +kernel⟩,
   ⟨[0, 1, 0], 1, { up [(Twin.STATE, 0x10002)] with twin := { State.reset.twin with asked := [{ kind := 5, bulk := [], mseq := 1, dma := some 15 }] } }, { kind := 5, bulk := [], mseq := 1, dma := some 15 },
     15, by decide +kernel⟩,
   ⟨[0, 1, 0], 1, { up [(Twin.STATE, 0x10002)] with twin := { State.reset.twin with asked := [{ kind := 5, bulk := [], mseq := 1 }] } }, { kind := 5, bulk := [], mseq := 1 },
     by decide +kernel⟩⟩

/-- The premises of PairingCommandsMoveTheTwinState can be met. -/
theorem test_witness_PairingCommandsMoveTheTwinState :
    (∃ (port : Port) (s : State), Admits s port Twin.CMD ∧ (twinState s = 0 ∨ twinState s = 6)) ∧
    (∃ (port : Port) (s : State), Admits s port Twin.CMD ∧ twinState s ≠ 0 ∧ ((twinState s = 4 ∨ twinState s = 5) → anyTbRun s = false ∧
      s.twin.peerRuns = false)) ∧
    (∃ (port : Port) (s : State), Admits s port Twin.CMD ∧ twinState s = 2 ∧ s.rdB Twin.STATE 18 = true ∧ s.twin.swap = none) ∧
    (∃ (port : Port) (s : State), Admits s port Twin.CMD ∧ twinState s = 2 ∧ port ≠ .twin) ∧
    (∃ (port : Port) (s : State), Admits s port Twin.CMD ∧ (twinState s = 0 ∨ twinState s = 6) ∧ s.twin.recover = true) ∧
    (∃ (s : State), twinState s = 1 ∧ s.twin.step < 2 ∧ s.twin.before < 16) ∧
    (∃ (body : List Nat) (s : State), body.getD 2 0 % 16 ≠ 3 ∧ twinState s = 0) ∧
    (∃ (body : List Nat) (skew : Int) (tbs : List (Nat × Nat)) (s : State) (c : Nat), body.getD 2 0 % 16 ≠ 3 ∧ twinState s = 1 ∧ s.twin.step = 1 ∧
      s.twin.before < 16 ∧ helloFault body skew (!tbs.isEmpty) (s.wrF Twin.PEER 15 0 (bytesNat (body.take 2))) = some c) ∧
    (∃ (body : List Nat) (skew : Int) (tbs : List (Nat × Nat)) (s : State), body.getD 2 0 % 16 ≠ 3 ∧ twinState s = 1 ∧ s.twin.step = 1 ∧
      twinMode s = 2 ∧ helloFault body skew (!tbs.isEmpty) (s.wrF Twin.PEER 15 0 (bytesNat (body.take 2))) = none) ∧
    (∃ (s : State) (x : Nat), s.twin.offer = some x) ∧
    (∃ (s : State) (x : Nat), s.twin.tookAt = some x) ∧
    (∃ (port : Port) (s : State), Admits s port Twin.TB_SYNC ∧ port ≠ .twin ∧ pwrState s ≠ 1 ∧ s.rdB SecDbg.DBG_HSTAT 2 = false ∧ twinState s = 4 ∧
      lockOpen s Tb.page = false) ∧
    (∃ (port : Port) (v : Word) (s : State), Admits s port Twin.TB_SYNC ∧ port ≠ .twin ∧ pwrState s ≠ 1 ∧ s.rdB SecDbg.DBG_HSTAT 2 = false ∧
      twinState s = 4 ∧ lockOpen s Tb.page = true ∧ fld v 7 0 = 0) ∧
    (∃ (port : Port) (v : Word) (s : State), Admits s port Twin.TB_SYNC ∧ port ≠ .twin ∧ pwrState s ≠ 1 ∧ s.rdB SecDbg.DBG_HSTAT 2 = false ∧
      twinState s = 4 ∧ lockOpen s Tb.page = true ∧ s.pwm.staged = [] ∧ (tbStartWrite (word (fld v 7 0)) { s with now := s.now + 1600 }).2 = .none) :=
  ⟨⟨.host, { up [(Twin.STATE, 0)] with twin := { State.reset.twin with bad := 0 } }, by unfold Admits; decide +kernel⟩,
   ⟨.host, { up [(Twin.STATE, 0x10005)] with twin := { State.reset.twin with bad := 0 } }, by unfold Admits; decide +kernel⟩,
   ⟨.host, { up [(Twin.STATE, 0x50002)] with twin := { State.reset.twin with bad := 0 } }, by unfold Admits; decide +kernel⟩,
   ⟨.host, { up [(Twin.STATE, 0x10002)] with twin := { State.reset.twin with bad := 0 } }, by unfold Admits; decide +kernel⟩,
   ⟨.host, { up [(Twin.STATE, 0x6)] with twin := { State.reset.twin with recover := true } }, by unfold Admits; decide +kernel⟩,
   ⟨{ up [(Twin.STATE, 0x10001)] with twin := { State.reset.twin with bad := 0 } }, by decide +kernel⟩,
   ⟨([0x96, 0x40, 2] ++ List.replicate 20 0), { up [(Twin.STATE, 0)] with twin := { State.reset.twin with bad := 0 } }, by decide +kernel⟩,
   ⟨[0, 0, 0], 0, [], { up [(Twin.STATE, 0x10001)] with twin := { State.reset.twin with step := 1 } }, 2, by decide +kernel⟩,
   ⟨(bytes2 (partNum State.reset) ++ [2] ++ List.replicate 20 0), 0,
     [], { up [(Twin.STATE, 0x10001), (Twin.CFG, 0x12)] with twin := { State.reset.twin with step := 1 } }, by decide +kernel⟩,
   ⟨{ up [(Twin.STATE, 0x10002)] with twin := { State.reset.twin with offer := some 0 } }, 0, by decide +kernel⟩,
   ⟨{ up [(Twin.STATE, 0x10002)] with twin := { State.reset.twin with tookAt := some 0 } }, 0, by decide +kernel⟩,
   ⟨.host, { up [(Twin.STATE, 0x10004), (hLOCK Twin.page, 1)] with twin := { State.reset.twin with bad := 0 } }, by unfold Admits; decide +kernel⟩,
   ⟨.host, 0, { up [(Twin.STATE, 0x10004), (hLOCK Twin.page, 1), (hLOCK Tb.page, 1)] with twin := { State.reset.twin with bad := 0 } },
     by unfold Admits; decide +kernel⟩,
   ⟨.host, 0x80, { up [(Twin.STATE, 0x10004), (hLOCK Twin.page, 1), (hLOCK Tb.page, 1)] with twin := { State.reset.twin with bad := 0 } },
     by unfold Admits; decide +kernel⟩⟩

/-- The premises of CanFramesLandInTheirObjects can be met. -/
theorem test_witness_CanFramesLandInTheirObjects :
    (∃ (ch : Nat) (s : State), ch < 4 ∧ (s.rdB (Can.CTRL ch) 0 = false ∨ s.rdF (Can.ECR ch) 17 16 = 2)) ∧
    (∃ (ch : Nat) (f : CanFrame) (s : State), ch < 4 ∧ s.rdB (Can.CTRL ch) 0 = true ∧ s.rdF (Can.ECR ch) 17 16 ≠ 2 ∧ (∀ o < 128,
      headTakes s ch o f = false)) ∧
    (∃ (ch : Nat) (f : CanFrame) (s : State) (h : Nat), ch < 4 ∧ s.rdB (Can.CTRL ch) 0 = true ∧ s.rdF (Can.ECR ch) 17 16 ≠ 2 ∧ h < 128 ∧
      headTakes s ch h f = true ∧ (∀ o < h, headTakes s ch o f = false) ∧ s.rdF (Obj.OBJ_CFG (objOf ch h)) 30 24 = 1 ∧ objMode s ch h = 1 ∧
      objOwn s ch h = false) ∧
    (∃ (port : Port) (ch : Nat) (s : State), ch < 4 ∧ Admits s port (Can.RECOVER ch) ∧ s.rdF (Can.ECR ch) 17 16 = 2) ∧
    (∃ (ch : Nat) (s : State), ch < 4 ∧ s.rdF (Can.ECR ch) 17 16 = 2 ∧ ((canOf s ch).recover = true ∨ s.rdB (Can.CTRL ch) 3 = true)) :=
  ⟨⟨3, up [], by decide +kernel⟩,
   ⟨3, { id := 5, xtd := false, rtr := false, fdf := false, brs := false, esi := false, dlc := 8, data := [1, 2] }, up [(Can.CTRL 3, 1)],
     by decide +kernel⟩,
   ⟨3, { id := 5, xtd := false, rtr := false, fdf := false, brs := false, esi := false, dlc := 8, data := [1, 2] }, up [(Can.CTRL 3, 1),
     (Obj.OBJ_CFG (objOf 3 127), 0x1000001), (Obj.OBJ_STAT (objOf 3 127), 0)], 127, by decide +kernel⟩,
   ⟨.host, 3, up [(Can.ECR 3, 0x20000)], by unfold Admits; decide +kernel⟩,
   ⟨3, up [(Can.ECR 3, 0x20000), (Can.CTRL 3, 9)], by decide +kernel⟩⟩

/-- The premises of CanTransmissionsEndWithTheirResult can be met. -/
theorem test_witness_CanTransmissionsEndWithTheirResult :
    (∃ (ch : Nat) (o : Nat) (s : State), ch < 4 ∧ o < 128 ∧ (canOf s ch).onBus = some o ∧ objMode s ch o = 2) ∧
    (∃ (ch : Nat) (o : Nat) (s : State), ch < 4 ∧ o < 128 ∧ (canOf s ch).onBus = some o ∧ (canOf s ch).abort = false) ∧
    (∃ (ch : Nat) (o : Nat) (lec : Nat) (s : State), ch < 4 ∧ o < 128 ∧ (canOf s ch).onBus = some o ∧ s.rdF (Can.ECR ch) 7 0 + 8 ≤ 255 ∧
      (lec ≠ 3 ∨ s.rdF (Can.ECR ch) 17 16 ≠ 1)) ∧
    (∃ (port : Port) (ch : Nat) (o : Nat) (s : State), ch < 4 ∧ o < 128 ∧ Admits s port (Obj.OBJ_CMD (objOf ch o)) ∧
      (objMode s ch o = 1 ∨ objMode s ch o = 3)) ∧
    (∃ (port : Port) (ch : Nat) (o : Nat) (s : State), ch < 4 ∧ o < 128 ∧ Admits s port (Obj.OBJ_CMD (objOf ch o)) ∧ objMode s ch o = 2 ∧
      objOwn s ch o = true) ∧
    (∃ (port : Port) (ch : Nat) (o : Nat) (s : State), ch < 4 ∧ o < 128 ∧ Admits s port (Obj.OBJ_CMD (objOf ch o)) ∧ objPending s ch o = true ∧
      (canOf s ch).onBus ≠ some o) ∧
    (∃ (port : Port) (ch : Nat) (o : Nat) (s : State), ch < 4 ∧ o < 128 ∧ Admits s port (Obj.OBJ_CMD (objOf ch o)) ∧ objPending s ch o = true ∧
      (canOf s ch).onBus = some o) ∧
    (∃ (port : Port) (ch : Nat) (o : Nat) (s : State), ch < 4 ∧ o < 128 ∧ Admits s port (Obj.OBJ_CMD (objOf ch o)) ∧ objMode s ch o = 3 ∧
      objPending s ch o = false) ∧
    (∃ (port : Port) (ch : Nat) (o : Nat) (v : Word) (s : State), ch < 4 ∧ o < 128 ∧ Admits s port (Can.CTRL ch) ∧ s.rdB (Can.CTRL ch) 0 = true ∧
      bit v 2 = s.rdB (Can.CTRL ch) 2 ∧ (bit v 2 = true → 320 ≤ nomCycles (s.rd (Can.NBT ch)))) :=
  ⟨⟨3, 127, putCan 3 { onBus := some 127 } (up [(Can.CTRL 3, 1), (Obj.OBJ_CFG (objOf 3 127), 2), (Obj.OBJ_STAT (objOf 3 127), 2), (Can.ECR 3, 5)]),
    by decide +kernel⟩,
   ⟨3, 127, putCan 3 { onBus := some 127 } (up [(Can.CTRL 3, 1), (Obj.OBJ_CFG (objOf 3 127), 2), (Obj.OBJ_STAT (objOf 3 127), 2)]),
     by decide +kernel⟩,
   ⟨3, 127, 5, putCan 3 { onBus := some 127, abort := true } (up [(Can.CTRL 3, 1), (Obj.OBJ_CFG (objOf 3 127), 2), (Obj.OBJ_STAT (objOf 3 127), 2),
     (Can.ECR 3, 247)]), by decide +kernel⟩,
   ⟨.host, 3, 127, putCan 3 {} (up [(Can.CTRL 3, 1), (Obj.OBJ_CFG (objOf 3 127), 3), (Obj.OBJ_STAT (objOf 3 127), 1)]),
     by unfold Admits; decide +kernel⟩,
   ⟨.host, 3, 127, putCan 3 {} (up [(Can.CTRL 3, 1), (Obj.OBJ_CFG (objOf 3 127), 2), (Obj.OBJ_STAT (objOf 3 127), 1)]),
     by unfold Admits; decide +kernel⟩,
   ⟨.host, 3, 127, putCan 3 {} (up [(Can.CTRL 3, 1), (Obj.OBJ_CFG (objOf 3 127), 2), (Obj.OBJ_STAT (objOf 3 127), 2)]),
     by unfold Admits; decide +kernel⟩,
   ⟨.host, 3, 127, putCan 3 { onBus := some 127 } (up [(Can.CTRL 3, 1), (Obj.OBJ_CFG (objOf 3 127), 2), (Obj.OBJ_STAT (objOf 3 127), 2)]),
     by unfold Admits; decide +kernel⟩,
   ⟨.host, 3, 127, putCan 3 {} (up [(Can.CTRL 3, 1), (Obj.OBJ_CFG (objOf 3 127), 3), (Obj.OBJ_STAT (objOf 3 127), 0)]),
     by unfold Admits; decide +kernel⟩,
   ⟨.host, 3, 127, 0, putCan 3 { onBus := some 127 } (up [(Can.CTRL 3, 1), (hLOCK (Can.page 3), 1), (Obj.OBJ_CFG (objOf 3 127), 2),
     (Obj.OBJ_STAT (objOf 3 127), 2), (Obj.OBJ_CFG (objOf 3 0), 2), (Obj.OBJ_STAT (objOf 3 0), 2)]), by unfold Admits; decide +kernel⟩⟩

/-- The premises of EthernetSlotsFillAndEmpty can be met. -/
theorem test_witness_EthernetSlotsFillAndEmpty :
    (∃ (m : Nat) (i : Nat) (s : State), m < 2 ∧ i < 8 ∧ s.rdB (Mac.CTRL m) 0 = true) ∧
    (∃ (m : Nat) (i : Nat) (l : List Nat) (s : State), m < 2 ∧ i < 8 ∧ s.rdB (Mac.CTRL m) 0 = true ∧ 60 ≤ l.length ∧ l.length ≤ 1514 ∧
      (l.drop 12).take 2 ≠ [0x81, 0x00] ∧ bytesNat ((l.drop 12).take 2) ≠ 0x8808 ∧ bytesNat ((l.drop 12).take 2) ≠ 0x88B5 ∧ addrOk s m l = true ∧
      (filterOf s m (bytesNat ((l.drop 12).take 2)) none).isSome = true ∧ (macOf s m).rxNext % 8 = i ∧ s.rdB (EthRx.SLOT_STAT m i) 0 = false) ∧
    (∃ (m : Nat) (i : Nat) (s : State), m < 2 ∧ i < 8 ∧ s.rdB (Mac.CTRL m) 0 = true ∧ s.rdB (EthTx.SLOT_STAT m i) 1 = true) ∧
    (∃ (port : Port) (m : Nat) (i : Nat) (s : State), m < 2 ∧ i < 8 ∧ Admits s port (EthRx.SLOT_CMD m i)) ∧
    (∃ (port : Port) (m : Nat) (i : Nat) (s : State), m < 2 ∧ i < 8 ∧ Admits s port (EthTx.SLOT_CMD m i) ∧ s.rdB (EthTx.SLOT_CFG m i) 0 = true) ∧
    (∃ (port : Port) (m : Nat) (i : Nat) (s : State), m < 2 ∧ i < 8 ∧ Admits s port (EthTx.SLOT_CMD m i) ∧ s.rdB (EthTx.SLOT_CFG m i) 0 = false ∧
      s.rdB (EthTx.SLOT_STAT m i) 0 = true) ∧
    (∃ (port : Port) (m : Nat) (i : Nat) (s : State), m < 2 ∧ i < 8 ∧ Admits s port (EthTx.SLOT_CMD m i) ∧ s.rdB (EthTx.SLOT_STAT m i) 1 = true) ∧
    (∃ (port : Port) (m : Nat) (i : Nat) (s : State), m < 2 ∧ i < 8 ∧ Admits s port (EthTx.SLOT_CMD m i) ∧ s.rdB (EthTx.SLOT_CFG m i) 0 = true ∧
      s.rdB (EthTx.SLOT_STAT m i) 1 = false) ∧
    (∃ (port : Port) (m : Nat) (i : Nat) (s : State), m < 2 ∧ i < 8 ∧ Admits s port (Mac.MDIO_CMD m) ∧ s.rdB (Mac.MDIO_STAT m) 0 = false) ∧
    (∃ (m : Nat) (i : Nat) (s : State), m < 2 ∧ i < 8 ∧ s.rdB (Mac.MDIO_STAT m) 0 = true) :=
  ⟨⟨1, 7, up [(Mac.CTRL 1, 1)], by decide +kernel⟩,
   ⟨1, 7, (List.replicate 6 255 ++ List.replicate 6 1 ++ [8, 0] ++ List.replicate 46 7), putMac 1 { rxNext := 7 } (up [(Mac.CTRL 1, 1),
     (Mac.RX_FILT0 1 3, 0x10800), (EthRx.SLOT_STAT 1 7, 0)]), by decide +kernel⟩,
   ⟨1, 7, up [(Mac.CTRL 1, 1), (EthTx.SLOT_STAT 1 7, 2)], by decide +kernel⟩,
   ⟨.host, 1, 7, up [(EthRx.SLOT_STAT 1 7, 1)], by unfold Admits; decide +kernel⟩,
   ⟨.host, 1, 7, up [(EthTx.SLOT_CFG 1 7, 1), (EthTx.SLOT_STAT 1 7, 1)], by unfold Admits; decide +kernel⟩,
   ⟨.host, 1, 7, up [(EthTx.SLOT_STAT 1 7, 1)], by unfold Admits; decide +kernel⟩,
   ⟨.host, 1, 7, up [(EthTx.SLOT_STAT 1 7, 2)], by unfold Admits; decide +kernel⟩,
   ⟨.host, 1, 7, up [(EthTx.SLOT_CFG 1 7, 1), (EthTx.SLOT_STAT 1 7, 0)], by unfold Admits; decide +kernel⟩,
   ⟨.host, 1, 7, up [(Mac.CTRL 1, 1)], by unfold Admits; decide +kernel⟩,
   ⟨1, 7, putMac 1 { mdioRead := true } (up [(Mac.MDIO_STAT 1, 1)]), by decide +kernel⟩⟩

/-- The premises of PtpClockStepsAndPublicationsFallDue can be met. -/
theorem test_witness_PtpClockStepsAndPublicationsFallDue :
    (∃ (port : Port) (e : Nat) (s : State), e < 16 ∧ Admits s port Ptp.PTP_STEP_S) ∧
    (∃ (e : Nat) (s : State), e < 16 ∧ busyPage s Ptp.page = false) ∧
    (∃ (e : Nat) (moved : Nat) (s : State), e < 16 ∧ s.rdB (Pub.PUB_CFG e) 0 = true ∧ s.rdB (Pub.PUB_CFG e) 1 = false ∧ 3 < moved) ∧
    (∃ (e : Nat) (s : State), e < 16 ∧ s.rdB (Pub.PUB_CFG e) 0 = false) :=
  ⟨⟨.host, 15, { up [(Ptp.PTP_RATE, 0x08000000)] with now := 1000 }, by unfold Admits; decide +kernel⟩,
   ⟨15, { up [(Ptp.PTP_RATE, 0x08000000)] with now := 1000 }, by decide +kernel⟩,
   ⟨15, 4, up [(Pub.PUB_CFG 15, 0x00010001)], by decide +kernel⟩,
   ⟨15, { up [(Ptp.PTP_RATE, 0x08000000)] with now := 1000 }, by decide +kernel⟩⟩

/-- The premises of DmaRunsStartMoveAndEnd can be met. -/
theorem test_witness_DmaRunsStartMoveAndEnd :
    (∃ (port : Port) (k : Nat) (s : State), k < 16 ∧ Admits s port (DmaCh.CH_CMD k) ∧ dmaState s k ≠ 1 ∧ dmaState s k ≠ 2 ∧
      s.rdF (DmaCh.CH_CFG k) 11 8 ≠ 0) ∧
    (∃ (port : Port) (k : Nat) (s : State), k < 16 ∧ Admits s port (DmaCh.CH_CMD k) ∧ dmaState s k ≠ 1 ∧ dmaState s k ≠ 2 ∧
      s.rdF (DmaCh.CH_CFG k) 11 8 = 0) ∧
    (∃ (port : Port) (k : Nat) (s : State), k < 16 ∧ Admits s port (DmaCh.CH_CMD k) ∧ dmaState s k = 1) ∧
    (∃ (port : Port) (k : Nat) (r : DmaRun) (s : State), k < 16 ∧ Admits s port (DmaCh.CH_CMD k) ∧ dmaState s k = 2 ∧ dmaRunOf s k = some r) ∧
    (∃ (k : Nat) (l : List Word) (r : DmaRun) (s : State), k < 16 ∧ dmaRunOf s k = some r ∧ r.abort = false ∧ r.snap = false ∧ r.phase = .write ∧
      r.asked = true ∧ r.answer = some (0, l) ∧ r.writes + 1 < r.total) ∧
    (∃ (k : Nat) (r : DmaRun) (s : State), k < 16 ∧ dmaRunOf s k = some r ∧ r.abort = false ∧ r.snap = false ∧ r.phase = .fence ∧ r.posted = false ∧
      bit (r.word 0) 4 = false) ∧
    (∃ (k : Nat) (c : Nat) (l : List Word) (r : DmaRun) (s : State), k < 16 ∧ dmaRunOf s k = some r ∧ r.abort = false ∧ r.snap = false ∧
      r.phase = .read ∧ r.asked = true ∧ r.answer = some (c, l) ∧ c ≠ 0) ∧
    (∃ (k : Nat) (r : DmaRun) (s : State), k < 16 ∧ dmaRunOf s k = some r) :=
  ⟨⟨.host, 15, putDma 15 (none) (up [(DmaCh.CH_STAT 15, 0), (DmaCh.CH_CFG 15, 0x100)]), by unfold Admits; decide +kernel⟩,
   ⟨.host, 15, putDma 15 (none) (up [(DmaCh.CH_STAT 15, 3)]), by unfold Admits; decide +kernel⟩,
   ⟨.host, 15, putDma 15 (none) (up [(DmaCh.CH_STAT 15, 1)]), by unfold Admits; decide +kernel⟩,
   ⟨.host, 15, { slot := 5, desc := [0, 0, 0, 3, 0, 0, 0, 0] },
     putDma 15 (some { slot := 5, desc := [0, 0, 0, 3, 0, 0, 0, 0] }) (up [(DmaCh.CH_STAT 15, 2)]), by unfold Admits; decide +kernel⟩,
   ⟨15, [], { slot := 5, desc := [0, 0, 0, 3, 0, 0, 0, 0], phase := .write, asked := true, answer := some (0, []) },
     putDma 15 (some { slot := 5, desc := [0, 0, 0, 3, 0, 0, 0, 0], phase := .write, asked := true, answer := some (0, []) }) (up [(DmaCh.CH_STAT 15,
     2)]), by decide +kernel⟩,
   ⟨15, { slot := 5, desc := [0, 0, 0, 3, 0, 0, 0, 0], phase := .fence, count := 3 },
     putDma 15 (some { slot := 5, desc := [0, 0, 0, 3, 0, 0, 0, 0], phase := .fence, count := 3 }) (up [(DmaCh.CH_STAT 15, 2)]), by decide +kernel⟩,
   ⟨15, 255, [], { slot := 5, desc := [0, 0, 0, 3, 0, 0, 0, 0], phase := .read, asked := true, answer := some (255, []) },
     putDma 15 (some { slot := 5, desc := [0, 0, 0, 3, 0, 0, 0, 0], phase := .read, asked := true, answer := some (255, []) }) (up [(DmaCh.CH_STAT 15,
     2)]), by decide +kernel⟩,
   ⟨15, { slot := 5, desc := [0, 0, 0, 3, 0, 0, 0, 0] }, putDma 15 (some { slot := 5, desc := [0, 0, 0, 3, 0, 0, 0, 0] }) (up [(DmaCh.CH_STAT 15,
     2)]), by decide +kernel⟩⟩

/-- The premises of SelfTestsIsolateJudgeAndRetire can be met. -/
theorem test_witness_SelfTestsIsolateJudgeAndRetire :
    (∃ (s : State), s.inService = true ∧ s.bist.cur = none) ∧
    (∃ (n : Nat) (t0 : Nat) (logic : List (BitVec 64)) (mem : List (BitVec 64)) (ls : Nat) (ms : Nat) (s : State), (bankRetired s = false →
      signatureOf (0x10 + n) n mem ms = Config.signature (0x10 + n) n) ∧ (logicTested s n = true → signatureOf n n logic ls = Config.signature n n) ∧
      s.bist.cur = some n ∧ s.bist.lastTick = some t0 ∧ n < 8) ∧
    (∃ (n : Nat) (t0 : Nat) (logic : List (BitVec 64)) (mem : List (BitVec 64)) (ls : Nat) (ms : Nat) (s : State), (bankRetired s = false →
      signatureOf (0x10 + n) n mem ms = Config.signature (0x10 + n) n) ∧ signatureOf n n logic ls ≠ Config.signature n n ∧ s.bist.cur = some n ∧
      s.bist.lastTick = some t0 ∧ n < 8 ∧ logicTested s n = true) ∧
    (∃ (p : Nat) (s : State), 4 ≤ p ∧ p < 8 ∧ s.bist.cur = none ∧ copyRetired s p = false) ∧
    (∃ (p : Nat) (s : State), copyRetired s p = true) ∧
    (∃ (c : Nat) (codes : Nat × Nat × Nat) (s : State), c < 32 ∧ s.inService = true ∧ stepsOk (checkResults s c codes) = true) ∧
    (∃ (c : Nat) (s : State), c < 32 ∧ s.inService = true) ∧
    (∃ (s : State) (m : Nat), (ctxOf s m).spec ≠ none) :=
  ⟨⟨{ up [] with bist := { State.reset.bist with next := 3 } }, by decide +kernel⟩,
   ⟨7, 0, [responseFor 7 7 0 (Config.signature 7 7)], [responseFor (0x10 + 7) 7 0 (Config.signature (0x10 + 7) 7)], 0,
     0, { up [] with bist := { State.reset.bist with cur := some 7, lastTick := some 0 } }, fun _ => signatureOf_responseFor _ _ _ _,
     fun _ => signatureOf_responseFor _ _ _ _, by decide +kernel⟩,
   ⟨7, 0, [responseFor 7 7 0 ((Config.signature 7 7).1 + 1, 0)], [responseFor (0x10 + 7) 7 0 (Config.signature (0x10 + 7) 7)], 0,
     0, { up [] with bist := { State.reset.bist with cur := some 7, lastTick := some 0 } }, fun _ => signatureOf_responseFor _ _ _ _,
     by rw [signatureOf_responseFor]; exact ne_sig _, by decide +kernel⟩,
   ⟨7, up [], by decide +kernel⟩,
   ⟨7, up [(Bist.RETIRED, 0xC0)], by decide +kernel⟩,
   ⟨31, (8256, 32704, 57344), up [], by decide +kernel⟩,
   ⟨31, up [], by decide +kernel⟩,
   ⟨putCtx 511 { spec := some { yhat := [], outQ := 0, outD := 0, sens := [], setQ := 0, setD := 0, trig := 0, target := 0 } } (up []), 511,
     by decide +kernel⟩⟩

/-- The premises of HostTestsAndFuseRepair can be met. -/
theorem test_witness_HostTestsAndFuseRepair :
    (∃ (port : Port) (v : Word) (p : Nat) (s : State), Admits s port Bist.BIST_CMD ∧ s.bist.host = none ∧ p = fld v 7 0 ∧ (p < 8 ∨ (0x10 ≤ p ∧
      p < 0x18) ∨ p = 0x20 ∨ p = 0x21) ∧ activeControl s p = false) ∧
    (∃ (p : Nat) (at_ : Nat) (test : List (BitVec 64)) (steps : Nat) (s : State), signatureOf p 0xFF test steps = Config.signature p 0xFF ∧
      s.bist.host = some (p, at_) ∧ p < 0x20) ∧
    (∃ (p : Nat) (at_ : Nat) (test : List (BitVec 64)) (steps : Nat) (s : State), signatureOf p 0xFF test steps ≠ Config.signature p 0xFF ∧
      s.bist.host = some (p, at_) ∧ p < 0x20) ∧
    (∃ (port : Port) (v : Word) (s : State), Admits s port Bist.FUSE_CMD ∧ lockOpen s Bist.page = true ∧ v = 0x46555345 ∧ lcState s ≠ 2 ∧
      s.rdF Bist.REPAIR_STAT 7 0 + s.rdF Bist.REPAIR_STAT 15 8 ≤ 64 ∧ anyTbRun s = false) ∧
    (∃ (port : Port) (v : Word) (s : State), Admits s port Bist.FUSE_CMD ∧ lockOpen s Bist.page = true ∧ v = 0x46555345 ∧ lcState s ≠ 2 ∧
      s.rdF Bist.REPAIR_STAT 7 0 + s.rdF Bist.REPAIR_STAT 15 8 ≤ 64 ∧ anyTbRun s = true) ∧
    (∃ (at_ : Nat) (s : State), s.bist.fuseAt = some at_) :=
  ⟨⟨.host, 0x21, 0x21, up [(hLOCK Bist.page, 1)], by unfold Admits; decide +kernel⟩,
   ⟨0x17, 0, [responseFor 0x17 0xFF 0 (Config.signature 0x17 0xFF)], 0, { up [] with bist := { State.reset.bist with host := some (0x17, 0) } },
     signatureOf_responseFor _ _ _ _, by decide +kernel⟩,
   ⟨0x17, 0, [responseFor 0x17 0xFF 0 ((Config.signature 0x17 0xFF).1 + 1, 0)],
     0, { up [] with bist := { State.reset.bist with host := some (0x17, 0) } }, by rw [signatureOf_responseFor]; exact ne_sig _, by decide +kernel⟩,
   ⟨.host, 0x46555345, up [(hLOCK Bist.page, 1)], by unfold Admits; decide +kernel⟩,
   ⟨.host, 0x46555345, up [(hLOCK Bist.page, 1), (Tb.TB_STAT 7, 1)], by unfold Admits; decide +kernel⟩,
   ⟨0, { up [(Bist.REPAIR_STAT, 64)] with bist := { State.reset.bist with fuseAt := some 0 } }, by decide +kernel⟩⟩

/-- The premises of EventsReachTheRingWithTheirWords can be met. -/
theorem test_witness_EventsReachTheRingWithTheirWords :
    (∃ (s : State), s.evq = []) ∧
    (∃ (e : Event) (rest : List Event) (s : State), nextEvent s.evq = some (e, rest) ∧ s.inService = true ∧ (e.cls = .safety ∨ e.marker = true) ∧
      s.ev.owed = 0 ∧ evFill s < 6143 ∧ s.ev.storm = none ∧ alarmRouted s e.cls.num = false) :=
  ⟨⟨up [], by decide +kernel⟩,
   ⟨{ cls := .safety, page := 1, code := 255, obj := 65535, detail := 7, at_ := 5, tick := 3, marker := false },
     [], { up [(Evrec.WR_SEQ, 6142)] with evq := [{ cls := .safety, page := 1, code := 255, obj := 65535, detail := 7, at_ := 5, tick := 3, marker := false }] },
     by decide +kernel⟩⟩

/-- The premises of RecorderClocksAndCommands can be met. -/
theorem test_witness_RecorderClocksAndCommands :
    (∃ (k : Nat) (b : EvBucket) (s : State), s.ev.srcs = [(k, b)] ∧ 0 < b.tally ∧ 0 < (classRate s b.last.cls).2) ∧
    (∃ (s : State), s.inService = true) ∧
    (∃ (s : State), s.ev.storm = none) ∧
    (∃ (s : State), s.ev.storm.isSome = true) ∧
    (∃ (port : Port) (v : Word) (s : State), Admits s port Evrec.RD_SEQ ∧ (v - s.rd Evrec.RD_SEQ).toNat ≤ evFill s) ∧
    (∃ (port : Port) (v : Word) (s : State), Admits s port Evrec.RD_SEQ ∧ evFill s < (v - s.rd Evrec.RD_SEQ).toNat) ∧
    (∃ (port : Port) (v : Word) (s : State), Admits s port Evrec.NV_CLR ∧ lockOpen s Evrec.page = true ∧ v = 0x4556434C ∧ s.ev.nvQueue = []) ∧
    (∃ (port : Port) (v : Word) (s : State), Admits s port Evrec.NV_CLR ∧ lockOpen s Evrec.page = true ∧ v = 0x4556434C ∧ s.ev.nvQueue ≠ []) ∧
    (∃ (w : List Word) (rest : List (List Word)) (s : State), s.ev.nvQueue = w :: rest ∧ s.ev.nvClear = false) ∧
    (∃ (port : Port) (s : State), Admits s port Evrec.CNT_CLR) :=
  ⟨⟨7, { tok := 0, at_ := 0, tally := 1, last := { cls := .fault, page := 1, code := 2, obj := 3, detail := 4, at_ := 5, tick := 6, marker := false } }, { up [(hLOCK Evrec.page, 1)] with ev := { State.reset.ev with srcs := [(7, { tok := 0, at_ := 0, tally := 1, last := { cls := .fault, page := 1, code := 2, obj := 3, detail := 4, at_ := 5, tick := 6, marker := false } })] } },
    by decide +kernel⟩,
   ⟨{ up [(hLOCK Evrec.page, 1)] with ev := { State.reset.ev with owed := 0 } }, by decide +kernel⟩,
   ⟨{ up [(hLOCK Evrec.page, 1)] with ev := { State.reset.ev with owed := 0 } }, by decide +kernel⟩,
   ⟨{ up [(hLOCK Evrec.page, 1)] with ev := { State.reset.ev with storm := some 0 } }, by decide +kernel⟩,
   ⟨.host, 5, { up [(hLOCK Evrec.page, 1), (Evrec.WR_SEQ, 5)] with ev := { State.reset.ev with owed := 0 } }, by unfold Admits; decide +kernel⟩,
   ⟨.host, 5, { up [(hLOCK Evrec.page, 1)] with ev := { State.reset.ev with owed := 0 } }, by unfold Admits; decide +kernel⟩,
   ⟨.host, 0x4556434C, { up [(hLOCK Evrec.page, 1)] with ev := { State.reset.ev with owed := 0 } }, by unfold Admits; decide +kernel⟩,
   ⟨.host, 0x4556434C, { up [(hLOCK Evrec.page, 1)] with ev := { State.reset.ev with nvQueue := [[1]] } }, by unfold Admits; decide +kernel⟩,
   ⟨[1], [[2]], { up [(hLOCK Evrec.page, 1)] with ev := { State.reset.ev with nvQueue := [[1], [2]] } }, by decide +kernel⟩,
   ⟨.host, { up [(hLOCK Evrec.page, 1), (Evrec.LOSS0 3, 9), (Evrec.NV_CNT, 0x70000)] with ev := { State.reset.ev with owed := 0 } },
     by unfold Admits; decide +kernel⟩⟩

/-- The premises of ImageSessionsOpenTakeBlocksAndClose can be met. -/
theorem test_witness_ImageSessionsOpenTakeBlocksAndClose :
    (∃ (port : Port) (n : Nat) (src : Nat) (s : State), n = inactiveSlot s ∧ Admits s port Fwim.FW_CMD ∧ src < 8 ∧ s.fw.holder = none ∧ s.phase ≠ 10 ∧
      slotIn s 4 = none ∧ fwPhase s = 0) ∧
    (∃ (port : Port) (n : Nat) (src : Nat) (s : State), n = inactiveSlot s ∧ Admits s port Fwim.FW_CMD ∧ src < 8 ∧ s.fw.holder.isSome = true) ∧
    (∃ (port : Port) (n : Nat) (s : State), n = inactiveSlot s ∧ Admits s port Fwim.FW_CMD ∧ fwHeld s port = false ∧ s.fw.holder.isSome = true) ∧
    (∃ (port : Port) (n : Nat) (b : Nat) (s : State), n = inactiveSlot s ∧ Admits s port Fwim.FW_CMD ∧ fwHeld s port = false ∧
      s.fw.holder.isSome = true ∧ s.fw.eraseAt = none ∧ s.fw.progAt = none ∧ b = s.rdF Fwim.BLK_NUM 9 0 ∧ blockDone s n b = false) ∧
    (∃ (port : Port) (n : Nat) (s : State), n = inactiveSlot s ∧ Admits s port Fwim.FW_CMD ∧ lockOpen s Fwim.page = true ∧ fwHeld s port = false ∧
      (slotState s n = 6 ∨ slotState s n = 7)) ∧
    (∃ (n : Nat) (a : Nat) (s : State), n = inactiveSlot s ∧ s.fw.eraseAt = some a) ∧
    (∃ (n : Nat) (b : Nat) (a : Nat) (s : State), n = inactiveSlot s ∧ s.fw.progAt = some (b, a) ∧ b < 1024) ∧
    (∃ (n : Nat) (s : State), n = inactiveSlot s ∧ s.fw.holder.isSome = true) ∧
    (∃ (n : Nat) (src : Nat) (b : Nat) (len : Nat) (frag : Nat) (l : List Nat) (s : State), n = inactiveSlot s ∧ s.inService = true ∧
      s.rdB SecDbg.DBG_HSTAT 0 = false ∧ pwrState s ≠ 2 ∧ 1 ≤ src ∧ src ≤ 6 ∧ l.getD 0 0 = 0x14 ∧ supPair s = 0 ∧ len = bytesNat ((l.drop 6).take 2) ∧
      frag = bytesNat ((l.drop 4).take 2) ∧ b = bytesNat ((l.drop 2).take 2) ∧ 0 < len ∧ len ≤ 52 ∧ frag + len ≤ 4096 ∧ 12 + len ≤ l.length ∧
      stagingCode s .tykor0 (stagingOf b + 4 * (frag / 4)) = .none) :=
  ⟨⟨.host, 0, 7, { up [(hLOCK Fwim.page, 1)] with fw := { State.reset.fw with holder := none } }, by unfold Admits; decide +kernel⟩,
   ⟨.host, 0, 7, { up [(hLOCK Fwim.page, 1)] with fw := { State.reset.fw with holder := some .tykor0 } }, by unfold Admits; decide +kernel⟩,
   ⟨.host, 0, { up [(hLOCK Fwim.page, 1)] with fw := { State.reset.fw with holder := some .host, st0 := 1 } }, by unfold Admits; decide +kernel⟩,
   ⟨.host, 0, 1023, { up [(hLOCK Fwim.page, 1), (Fwim.BLK_NUM, 1023)] with fw := { State.reset.fw with holder := some .host, st0 := 1 } },
     by unfold Admits; decide +kernel⟩,
   ⟨.host, 0, { up [(hLOCK Fwim.page, 1)] with fw := { State.reset.fw with st0 := 7 } }, by unfold Admits; decide +kernel⟩,
   ⟨0, 0, { up [(hLOCK Fwim.page, 1)] with fw := { State.reset.fw with eraseAt := some 0 } }, by decide +kernel⟩,
   ⟨0, 1023, 0, { up [(hLOCK Fwim.page, 1)] with fw := { State.reset.fw with progAt := some (1023, 0) } }, by decide +kernel⟩,
   ⟨0, { up [(hLOCK Fwim.page, 1)] with fw := { State.reset.fw with holder := some .host, st0 := 1 } }, by decide +kernel⟩,
   ⟨0, 6, 255, 4, 4092, ([0x14, 0, 0, 255, 15, 252, 0, 4] ++ List.replicate 4 0 ++ [1, 2, 3, 4]), up [], by decide +kernel⟩⟩

/-- The premises of ImagesAreVerifiedHandedOverAndTried can be met. -/
theorem test_witness_ImagesAreVerifiedHandedOverAndTried :
    (∃ (port : Port) (n : Nat) (s : State), n = inactiveSlot s ∧ Admits s port Fwim.FW_CMD ∧ fwHeld s port = false ∧
      (slotState s n = 1 ∨ slotState s n = 2) ∧ s.fw.verifyAt = none) ∧
    (∃ (port : Port) (n : Nat) (s : State), n = inactiveSlot s ∧ Admits s port Fwim.FW_CMD ∧ fwHeld s port = false ∧ lockOpen s Fwim.page = true ∧
      s.phase ≠ 10 ∧ slotState s n = 3 ∧ slotState s (1 - n) = 5 ∧ s.fw.holder = none ∧ supPair s = 0 ∧ fwPhase s = 0 ∧
      fld (slotWord s n 6) 15 8 ≤ s.rdF Fwim.RUN_FMT 7 0 ∧ s.rdF Fwim.RUN_FMT 7 0 ≤ fld (slotWord s n 6) 7 0 ∧ s.fw.arb ≤ slotArb s n) ∧
    (∃ (port : Port) (n : Nat) (s : State), n = inactiveSlot s ∧ Admits s port Fwim.FW_CMD ∧ fwHeld s port = false ∧ lockOpen s Fwim.page = true ∧
      s.phase = 10 ∧ slotState s 0 = 3 ∧ s.fw.arb ≤ slotArb s 0) ∧
    (∃ (port : Port) (n : Nat) (m : Nat) (s : State), n = inactiveSlot s ∧ Admits s port Fwim.FW_CMD ∧ fwHeld s port = false ∧ slotIn s 4 = some m ∧
      port = .tykor1 ∧ supPair s = 1 ∧ fwPhase s = 0) ∧
    (∃ (port : Port) (n : Nat) (m : Nat) (s : State), n = inactiveSlot s ∧ Admits s port Fwim.FW_CMD ∧ fwHeld s port = false ∧ slotIn s 4 = some m ∧
      port ≠ .tykor1) ∧
    (∃ (port : Port) (n : Nat) (m : Nat) (s : State), n = inactiveSlot s ∧ Admits s port Fwim.FW_CMD ∧ fwHeld s port = false ∧ slotIn s 4 = some m ∧
      lockOpen s Fwim.page = true) ∧
    (∃ (n : Nat) (a : Nat) (s : State), n = inactiveSlot s ∧ s.fw.verifyAt = some a ∧ verifyCode s n = 0) ∧
    (∃ (n : Nat) (a : Nat) (s : State), n = inactiveSlot s ∧ s.fw.verifyAt = some a ∧ verifyCode s n ≠ 0) ∧
    (∃ (n : Nat) (s : State), n = inactiveSlot s ∧ fwPhase s = 1) ∧
    (∃ (n : Nat) (s : State), n = inactiveSlot s ∧ fwPhase s = 1 ∧ s.fw.back = true) ∧
    (∃ (n : Nat) (m : Nat) (s : State), n = inactiveSlot s ∧ fwPhase s = 1 ∧ s.fw.back = false ∧ slotIn s 4 = some m ∧ slotState s (1 - m) = 6) ∧
    (∃ (n : Nat) (s : State), n = inactiveSlot s ∧ fwPhase s = 3) ∧
    (∃ (n : Nat) (m : Nat) (a : Nat) (s : State), n = inactiveSlot s ∧ s.fw.trialAt = some a ∧ slotIn s 4 = some m) ∧
    (∃ (n : Nat) (a : Nat) (s : State), n = inactiveSlot s ∧ s.fw.retryTick = some a) :=
  ⟨⟨.host, 0, { up [(hLOCK Fwim.page, 1)] with fw := { State.reset.fw with st0 := 2 } }, by unfold Admits; decide +kernel⟩,
   ⟨.host, 0, { up [(hLOCK Fwim.page, 1)] with fw := { State.reset.fw with st0 := 3, st1 := 5 } }, by unfold Admits; decide +kernel⟩,
   ⟨.host, 0, { up [(hLOCK Fwim.page, 1), (Bup.STATE, 10)] with fw := { State.reset.fw with st0 := 3 } }, by unfold Admits; decide +kernel⟩,
   ⟨.tykor1, 1, 0, { up [(hLOCK Fwim.page, 1), (Fwim.FW_STAT, 0x200)] with fw := { State.reset.fw with st0 := 4, st1 := 6 } },
     by unfold Admits; decide +kernel⟩,
   ⟨.host, 1, 0, { up [(hLOCK Fwim.page, 1)] with fw := { State.reset.fw with st0 := 4 } }, by unfold Admits; decide +kernel⟩,
   ⟨.host, 1, 0, { up [(hLOCK Fwim.page, 1)] with fw := { State.reset.fw with st0 := 4 } }, by unfold Admits; decide +kernel⟩,
   ⟨0, 0, { up [(SecKey.KEY_STAT, 1)] with fw := { State.reset.fw with verifyAt := some 0, st0 := 1, prog := [0], img := signedImage }, sec := { State.reset.sec with keys := [(0, signedKey)] } },
     by decide +kernel⟩,
   ⟨0, 0, { up [(hLOCK Fwim.page, 1)] with fw := { State.reset.fw with verifyAt := some 0, st0 := 1 } }, by decide +kernel⟩,
   ⟨0, { up [(hLOCK Fwim.page, 1), (Fwim.FW_STAT, 0x1000000)] with fw := { State.reset.fw with holder := none } }, by decide +kernel⟩,
   ⟨0, { up [(hLOCK Fwim.page, 1), (Fwim.FW_STAT, 0x1000000)] with fw := { State.reset.fw with back := true } }, by decide +kernel⟩,
   ⟨1, 0, { up [(hLOCK Fwim.page, 1), (Fwim.FW_STAT, 0x1000000)] with fw := { State.reset.fw with st0 := 4, st1 := 6 } }, by decide +kernel⟩,
   ⟨0, { up [(hLOCK Fwim.page, 1), (Fwim.FW_STAT, 0x3000000)] with fw := { State.reset.fw with st0 := 0 } }, by decide +kernel⟩,
   ⟨1, 0, 0, { up [(hLOCK Fwim.page, 1)] with fw := { State.reset.fw with trialAt := some 0, st0 := 4 } }, by decide +kernel⟩,
   ⟨0, 0, { up [(hLOCK Fwim.page, 1)] with fw := { State.reset.fw with retryTick := some 0 } }, by decide +kernel⟩⟩

/-- The premises of LifecycleKeysAndScan can be met. -/
theorem test_witness_LifecycleKeysAndScan :
    (∃ (port : Port) (v : Word) (a : Nat) (b : Nat) (s : State), Admits s port Sec.LC_CMD ∧ lockOpen s Sec.page = true ∧ lcRow v = some (a, b) ∧
      lcState s = a ∧ anyTbRun s = false ∧ lcAllowed s b = true) ∧
    (∃ (port : Port) (v : Word) (a : Nat) (b : Nat) (s : State), Admits s port Sec.LC_CMD ∧ lockOpen s Sec.page = true ∧ lcRow v = some (a, b) ∧
      (lcState s ≠ a ∨ anyTbRun s = true)) ∧
    (∃ (b : Nat) (at_ : Nat) (s : State), s.sec.lcAt = some (b, at_) ∧ b < 4) ∧
    (∃ (port : Port) (v : Word) (s : State), Admits s port SecKey.KEY_CMD ∧ s.sec.keyAt = none ∧ bit v 4 = true ∧ bit v 8 = false ∧
      P256.onCurve (bytesNat (wordsBytes ((keyBuf s).take 8))) (bytesNat (wordsBytes ((keyBuf s).drop 8))) = true ∧
      s.rdB SecKey.KEY_STAT (fld v 1 0) = false) ∧
    (∃ (port : Port) (v : Word) (s : State), Admits s port SecKey.KEY_CMD ∧ s.sec.keyAt = none ∧ bit v 4 = true ∧ bit v 8 = false ∧
      P256.onCurve (bytesNat (wordsBytes ((keyBuf s).take 8))) (bytesNat (wordsBytes ((keyBuf s).drop 8))) = false) ∧
    (∃ (k : Nat) (at_ : Nat) (ws : List Word) (dbg : Bool) (s : State), s.sec.keyAt = some (k, some ws, dbg, at_) ∧ k < 4) ∧
    (∃ (port : Port) (v : Word) (s : State), (∀ n, slotIn s 4 = some n ∨ slotIn s 5 = some n → fld (slotWord s n 7) 1 0 ≠ fld v 1 0) ∧
      Admits s port Sec.KEY_REVOKE ∧ lockOpen s Sec.page = true ∧ fld v 31 16 = 0x5256 ∧ s.rdB SecKey.KEY_STAT (fld v 1 0) = true) ∧
    (∃ (s : State) (c : Nat), (c = 0 ∨ c = 3 ∨ c = 4) ∧ pwrState s ≠ 3 ∧ lcState s ≠ 2) ∧
    (∃ (s : State) (c : Nat), (c = 0 ∨ c = 3 ∨ c = 4) ∧ pwrState s ≠ 3 ∧ lcState s = 2 ∧ s.phase ≠ 10) :=
  ⟨⟨.host, 0x50524F56, 0,
    1, { up [(hLOCK Sec.page, 1), (hLOCK SecKey.page, 1), (SecKey.KEY_STAT, 8)] with sec := { State.reset.sec with fails := 0 } },
    by unfold Admits; decide +kernel⟩,
   ⟨.host, 0x50524F56, 0, 1, { up [(hLOCK Sec.page, 1), (hLOCK SecKey.page, 1), (Sec.LC_STATE, 3)] with sec := { State.reset.sec with fails := 0 } },
     by unfold Admits; decide +kernel⟩,
   ⟨3, 0, { up [(hLOCK Sec.page, 1), (hLOCK SecKey.page, 1)] with sec := { State.reset.sec with lcAt := some (3, 0) } }, by decide +kernel⟩,
   ⟨.host, 0x13, { up [(hLOCK Sec.page, 1), (hLOCK SecKey.page, 1), (SecKey.KEY_BUF0 0, 0x6B17D1F2), (SecKey.KEY_BUF0 1, 0xE12C4247), (SecKey.KEY_BUF0 2, 0xF8BCE6E5), (SecKey.KEY_BUF0 3, 0x63A440F2), (SecKey.KEY_BUF0 4, 0x77037D81), (SecKey.KEY_BUF0 5, 0x2DEB33A0), (SecKey.KEY_BUF0 6, 0xF4A13945), (SecKey.KEY_BUF0 7, 0xD898C296), (SecKey.KEY_BUF0 8, 0x4FE342E2), (SecKey.KEY_BUF0 9, 0xFE1A7F9B), (SecKey.KEY_BUF0 10, 0x8EE7EB4A), (SecKey.KEY_BUF0 11, 0x7C0F9E16), (SecKey.KEY_BUF0 12, 0x2BCE3357), (SecKey.KEY_BUF0 13, 0x6B315ECE), (SecKey.KEY_BUF0 14, 0xCBB64068), (SecKey.KEY_BUF0 15, 0x37BF51F5)] with sec := { State.reset.sec with fails := 0 } },
     by unfold Admits; decide +kernel⟩,
   ⟨.host, 0x13, { up [(hLOCK Sec.page, 1), (hLOCK SecKey.page, 1)] with sec := { State.reset.sec with fails := 0 } },
     by unfold Admits; decide +kernel⟩,
   ⟨3, 0, [0x6B17D1F2, 0xE12C4247, 0xF8BCE6E5, 0x63A440F2, 0x77037D81, 0x2DEB33A0, 0xF4A13945, 0xD898C296, 0x4FE342E2, 0xFE1A7F9B, 0x8EE7EB4A,
     0x7C0F9E16, 0x2BCE3357, 0x6B315ECE, 0xCBB64068, 0x37BF51F5],
     true, { up [(hLOCK Sec.page, 1), (hLOCK SecKey.page, 1)] with sec := { State.reset.sec with keyAt := some (3, some [0x6B17D1F2, 0xE12C4247, 0xF8BCE6E5, 0x63A440F2, 0x77037D81, 0x2DEB33A0, 0xF4A13945, 0xD898C296, 0x4FE342E2, 0xFE1A7F9B, 0x8EE7EB4A, 0x7C0F9E16, 0x2BCE3357, 0x6B315ECE, 0xCBB64068, 0x37BF51F5], true, 0) } },
     by decide +kernel⟩,
   ⟨.host, 0x52560003, { up [(hLOCK Sec.page, 1), (hLOCK SecKey.page, 1), (SecKey.KEY_STAT, 8)] with sec := { State.reset.sec with fails := 0 } },
     fun _ h => h.elim (absurd · (ne_of_none (by decide +kernel))) (absurd · (ne_of_none (by decide +kernel))), by unfold Admits; decide +kernel⟩,
   ⟨{ up [(hLOCK Sec.page, 1), (hLOCK SecKey.page, 1)] with sec := { State.reset.sec with fails := 0 } }, 4, by decide +kernel⟩,
   ⟨{ up [(hLOCK Sec.page, 1), (hLOCK SecKey.page, 1), (Sec.LC_STATE, 2)] with sec := { State.reset.sec with fails := 0 } }, 4, by decide +kernel⟩⟩

/-- The premises of DebugGrantsOpenAndEnd can be met. -/
theorem test_witness_DebugGrantsOpenAndEnd :
    (∃ (port : Port) (nonce : List Word) (level : Nat) (s : State) (i : Instr), i ∈ [Instr.dbgChal port nonce, Instr.dbgAuth port level,
      Instr.closeGrant port, Instr.sysrst port] ∧ port ≠ .debug ∧ Admits s port SecDbg.DBG_CMD) ∧
    (∃ (s : State), Admits s .debug SecDbg.DBG_CMD ∧ s.sec.blockAt = none) ∧
    (∃ (level : Nat) (a : Nat) (s : State), Admits s .debug SecDbg.DBG_CMD ∧ (level = 1 ∨ level = 2 ∨ level = 4) ∧ s.sec.nonceAt = some a ∧
      s.now ≤ a + 8000000000) ∧
    (∃ (s : State), Admits s .debug SecDbg.DBG_CMD) ∧
    (∃ (s : State), Admits s .debug SecDbg.DBG_CMD ∧ 2 ≤ dbgLevel s) ∧
    (∃ (s : State), Admits s .debug SecDbg.DBG_CMD ∧ dbgLevel s < 2) ∧
    (∃ (level : Nat) (a : Nat) (k : Nat) (s : State), s.sec.authAt = some (level, a) ∧ k = s.rdF SecKey.KEY_STAT 9 8) ∧
    (∃ (a : Nat) (s : State), s.sec.nonceAt = some a) ∧
    (∃ (a : Nat) (s : State), s.sec.blockAt = some a) ∧
    (∃ (port : Port) (v : Word) (s : State), Admits s port SecDbg.DBG_HALT ∧ ((v &&& 0xF &&& ~~~(s.rd SecDbg.DBG_HALT) = 0) ∨ (dbgLevel s = 3 ∧
      lcState s = 0 ∧ pwrState s ≠ 2 ∧ anyTbRun s = false))) :=
  ⟨⟨.host, [1, 2, 3, 4, 5, 6, 7, 8], 4, { up [(hLOCK Sec.page, 1), (hLOCK SecKey.page, 1)] with sec := { State.reset.sec with fails := 0 } },
    .sysrst .host, by simp, by unfold Admits; decide +kernel⟩,
   ⟨{ up [(hLOCK Sec.page, 1), (hLOCK SecKey.page, 1)] with sec := { State.reset.sec with fails := 0 } }, by unfold Admits; decide +kernel⟩,
   ⟨4, 0, { up [(hLOCK Sec.page, 1), (hLOCK SecKey.page, 1)] with sec := { State.reset.sec with nonceAt := some 0 } },
     by unfold Admits; decide +kernel⟩,
   ⟨{ up [(hLOCK Sec.page, 1), (hLOCK SecKey.page, 1)] with sec := { State.reset.sec with fails := 0 } }, by unfold Admits; decide +kernel⟩,
   ⟨{ up [(hLOCK Sec.page, 1), (hLOCK SecKey.page, 1)] with sec := { State.reset.sec with fails := 0 } }, by unfold Admits; decide +kernel⟩,
   ⟨{ up [(hLOCK Sec.page, 1), (hLOCK SecKey.page, 1), (Sec.LC_STATE, 2)] with sec := { State.reset.sec with fails := 0 } },
     by unfold Admits; decide +kernel⟩,
   ⟨4, 0, 0, { up [(hLOCK Sec.page, 1), (hLOCK SecKey.page, 1)] with sec := { State.reset.sec with authAt := some (4, 0) } }, by decide +kernel⟩,
   ⟨0, { up [(hLOCK Sec.page, 1), (hLOCK SecKey.page, 1)] with sec := { State.reset.sec with nonceAt := some 0 } }, by decide +kernel⟩,
   ⟨0, { up [(hLOCK Sec.page, 1), (hLOCK SecKey.page, 1)] with sec := { State.reset.sec with blockAt := some 0 } }, by decide +kernel⟩,
   ⟨.debug, 0xF, { up [(hLOCK Sec.page, 1), (hLOCK SecKey.page, 1)] with sec := { State.reset.sec with fails := 0 } },
     by unfold Admits; decide +kernel⟩⟩

/-- The premises of PowerStatesFollowTheirCommands can be met. -/
theorem test_witness_PowerStatesFollowTheirCommands :
    (∃ (port : Port) (s : State), Admits s port Sec.PWR_CMD ∧ s.phase ≠ 10 ∧ pwrState s = 1 ∧ s.rdB Sec.PWR_STAT 2 = false) ∧
    (∃ (port : Port) (s : State), Admits s port Sec.PWR_CMD ∧ s.phase ≠ 10 ∧ pwrState s = 2) ∧
    (∃ (port : Port) (s : State), Admits s port Sec.PWR_CMD ∧ s.phase ≠ 10 ∧ pwrState s = 0 ∧ s.rdB Sec.PWR_STAT 2 = false ∧ busyCtxs s = [] ∧
      (∀ m < 4, machQuiet s m = true)) ∧
    (∃ (port : Port) (s : State), Admits s port Sec.PWR_CMD ∧ s.phase ≠ 10 ∧ pwrState s < 2 ∧ s.rdB Sec.PWR_STAT 2 = false ∧ sleepReady s = true) ∧
    (∃ (port : Port) (s : State), Admits s port Sec.PWR_CMD ∧ lockOpen s Sec.page = true ∧ anyTbRun s = false ∧ s.sec.offAt = none) ∧
    (∃ (a : Nat) (s : State), s.sec.offAt = some a) ∧
    (∃ (k : Nat) (s : State), k < 5 ∧ s.rdB Sec.WAKE_CFG k = true ∧ pwrState s = 2) ∧
    (∃ (k : Nat) (s : State), s.rdB Sec.WAKE_CFG k = false) :=
  ⟨⟨.host, { up [(hLOCK Sec.page, 1), (hLOCK SecKey.page, 1), (Sec.PWR_STAT, 1)] with sec := { State.reset.sec with fails := 0 } },
    by unfold Admits; decide +kernel⟩,
   ⟨.host, { up [(hLOCK Sec.page, 1), (hLOCK SecKey.page, 1), (Sec.PWR_STAT, 2)] with sec := { State.reset.sec with fails := 0 } },
     by unfold Admits; decide +kernel⟩,
   ⟨.host, { up [(hLOCK Sec.page, 1), (hLOCK SecKey.page, 1)] with sec := { State.reset.sec with fails := 0 } }, by unfold Admits; decide +kernel⟩,
   ⟨.host, { up [(hLOCK Sec.page, 1), (hLOCK SecKey.page, 1)] with sec := { State.reset.sec with fails := 0 } }, by unfold Admits; decide +kernel⟩,
   ⟨.host, { up [(hLOCK Sec.page, 1), (hLOCK SecKey.page, 1)] with sec := { State.reset.sec with fails := 0 } }, by unfold Admits; decide +kernel⟩,
   ⟨0, { up [(hLOCK Sec.page, 1), (hLOCK SecKey.page, 1)] with sec := { State.reset.sec with offAt := some 0 } }, by decide +kernel⟩,
   ⟨4, { up [(hLOCK Sec.page, 1), (hLOCK SecKey.page, 1), (Sec.PWR_STAT, 2), (Sec.WAKE_CFG, 0x10)] with sec := { State.reset.sec with fails := 0 } },
     by decide +kernel⟩,
   ⟨4, up [(Sec.WAKE_CFG, 0)], by decide +kernel⟩⟩

/-- The premises of UnmappedAddressesAnswerOutOfRange can be met. -/
theorem test_witness_UnmappedAddressesAnswerOutOfRange :
    (∃ (port : Port) (a : Nat) (s : State), a % 4 = 0 ∧ a < 0x1000000 ∧ isMapped a = false ∧ remoteOpen s a = false ∧
      busyUnmapped s port (pageOf a) = false) ∧
    (∃ (a : Nat) (l : List Nat) (s : State), a % 4 = 0 ∧ a < 0x1000000 ∧ isMapped a = false ∧ remoteOpen s a = false ∧
      busyUnmapped s .host (pageOf a) = false ∧ l.length = 7 ∧ l.getD 4 0 = 0 ∧ crcOk 5 l = true ∧ bytesNat ((l.drop 1).take 3) = a) ∧
    (∃ (a : Nat), a % 4 = 0 ∧ a < 0x1000000 ∧ (pageKind (pageOf a)).isSome = true ∧ regRow a = none) ∧
    (∃ (port : Port) (a : Nat) (s : State), a % 4 = 0 ∧ a < 0x1000000 ∧ (pageKind (pageOf a)).isSome = true ∧ regRow a = none ∧ Admits s port a) :=
  ⟨⟨.host, 0xFFFFFC, up [], by decide +kernel⟩,
   ⟨0xFFFFFC, wc [3, 255, 255, 252, 0], up [], by decide +kernel⟩,
   ⟨0x1FFC, by decide +kernel⟩,
   ⟨.host, 0x1FFC, up [], by unfold Admits; decide +kernel⟩⟩

/-- The premises of SoftwareResetsNeedTheirKeyAndTheOpenLock can be met. -/
theorem test_witness_SoftwareResetsNeedTheirKeyAndTheOpenLock :
    (∃ (port : Port) (s : State), port ≠ .debug ∧ busyPage s Clk.page = false ∧ twinBars s port Clk.page = false ∧ lockOpen s Clk.page = false) ∧
    (∃ (port : Port) (s : State), port ≠ .debug ∧ busyPage s Clk.page = false ∧ twinBars s port Clk.page = false ∧ lockOpen s Clk.page = true) ∧
    (∃ (port : Port) (v : Word) (s : State), port ≠ .debug ∧ busyPage s Clk.page = false ∧ twinBars s port Clk.page = false ∧
      lockOpen s Clk.page = true ∧ v ≠ 0x53595352 ∧ v ≠ 0x53555052) :=
  ⟨⟨.host, up [], by decide +kernel⟩,
   ⟨.host, up [(hLOCK Clk.page, 1)], by decide +kernel⟩,
   ⟨.host, 1, up [(hLOCK Clk.page, 1)], by decide +kernel⟩⟩

/-! ### Well-formedness: one ill-formed command for each check -/

/-- Refused: chanOk: a channel above 27 (R80). -/
theorem test_wf_channel : Instr.wf (.sdStuckDetect 0 28) = false := by decide +kernel

/-- Refused: a chain above 1 (R80). -/
theorem test_wf_chain : Instr.wf (.calStart .host 2 1) = false := by decide +kernel

/-- Refused: legOk: a leg above 3 (R220). -/
theorem test_wf_leg : Instr.wf (.compareEdge 0 4) = false := by decide +kernel

/-- Refused: legOk: a group above 5 (R220). -/
theorem test_wf_legGroup : Instr.wf (.npDwellEnd 6 0) = false := by decide +kernel

/-- Refused: objOk: an object above 127 (R382). -/
theorem test_wf_object : Instr.wf (.objSend .host 0 128) = false := by decide +kernel

/-- Refused: objOk: a channel above 3. -/
theorem test_wf_objectChannel : Instr.wf (.objAck .host 4 0) = false := by decide +kernel

/-- Refused: slotOk: a slot above 7 (R394). -/
theorem test_wf_macSlot : Instr.wf (.slotAbort .host 0 8 false) = false := by decide +kernel

/-- Refused: a MAC above 1 (R394). -/
theorem test_wf_mac : Instr.wf (.mdioDone 2 0) = false := by decide +kernel

/-- Refused: MDIO data of more than 16 bits. -/
theorem test_wf_mdioData : Instr.wf (.mdioDone 0 65536) = false := by decide +kernel

/-- Refused: bytesOk: a byte of 256. -/
theorem test_wf_bytes : Instr.wf (.hostRead [256, 0, 0, 0, 0] {}) = false := by decide +kernel

/-- Refused: nonceOk: a nonce of two words (R468). -/
theorem test_wf_nonce : Instr.wf (.dbgChal .debug [1, 2]) = false := by decide +kernel

/-- Refused: nonceOk inside the surroundings of a write. -/
theorem test_wf_writeNonce : Instr.wf (.hostWrite [] {} { nonce := [1] }) = false := by decide +kernel

/-- Refused: hasHeader: a page without a header (R37). -/
theorem test_wf_header : Instr.wf (.errinfoClear .host 0x7FF 0) = false := by decide +kernel

/-- Refused: hasLock: the identity page holds no lock (R41). -/
theorem test_wf_lock : Instr.wf (.lockWrite .host 0 0) = false := by decide +kernel

/-- Refused: hasGroup: the identity page holds no snapshot group (R47). -/
theorem test_wf_group : Instr.wf (.snapshotTake .host 0 1) = false := by decide +kernel

/-- Refused: isMappedAddr: no page stands there (R34). -/
theorem test_wf_address : Instr.wf (.registerWrite .host 0xFFFFFC 1 {}) = false := by decide +kernel

/-- Refused: isMappedAddr: not a word address (R34). -/
theorem test_wf_aligned : Instr.wf (.registerWrite .host 0x1041 1 {}) = false := by decide +kernel

/-- Refused: readerOk: a DMA channel above 15 (R49). -/
theorem test_wf_reader : Instr.wf (.snapGenRead (.dmaChan 16) Therm.page) = false := by decide +kernel

/-- Refused: calFailOk: a converter above 15 (R104). -/
theorem test_wf_calFail : Instr.wf (.calDone 0 (some (false, 16, 1))) = false := by decide +kernel

/-- Refused: bankOk: a bank above 7 (R422). -/
theorem test_wf_bank : Instr.wf (.eccErrorDetected (.bank 8) true) = false := by decide +kernel

/-- Refused: convOk: a converter above 31 (R423). -/
theorem test_wf_conv : Instr.wf (.bistSliceEnd [] 0 [] 0 [(32, 0, 0, 0)] []) = false := by decide +kernel

/-- Refused: convOk: an idle cell below 32 (R423). -/
theorem test_wf_idleCell : Instr.wf (.hostTestDone [] 0 [] [(31, true)]) = false := by decide +kernel

/-- Refused: a rail above 3. -/
theorem test_wf_rail : Instr.wf (.railRelease 4) = false := by decide +kernel

/-- Refused: a rail above 3 (R63). -/
theorem test_wf_brownOut : Instr.wf (.brownOut [4]) = false := by decide +kernel

/-- Refused: a timebase above 7 (R210). -/
theorem test_wf_timebase : Instr.wf (.updateEvent 8) = false := by decide +kernel

/-- Refused: not one level for each SAR converter. -/
theorem test_wf_sarLevels : Instr.wf (.sarConversionDone []) = false := by decide +kernel

/-- Refused: a Crosswind pair above 27 (R107). -/
theorem test_wf_pair : Instr.wf (.cwPairWrite .host 28 0) = false := by decide +kernel

/-- Refused: a context above 511. -/
theorem test_wf_context : Instr.wf (.ctxEnable .host 512) = false := by decide +kernel

/-- Refused: a lane above 3. -/
theorem test_wf_lane : Instr.wf (.contextDispatch 4 0) = false := by decide +kernel

/-- Refused: not a word of a context record. -/
theorem test_wf_recordWord : Instr.wf (.contextRecordWrite .host 0 2 0) = false := by decide +kernel

/-- Refused: a Headwind group above 63. -/
theorem test_wf_group64 : Instr.wf (.hwResume .host 64) = false := by decide +kernel

/-- Refused: a machine above 3. -/
theorem test_wf_machine : Instr.wf (.focUpdate 4 0) = false := by decide +kernel

/-- Refused: a start mode above 3. -/
theorem test_wf_mode : Instr.wf (.focStart .host 0 4 false) = false := by decide +kernel

/-- Refused: a profile channel above 3 (R191). -/
theorem test_wf_profile : Instr.wf (.profMove .host 4) = false := by decide +kernel

/-- Refused: a power channel above 51. -/
theorem test_wf_powerChannel : Instr.wf (.deadTimeEnd 52) = false := by decide +kernel

/-- Refused: a trip pin above 7. -/
theorem test_wf_pin : Instr.wf (.tripFilterQualified 8) = false := by decide +kernel

/-- Refused: a driver position above 35. -/
theorem test_wf_position : Instr.wf (.uplinkMissing 36) = false := by decide +kernel

/-- Refused: a driver port above 1. -/
theorem test_wf_driverPort : Instr.wf (.driverFrameMissing 0 2) = false := by decide +kernel

/-- Refused: an undervoltage input above 5. -/
theorem test_wf_bsuv : Instr.wf (.bsuvInput 6 true) = false := by decide +kernel

/-- Refused: a comparator above 31. -/
theorem test_wf_comparator : Instr.wf (.comparatorTrip 32 0) = false := by decide +kernel

/-- Refused: a Squall source above 48. -/
theorem test_wf_source : Instr.wf (.retryWaitExpiry 49) = false := by decide +kernel

/-- Refused: a chopper fault input above 1. -/
theorem test_wf_chopFault : Instr.wf (.chfltInput 2 true) = false := by decide +kernel

/-- Refused: a password of more than 16 bytes. -/
theorem test_wf_password : Instr.wf (.pwLogin .host 17 0) = false := by decide +kernel

/-- Refused: a safety connection above 7. -/
theorem test_wf_telegram : Instr.wf (.telegramCopyTimeout 8) = false := by decide +kernel

/-- Refused: a safety group above 1. -/
theorem test_wf_safetyGroup : Instr.wf (.ss1TimerExpiry 2) = false := by decide +kernel

/-- Refused: a guard above 15. -/
theorem test_wf_guard : Instr.wf (.guardPeriodExpiry 16) = false := by decide +kernel

/-- Refused: a housekeeping code of more than 12 bits. -/
theorem test_wf_hkCode : Instr.wf (.closingSlot 4096) = false := by decide +kernel

/-- Refused: a machine above 3. -/
theorem test_wf_grace : Instr.wf (.graceExpiry 4) = false := by decide +kernel

/-- Refused: a message number of more than 16 bits. -/
theorem test_wf_mseq : Instr.wf (.messageRetransmit 65536) = false := by decide +kernel

/-- Refused: a DLC above 15. -/
theorem test_wf_dlc : Instr.wf (.canFrameReceived 0 5 false false false false false 16 [] 0) = false := by decide +kernel

/-- Refused: an identifier of more than 29 bits. -/
theorem test_wf_canId : Instr.wf (.canFrameReceived 0 536870912 true false false false false 0 [] 0) = false := by decide +kernel

/-- Refused: a publisher entry above 15. -/
theorem test_wf_publication : Instr.wf (.publicationDue 16 0) = false := by decide +kernel

/-- Refused: a DMA channel above 15. -/
theorem test_wf_dma : Instr.wf (.dmaStart .host 16) = false := by decide +kernel

/-- Refused: a portion that is no lane datapath. -/
theorem test_wf_datapath : Instr.wf (.datapathLockstepMismatch 3) = false := by decide +kernel

/-- Refused: a converter above 31. -/
theorem test_wf_overdue : Instr.wf (.converterCheckOverdue 32 none) = false := by decide +kernel

/-- Refused: a repair count of more than 8 bits. -/
theorem test_wf_repair : Instr.wf (.memRepairDone true 256 0 0) = false := by decide +kernel

/-- Refused: a source code of more than 4 bits. -/
theorem test_wf_fwSource : Instr.wf (.fwOpen .host 16) = false := by decide +kernel

/-- Refused: a carrier above 7 (R447). -/
theorem test_wf_fwRecord : Instr.wf (.fwRecord 8 []) = false := by decide +kernel

/-- Refused: an instruction register of more than 5 bits. -/
theorem test_wf_tapCode : Instr.wf (.tapUpdateIr 32) = false := by decide +kernel

/-- Refused: a level of more than 3 bits. -/
theorem test_wf_level : Instr.wf (.dbgAuth .debug 8) = false := by decide +kernel

/-- Refused: a wake source above 4. -/
theorem test_wf_wake : Instr.wf (.wakeEvent 5) = false := by decide +kernel

/-- Refused: an undervoltage comparator above 2. -/
theorem test_wf_undervoltage : Instr.wf (.driverUndervoltage 0 3 true) = false := by decide +kernel

/-! ### Values written out by hand from the spec -/

/-- The next state, where there is one. -/
def nextOf (o : Host.Outcome State Fault Refusal) : Option State :=
  match o with
  | .next t => some t
  | _ => none

/-- "123456789" in ASCII. -/
def digits : List Nat := [0x31, 0x32, 0x33, 0x34, 0x35, 0x36, 0x37, 0x38, 0x39]

/-- The check value R53 states. -/
theorem test_crc16 : Crc.crc16 digits = 0x29B1 := by decide +kernel

/-- The check value R122 states. -/
theorem test_crc32c : Crc.crc32c digits = 0xE3069283 := by decide +kernel

/-- The check value 12_safety_functions.md states for a seed of 0xFFFF_FFFF. -/
theorem test_crc32 : Crc.crc32 0xFFFFFFFF digits = 0xCBF43926 := by decide +kernel

/-- The ALL_OFF frame 10_gate_links.md writes out. -/
theorem test_allOff_frame : frameWith (2 ^ 30) = 0xB000000016 ∧ frameCrcOk 0xB000000016 = true := by decide +kernel

/-- SHA-256 of "abc", as FIPS 180-4 writes it out. -/
theorem test_sha256 : Sha.sha256 [0x61, 0x62, 0x63] =
    [0xba7816bf, 0x8f01cfea, 0x414140de, 0x5dae2223, 0xb00361a3, 0x96177a9c, 0xb410ff61, 0xf20015ad] := by decide +kernel

/-- The bytes of the read of THERM.SNAP_GEN that R53's chapter writes out name that register. -/
theorem test_hostRead_address : bytesNat [0x1A, 0x00, 0x2C] = hSNAP_GEN Therm.page := by decide +kernel

/-- 500 kbit/s nominal with the settings 15_message_buses.md writes out: 160 cycles of 12.5 ns. -/
theorem test_canBitTime : nomCycles 0x1F1F7E00 = 160 := by decide +kernel

/-- The key of R41 opens the page. -/
theorem test_lock_opens : (nextOf (exec (.lockWrite .host Clk.page 0x6F70656E) (sv []))).map (·.rd (hLOCK Clk.page)) = some 1 := by
  decide +kernel

/-- A value that is not the key closes it and stands in ERRINFO: CODE 0x03 KEY_REQUIRED, PORT 0, OFFSET 0x020 (R41, R43, R45). -/
theorem test_lock_refuses : (nextOf (exec (.lockWrite .host Clk.page 7) (sv [(hLOCK Clk.page, 1)]))).map
    (fun t => (t.rd (hLOCK Clk.page), t.rd (hERRINFO Clk.page))) = some (0, 0x03000020) := by
  decide +kernel

/-- SUPPLY_CHECK leaves for FUSE_LOAD, on the bring-up oscillator: STATE 0x12 (R64, R69). -/
theorem test_supplyCheck : (nextOf (exec (.supplyCheckDone 0)
    { State.reset with bu := { State.reset.bu with railsLow := [] } })).map (·.rd Bup.STATE) = some 0x12 := by
  decide +kernel

/-- Any write clears ERRINFO (R45). -/
theorem test_errinfo_clears : (nextOf (exec (.errinfoClear .host Clk.page 5) (sv [(hERRINFO Clk.page, 0x0300010)]))).map
    (·.rd (hERRINFO Clk.page)) = some 0 := by
  decide +kernel

/-- The command in front runs, with the rest of the queue. -/
theorem test_step_front : (nextOf (step { sv [] with pending := [.lockWrite .host Clk.page 0x6F70656E, .slotSend] })).map
    (fun t => (t.rd (hLOCK Clk.page), t.pending)) = some (1, [.slotSend]) := by
  decide +kernel

/-- An idle step is one cycle. -/
theorem test_step_idle : (nextOf (step State.reset)).map (·.now) = some 1 := by decide +kernel

end Sys2Proof.Tests
end

section
/-! PROOFS. The register fabric: what the gate and the record of a reply leave alone, and which operation a register write runs. -/

namespace Sys2Proof.Laws.Fabric
open Sys2Proof.Machine Sys2Proof.Safety

/-! ### The bookkeeping around an accepted write touches no visible register and no window byte -/

@[simp] theorem forward_regs (port : Port) (a : Nat) (v : Word) (s : State) : (forward port a v s).regs = s.regs := by
  unfold forward; split <;> rfl

@[simp] theorem forward_mem (port : Port) (a : Nat) (v : Word) (s : State) : (forward port a v s).mem = s.mem := by
  unfold forward; split <;> rfl

@[simp] theorem touchLock_regs (p : Nat) (s : State) : (touchLock p s).regs = s.regs := rfl

@[simp] theorem touchLock_mem (p : Nat) (s : State) : (touchLock p s).mem = s.mem := rfl

@[simp] theorem touchSession_regs (p : Nat) (s : State) : (touchSession p s).regs = s.regs := by
  unfold touchSession; split <;> rfl

@[simp] theorem touchSession_mem (p : Nat) (s : State) : (touchSession p s).mem = s.mem := by
  unfold touchSession; split <;> rfl

@[simp] theorem debugNote_regs (port : Port) (c : RefCode) (w : Word) (s : State) : (debugNote port c w s).regs = s.regs := by
  unfold debugNote; split <;> rfl

@[simp] theorem debugNote_mem (port : Port) (c : RefCode) (w : Word) (s : State) : (debugNote port c w s).mem = s.mem := by
  unfold debugNote; split <;> rfl

/-! ### Frames -/

/-- A byte of the event ring or the staging window depends on the memory windows alone. -/
theorem rdByte_congr {s t : State} (h : t.mem = s.mem) (a : Nat) : t.rdByte a = s.rdByte a := by
  simp only [State.rdByte, h]

/-- Two states with the same registers and windows differ in nothing a frame speaks of. -/
theorem frame_of_regs_mem {l : List Nat} {s t : State} (hr : t.regs = s.regs) (hm : t.mem = s.mem) : Frame l s t :=
  ⟨fun b _ => State.rd_congr hr b, rdByte_congr hm⟩

theorem frame_trans {l : List Nat} {s t u : State} (h₁ : Frame l s t) (h₂ : Frame l t u) : Frame l s u :=
  ⟨fun b hb => (h₂.1 b hb).trans (h₁.1 b hb), fun b => (h₂.2 b).trans (h₁.2 b)⟩

theorem frame_wr (s : State) (a : Nat) (v : Word) : Frame [a] s (s.wr a v) :=
  ⟨fun b hb => State.rd_wr_ne s a b v (List.ne_of_not_mem_cons hb), rdByte_congr (State.wr_mem s a v)⟩

/-! ### A write that the fabric admits and its operation accepts -/

/-- An admitted write whose operation answers `t` ends in a state with the registers and windows of `t` (R42, R45). -/
theorem gated_of_accept {port : Port} {a : Nat} {v : Word} {op : State → Reply} {s t : State}
    (hadm : Admits s port a) (hop : op s = accept t) :
    (gated port a v op s).1.regs = t.regs ∧ (gated port a v op s).1.mem = t.mem := by
  have hcode : gateCode s port a = .none := hadm
  by_cases hl : needsLock a = true <;> simp [gated, gate, recorded, accept, hcode, hop, hl]

/-- The operand of a well-formed REGISTER_WRITE is a word address already. -/
theorem wordAddr_of_wf {port : Port} {a : Nat} {v : Word} {env : WriteEnv}
    (hwf : Instr.wf (.registerWrite port a v env) = true) : wordAddr a = a := by
  simp only [Instr.wf, isMappedAddr, Bool.and_eq_true, decide_eq_true_eq] at hwf
  obtain ⟨⟨haligned, hrange⟩, -⟩ := hwf
  simp only [wordAddr]
  omega

/-- An access below 0x800000 is one of this device, never of its twin (R36). -/
theorem remoteOpen_of_lt {a : Nat} (s : State) (ha : a < 0x800000) : remoteOpen s a = false := by
  simp [remoteOpen, Nat.not_le.mpr ha]

/-- An admitted REGISTER_WRITE of this device runs the operation of its word, and beside what that leaves it moves no visible register and
no window byte. -/
theorem gives_registerWrite {port : Port} {a : Nat} {v : Word} {env : WriteEnv} {s t : State} {P : State → Prop}
    (hwf : Instr.wf (.registerWrite port a v env) = true) (ha : a < 0x800000) (hadm : Admits s port a)
    (hop : wordOp port env a v s = accept t) (hP : ∀ u : State, u.regs = t.regs → u.mem = t.mem → P u) :
    Gives (.registerWrite port a v env) s P := by
  obtain ⟨hregs, hmem⟩ := gated_of_accept (v := v) (op := wordOp port env a v) hadm hop
  refine ⟨(gated port a v (wordOp port env a v) s).1, ?_, hP _ hregs hmem⟩
  simp [exec, execRegisterWrite, replied, writeWord, writeCore, gated, wordAddr_of_wf hwf, remoteOpen_of_lt s ha]

/-! ### Which operation a word address has -/

/-- A reserved offset of a page ignores a write (R9). -/
theorem wordOp_of_reserved {port : Port} {env : WriteEnv} {a : Nat} {v : Word} {s : State} {k : PageKind}
    (hk : pageKind (pageOf a) = some k) (hwin : k ≠ .ctxWin) (hrow : regRow a = none) :
    wordOp port env a v s = accept s := by
  simp [wordOp, hk, hwin, hrow]

/-- A register above the header belongs to its block (R37). -/
theorem wordOp_of_block {port : Port} {env : WriteEnv} {a : Nat} {v : Word} {s : State} {k : PageKind} {r : RegRow}
    (hk : pageKind (pageOf a) = some k) (hrow : regRow a = some r) (hoff : 0x40 ≤ a % 4096) :
    wordOp port env a v s = blockWrite port env k a v s := by
  simp only [wordOp, hk, hrow, Option.isNone_some, Bool.false_eq_true, false_and, if_false]
  split
  · rfl
  · split
    case h_6 => rfl
    all_goals omega

/-- The pages `ID`, `BUP` and `HOST` give no register above their header a behaviour of its own. -/
theorem blockWrite_of_plainPage {port : Port} {env : WriteEnv} {a : Nat} {v : Word} {s : State} {k : PageKind}
    (hk : k = .id ∨ k = .bup ∨ k = .host) : blockWrite port env k a v s = plainWrite a v s := by
  rcases hk with rfl | rfl | rfl <;> rfl

/-- A register without behaviour of its own takes the value its access code gives it (R10). -/
theorem plainWrite_of_row {a : Nat} {v : Word} {s : State} {r : RegRow} (hrow : regRow a = some r) :
    plainWrite a v s = accept (s.wr a (plainValue r (s.rd a) v)) := by
  simp [plainWrite, hrow]

/-- Settles O7: the write runs `plainWrite`, which puts `plainValue` into the register, and a reserved offset ignores it. -/
theorem registerWriteTakesEffectOrIsIgnoredByItsAccessCode :
    Obligations.RegisterWriteTakesEffectOrIsIgnoredByItsAccessCode := by
  unfold Obligations.RegisterWriteTakesEffectOrIsIgnoredByItsAccessCode
  intro port a v env s hwf hoff ha hadm hpage
  obtain ⟨k, hk, hplain⟩ : ∃ k, pageKind (pageOf a) = some k ∧ (k = .id ∨ k = .bup ∨ k = .host) := by
    rcases hpage with h | h | h <;> exact ⟨_, h, by simp⟩
  cases hrow : regRow a with
  | none =>
    have hwin : k ≠ .ctxWin := by rcases hplain with rfl | rfl | rfl <;> decide
    exact gives_registerWrite hwf ha hadm (wordOp_of_reserved hk hwin hrow)
      (fun u hregs hmem => ⟨State.rd_congr hregs a, frame_of_regs_mem hregs hmem⟩)
  | some r =>
    have hop : wordOp port env a v s = accept (s.wr a (plainValue r (s.rd a) v)) := by
      rw [wordOp_of_block hk hrow hoff, blockWrite_of_plainPage hplain, plainWrite_of_row hrow]
    refine gives_registerWrite hwf ha hadm hop (fun u hregs hmem =>
      ⟨?_, frame_trans (frame_wr s a _) (frame_of_regs_mem hregs hmem)⟩)
    rw [State.rd_congr hregs, State.rd_wr_self]
    cases hacc : r.acc <;> simp only [plainValue, hacc]

end Sys2Proof.Laws.Fabric
end

section
/-! PROOFS. What bring-up shows, and which operations of the device leave it alone (R64, R70). -/

namespace Sys2Proof.Laws.BringUp
open Sys2Proof.Machine Sys2Proof.Safety

/-! ### The view -/

/-- What a reset decides: the memory windows, the state of bring-up, its cause of failure, and the record of resets. -/
structure View where
  mem : List Host.Cell
  state : Word
  fail : Word
  cause : Word
  count : Word

/-- That part of a state. -/
def view (s : State) : View := ⟨s.mem, s.rd Bup.STATE, s.rd Bup.FAIL, s.rd Bup.RST_CAUSE, s.rd Bup.RST_COUNT⟩

theorem mem_of_view {s t : State} (h : view t = view s) : t.mem = s.mem := congrArg View.mem h

theorem rd_cause_of_view {s t : State} (h : view t = view s) : t.rd Bup.RST_CAUSE = s.rd Bup.RST_CAUSE :=
  congrArg View.cause h

theorem phase_of_view {s t : State} (h : view t = view s) : t.phase = s.phase :=
  congrArg (fun x : View => fld x.state 3 0) h

theorem view_of_regs_mem {s t : State} (hr : t.regs = s.regs) (hm : t.mem = s.mem) : view t = view s := by
  simp only [view, State.rd_congr hr, hm]

theorem view_ite {c : Prop} [Decidable c] {s t u : State} (ht : view t = view s) (hu : view u = view s) :
    view (if c then t else u) = view s := by
  split
  · exact ht
  · exact hu

theorem view_foldl {α : Type} {f : State → α → State} (h : ∀ t x, view (f t x) = view t) (l : List α) (s : State) :
    view (l.foldl f s) = view s := by
  induction l generalizing s with
  | nil => rfl
  | cons x l ih => exact (ih (f s x)).trans (h s x)

/-! ### State operations: a register from `READY` on is no part of the view -/

section
variable {s : State} {a p : Nat}

theorem view_wr {v : Word} (ha : Bup.READY ≤ a) : view (s.wr a v) = view s := by
  have hne : ∀ b, b < Bup.READY → (s.wr a v).rd b = s.rd b := fun b hb => State.rd_wr_ne s a b v (by omega)
  simp only [view, State.wr_mem, hne Bup.STATE (by decide), hne Bup.FAIL (by decide), hne Bup.RST_CAUSE (by decide),
    hne Bup.RST_COUNT (by decide)]

theorem view_wrF {hi lo v : Nat} (ha : Bup.READY ≤ a) : view (s.wrF a hi lo v) = view s := view_wr ha

theorem view_wrB {i : Nat} {b : Bool} (ha : Bup.READY ≤ a) : view (s.wrB a i b) = view s := view_wr ha

theorem ready_le_hdr {o : Nat} (hp : 2 ≤ p) : Bup.READY ≤ p * 4096 + o := by simp only [Bup.READY]; omega

theorem view_raw {i : Nat} {b : Bool} (hp : 2 ≤ p) : view (s.raw p i b) = view s :=
  (view_wr (ready_le_hdr hp)).trans (view_wr (ready_le_hdr hp))

theorem view_pulse {i : Nat} (hp : 2 ≤ p) : view (s.pulse p i) = view s := by
  unfold State.pulse
  split
  · rfl
  · exact (view_wr (ready_le_hdr hp)).trans (view_raw hp)

@[simp] theorem view_stampNow : view (s.stampNow a) = view s :=
  view_of_regs_mem rfl rfl
@[simp] theorem view_incL : view (s.incL a) = view s :=
  view_of_regs_mem rfl rfl
@[simp] theorem view_emit {c : EvClass} {k o : Nat} {d : Word} : view (s.emit c p k o d) = view s :=
  view_of_regs_mem rfl rfl

end

/-! ### Power states, modulator, gate links and protection -/

section
variable (s : State)

theorem view_pwrGo (st : Nat) : view (pwrGo st s) = view s := (view_pulse (by decide)).trans (view_wr (by decide))

@[simp] theorem view_wakeOn (k : Nat) : view (wakeOn k s) = view s := by
  have hmark : view (s.wrB Sec.WAKE_STAT k true) = view s := view_wrB (by decide)
  have hgo : view (pwrGo 0 (s.wrB Sec.WAKE_STAT k true)) = view s := (view_pwrGo _ 0).trans hmark
  unfold wakeOn wake
  dsimp only
  exact view_ite (view_ite ((view_pulse (by decide)).trans hgo)
    (view_ite (view_ite ((view_wr (by decide)).trans hmark) hgo) rfl)) rfl

@[simp] theorem view_wakeRisen (k p : Nat) (mask : Word) (old : State) : view (wakeRisen k p mask old s) = view s := by
  unfold wakeRisen
  split
  · exact view_wakeOn s k
  · rfl

@[simp] theorem view_setPwm (x : PwmState) : view { s with pwm := x } = view s :=
  view_of_regs_mem rfl rfl

@[simp] theorem view_setProt (x : ProtState) : view { s with prot := x } = view s :=
  view_of_regs_mem rfl rfl

@[simp] theorem view_setIsl (x : IslandState) : view { s with isl := x } = view s :=
  view_of_regs_mem rfl rfl

@[simp] theorem view_putCh (c : Nat) (h : ChHid) : view (putCh c h s) = view s :=
  view_of_regs_mem rfl rfl

@[simp] theorem view_putLeg (g x : Nat) (h : LegHid) : view (putLeg g x h s) = view s :=
  view_of_regs_mem rfl rfl

@[simp] theorem view_wrB_chStat (c i : Nat) (b : Bool) : view (s.wrB (Ch.CH_STAT c) i b) = view s :=
  view_wrB (by simp only [Bup.READY, Ch.CH_STAT]; omega)

@[simp] theorem view_setLevel (c : Nat) (b : Bool) (t8 : Int) : view (setLevel c b t8 s) = view s := by
  have hlevel : view ((s.wrB (Ch.CH_STAT c) 0 b).wrB (Ch.CH_STAT c) 1 false) = view s :=
    (view_wrB_chStat _ c 1 false).trans (view_wrB_chStat s c 0 b)
  unfold setLevel
  exact view_ite (view_wrB_chStat s c 1 false) (view_ite ((view_setPwm _ _).trans hlevel)
    ((view_putCh _ c _).trans ((view_setPwm _ _).trans hlevel)))

@[simp] theorem view_requestOn (c : Nat) (t8 : Int) : view (requestOn c t8 s) = view s := by
  unfold requestOn
  dsimp only
  exact view_ite rfl (view_ite (view_setLevel s c true t8) ((view_putCh _ c _).trans (view_wrB_chStat s c 1 true)))

@[simp] theorem view_showRank (c : Nat) : view (showRank c s) = view s :=
  (view_wrB_chStat _ c 2 _).trans (view_wrF (by simp only [Bup.READY, Ch.CH_STAT]; omega))

@[simp] theorem view_showPassage (g x : Nat) (b : Bool) : view (showPassage g x b s) = view s :=
  view_wrB (by simp only [Bup.READY, Grp.GRP_STAT]; omega)

@[simp] theorem view_passLeg (t8 : Int) (g x : Nat) : view (passLeg t8 s g x) = view s := by
  unfold passLeg
  dsimp only
  refine view_ite rfl ?_
  split
  · exact view_ite rfl ((view_showPassage _ g x false).trans (view_putLeg s g x _))
  · exact view_ite rfl (view_ite (view_incL.trans ((view_showPassage _ g x true).trans (view_putLeg s g x _)))
      ((view_showPassage _ g x false).trans (view_putLeg s g x _)))

@[simp] theorem view_resolve (cs : List Nat) (upd : Nat → Bool) (t8 : Int) : view (resolve cs upd t8 s) = view s := by
  have hoff : ∀ t c, view (if wants t c then t else setLevel c false t8 t) = view t := by
    intro t c; split <;> simp
  have hon : ∀ t c, view (if wants t c then requestOn c t8 t else t) = view t := by
    intro t c; split <;> simp
  have hleg : ∀ (t : State) (e : Nat × Nat), view (passLeg t8 t e.1 e.2) = view t := fun t e => view_passLeg t t8 e.1 e.2
  have hgov : ∀ t c, view (putCh c (govern t (upd c) c) t) = view t := fun t c => view_putCh t c _
  simp only [resolve, view_foldl hon, view_foldl hoff, view_foldl hleg, view_foldl (fun t c => view_showRank t c), view_foldl hgov]

@[simp] theorem view_resolveNow : view (resolveNow s) = view s := view_resolve s _ _ _

@[simp] theorem view_dropForce (tag : ForceTag) (id : Nat) : view (dropForce tag id s) = view s :=
  (view_resolveNow _).trans (view_of_regs_mem rfl rfl)

@[simp] theorem view_putPos (n : Nat) (h : GlHid) : view (putPos n h s) = view s :=
  view_of_regs_mem rfl rfl

@[simp] theorem view_updCarry (n : Nat) : view (updCarry n s) = view s := by
  unfold updCarry
  dsimp only
  exact view_ite rfl (view_putPos s n _)

@[simp] theorem view_glMasks : view (glMasks s) = view s := by
  simp (disch := decide) only [glMasks, view_wr]

@[simp] theorem view_glLevels : view (glLevels s) = view s := by
  simp (disch := decide) only [glLevels, view_raw]

theorem view_wrF_glStat (n hi lo v : Nat) : view (s.wrF (GlPos.GL_STAT n) hi lo v) = view s :=
  view_wrF (by simp only [Bup.READY, GlPos.GL_STAT]; omega)

@[simp] theorem view_setGl (n st : Nat) : view (setGl n st s) = view s := by
  simp only [setGl, view_glLevels, view_glMasks, view_updCarry, view_wrF_glStat]
  split <;> simp

@[simp] theorem view_glFail (n code : Nat) : view (glFail n code s) = view s := by
  simp (disch := decide) only [glFail, view_emit, view_pulse, view_setGl, view_putPos, view_wrF_glStat]

@[simp] theorem view_allOffFrame (n : Nat) (soft : Bool) : view (allOffFrame n soft s) = view s := by
  unfold allOffFrame
  dsimp only
  exact view_ite rfl (view_ite ((view_glFail _ n 6).trans (view_putPos s n _)) (view_putPos s n _))

@[simp] theorem view_allOffFrames (ps : List Nat) (soft : Bool) : view (allOffFrames ps soft s) = view s :=
  view_foldl (fun t n => view_allOffFrame t n soft) ps s

@[simp] theorem view_protShow : view (protShow s) = view s := by
  unfold protShow
  dsimp only
  split <;> simp (disch := decide) only [view_setProt, view_wakeRisen, view_raw, view_wr]

/-! ### The safety island -/

@[simp] theorem view_setReady (i : Nat) (b : Bool) : view (setReady i b s) = view s := view_wrB (Nat.le_refl _)

@[simp] theorem view_safeShow : view (safeShow s) = view s := by
  simp (disch := decide) only [safeShow, view_wakeRisen, view_raw, view_setReady]

@[simp] theorem view_outputs : view (outputs s) = view s := by
  simp only [outputs, view_safeShow]
  split
  · simp (disch := decide) only [view_allOffFrames, view_protShow, view_resolveNow, view_wakeOn, view_pulse, view_setIsl]
  · exact view_setIsl s _

@[simp] theorem view_putSg (g : Nat) (h : SafeGrp) : view (putSg g h s) = view s :=
  view_of_regs_mem rfl rfl

@[simp] theorem view_putSi (k : Nat) (h : SafeIn) : view (putSi k h s) = view s :=
  view_of_regs_mem rfl rfl

@[simp] theorem view_enterStopped (g : Nat) (delay : Bool) : view (enterStopped g delay s) = view s := by
  have hgrp : view (putGrp g 0 s) = view s := view_wrF (by decide)
  unfold enterStopped
  dsimp only
  rw [view_outputs]
  exact view_ite (by simp [hgrp]) (by simp [hgrp])

@[simp] theorem view_islandStop : view (islandStop s) = view s := by
  have hgroup : ∀ (t : State) (g : Nat), view (let t1 := putSg g { sgOf t g with relReq := false, stoDue := none } t
      if grpState t1 g = 0 then t1 else enterStopped g false t1) = view t := by
    intro t g; dsimp only; split <;> simp
  have hinput : ∀ (t : State) (k : Nat), view (putSi k { siOf t k with opened := false, seenA := false, seenB := false }
      (t.wrB (SafeIn.SI_STAT k) 5 false)) = view t := fun t k =>
    (view_putSi _ k _).trans <| view_wrB (by simp only [Bup.READY, SafeIn.SI_STAT]; omega)
  simp only [islandStop, view_outputs, view_setPwm, view_foldl hinput, endSession, view_setIsl, view_foldl hgroup]

end
end Sys2Proof.Laws.BringUp
end

section
/-! PROOFS. System and supervisor resets: what they leave in the memory windows, in bring-up and in the record of resets (R62, R70). -/

namespace Sys2Proof.Laws.Resets
open Sys2Proof.Machine Sys2Proof.Safety Sys2Proof.Laws.BringUp

/-- A read of a map of which only the entries with keys in `q` are kept. -/
theorem get_filter {α : Type} [DecidableEq α] (d : Nat → α) (q : Nat → Bool) (m : List (Nat × α)) (a : Nat) :
    KMap.get d (m.filter (fun e => q e.1)) a = if q a then KMap.get d m a else d a := by
  induction m with
  | nil => simp [KMap.get]
  | cons e m ih =>
    obtain ⟨b, w⟩ := e
    by_cases hb : b = a
    · subst hb
      cases hq : q b <;> simp_all [KMap.get]
    · cases hq : q b <;> simp [KMap.get, hb, hq, ih]

/-- A bit put into a word stands in it. -/
theorem bit_setBit_self (w : Word) {i : Nat} (hi : i < 32) : bit (setBit w i true) i = true := by
  have hput : (word (bitN true % 2 ^ (i + 1 - i) * 2 ^ i)).getLsbD i = true := by
    rw [Nat.add_sub_cancel_left, BitVec.getLsbD_ofNat]
    simp [hi]
  simp only [bit, setBit, setFld, BitVec.getLsbD_or, hput, Bool.or_true]

/-! ### The parts of a reset -/

section
variable (s : State)

@[simp] theorem view_closeAllLocks : view (closeAllLocks s) = view s := by
  have hkeep : ∀ a, lockReg a = false → (closeAllLocks s).rd a = s.rd a := fun a ha => by
    simp [closeAllLocks, endSession, State.rd, get_filter rst (fun a => !lockReg a), ha]
  simp only [view, hkeep Bup.STATE (by decide), hkeep Bup.FAIL (by decide), hkeep Bup.RST_CAUSE (by decide),
    hkeep Bup.RST_COUNT (by decide)]
  rfl

@[simp] theorem view_endGrant : view (endGrant s) = view s := by
  simp (disch := decide) only [endGrant, view_wr]
  exact view_of_regs_mem rfl rfl

@[simp] theorem view_restartBringup : view (restartBringup s) = view s := view_of_regs_mem rfl rfl

theorem view_keepFields (t : State) : view (keepFields s t) = view t := by
  simp (disch := decide) only [keepFields, view_wr]

/-- `clearControl` empties the windows and gives bring-up its reset values; the record of resets stays (R62, R70). -/
theorem view_clearControl :
    view (clearControl s) = ⟨[], rst Bup.STATE, rst Bup.FAIL, s.rd Bup.RST_CAUSE, s.rd Bup.RST_COUNT⟩ := by
  have hkeep := get_filter rst (fun a => islandPage (pageOf a) || nvReg a ||
    decide (a = Bup.RST_CAUSE ∨ a = Bup.RST_COUNT ∨ a = Clk.REF_CFG)) s.regs
  rw [clearControl, view_keepFields]
  simp only [view, State.rd, hkeep]
  rfl

/-! ### System reset -/

theorem view_sysReset (l : List Nat) : view (sysReset l s) =
    view (clearControl ((l.foldl (fun t i => t.wrB Bup.RST_CAUSE i true) (noteReset (l.getD 0 0) (tornControl s))).incSat
      Bup.RST_COUNT 15 0)) := by
  simp only [sysReset, view_islandStop, view_closeAllLocks, view_restartBringup]

theorem mem_sysReset (l : List Nat) : (sysReset l s).mem = [] :=
  congrArg View.mem ((view_sysReset s l).trans (view_clearControl _))

theorem phase_sysReset (l : List Nat) : (sysReset l s).phase = 1 :=
  have hreset : fld (rst Bup.STATE) 3 0 = 1 := by decide
  (congrArg (fun x : View => fld x.state 3 0) ((view_sysReset s l).trans (view_clearControl _))).trans hreset

/-- A system reset shows its cause (R70). -/
theorem cause_sysReset {i : Nat} (hi : i < 32) : (sysReset [i] s).rdB Bup.RST_CAUSE i = true := by
  have hcause := congrArg View.cause ((view_sysReset s [i]).trans (view_clearControl _))
  have hne : Bup.RST_CAUSE ≠ Bup.RST_COUNT := by decide
  simp only [view, List.foldl_cons, List.foldl_nil, State.incSat, State.rd_wrF, if_neg hne, State.rd_wrB, if_pos] at hcause
  rw [State.rdB, hcause, bit_setBit_self _ hi]

/-! ### Supervisor reset -/

@[simp] theorem view_setFw (x : FwState) : view { s with fw := x } = view s := view_of_regs_mem rfl rfl

@[simp] theorem view_putSlot (n st : Nat) : view (putSlot n st s) = view s := by
  unfold putSlot
  exact view_ite (view_setFw s _) (view_setFw s _)

@[simp] theorem view_lastFail (code n : Nat) : view (lastFail code n s) = view s := view_wr (by decide)

@[simp] theorem view_makeGood (n : Nat) : view (makeGood n s) = view s :=
  (view_setFw _ _).trans (view_putSlot s n 5)

@[simp] theorem view_raiseArb (n : Nat) : view (raiseArb n s) = view s := view_setFw s _

@[simp] theorem view_bootWrite : view (bootWrite s) = view s := by
  unfold bootWrite
  exact view_ite (view_setFw s _) (view_setFw s _)

theorem view_selectImage (fuel : Nat) (power : Bool) : view (selectImage fuel power s).2 = view s := by
  induction fuel generalizing s with
  | zero => rfl
  | succ fuel ih =>
    have htrial : ∀ n, view (if power = true then putSlot n 3 s else lastFail 0x0C n (putSlot n 7 s)) = view s := fun n =>
      view_ite (view_putSlot s n 3) ((view_lastFail _ 0x0C n).trans (view_putSlot s n 7))
    have hboot : ∀ n (t : State),
        view (if bootCheck t n = 0 then (some n, t) else selectImage fuel power (putSlot n 7 t)).2 = view t := by
      intro n t
      split <;> simp [ih]
    unfold selectImage
    dsimp only
    split
    · split
      · exact (hboot _ _).trans ((view_makeGood _ _).trans (htrial _))
      · exact (ih _).trans (htrial _)
    · split <;> simp [ih]
    · exact (hboot _ _).trans (view_makeGood _ _)
    · rfl

theorem view_bootSelect (power : Bool) : view (bootSelect power s).2 = view s := by
  unfold bootSelect
  split
  · rfl
  · exact view_ite (view_selectImage s 5 power) ((view_bootWrite _).trans (view_selectImage s 5 power))

@[simp] theorem view_declareFault : view (declareFault s) = view s := by
  unfold declareFault
  exact view_ite (view_of_regs_mem rfl rfl) rfl

@[simp] theorem view_supBoot : view (supBoot s) = view s := by
  have hstat : view ((s.wrF Fwim.FW_STAT 26 24 0).wrF Fwim.FW_STAT 9 9 0) = view s :=
    (view_wrF (by decide)).trans (view_wrF (by decide))
  simp only [supBoot, apply_ite view, view_bootSelect, view_setFw, hstat, ite_self]

@[simp] theorem view_emitPage (c : EvClass) (p k o : Nat) : view (emitPage c p k o s) = view s := view_emit

/-- Beside its record in `RST_CAUSE` and `RST_COUNT` a supervisor reset leaves the view of bring-up alone (R62). -/
theorem view_supReset (i : Nat) :
    view (supReset i s) = view ((s.wrB Bup.RST_CAUSE i true).incSat Bup.RST_COUNT 31 16) := by
  simp only [supReset, view_supBoot, apply_ite view, view_declareFault, view_emitPage, view_endGrant, view_closeAllLocks,
    ite_self]

theorem mem_supReset (i : Nat) : (supReset i s).mem = s.mem := by
  rw [mem_of_view (view_supReset s i), State.incSat, State.wrF_mem, State.wrB_mem]

theorem phase_supReset (i : Nat) : (supReset i s).phase = s.phase := by
  rw [phase_of_view (view_supReset s i)]
  have h1 : Bup.STATE ≠ Bup.RST_COUNT := by decide
  have h2 : Bup.STATE ≠ Bup.RST_CAUSE := by decide
  simp only [State.phase, State.rdF, State.incSat, State.rd_wrF, State.rd_wrB, if_neg h1, if_neg h2]

/-- A supervisor reset shows its cause (R70). -/
theorem cause_supReset {i : Nat} (hi : i < 32) : (supReset i s).rdB Bup.RST_CAUSE i = true := by
  have hne : Bup.RST_CAUSE ≠ Bup.RST_COUNT := by decide
  rw [State.rdB, rd_cause_of_view (view_supReset s i), State.incSat, State.rd_wrF, if_neg hne, State.rd_wrB, if_pos rfl,
    bit_setBit_self _ hi]

end
end Sys2Proof.Laws.Resets
end

section
/-! PROOFS. The record of a refused write (R45). -/

namespace Sys2Proof.Laws.Refusals
open Sys2Proof.Machine Sys2Proof.Safety Sys2Proof.Laws.Fabric

/-! ### ERRINFO -/

section
variable (s : State) (p : Nat) (port : Port) (c : RefCode) (off : Nat)

theorem frame_refuseAt : Frame (hERRINFO p :: irqRegs p) s (s.refuseAt p port c off) := by
  refine ⟨fun a ha => ?_, rdByte_congr (State.refuseAt_mem ..)⟩
  obtain ⟨herr, hraw, hpend⟩ : a ≠ hERRINFO p ∧ a ≠ hIRQ_RAW p ∧ a ≠ hIRQ_PEND p := by simpa [irqRegs] using ha
  rw [State.refuseAt, State.rd_raw_ne _ _ _ _ _ hraw hpend, State.rd_wr_ne _ _ _ _ herr]

/-- ERRINFO after a refusal: code, requester, whether an older refusal was overwritten, offset. -/
theorem rd_errinfo_refuseAt : (s.refuseAt p port c off).rd (hERRINFO p) =
    word (at' c.num 24 + at' port.num 20 + at' (if s.rd (hERRINFO p) = 0 then 0 else 1) 19 + off % 4096) := by
  rw [State.refuseAt, State.rd_raw_ne _ _ _ _ _ (by simp [hERRINFO, hIRQ_RAW]) (by simp [hERRINFO, hIRQ_PEND]),
    State.rd_wr_self]

/-- The fields of ERRINFO that name the code and the requester. -/
theorem fields_errinfo_refuseAt : (s.refuseAt p port c off).rdF (hERRINFO p) 31 24 = c.num ∧
    (s.refuseAt p port c off).rdF (hERRINFO p) 23 20 = port.num := by
  have hcode : c.num < 16 := by cases c <;> decide
  have hport : port.num < 16 := by cases port <;> decide
  have hovr : (if s.rd (hERRINFO p) = 0 then 0 else 1) < 2 := by split <;> omega
  simp only [State.rdF, fld, rd_errinfo_refuseAt, at', BitVec.toNat_ofNat]
  omega

end

/-! ### A write that the fabric admits and its operation refuses -/

/-- An admitted write whose operation refuses it leaves the record of the refusal, and the code in the debug port's register (R44, R45). -/
theorem gated_of_deny {port : Port} {a : Nat} {v : Word} {op : State → Reply} {s : State} {c : RefCode}
    (hadm : Admits s port a) (hop : op s = deny s c) (hc : c ≠ .none) :
    gated port a v op s = (debugNote port c 0 (recordRefusal port a c s), c) := by
  have hcode : gateCode s port a = .none := hadm
  cases c <;> simp_all [gated, gate, recorded, deny]

/-- An admitted REGISTER_WRITE of this device whose operation refuses it leaves the record of the refusal on page `p` and nothing else
(R43, R45). -/
theorem gives_registerWrite_of_deny {port : Port} {a : Nat} {v : Word} {env : WriteEnv} {s : State} {c : RefCode} {p : Nat}
    (hwf : Instr.wf (.registerWrite port a v env) = true) (ha : a < 0x800000) (hadm : Admits s port a)
    (hop : wordOp port env a v s = deny s c) (hc : c ≠ .none) (hpage : refusalPage port a c s = p) :
    Gives (.registerWrite port a v env) s (fun t =>
      t.rdF (hERRINFO p) 31 24 = c.num ∧ t.rdF (hERRINFO p) 23 20 = port.num ∧ Frame (hERRINFO p :: irqRegs p) s t) := by
  subst hpage
  have hregs : (debugNote port c 0 (recordRefusal port a c s)).regs = (recordRefusal port a c s).regs := debugNote_regs ..
  have hmem : (debugNote port c 0 (recordRefusal port a c s)).mem = (recordRefusal port a c s).mem := debugNote_mem ..
  obtain ⟨hnum, hreq⟩ := fields_errinfo_refuseAt s (refusalPage port a c s) port c (a % 4096)
  refine ⟨(gated port a v (wordOp port env a v) s).1, ?_, ?_⟩
  · simp [exec, execRegisterWrite, replied, writeWord, writeCore, gated, wordAddr_of_wf hwf, remoteOpen_of_lt s ha]
  · rw [gated_of_deny hadm hop hc]
    refine ⟨?_, ?_, frame_trans (frame_refuseAt s _ port c (a % 4096)) (frame_of_regs_mem hregs hmem)⟩
    · rw [State.rdF, State.rd_congr hregs]
      exact hnum
    · rw [State.rdF, State.rd_congr hregs]
      exact hreq

end Sys2Proof.Laws.Refusals
end

section
/-! PROOFS. The keyed resets of `CLK.SWRST` (R74). -/

namespace Sys2Proof.Laws.SoftwareReset
open Sys2Proof.Machine Sys2Proof.Safety Sys2Proof.Laws.Fabric Sys2Proof.Laws.Refusals Sys2Proof.Laws.Resets

section
variable {port : Port} {v : Word} {env : WriteEnv} {s : State}

theorem wordOp_swrst : wordOp port env Clk.SWRST v s = swrstWrite v s :=
  wordOp_of_block (k := .clk) (r := ⟨0x54, 1, 0, 1, .wo, 0, 0xFFFFFFFF⟩) (by decide) (by decide) (by decide)

theorem wf_swrst : Instr.wf (.registerWrite port Clk.SWRST v env) = true :=
  have hmapped : isMappedAddr Clk.SWRST = true := by decide
  hmapped

/-- SWRST is write-only, not RW/L: the fabric admits its write on a page that answers, and `swrstWrite` looks at the LOCK itself. -/
theorem admits_swrst (hport : port ≠ .debug) (hbusy : busyPage s Clk.page = false) (htwin : twinBars s port Clk.page = false) :
    Admits s port Clk.SWRST := by
  have hmapped : isMapped Clk.SWRST = true := by decide
  have hlock : needsLock Clk.SWRST = false := by decide
  have hhome : homePage Clk.SWRST = Clk.page := by decide
  have hpage : pageOf Clk.SWRST = Clk.page := by decide
  simp [Admits, gateCode, hmapped, hlock, hhome, hpage, hport, hbusy, htwin]

/-- A refusal of SWRST that is not for a busy page is recorded on the page itself (R45). -/
theorem refusalPage_swrst {c : RefCode} (hc : c ≠ .busy) : refusalPage port Clk.SWRST c s = Clk.page := by
  have hmapped : isMapped Clk.SWRST = true := by decide
  have hhome : homePage Clk.SWRST = Clk.page := by decide
  simp [refusalPage, hmapped, hhome, hc]

theorem swrstWrite_of_closed (hlock : lockOpen s Clk.page = false) : swrstWrite v s = deny s .locked := by
  simp [swrstWrite, hlock]

theorem swrstWrite_system (hlock : lockOpen s Clk.page = true) : swrstWrite 0x53595352 s = accept (sysReset [5] s) := by
  simp [swrstWrite, hlock]

theorem swrstWrite_supervisor (hlock : lockOpen s Clk.page = true) : swrstWrite 0x53555052 s = accept (supReset 18 s) := by
  simp [swrstWrite, hlock]

theorem swrstWrite_of_otherKey (hlock : lockOpen s Clk.page = true) (hsys : v ≠ 0x53595352) (hsup : v ≠ 0x53555052) :
    swrstWrite v s = deny s .keyRequired := by
  rw [swrstWrite, hlock, Bool.not_true, if_neg Bool.false_ne_true, if_neg hsys, if_neg hsup]

end

/-- Settles O29: the gate admits the write, and `swrstWrite` refuses it or runs the reset of its key. -/
theorem softwareResetsNeedTheirKeyAndTheOpenLock : Obligations.SoftwareResetsNeedTheirKeyAndTheOpenLock := by
  unfold Obligations.SoftwareResetsNeedTheirKeyAndTheOpenLock
  intro port v env s hport hbusy htwin
  have hadm := admits_swrst hport hbusy htwin
  have hlow : Clk.SWRST < 0x800000 := by decide
  refine ⟨fun hlock => ?closed, fun hlock => ⟨?system, ?supervisor, fun hsys hsup => ?otherKey⟩⟩
  case closed =>
    exact gives_registerWrite_of_deny wf_swrst hlow hadm (wordOp_swrst.trans (swrstWrite_of_closed hlock)) (by decide)
      (refusalPage_swrst (by decide))
  case system =>
    refine gives_registerWrite wf_swrst hlow hadm (wordOp_swrst.trans (swrstWrite_system hlock)) (fun u hregs hmem => ⟨?_, ?_, ?_⟩)
    · rw [State.rdB, State.rd_congr hregs]
      exact cause_sysReset s (by decide)
    · rw [State.phase, State.rdF, State.rd_congr hregs]
      exact phase_sysReset s [5]
    · intro a
      rw [State.rdByte, hmem, mem_sysReset]
      rfl
  case supervisor =>
    refine gives_registerWrite wf_swrst hlow hadm (wordOp_swrst.trans (swrstWrite_supervisor hlock)) (fun u hregs hmem => ⟨?_, ?_, ?_⟩)
    · rw [State.rdB, State.rd_congr hregs]
      exact cause_supReset s (by decide)
    · rw [State.phase, State.rdF, State.rd_congr hregs]
      exact phase_supReset s 18
    · exact rdByte_congr (hmem.trans (mem_supReset s 18))
  case otherKey =>
    exact gives_registerWrite_of_deny wf_swrst hlow hadm (wordOp_swrst.trans (swrstWrite_of_otherKey hlock hsys hsup)) (by decide)
      (refusalPage_swrst (by decide))

end Sys2Proof.Laws.SoftwareReset
end

section
/-! PROOFS. The state right after a first power-up (R64). -/

namespace Sys2Proof.Laws.ResetValues
open Sys2Proof.Machine

/-! ### Reset values of the header (R37, R40, R41, R45) -/

/-- Does the register that a page of kind `k` has at offset `o`, if any, reset to zero? -/
def resetsToZero (k : PageKind) (o : Nat) : Bool := (k.rowAt o).all (fun r => decide (r.rst = 0))

/-- A register other than `BUP.IRQ_EN` resets to zero where its page's kind says so at its offset; an undefined page reads zero. -/
theorem rst_eq_zero {p o : Nat} (ho : o < 4096) (hne : p * 4096 + o ≠ 0x1018)
    (hzero : ∀ k, pageKind p = some k → resetsToZero k o = true) : rst (p * 4096 + o) = 0 := by
  have hpage : (p * 4096 + o) / 4096 = p := by omega
  have hoff : (p * 4096 + o) % 4096 = o := by omega
  rw [rst, if_neg hne, regRow, hpage, hoff]
  cases hk : pageKind p with
  | none => rfl
  | some k =>
    have hrow := hzero k hk
    cases hr : k.rowAt o with
    | none => simp [hr]
    | some r =>
      have hreset : r.rst = 0 := by simpa [resetsToZero, hr] using hrow
      simp [hr, hreset]

/-- Whatever stands at the offsets of IRQ_EN, IRQ_PEND and LOCK resets to zero. -/
theorem resetsToZero_irq_lock (k : PageKind) :
    resetsToZero k 0x18 = true ∧ resetsToZero k 0x1C = true ∧ resetsToZero k 0x20 = true := by
  cases k <;> decide

/-- ERRINFO of a page with a header resets to zero. -/
theorem resetsToZero_errinfo {k : PageKind} (hk : k.header = true) : resetsToZero k 0x24 = true := by
  revert hk
  cases k <;> decide

theorem lockOpen_reset (p : Nat) : lockOpen State.reset p = false := by
  have hlock : rst (hLOCK p) = 0 :=
    rst_eq_zero (by decide) (by omega) (fun k _ => (resetsToZero_irq_lock k).2.2)
  have hrd : State.reset.rd (hLOCK p) = rst (hLOCK p) := rfl
  simp [lockOpen, State.rdB, hrd, hlock, bit]

theorem irqEn_reset (p : Nat) : State.reset.rd (hIRQ_EN p) = if p = 1 then 7 else 0 := by
  split
  case isTrue hp => subst hp; rfl
  case isFalse hp => exact rst_eq_zero (by decide) (by omega) (fun k _ => (resetsToZero_irq_lock k).1)

theorem irqPend_reset (p : Nat) : State.reset.rd (hIRQ_PEND p) = 0 :=
  rst_eq_zero (by decide) (by omega) (fun k _ => (resetsToZero_irq_lock k).2.1)

theorem errinfo_reset {p : Nat} (hp : Sys2Proof.Machine.hasHeader p = true) : State.reset.rd (hERRINFO p) = 0 :=
  rst_eq_zero (by decide) (by omega) (fun k hk => resetsToZero_errinfo (by simpa [Sys2Proof.Machine.hasHeader, hk] using hp))

/-- Settles O6: the header's registers take their reset values on every page, by the page's kind. -/
theorem resetStateStandsInSupplyCheck : Obligations.ResetStateStandsInSupplyCheck := by
  unfold Obligations.ResetStateStandsInSupplyCheck
  refine ⟨by decide, by decide, by decide, rfl, fun p _ => ⟨lockOpen_reset p, irqEn_reset p, irqPend_reset p, errinfo_reset⟩⟩

end Sys2Proof.Laws.ResetValues
end

section
/-! PROOFS. What power-stage protection leaves alone when it reacts to released samples or to the end of a cause (R265-R283): the memory
windows, the measurement chains, the instant, the source values, and every register below the field control pages. -/

namespace Sys2Proof.Laws.Protection
open Sys2Proof.Machine

/-! ### What stands outside protection -/

/-- What no reaction of protection touches. The lowest register one writes lies above 0x100000. -/
structure Outside where
  mem : List Host.Cell
  meas : MeasState
  now : Nat
  srcs : List (Nat × SrcVal)
  low : Nat → Word

/-- That part of a state. -/
def outside (s : State) : Outside :=
  ⟨s.mem, s.meas, s.now, s.srcs, fun a => if a < 0x100000 then s.rd a else 0⟩

theorem mem_of_outside {s t : State} (h : outside t = outside s) : t.mem = s.mem := congrArg Outside.mem h

/-- A register below the field control pages reads the same in states with the same outside. -/
theorem rd_of_outside {s t : State} (h : outside t = outside s) {a : Nat} (ha : a < 0x100000) : t.rd a = s.rd a := by
  have hlow := congrFun (congrArg Outside.low h) a
  simpa [outside, ha] using hlow

/-- A fold keeps a part of the state that its every step keeps. -/
theorem foldl_keeps {α β : Type} (part : State → β) {f : State → α → State} (h : ∀ t x, part (f t x) = part t) (l : List α) (s : State) :
    part (l.foldl f s) = part s := by
  induction l generalizing s with
  | nil => rfl
  | cons x l ih => exact (ih (f s x)).trans (h s x)

section
variable (s : State)

/-! ### State operations -/

theorem outside_wr {a : Nat} {v : Word} (ha : 0x100000 ≤ a) : outside (s.wr a v) = outside s := by
  have hlow : (fun b => if b < 0x100000 then (s.wr a v).rd b else 0) = fun b => if b < 0x100000 then s.rd b else 0 := by
    funext b
    split
    · exact State.rd_wr_ne s a b v (by omega)
    · rfl
  simp only [outside, hlow, State.wr_mem, State.wr_meas, State.wr_now, State.wr_srcs]

theorem outside_wrF {a hi lo v : Nat} (ha : 0x100000 ≤ a) : outside (s.wrF a hi lo v) = outside s := outside_wr s ha

theorem outside_wrB {a i : Nat} {b : Bool} (ha : 0x100000 ≤ a) : outside (s.wrB a i b) = outside s := outside_wr s ha

theorem outside_raw {p i : Nat} {b : Bool} (hp : 0x100 ≤ p) : outside (s.raw p i b) = outside s :=
  (outside_wr _ (by simp only [hIRQ_PEND]; omega)).trans (outside_wr s (by simp only [hIRQ_RAW]; omega))

theorem outside_pulse {p i : Nat} (hp : 0x100 ≤ p) : outside (s.pulse p i) = outside s := by
  unfold State.pulse
  split
  · rfl
  · exact (outside_wr _ (by simp only [hIRQ_RAW]; omega)).trans (outside_raw s hp)

@[simp] theorem outside_wrL (a : Nat) (v : Word) : outside (s.wrL a v) = outside s := rfl

@[simp] theorem outside_incL (a : Nat) : outside (s.incL a) = outside s := rfl

@[simp] theorem outside_produce (a : Nat) (v : Word) : outside (s.produce a v) = outside s := rfl

@[simp] theorem outside_stampNow (a : Nat) : outside (s.stampNow a) = outside s := rfl

@[simp] theorem outside_emit (c : EvClass) (p k o : Nat) (d : Word) : outside (s.emit c p k o d) = outside s := rfl

@[simp] theorem outside_emitPage (c : EvClass) (p k o : Nat) : outside (emitPage c p k o s) = outside s := rfl

@[simp] theorem outside_setPwm (x : PwmState) : outside { s with pwm := x } = outside s := rfl

@[simp] theorem outside_setProt (x : ProtState) : outside { s with prot := x } = outside s := rfl

/-! ### Wakes (R473) -/

theorem outside_pwrGo (st : Nat) : outside (pwrGo st s) = outside s :=
  (outside_pulse _ (by decide)).trans (outside_wr s (by decide))

@[simp] theorem outside_wakeRisen (k p : Nat) (mask : Word) (old : State) : outside (wakeRisen k p mask old s) = outside s := by
  have hmark : outside (s.wrB Sec.WAKE_STAT k true) = outside s := outside_wrB s (by decide)
  simp (disch := decide) only [wakeRisen, wakeOn, wake, apply_ite outside, outside_pulse, outside_pwrGo, outside_wr, hmark, ite_self]

/-! ### The modulator's authorities (R28-R30) -/

@[simp] theorem outside_putCh (c : Nat) (h : ChHid) : outside (putCh c h s) = outside s := rfl

@[simp] theorem outside_putLeg (g x : Nat) (h : LegHid) : outside (putLeg g x h s) = outside s := rfl

theorem chStat_ge (c : Nat) : 0x100000 ≤ Ch.CH_STAT c := by
  simp only [Ch.CH_STAT]
  omega

@[simp] theorem outside_setLevel (c : Nat) (b : Bool) (t8 : Int) : outside (setLevel c b t8 s) = outside s := by
  have hlevel : outside ((s.wrB (Ch.CH_STAT c) 0 b).wrB (Ch.CH_STAT c) 1 false) = outside s :=
    (outside_wrB _ (chStat_ge c)).trans (outside_wrB s (chStat_ge c))
  simp only [setLevel, apply_ite outside, outside_wrB s (chStat_ge c), outside_putCh, outside_setPwm, hlevel, ite_self]

@[simp] theorem outside_requestOn (c : Nat) (t8 : Int) : outside (requestOn c t8 s) = outside s := by
  simp only [requestOn, apply_ite outside, outside_setLevel, outside_putCh, outside_wrB s (chStat_ge c), ite_self]

@[simp] theorem outside_showRank (c : Nat) : outside (showRank c s) = outside s :=
  (outside_wrB _ (chStat_ge c)).trans (outside_wrF s (chStat_ge c))

@[simp] theorem outside_showPassage (g x : Nat) (b : Bool) : outside (showPassage g x b s) = outside s :=
  outside_wrB s (by simp only [Grp.GRP_STAT]; omega)

@[simp] theorem outside_passLeg (t8 : Int) (g x : Nat) : outside (passLeg t8 s g x) = outside s := by
  unfold passLeg
  dsimp only
  split
  · rfl
  · split <;> simp only [apply_ite outside, outside_incL, outside_showPassage, outside_putLeg, ite_self]

@[simp] theorem outside_resolveNow : outside (resolveNow s) = outside s := by
  have hoff : ∀ t c, outside (if wants t c then t else setLevel c false (8 * s.now) t) = outside t := by
    simp only [apply_ite outside, outside_setLevel, ite_self, implies_true]
  have hon : ∀ t c, outside (if wants t c then requestOn c (8 * s.now) t else t) = outside t := by
    simp only [apply_ite outside, outside_requestOn, ite_self, implies_true]
  have hleg : ∀ (t : State) (e : Nat × Nat), outside (passLeg (8 * s.now) t e.1 e.2) = outside t :=
    fun t e => outside_passLeg t _ e.1 e.2
  have hgov : ∀ t c, outside (putCh c (govern t false c) t) = outside t := fun t c => outside_putCh t c _
  simp only [resolveNow, resolve, foldl_keeps outside hon, foldl_keeps outside hoff, foldl_keeps outside hleg,
    foldl_keeps outside (fun t c => outside_showRank t c), foldl_keeps outside hgov]

@[simp] theorem outside_addForce (f : Force) : outside (addForce f s) = outside s := outside_resolveNow _

@[simp] theorem outside_dropForce (tag : ForceTag) (id : Nat) : outside (dropForce tag id s) = outside s := outside_resolveNow _

/-! ### The gate links (R237-R256) -/

@[simp] theorem outside_putPos (n : Nat) (h : GlHid) : outside (putPos n h s) = outside s := rfl

@[simp] theorem outside_updCarry (n : Nat) : outside (updCarry n s) = outside s := by
  simp only [updCarry, apply_ite outside, outside_putPos, ite_self]

theorem glStat_ge (n : Nat) : 0x100000 ≤ GlPos.GL_STAT n := by
  simp only [GlPos.GL_STAT]
  omega

@[simp] theorem outside_setGl (n st : Nat) : outside (setGl n st s) = outside s := by
  simp (disch := decide) only [setGl, glLevels, glMasks, outside_raw, outside_wr, outside_updCarry, outside_wrF _ (glStat_ge n),
    apply_ite outside, outside_stampNow, ite_self]

@[simp] theorem outside_glFail (n code : Nat) : outside (glFail n code s) = outside s := by
  simp (disch := decide) only [glFail, outside_emit, outside_pulse, outside_setGl, outside_putPos, outside_wrF _ (glStat_ge n)]

@[simp] theorem outside_allOffFrame (n : Nat) (soft : Bool) : outside (allOffFrame n soft s) = outside s := by
  simp only [allOffFrame, apply_ite outside, outside_glFail, outside_putPos, ite_self]

@[simp] theorem outside_latchFrames (wasOff : List Nat) : outside (latchFrames wasOff s) = outside s :=
  foldl_keeps outside (fun t n => by simp only [apply_ite outside, outside_allOffFrame, ite_self]) _ s

/-! ### Protection's own registers (R290-R293) -/

@[simp] theorem outside_protShow : outside (protShow s) = outside s := by
  unfold protShow
  dsimp only
  split <;> simp (disch := decide) only [outside_setProt, outside_wakeRisen, outside_raw, outside_wr]

@[simp] theorem outside_protBit (i : Nat) (b : Bool) : outside (protBit i b s) = outside s :=
  (outside_protShow _).trans (outside_wrB s (by decide))

@[simp] theorem outside_protLockout : outside (protLockout s) = outside s := by
  simp only [protLockout, apply_ite outside, outside_emitPage, outside_protBit, ite_self]

/-! ### Speculations that a latch ends (R153) -/

@[simp] theorem outside_putCtx (n : Nat) (h : CtxHid) : outside (putCtx n h s) = outside s := rfl

@[simp] theorem outside_markCause (n c : Nat) : outside (markCause n c s) = outside s := rfl

@[simp] theorem outside_startPre (n : Nat) : outside (startPre n s) = outside s := rfl

@[simp] theorem outside_setCle (x : CleState) : outside { s with cle := x } = outside s := rfl

@[simp] theorem outside_squashAll (c : Nat) : outside (squashAll c s) = outside s := by
  refine foldl_keeps outside (fun t e => ?_) _ s
  unfold squashCtx
  dsimp only
  split <;> simp only [putRun, apply_ite outside, outside_setCle, outside_putCtx, outside_markCause, outside_incL, outside_startPre,
    ite_self]

/-! ### Latching and clearing (R265-R277) -/

@[simp] theorem outside_cancelAsc : outside (cancelAsc s) = outside s := rfl

@[simp] theorem outside_squallEvent (n obj : Nat) : outside (squallEvent n obj s) = outside s := rfl

@[simp] theorem outside_latchSource (n obj : Nat) (own : List Nat) : outside (latchSource n obj own s) = outside s := by
  unfold latchSource
  dsimp only
  split
  · rfl
  · split <;> simp only [apply_ite outside, outside_squallEvent, outside_protLockout, outside_squashAll, outside_latchFrames,
      outside_protShow, outside_resolveNow, outside_incL, outside_cancelAsc, outside_setProt, ite_self]

@[simp] theorem outside_putTripLatch (k : Nat) (b : Bool) : outside (putTripLatch k b s) = outside s :=
  (outside_raw _ (by decide)).trans (outside_wrB s (by decide))

@[simp] theorem outside_clearLatches (l : List Nat) : outside (clearLatches l s) = outside s := by
  have htrip : ∀ (t : State) (n : Nat), outside (if 32 ≤ n ∧ n < 40 then putTripLatch (n - 32) false t else t) = outside t := by
    simp only [apply_ite outside, outside_putTripLatch, ite_self, implies_true]
  simp only [clearLatches, outside_protShow, outside_resolveNow, foldl_keeps outside htrip, outside_setProt]

@[simp] theorem outside_shareClear (n : Nat) : outside (shareClear n s) = outside s := by
  unfold shareClear
  split <;> rfl

@[simp] theorem outside_retryClear (n : Nat) : outside (retryClear n s) = outside s := by
  simp (disch := decide) only [retryClear, outside_incL, outside_pulse, outside_setProt, outside_shareClear, outside_clearLatches]

@[simp] theorem outside_retryScan : outside (retryScan s) = outside s :=
  foldl_keeps outside (fun t n => by simp only [apply_ite outside, outside_retryClear, ite_self]) _ s

/-- With no source latched there is nothing to retry. -/
theorem retryScan_of_not_latched (h : anyLatched s = false) : retryScan s = s := by
  have hnil : s.prot.lats = [] := by simpa [anyLatched] using h
  simp only [retryScan, hnil, List.map_nil, List.foldl_nil]

/-- An accepted write lets retries clear. -/
theorem scanned_of_accepted {r : Reply} (h : r.2 = .none) : (scanned r).1 = retryScan r.1 := by
  simp only [scanned, h]

/-- A refused write ends no cause. -/
theorem scanned_of_refused {r : Reply} (h : r.2 ≠ .none) : (scanned r).1 = r.1 := by
  unfold scanned
  split
  · contradiction
  · rfl

/-! ### The chopper, the discharge and the escalation (R281-R286) -/

@[simp] theorem outside_protAsc (tag : ForceTag) (m : Nat) : outside (protAsc tag m s) = outside s := by
  have hstart : outside (ascStart m s) = outside s := by
    unfold ascStart
    split <;> rfl
  simp (disch := decide) only [protAsc, apply_ite outside, outside_protShow, outside_emitPage, outside_addForce, outside_pulse,
    outside_setProt, hstart, ite_self]

@[simp] theorem outside_disMethod (method : Nat) : outside (disMethod method s) = outside s := by
  simp (disch := decide) only [disMethod, outside_protShow, apply_ite outside, outside_dropForce, outside_addForce, outside_wr, ite_self]

@[simp] theorem outside_disEnd (code : Nat) : outside (disEnd code s) = outside s := by
  simp (disch := decide) only [disEnd, apply_ite outside, outside_emitPage, outside_protShow, outside_dropForce, outside_wr, ite_self]

@[simp] theorem outside_setChopFault : outside (setChopFault s) = outside s := by
  simp only [setChopFault, apply_ite outside, outside_disMethod, outside_emitPage, outside_protShow, outside_addForce, outside_dropForce,
    outside_protBit, ite_self]

@[simp] theorem outside_escStep2 : outside (escStep2 s) = outside s := by
  have hmach : ∀ (t : State) (m : Nat), outside (if !t.rdB Prot.ESC_CFG m then t
      else if t.rdF (Foc.CFG m) 1 0 = 0 then protAsc .escalation m t
      else protShow (addForce (blockForce t 3 2 .escalation m) t)) = outside t := by
    simp only [apply_ite outside, outside_protAsc, outside_protShow, outside_addForce, ite_self, implies_true]
  simp only [escStep2, apply_ite outside, foldl_keeps outside hmach, outside_protBit, ite_self]

/-! ### The DC-link evaluation (R278-R282) -/

@[simp] theorem outside_evalOv1 (v : Word) : outside (evalOv1 v s) = outside s := by
  simp only [evalOv1, apply_ite outside, outside_incL, outside_protShow, outside_addForce, outside_dropForce, ite_self]

@[simp] theorem outside_evalResponse (v : Word) : outside (evalResponse v s) = outside s := by
  unfold evalResponse
  split
  · rfl
  · simp only [apply_ite outside, outside_setProt, outside_setChopFault, ite_self]

@[simp] theorem outside_evalEscalation (v : Word) : outside (evalEscalation v s) = outside s := by
  simp only [evalEscalation, apply_ite outside, outside_escStep2, outside_setProt, outside_protBit, ite_self]

@[simp] theorem outside_dclStale : outside (dclStale s) = outside s := by
  simp only [dclStale, apply_ite outside, outside_emitPage, outside_protBit, ite_self]

/-- A DC-link evaluation delivers source 0x700 and leaves the rest of what stands outside protection alone. -/
theorem outside_dclEvaluate (v : Word) (seq at_ : Nat) :
    outside (dclEvaluate v seq at_ s) = outside (setSmp 0x700 v true seq at_ s) := by
  simp only [dclEvaluate, apply_ite outside, outside_evalResponse, outside_retryScan, outside_latchSource, outside_protBit,
    outside_evalEscalation, outside_evalOv1, outside_disEnd, outside_wrL, outside_produce, ite_self]

/-- A set without a valid value delivers source 0x700 as invalid and leaves the rest alone. -/
theorem outside_dclInvalid (seq at_ : Nat) :
    outside (dclInvalid seq at_ s) = outside (setSmp 0x700 (dcl s).value false seq at_ s) := outside_dclStale _

end
end Sys2Proof.Laws.Protection
end

section
/-! PROOFS. The frame of an update, built along the operations it is made of, and what an admitted write leaves beside its own operation. -/

namespace Sys2Proof.Laws.Frames
open Sys2Proof.Machine Sys2Proof.Safety Sys2Proof.Laws.Fabric

/-! ### Building a frame, one operation at a time -/

theorem frame_refl (l : List Nat) (s : State) : Frame l s s := ⟨fun _ _ => rfl, fun _ => rfl⟩

theorem frame_mono {l m : List Nat} {s t : State} (h : Frame l s t) (hlm : l ⊆ m) : Frame m s t :=
  ⟨fun a ha => h.1 a (fun hl => ha (hlm hl)), h.2⟩

section
variable {l : List Nat} {s t : State} (h : Frame l s t)
include h

/-- An update of hidden state stays in the frame. -/
theorem frame_hidden {u : State} (hr : u.regs = t.regs) (hm : u.mem = t.mem) : Frame l s u :=
  frame_trans h (frame_of_regs_mem hr hm)

theorem frame_put {a : Nat} (v : Word) (ha : a ∈ l) : Frame l s (t.wr a v) :=
  frame_trans h (frame_mono (frame_wr t a v) (by simpa using ha))

theorem frame_putBit {a : Nat} (i : Nat) (b : Bool) (ha : a ∈ l) : Frame l s (t.wrB a i b) := frame_put h _ ha

theorem frame_raw {p : Nat} (i : Nat) (b : Bool) (hp : irqRegs p ⊆ l) : Frame l s (t.raw p i b) := by
  obtain ⟨hraw, hpend⟩ : hIRQ_RAW p ∈ l ∧ hIRQ_PEND p ∈ l := by simpa [irqRegs] using hp
  exact frame_put (frame_put h _ hraw) _ hpend

theorem frame_pulse {p : Nat} (i : Nat) (hp : irqRegs p ⊆ l) : Frame l s (t.pulse p i) := by
  have hraw : hIRQ_RAW p ∈ l := hp (List.mem_cons_self ..)
  unfold State.pulse
  split
  · exact h
  · exact frame_put (frame_raw h i true hp) _ hraw

theorem frame_foldl {α : Type} {f : State → α → State} {xs : List α} (hf : ∀ k ∈ xs, ∀ u, Frame l s u → Frame l s (f u k)) :
    Frame l s (xs.foldl f t) := by
  induction xs generalizing t with
  | nil => exact h
  | cons k xs ih =>
    exact ih (hf k (List.mem_cons_self ..) t h) (fun j hj => hf j (List.mem_cons_of_mem k hj))

end

theorem frame_ite {l : List Nat} {s : State} {c : Prop} [Decidable c] {u v : State} (hu : Frame l s u) (hv : Frame l s v) : Frame l s (if c then u else v) := by
  split
  · exact hu
  · exact hv

/-- A register above a page's header is no interrupt register (R37). -/
theorem not_mem_irqRegs {a : Nat} (p : Nat) (ha : 0x40 ≤ a % 4096) : a ∉ irqRegs p := by
  simp only [irqRegs, List.mem_cons, List.not_mem_nil, or_false, hIRQ_RAW, hIRQ_PEND]
  omega

/-! ### A bit or field put into a register -/

/-- A bit cleared in a word reads as clear. -/
theorem bit_setBit_false (w : Word) {i : Nat} (hi : i < 32) : bit (setBit w i false) i = false := by
  have hmask : (fmask i i).getLsbD i = true := by
    rw [fmask, Nat.add_sub_cancel_left, BitVec.getLsbD_ofNat]
    simp [hi]
  simp [bit, setBit, setFld, hmask, bitN, hi]

theorem rdB_wrB_self (s : State) (a : Nat) {i : Nat} (hi : i < 32) (b : Bool) : (s.wrB a i b).rdB a i = b := by
  rw [State.rdB, State.rd_wrB, if_pos rfl]
  cases b with
  | true => exact Resets.bit_setBit_self _ hi
  | false => exact bit_setBit_false _ hi

/-! ### An admitted write and its operation -/

@[simp] theorem forward_meas (port : Port) (a : Nat) (v : Word) (s : State) : (forward port a v s).meas = s.meas := by
  unfold forward; split <;> rfl

@[simp] theorem forward_prot (port : Port) (a : Nat) (v : Word) (s : State) : (forward port a v s).prot = s.prot := by
  unfold forward; split <;> rfl

@[simp] theorem touchLock_meas (p : Nat) (s : State) : (touchLock p s).meas = s.meas := rfl

@[simp] theorem touchLock_prot (p : Nat) (s : State) : (touchLock p s).prot = s.prot := rfl

@[simp] theorem touchSession_meas (p : Nat) (s : State) : (touchSession p s).meas = s.meas := by
  unfold touchSession; split <;> rfl

@[simp] theorem touchSession_prot (p : Nat) (s : State) : (touchSession p s).prot = s.prot := by
  unfold touchSession; split <;> rfl

@[simp] theorem debugNote_meas (port : Port) (c : RefCode) (w : Word) (s : State) : (debugNote port c w s).meas = s.meas := by
  unfold debugNote; split <;> rfl

@[simp] theorem debugNote_prot (port : Port) (c : RefCode) (w : Word) (s : State) : (debugNote port c w s).prot = s.prot := by
  unfold debugNote; split <;> rfl

/-- An admitted write whose operation answers `t` is accepted, and ends with the measurement chains and the latches of `t`. -/
theorem gated_hidden_of_accept {port : Port} {a : Nat} {v : Word} {op : State → Reply} {s t : State}
    (hadm : Admits s port a) (hop : op s = accept t) :
    (gated port a v op s).1.meas = t.meas ∧ (gated port a v op s).1.prot = t.prot ∧ (gated port a v op s).2 = .none := by
  have hcode : gateCode s port a = .none := hadm
  by_cases hl : needsLock a = true <;> simp [gated, gate, recorded, accept, hcode, hop, hl]

/-- A write that the fabric admits and its operation accepts gives what holds of every state with the operation's registers, windows and
measurement chains. -/
theorem gives_gated {i : Instr} {port : Port} {a : Nat} {v : Word} {op : State → Reply} {s t : State} {P : State → Prop}
    (hexec : exec i s = replied (gated port a v op s)) (hadm : Admits s port a) (hop : op s = accept t)
    (hP : ∀ u : State, u.regs = t.regs → u.mem = t.mem → u.meas = t.meas → P u) : Gives i s P := by
  obtain ⟨hregs, hmem⟩ := gated_of_accept (v := v) hadm hop
  obtain ⟨hmeas, -, -⟩ := gated_hidden_of_accept (v := v) hadm hop
  exact ⟨_, hexec, hP _ hregs hmem hmeas⟩

/-- What an update leaves that first puts `w` into one register, and then stays in a frame `m` without it. -/
theorem put_then_frame {a : Nat} {w : Word} {m : List Nat} {s t : State} (hframe : Frame m (s.wr a w) t) (ha : a ∉ m) :
    t.rd a = w ∧ Frame (a :: m) s t :=
  ⟨(hframe.1 a ha).trans (State.rd_wr_self s a w),
    frame_trans (frame_put (frame_refl _ s) w (List.mem_cons_self ..)) (frame_mono hframe (List.subset_cons_self a m))⟩

/-- What an update leaves that first puts bit `i` of one register, and then stays in a frame `m` without it. -/
theorem putBit_then_frame {a i : Nat} {b : Bool} {m : List Nat} {s t : State} (hframe : Frame m (s.wrB a i b) t) (ha : a ∉ m)
    (hi : i < 32) : t.rdB a i = b ∧ Frame (a :: m) s t := by
  obtain ⟨hword, hrest⟩ := put_then_frame hframe ha
  exact ⟨(congrArg (fun w => bit w i) (hframe.1 a ha)).trans (rdB_wrB_self s a hi b), hrest⟩

/-- The same as `put_then_frame` for a write through the fabric. -/
theorem gives_gated_put {i : Instr} {port : Port} {a : Nat} {v w : Word} {op : State → Reply} {m : List Nat} {s : State}
    (hexec : exec i s = replied (gated port a v op s)) (hadm : Admits s port a)
    (hop : ∃ t, op s = accept t ∧ Frame m (s.wr a w) t) (ha : a ∉ m) : Gives i s (fun u => u.rd a = w ∧ Frame (a :: m) s u) := by
  obtain ⟨t, hop, hframe⟩ := hop
  exact gives_gated hexec hadm hop (fun u hregs hmem _ => put_then_frame (frame_hidden hframe hregs hmem) ha)

end Sys2Proof.Laws.Frames
end

section
/-! PROOFS. The Crosswind registers: configuring a pair and clearing its reaction (R99, R107). -/

namespace Sys2Proof.Laws.Crosswind
open Sys2Proof.Machine Sys2Proof.Safety Sys2Proof.Laws.Fabric Sys2Proof.Laws.Refusals Sys2Proof.Laws.Protection Sys2Proof.Laws.Frames

theorem frame_xwLevels {l : List Nat} {s t : State} (h : Frame l s t) (hp : irqRegs Xw.page ⊆ l) : Frame l s (xwLevels t) :=
  frame_raw (frame_raw h 0 _ hp) 1 _ hp

theorem cwPair_above_header {k : Nat} (hk : k < 28) : 0x40 ≤ Xw.CW_PAIR k % 4096 := by
  simp only [Xw.CW_PAIR]
  omega

theorem cwStat_above_header {k : Nat} (hk : k < 28) : 0x40 ≤ Xw.CW_STAT k % 4096 := by
  simp only [Xw.CW_STAT]
  omega

section
variable {port : Port} {k : Nat} {v : Word} {s : State}

/-- CW_PAIR takes a value in range whose sides are enabled, while neither the old nor the new sides serve a consumer; the comparison may
restart (R99, R107). -/
theorem cwPairWrite_lands (hold : sidesInUse s k (s.rdF (Xw.CW_PAIR k) 4 0) (s.rdF (Xw.CW_PAIR k) 12 8) = false)
    (hnew : sidesInUse s k (fld v 4 0) (fld v 12 8) = false) (hrange : cwPairRange v = true)
    (hsides : bit v 16 = false ∨ (chanEn s 0 (fld v 4 0) = true ∧ chanEn s 1 (fld v 12 8) = true)) :
    ∃ t, cwPairWrite k v s = accept t ∧ Frame (Xw.CW_STAT k :: irqRegs Xw.page) (s.wr (Xw.CW_PAIR k) (v &&& 0xFF7F1F1F)) t := by
  have hen : (bit v 16 && !(chanEn s 0 (fld v 4 0) && chanEn s 1 (fld v 12 8))) = false := by
    rcases hsides with h | ⟨ha, hb⟩
    · simp [h]
    · simp [ha, hb]
  have hirq : irqRegs Xw.page ⊆ Xw.CW_STAT k :: irqRegs Xw.page := List.subset_cons_self ..
  unfold cwPairWrite
  simp only [State.rdF] at hold
  simp only [hold, hnew, hrange, hen, Bool.and_false, Bool.or_false, Bool.not_true, Bool.false_eq_true, if_false]
  refine ⟨_, rfl, frame_xwLevels (frame_ite (frame_hidden ?restarted rfl rfl) ?restarted) hirq⟩
  have hstart := frame_refl (Xw.CW_STAT k :: irqRegs Xw.page) (s.wr (Xw.CW_PAIR k) (v &&& 0xFF7F1F1F))
  exact frame_ite (frame_hidden (frame_put hstart _ (List.mem_cons_self ..)) rfl rfl) hstart

theorem cwStatWrite_of_agree (hdis : s.rdB (Xw.CW_STAT k) 0 = false) :
    cwStatWrite k 2 s = accept (xwLevels (s.wrB (Xw.CW_STAT k) 1 false)) := by
  simp [cwStatWrite, hdis, bit]

theorem cwStatWrite_of_disagree (hdis : s.rdB (Xw.CW_STAT k) 0 = true) : cwStatWrite k 2 s = deny s .tripPersist := by
  simp [cwStatWrite, hdis, bit]

/-- A refusal of CW_STAT that is not for a busy page is recorded on Crosswind's page (R45). -/
theorem refusalPage_cwStat {c : RefCode} (hk : k < 28) (hc : c ≠ .busy) : refusalPage port (Xw.CW_STAT k) c s = Xw.page := by
  have hpage : pageOf (Xw.CW_STAT k) = Xw.page := by
    simp only [pageOf, Xw.CW_STAT, Xw.page]
    omega
  have hkind : (pageKind Xw.page).isSome = true := by decide
  have hhome : homePage (Xw.CW_STAT k) = Xw.page := by
    rw [← hpage, homePage, if_neg, if_neg, if_neg, if_neg] <;> simp only [Xw.CW_STAT] <;> omega
  simp [refusalPage, isMapped, hpage, hkind, hhome, hc]

theorem exec_cwReactedClear : exec (.cwReactedClear port k) s =
    .next (scanned (gated port (Xw.CW_STAT k) 2 (cwStatWrite k 2) s)).1 := rfl

/-- CW_REACTED_CLEAR of a pair that agrees clears REACTED; a retry it sets free (R276) leaves the pair's registers alone. -/
theorem gives_cwReactedClear_of_agree (hk : k < 28) (hadm : Admits s port (Xw.CW_STAT k)) (hdis : s.rdB (Xw.CW_STAT k) 0 = false) :
    Gives (.cwReactedClear port k) s (fun t => t.rdB (Xw.CW_STAT k) 1 = false ∧ (∀ a, t.rdByte a = s.rdByte a) ∧
      (anyLatched s = false → Frame (Xw.CW_STAT k :: irqRegs Xw.page) s t)) := by
  have hop := cwStatWrite_of_agree hdis
  obtain ⟨hregs, hmem⟩ := gated_of_accept (v := 2) hadm hop
  obtain ⟨-, hprot, hcode⟩ := gated_hidden_of_accept (v := 2) hadm hop
  rw [Gives, exec_cwReactedClear, scanned_of_accepted hcode]
  generalize gated port (Xw.CW_STAT k) 2 (cwStatWrite k 2) s = r at hregs hmem hprot
  have hframe : Frame (Xw.CW_STAT k :: irqRegs Xw.page) s r.1 :=
    frame_hidden (frame_xwLevels (frame_putBit (frame_refl _ s) 1 false (List.mem_cons_self ..)) (List.subset_cons_self ..)) hregs hmem
  have hlow : Xw.CW_STAT k < 0x100000 := by
    simp only [Xw.CW_STAT]
    omega
  have houtside := outside_retryScan r.1
  refine ⟨_, rfl, ?reacted, fun a => ?window, fun hlatched => ?frame⟩
  case reacted =>
    have hlevels := (frame_xwLevels (frame_refl (irqRegs Xw.page) (s.wrB (Xw.CW_STAT k) 1 false)) (List.Subset.refl _)).1
      (Xw.CW_STAT k) (not_mem_irqRegs _ (cwStat_above_header hk))
    rw [State.rdB, rd_of_outside houtside hlow, State.rd_congr hregs, hlevels]
    exact rdB_wrB_self s _ (by decide) false
  case window => exact (rdByte_congr (mem_of_outside houtside) a).trans (hframe.2 a)
  case frame =>
    have hnone : anyLatched r.1 = false := by
      simpa [anyLatched, hprot, xwLevels] using hlatched
    rwa [retryScan_of_not_latched _ hnone]

/-- CW_REACTED_CLEAR of a pair that still disagrees is refused with TRIP_PERSIST and recorded (R45, R99). -/
theorem gives_cwReactedClear_of_disagree (hk : k < 28) (hadm : Admits s port (Xw.CW_STAT k)) (hdis : s.rdB (Xw.CW_STAT k) 0 = true) :
    Gives (.cwReactedClear port k) s (fun t => fld (t.rd (hERRINFO Xw.page)) 31 24 = 8 ∧
      t.rd (Xw.CW_STAT k) = s.rd (Xw.CW_STAT k) ∧ Frame (hERRINFO Xw.page :: irqRegs Xw.page) s t) := by
  have hgated := gated_of_deny (v := 2) hadm (cwStatWrite_of_disagree hdis) (by decide)
  have hcode : (gated port (Xw.CW_STAT k) 2 (cwStatWrite k 2) s).2 ≠ .none := by
    simp only [hgated, ne_eq, reduceCtorEq, not_false_eq_true]
  have hrecord : recordRefusal port (Xw.CW_STAT k) .tripPersist s =
      s.refuseAt Xw.page port .tripPersist (Xw.CW_STAT k % 4096) := by
    rw [recordRefusal, refusalPage_cwStat hk (by decide)]
  have hframe := frame_hidden (frame_refuseAt s Xw.page port .tripPersist (Xw.CW_STAT k % 4096))
    (debugNote_regs port .tripPersist 0 _) (debugNote_mem ..)
  have hstat : Xw.CW_STAT k ∉ hERRINFO Xw.page :: irqRegs Xw.page := by
    refine List.not_mem_cons_of_ne_of_not_mem ?_ (not_mem_irqRegs _ (cwStat_above_header hk))
    simp only [Xw.CW_STAT, hERRINFO, Xw.page]
    omega
  rw [Gives, exec_cwReactedClear, scanned_of_refused hcode, hgated, hrecord]
  refine ⟨_, rfl, ?_, hframe.1 _ hstat, hframe⟩
  rw [State.rd_congr (debugNote_regs ..)]
  exact (fields_errinfo_refuseAt s Xw.page port .tripPersist _).1

end

/-- Settles O38: each write runs its register's operation, whose frame is built along the operation's steps. -/
theorem crosswindPairsAreWrittenAndRearmed : Obligations.CrosswindPairsAreWrittenAndRearmed := by
  unfold Obligations.CrosswindPairsAreWrittenAndRearmed
  intro port k v s hk
  refine ⟨fun hadm hold hnew hrange hsides => ?pair, gives_cwReactedClear_of_agree hk, gives_cwReactedClear_of_disagree hk⟩
  case pair =>
    refine gives_gated_put rfl hadm (cwPairWrite_lands hold hnew hrange hsides)
      (List.not_mem_cons_of_ne_of_not_mem ?_ (not_mem_irqRegs _ (cwPair_above_header hk)))
    simp only [Xw.CW_PAIR, Xw.CW_STAT]
    omega

end Sys2Proof.Laws.Crosswind
end

section
/-! PROOFS. The channel and calibration registers of the measurement chains (R86-R94, R104, R105). -/

namespace Sys2Proof.Laws.Channels
open Sys2Proof.Machine Sys2Proof.Safety Sys2Proof.Laws.Fabric Sys2Proof.Laws.Frames

/-! ### The shared levels and readiness bits -/

section
variable {l : List Nat} {s t : State} {x : Nat} (h : Frame l s t)
include h

theorem frame_measLevels (hp : irqRegs (MeasCtl.page x) ⊆ l) : Frame l s (measLevels x t) :=
  frame_raw (frame_raw (frame_raw h 2 _ hp) 3 _ hp) 4 _ hp

theorem frame_updRef (hready : Bup.READY ∈ l) : Frame l s (updRef x t) := frame_putBit h _ _ hready

theorem frame_startSettle {c : Nat} {exact : Bool} (hstat : MeasCh.CH_STATUS x c ∈ l) (hready : Bup.READY ∈ l) :
    Frame l s (startSettle x c exact t) :=
  frame_updRef (frame_putBit (frame_hidden h rfl rfl) 0 false hstat) hready

end

@[simp] theorem measLevels_meas (x : Nat) (s : State) : (measLevels x s).meas = s.meas := by
  simp only [measLevels, State.raw_meas]

@[simp] theorem updRef_meas (x : Nat) (s : State) : (updRef x s).meas = s.meas := by
  simp only [updRef, setReady, State.wrB_meas]

/-- A channel's configuration and status stand above its page's header. -/
theorem channel_above_header {x c : Nat} (hc : c < 28) :
    0x40 ≤ MeasCh.CH_CFG x c % 4096 ∧ 0x40 ≤ MeasCh.CH_STATUS x c % 4096 := by
  simp only [MeasCh.CH_CFG, MeasCh.CH_STATUS]
  omega

/-- Neither of them is `BUP.READY`. -/
theorem channel_ne_ready (x c : Nat) : MeasCh.CH_CFG x c ≠ Bup.READY ∧ MeasCh.CH_STATUS x c ≠ Bup.READY := by
  simp only [MeasCh.CH_CFG, MeasCh.CH_STATUS, Bup.READY]
  omega

theorem cfg_ne_status (x c : Nat) : MeasCh.CH_CFG x c ≠ MeasCh.CH_STATUS x c := by
  simp only [MeasCh.CH_CFG, MeasCh.CH_STATUS]
  omega

/-! ### CH_CFG, CH_OFS and CH_GAIN (R87, R93, R105) -/

section
variable {x c : Nat} {v : Word} {s : State} (huse : inUse s x c = false)
include huse

/-- CH_CFG takes a value in range that does not disable a side of an enabled pair; status, readiness and levels follow. -/
theorem chCfgWrite_lands (hside : s.rdB (MeasCh.CH_CFG x c) 0 = false ∨ bit v 0 = true ∨ pairSide s x c = false)
    (hrange : chCfgRange s x c v = true) :
    ∃ t, chCfgWrite x c v s = accept t ∧
      Frame ([MeasCh.CH_STATUS x c, Bup.READY] ++ irqRegs (MeasCtl.page x)) (s.wr (MeasCh.CH_CFG x c) (v &&& 0xF777)) t := by
  have hkeep : (bit (s.rd (MeasCh.CH_CFG x c)) 0 && !bit v 0 && pairSide s x c) = false := by
    simp only [State.rdB] at hside
    rcases hside with h | h | h <;> simp [h]
  generalize hl : [MeasCh.CH_STATUS x c, Bup.READY] ++ irqRegs (MeasCtl.page x) = l
  have hstat : MeasCh.CH_STATUS x c ∈ l := by simp [← hl]
  have hready : Bup.READY ∈ l := by simp [← hl]
  have hirq : irqRegs (MeasCtl.page x) ⊆ l := by simp [← hl]
  unfold chCfgWrite
  simp only [huse, hkeep, hrange, Bool.not_true, Bool.false_eq_true, if_false]
  have hput := frame_refl l (s.wr (MeasCh.CH_CFG x c) (v &&& 0xF777))
  refine ⟨_, rfl, frame_measLevels (frame_ite ?settled (frame_hidden ?settled rfl rfl)) hirq⟩
  refine frame_ite (frame_ite (frame_startSettle ?stamped hstat hready) (frame_updRef ?stamped hready))
    (frame_updRef (frame_ite (frame_putBit (frame_putBit ?stamped _ _ hstat) _ _ hstat) (frame_putBit ?stamped _ _ hstat)) hready)
  refine frame_ite (frame_hidden ?counted rfl rfl) ?counted
  exact frame_ite hput (frame_hidden hput rfl rfl)

theorem chOfsWrite_of_free : chOfsWrite x c v s = accept (putChan x c { chanOf s x c with ofsNew := true }
    ((s.wr (MeasCh.CH_OFS x c) (v &&& 0xFFFFFF)).wrB (MeasCh.CH_STATUS x c) 5 true)) := by
  simp [chOfsWrite, huse]

/-- CH_GAIN takes the word, and the gain waits with the present offset. -/
theorem chGainWrite_of_free : ∃ t, chGainWrite x c v s = accept t ∧ t.regs = (s.wr (MeasCh.CH_GAIN x c) v).regs ∧ t.mem = s.mem ∧
    t.meas.gains = s.meas.gains ++ [{ chan := 28 * x + c, ofs := s.rd (MeasCh.CH_OFS x c), gain := v, at_ := s.now, pend := (chanOf s x c).ofsNew }] := by
  simp only [chGainWrite, huse, Bool.false_eq_true, if_false]
  exact ⟨_, rfl, rfl, rfl, rfl⟩

end

/-! ### REF_SETTLED and STUCK (R86-R88) -/

section
variable {x c dt : Nat} {s : State}

/-- A settling channel whose reference is in range settles. -/
theorem refSettled_of_present (hsettle : (chanOf s x c).settle ≠ none) (hlost : refLost s x c = false) :
    ∃ due, refSettled x c dt s = measLevels x (updRef x
      ((putChan x c { chanOf s x c with settle := none } (s.reach due)).wrB (MeasCh.CH_STATUS x c) 0 true)) := by
  obtain ⟨t, ht⟩ := Option.ne_none_iff_exists'.mp hsettle
  simp only [refSettled, ht, hlost, Bool.false_eq_true, if_false]
  exact ⟨_, rfl⟩

theorem chanOf_putChan (h : ChanState) (t : State) : chanOf (putChan x c h t) x c = h := KMap.get_set_self ..

/-- What a change of one bit of CH_STATUS leaves, once the chain's levels have followed. -/
theorem statusBit_then_measLevels (hc : c < 28) {i : Nat} (hi : i < 32) (b : Bool) (s : State) :
    (measLevels x (s.wrB (MeasCh.CH_STATUS x c) i b)).rdB (MeasCh.CH_STATUS x c) i = b ∧
      Frame (MeasCh.CH_STATUS x c :: irqRegs (MeasCtl.page x)) s (measLevels x (s.wrB (MeasCh.CH_STATUS x c) i b)) :=
  putBit_then_frame (frame_measLevels (frame_refl _ _) (List.Subset.refl _)) (not_mem_irqRegs _ (channel_above_header hc).2) hi

end

/-! ### Calibration (R90, R91, R104) -/

section
variable {x : Nat} {s : State}

theorem calStatus_above_header (x : Nat) : 0x40 ≤ MeasCtl.CAL_STATUS x % 4096 := by
  simp only [MeasCtl.CAL_STATUS]
  omega

theorem calStatus_ne_ready (x : Nat) : MeasCtl.CAL_STATUS x ≠ Bup.READY := by
  simp only [MeasCtl.CAL_STATUS, Bup.READY]
  omega

theorem ready_not_mem_irq (p : Nat) : Bup.READY ∉ irqRegs p := not_mem_irqRegs p (by decide)

theorem calStatus_not_mem_ready_irq (x p : Nat) : MeasCtl.CAL_STATUS x ∉ Bup.READY :: irqRegs p :=
  List.not_mem_cons_of_ne_of_not_mem (calStatus_ne_ready x) (not_mem_irqRegs p (calStatus_above_header x))

/-- START of a chain with nothing in use begins a calibration: running, and not READY. -/
theorem calStart_of_free {v : Word} (hstart : bit v 0 = true) (hfree : anyInUse s x (List.range 28) = false)
    (hcal : calibrating s x = false) : ∃ t, calStart x v s = accept t ∧
      t.regs = (setReady x false (s.wr (MeasCtl.CAL_STATUS x) 1)).regs ∧ t.mem = s.mem := by
  simp only [calStart, hstart, hfree, hcal, Bool.not_true, Bool.or_false, Bool.false_eq_true, if_false]
  exact ⟨_, rfl, rfl, rfl⟩

theorem gives_calStart {port : Port} {v : Word} (hx : x < 2) (hadm : Admits s port (MeasCtl.CAL_CMD x)) (hstart : bit v 0 = true)
    (hfree : anyInUse s x (List.range 28) = false) (hcal : calibrating s x = false) :
    Gives (.calStart port x v) s (fun t => t.rd (MeasCtl.CAL_STATUS x) = 1 ∧ t.rdB Bup.READY x = false ∧
      Frame [MeasCtl.CAL_STATUS x, Bup.READY] s t) := by
  obtain ⟨t, hop, hregs, hmem⟩ := calStart_of_free hstart hfree hcal
  refine gives_gated rfl hadm hop (fun u huregs humem _ => ?_)
  have hsame : Frame [] (setReady x false (s.wr (MeasCtl.CAL_STATUS x) 1)) u :=
    frame_hidden (frame_refl _ _) (huregs.trans hregs) (humem.trans hmem)
  obtain ⟨hready, hframe⟩ := putBit_then_frame hsame (List.not_mem_nil) (by omega)
  obtain ⟨hstat, hall⟩ := put_then_frame hframe (by simpa using calStatus_ne_ready x)
  exact ⟨hstat, hready, hall⟩

/-- The factors a calibration leaves. -/
def convRegs (x : Nat) : List Nat := (List.range 16).map (MeasCh.CONV_OFS x) ++ (List.range 16).map (MeasCh.CONV_GAIN x)

/-- The factors of a calibration that has just ended go into their registers. -/
def putFactors (x : Nat) (s : State) : State :=
  (List.range 16).foldl (fun t k => (t.wr (MeasCh.CONV_OFS x k) (Config.convOfs s.meas.calRuns x k)).wr (MeasCh.CONV_GAIN x k)
    (Config.convGain s.meas.calRuns x k)) s

theorem frame_putFactors (x : Nat) (s : State) : Frame (convRegs x) s (putFactors x s) := by
  refine frame_foldl (frame_refl _ s) (fun k hk u hu => ?_)
  have hofs : MeasCh.CONV_OFS x k ∈ convRegs x := List.mem_append_left _ (List.mem_map_of_mem hk)
  have hgain : MeasCh.CONV_GAIN x k ∈ convRegs x := List.mem_append_right _ (List.mem_map_of_mem hk)
  exact frame_put (frame_put hu _ hofs) _ hgain

/-- A calibration that succeeds puts its factors, then state 2 and READY; the pulse of CAL_DONE follows. -/
theorem calDone_of_success (hcal : calibrating s x = true) : ∃ due, Frame (irqRegs (MeasCtl.page x))
    (setReady x true ((putFactors x (s.reach due)).wr (MeasCtl.CAL_STATUS x) 2)) (calDone x none s) := by
  refine ⟨calAt s x + 30400000, ?_⟩
  simp only [calDone, hcal, Bool.not_true, Bool.false_eq_true, if_false]
  generalize hu : putFactors x (s.reach (calAt s x + 30400000)) = u
  rw [putFactors] at hu
  rw [hu]
  exact frame_pulse (frame_hidden (frame_refl _ _) rfl rfl) 0 (List.Subset.refl _)

theorem gives_calDone_success (hx : x < 2) (hcal : calibrating s x = true) : Gives (.calDone x none) s (fun t =>
    t.rd (MeasCtl.CAL_STATUS x) = 2 ∧ t.rdB Bup.READY x = true ∧ calibrating t x = false ∧
    Frame ([MeasCtl.CAL_STATUS x, Bup.READY] ++ irqRegs (MeasCtl.page x) ++ (List.range 16).map (MeasCh.CONV_OFS x)
      ++ (List.range 16).map (MeasCh.CONV_GAIN x)) s t) := by
  obtain ⟨due, hpulse⟩ := calDone_of_success hcal
  have hfactors : Frame (convRegs x) s (putFactors x (s.reach due)) :=
    frame_trans (frame_of_regs_mem rfl rfl) (frame_putFactors x (s.reach due))
  obtain ⟨hready, hlater⟩ := putBit_then_frame hpulse (ready_not_mem_irq _) (by omega)
  obtain ⟨hstat, hframe⟩ := put_then_frame hlater (calStatus_not_mem_ready_irq x _)
  have hended : calibrating (calDone x none s) x = false := by
    simp only [calibrating, State.rdF, hstat]
    decide
  refine ⟨_, rfl, hstat, hready, hended, ?_⟩
  rw [List.append_assoc]
  exact frame_trans (frame_mono hfactors (List.subset_append_right ..)) (frame_mono hframe (List.subset_append_left ..))

/-- CAL_STATUS of a failed calibration: state 3, the path, the converter and its code (R104). -/
def calFailWord (sd : Bool) (conv code : Nat) : Word := word (3 + at' (bitN sd) 3 + at' (conv % 16) 4 + at' (code % 256) 8)

theorem fields_calFailWord {sd : Bool} {conv code : Nat} (hconv : conv < 16) (hcode : code < 256) :
    fld (calFailWord sd conv code) 1 0 = 3 ∧ fld (calFailWord sd conv code) 7 4 = conv ∧ fld (calFailWord sd conv code) 15 8 = code := by
  have hsd : bitN sd ≤ 1 := by cases sd <;> decide
  simp only [fld, calFailWord, at', BitVec.toNat_ofNat]
  omega

theorem gives_calDone_failure {sd : Bool} {conv code : Nat} (hconv : conv < 16) (hcode : code < 256) (hcal : calibrating s x = true) :
    Gives (.calDone x (some (sd, conv, code))) s (fun t =>
      t.rdF (MeasCtl.CAL_STATUS x) 1 0 = 3 ∧ t.rdF (MeasCtl.CAL_STATUS x) 7 4 = conv ∧ t.rdF (MeasCtl.CAL_STATUS x) 15 8 = code ∧
      Frame (MeasCtl.CAL_STATUS x :: irqRegs (MeasCtl.page x)) s t) := by
  have hlater : Frame (irqRegs (MeasCtl.page x)) (s.wr (MeasCtl.CAL_STATUS x) (calFailWord sd conv code))
      (calDone x (some (sd, conv, code)) s) := by
    simp only [calDone, hcal, Bool.not_true, Bool.false_eq_true, if_false]
    have hput : Frame (irqRegs (MeasCtl.page x)) (s.wr (MeasCtl.CAL_STATUS x) (calFailWord sd conv code))
        ((s.reach (calAt s x + 30400000)).wr (MeasCtl.CAL_STATUS x) (calFailWord sd conv code)) := frame_of_regs_mem rfl rfl
    exact frame_hidden (frame_pulse hput 1 (List.Subset.refl _)) rfl rfl
  obtain ⟨hword, hframe⟩ := put_then_frame hlater (not_mem_irqRegs _ (calStatus_above_header x))
  obtain ⟨hstate, hnumber, hvalue⟩ := fields_calFailWord (sd := sd) hconv hcode
  refine ⟨_, rfl, ?_, ?_, ?_, hframe⟩ <;> simp only [State.rdF, hword, hstate, hnumber, hvalue]

end

/-! ### The statement -/

/-- Settles O37: each write lands by its register's operation, and each event by its own, with the frame built along the steps. -/
theorem channelAndCalibrationWritesLand : Obligations.ChannelAndCalibrationWritesLand := by
  unfold Obligations.ChannelAndCalibrationWritesLand
  intro port x c dt v s hx hc
  obtain ⟨hcfg, hstat⟩ := channel_above_header (x := x) hc
  obtain ⟨hcfgReady, hstatReady⟩ := channel_ne_ready x c
  refine ⟨fun hadm huse hside hrange => ?cfg, fun hadm huse => ?ofs, fun hadm huse => ?gain, fun hsettle _ hlost => ?settle,
    fun hen hsd => ?stuck, fun hstuck hclk => ?clear, gives_calStart hx, gives_calDone_success hx,
    fun sd conv code hconv hcode => gives_calDone_failure hconv hcode⟩
  case cfg =>
    refine gives_gated_put rfl hadm (chCfgWrite_lands huse hside hrange) ?_
    exact List.not_mem_cons_of_ne_of_not_mem (cfg_ne_status x c) (List.not_mem_cons_of_ne_of_not_mem hcfgReady (not_mem_irqRegs _ hcfg))
  case ofs =>
    refine gives_gated rfl hadm (chOfsWrite_of_free huse) (fun u hregs hmem _ => ?_)
    have hsame : Frame [] ((s.wr (MeasCh.CH_OFS x c) (v &&& 0xFFFFFF)).wrB (MeasCh.CH_STATUS x c) 5 true) u :=
      frame_hidden (frame_refl _ _) hregs hmem
    obtain ⟨hpend, hframe⟩ := putBit_then_frame hsame List.not_mem_nil (by decide)
    obtain ⟨hword, hall⟩ := put_then_frame hframe (by simp [MeasCh.CH_OFS, MeasCh.CH_STATUS])
    exact ⟨hword, hpend, hall⟩
  case gain =>
    obtain ⟨t, hop, hregs, hmem, hgains⟩ := chGainWrite_of_free (v := v) huse
    refine gives_gated rfl hadm hop (fun u huregs humem humeas => ?_)
    obtain ⟨hword, hframe⟩ := put_then_frame (frame_hidden (frame_refl [] _) (huregs.trans hregs) (humem.trans hmem)) List.not_mem_nil
    exact ⟨hword, by rw [humeas, hgains, List.getLast?_concat], hframe⟩
  case settle =>
    obtain ⟨due, hdone⟩ := refSettled_of_present (dt := dt) hsettle hlost
    refine ⟨_, congrArg Host.Outcome.next hdone, ?_⟩
    have hlater := frame_measLevels (x := x) (frame_updRef (x := x) (frame_refl (Bup.READY :: irqRegs (MeasCtl.page x)) ((putChan x c
      { chanOf s x c with settle := none } (s.reach due)).wrB (MeasCh.CH_STATUS x c) 0 true)) (List.mem_cons_self ..))
      (List.subset_cons_self ..)
    obtain ⟨hset, hframe⟩ := putBit_then_frame hlater (List.not_mem_cons_of_ne_of_not_mem hstatReady (not_mem_irqRegs _ hstat)) (by decide)
    refine ⟨hset, ?_, frame_trans (frame_of_regs_mem rfl rfl) hframe⟩
    have hmeas := chanOf_putChan (x := x) (c := c) { chanOf s x c with settle := none } (s.reach due)
    simp only [chanOf, measLevels_meas, updRef_meas, State.wrB_meas] at hmeas ⊢
    rw [hmeas]
  case stuck =>
    obtain ⟨hset, hframe⟩ := statusBit_then_measLevels hc (i := 2) (by decide) true s
    exact ⟨_, congrArg Host.Outcome.next (if_pos ⟨hen, hsd⟩), hset, hframe⟩
  case clear =>
    obtain ⟨hset, hframe⟩ := statusBit_then_measLevels hc (i := 2) (by decide) false s
    exact ⟨_, congrArg Host.Outcome.next (if_pos ⟨hstuck, hclk⟩), hset, hframe⟩

end Sys2Proof.Laws.Channels
end

section
/-! PROOFS. From conversion to released sample (R81, R85, R92, R95-R98). -/

namespace Sys2Proof.Laws.Samples
open Sys2Proof.Machine Sys2Proof.Safety Sys2Proof.Laws.Fabric Sys2Proof.Laws.Protection

/-! ### What the stages behind a release keep -/

/-- The memory windows, the results that wait, the instant, and the stored values of the channels' source numbers (R80). -/
structure Released where
  mem : List Host.Cell
  ready : List ReadyItem
  now : Nat
  chans : Nat → SrcVal

/-- That part of a state. -/
def released (s : State) : Released :=
  ⟨s.mem, s.meas.ready, s.now, fun n => if n < 0x40 then srcStored s n else {}⟩

theorem released_of_outside {s t : State} (h : outside t = outside s) : released t = released s := by
  have hmem : t.mem = s.mem := mem_of_outside h
  have hmeas : t.meas = s.meas := congrArg Outside.meas h
  have hnow : t.now = s.now := congrArg Outside.now h
  have hsrcs : t.srcs = s.srcs := congrArg Outside.srcs h
  simp only [released, srcStored, hmem, hmeas, hnow, hsrcs]

/-- The source value of a channel in states that agree in this part. -/
theorem srcStored_of_released {s t : State} (h : released t = released s) {n : Nat} (hn : n < 0x40) : srcStored t n = srcStored s n := by
  have hchans := congrFun (congrArg Released.chans h) n
  simpa [released, hn] using hchans

section
variable (s : State)

theorem srcStored_setSmp (n m : Nat) (v : Word) (ok : Bool) (seq at_ : Nat) : srcStored (setSmp n v ok seq at_ s) m =
    if m = n then { value := v, valid := ok, count := (srcStored s n).count + 1, at_ := at_, seq := seq, handed := false, deliv := s.now }
    else srcStored s m := KMap.get_set ..

/-- A delivery to a source number that is no channel's. -/
theorem released_setSmp {n : Nat} (hn : 0x40 ≤ n) (v : Word) (ok : Bool) (seq at_ : Nat) :
    released (setSmp n v ok seq at_ s) = released s := by
  have hchans : (fun m => if m < 0x40 then srcStored (setSmp n v ok seq at_ s) m else {}) =
      fun m => if m < 0x40 then srcStored s m else {} := by
    funext m
    split
    · rw [srcStored_setSmp, if_neg (by omega)]
    · rfl
  simp only [released, hchans]
  rfl

@[simp] theorem released_wrB (a i : Nat) (b : Bool) : released (s.wrB a i b) = released s := rfl

@[simp] theorem released_wrF (a hi lo v : Nat) : released (s.wrF a hi lo v) = released s := rfl

@[simp] theorem released_wrL (a : Nat) (v : Word) : released (s.wrL a v) = released s := rfl

@[simp] theorem released_incL (a : Nat) : released (s.incL a) = released s := rfl

@[simp] theorem released_emit (c : EvClass) (p k o : Nat) (d : Word) : released (s.emit c p k o d) = released s := rfl

@[simp] theorem released_setFab (x : FabState) : released { s with fab := x } = released s := rfl

@[simp] theorem released_putPair (k : Nat) (h : PairState) : released (putPair k h s) = released s := rfl

@[simp] theorem released_putCtx (n : Nat) (h : CtxHid) : released (putCtx n h s) = released s := rfl

@[simp] theorem released_xwLevels : released (xwLevels s) = released s := rfl

/-! ### Crosswind (R96-R98) -/

@[simp] theorem released_latchSource (n obj : Nat) (own : List Nat) : released (latchSource n obj own s) = released s :=
  released_of_outside (outside_latchSource s n obj own)

@[simp] theorem released_pairReact (k : Nat) : released (pairReact k s) = released s := by
  unfold pairReact
  dsimp only
  split <;> simp only [released_latchSource, released_emit, released_xwLevels, released_wrB]

@[simp] theorem released_pairCompare (k : Nat) (a b : Smp) : released (pairCompare k a b s) = released s := by
  simp only [pairCompare, apply_ite released, released_pairReact, released_xwLevels, released_putPair, released_setFab, released_incL,
    released_wrL, released_wrF, released_wrB, ite_self]

/-- A paired value goes to a source number of its own, behind those of the channels. -/
@[simp] theorem released_pairStep (k : Nat) (a b : Smp) : released (pairStep k a b s) = released s := by
  simp only [pairStep, released_setSmp _ (Nat.le_add_right 0x40 k), apply_ite released, released_pairCompare, released_wrB, ite_self]

@[simp] theorem released_pairTake (l : List (Nat × Smp)) (k : Nat) : released (pairTake l k s) = released s := by
  unfold pairTake
  dsimp only
  split
  · rfl
  · split
    · exact released_putPair s k _
    · split
      · rfl
      · simp only [released_pairStep, released_putPair]

/-! ### The consumers of a released set -/

@[simp] theorem released_dclTake (seq at_ : Nat) : released (dclTake seq at_ s) = released s := by
  have hvalid : ∀ v, released (dclEvaluate v seq at_ s) = released s := fun v =>
    (released_of_outside (outside_dclEvaluate s v seq at_)).trans (released_setSmp s (by decide) v true seq at_)
  have hinvalid : released (dclInvalid seq at_ s) = released s :=
    (released_of_outside (outside_dclInvalid s seq at_)).trans (released_setSmp s (by decide) _ false seq at_)
  simp only [dclTake, apply_ite released, hvalid, hinvalid, ite_self]

@[simp] theorem released_captureAll : released (captureAll s) = released s := by
  refine foldl_keeps released (fun t e => ?_) _ s
  unfold captureRun
  split
  · split
    · simp only [apply_ite released, released_putCtx, ite_self]
    · rfl
  · rfl

/-- A delivery depends on nothing but this part of a state. -/
theorem released_setSmp_congr {s t : State} (n : Nat) (v : Word) (ok : Bool) (seq at_ : Nat) (hmem : t.mem = s.mem)
    (hready : t.meas.ready = s.meas.ready) (hnow : t.now = s.now) (hsrcs : t.srcs = s.srcs) :
    released (setSmp n v ok seq at_ t) = released (setSmp n v ok seq at_ s) := by
  simp only [released, setSmp, srcStored, hmem, hready, hnow, hsrcs]

/-! ### Correction and release of one code (R92, R95, R100) -/

@[simp] theorem released_takeSample (x c : Nat) (v : Word) (ok : Bool) (at_ : Nat) : released (takeSample x c v ok at_ s) = released s := by
  unfold takeSample
  split
  · exact (released_setFab _ _).trans <| (released_wrL _ _ _).trans <| (released_wrL _ _ _).trans <| (released_incL _ _).trans <|
      (released_wrL _ _ _).trans (released_wrL s _ _)
  · exact released_incL s _

/-- Telemetry takes the sample in, or keeps it for the next window. -/
@[simp] theorem released_telemetry (x c : Nat) (v : Word) (ok : Bool) (at_ : Nat) : released (telemetry x c v ok at_ s) = released s := by
  unfold telemetry
  split
  · split
    · rfl
    · exact released_takeSample s x c v ok at_
  · exact released_takeSample s x c v ok at_

/-- The source number of a channel (R80). -/
def chanSource (chan : Nat) : Nat := 32 * (chan / 28) + chan % 28

/-- The release of a code delivers the corrected code to its channel's source number under the trigger's number (R83, R92). -/
theorem released_releaseCode (g : ConvTag) (code : Int) : ∃ ok, released (releaseCode g code s).1 =
    released (setSmp (chanSource g.chan) (correct (factored g code) g.ofs g.gain) ok g.seq g.at_ s) := by
  refine ⟨_, (released_telemetry ..).trans (released_setSmp_congr _ _ _ _ _ ?_ ?_ ?_ ?_)⟩
  all_goals simp only [measLevels, State.raw_mem, State.raw_meas, State.raw_now, State.raw_srcs, State.wr_mem, State.wr_meas,
    State.wr_now, State.wr_srcs, putChan]

theorem value_releaseCode {g : ConvTag} (hg : g.chan < 56) (code : Int) :
    (srcStored (releaseCode g code s).1 (chanSource g.chan)).value = correct (factored g code) g.ofs g.gain ∧
    (srcStored (releaseCode g code s).1 (chanSource g.chan)).seq = g.seq := by
  obtain ⟨ok, hok⟩ := released_releaseCode s g code
  have hn : chanSource g.chan < 0x40 := by
    simp only [chanSource]
    omega
  rw [srcStored_of_released hok hn, srcStored_setSmp, if_pos rfl]
  exact ⟨rfl, rfl⟩

/-! ### Release of one result -/

/-- Whatever codes a result carries, its release keeps the windows, the waiting results and the instant. -/
theorem releaseItem_keeps (it : ReadyItem) : (releaseItem it s).1.mem = s.mem ∧ (releaseItem it s).1.meas.ready = s.meas.ready ∧
    (releaseItem it s).1.now = s.now := by
  unfold releaseItem
  generalize it.codes.filter _ = codes
  generalize hacc : (s, ([] : List (Nat × Smp))) = acc
  rw [show s = acc.1 by rw [← hacc]]
  clear hacc
  induction codes generalizing acc with
  | nil => exact ⟨rfl, rfl, rfl⟩
  | cons e codes ih =>
    obtain ⟨ok, hok⟩ := released_releaseCode acc.1 e.1 e.2
    obtain ⟨hmem, hready, hnow⟩ := ih ((releaseCode e.1 e.2 acc.1).1, acc.2 ++ [(releaseCode e.1 e.2 acc.1).2])
    exact ⟨hmem.trans (congrArg Released.mem hok), hready.trans (congrArg Released.ready hok), hnow.trans (congrArg Released.now hok)⟩

/-- A result with one code, of an enabled channel, is the release of that code. -/
theorem releaseItem_single {it : ReadyItem} {g : ConvTag} {code : Int} (hcodes : it.codes = [(g, code)])
    (hen : chanEn s (g.chan / 28) (g.chan % 28) = true) : (releaseItem it s).1 = (releaseCode g code s).1 := by
  simp [releaseItem, hcodes, hen]

/-- SAMPLE_SET_RELEASE takes the oldest result off the list, 40 cycles after it was done at the earliest; what the comparison, protection and
the waiting runs then do keeps the released values (R96). -/
theorem released_sampleRelease {it : ReadyItem} {rest : List ReadyItem} (hready : s.meas.ready = it :: rest) :
    released (sampleRelease s) = released (releaseItem it { s.reach (it.doneAt + 40) with meas := { s.meas with ready := rest } }).1 := by
  simp only [sampleRelease, hready, released_captureAll, released_dclTake,
    foldl_keeps released (fun t k => released_pairTake t _ k)]
  rfl

end

/-! ### Conversions (R81, R85) -/

section
variable {s : State}

/-- The SAR conversions of the last trigger end 160 cycles after it, with their codes under its number. -/
theorem gives_sarConversionDone {levels : List Int} {t0 : Nat} (htrig : s.meas.lastTrig = some t0) (hconv : s.meas.converting = true) :
    Gives (.sarConversionDone levels) s (fun u =>
      (∃ it, u.meas.ready = s.meas.ready ++ [it] ∧ it.at_ = t0 ∧ it.doneAt = t0 + 160 ∧ it.seq = s.rdF (MeasCtl.TRIG_SEQ 0) 15 0) ∧
      u.meas.converting = false ∧ t0 + 160 ≤ u.now ∧ Frame [] s u) := by
  refine ⟨sarDone levels s, rfl, ?_⟩
  simp only [sarDone, htrig, hconv, Bool.not_true, Bool.false_eq_true, if_false]
  exact ⟨⟨_, rfl, rfl, rfl, rfl⟩, trivial, Nat.le_max_right .., frame_of_regs_mem rfl rfl⟩

/-- The sigma-delta output of a channel's oldest tag is its window's sinc3 code, after the filter delay. -/
theorem gives_sdFilterRelease {x c : Nat} {bits : List Bool} {g : ConvTag}
    (htag : s.meas.sdTags.find? (fun g => decide (g.chan = 28 * x + c)) = some g) :
    Gives (.sdFilterRelease x c bits) s (fun u =>
      (∃ it, u.meas.ready = s.meas.ready ++ [it] ∧ it.seq = g.seq ∧ it.at_ = g.at_ ∧ it.codes = [(g, sdCode g.n (sdSum g.n bits))]) ∧
      g.due ≤ u.now ∧ u.meas.sdTags = s.meas.sdTags.erase g ∧ Frame [] s u) := by
  refine ⟨sdRelease x c bits s, rfl, ?_⟩
  simp only [sdRelease, htag]
  exact ⟨⟨_, rfl, rfl, rfl, rfl⟩, Nat.le_max_right .., rfl, frame_of_regs_mem rfl rfl⟩

theorem gives_sampleSetRelease {it : ReadyItem} {rest : List ReadyItem} (hready : s.meas.ready = it :: rest) :
    Gives .sampleSetRelease s (fun u =>
      u.meas.ready = rest ∧ it.doneAt + 40 ≤ u.now ∧ (∀ a, u.rdByte a = s.rdByte a) ∧
      ∀ g code, it.codes = [(g, code)] → g.chan < 56 → chanEn s (g.chan / 28) (g.chan % 28) = true →
        (srcStored u (32 * (g.chan / 28) + g.chan % 28)).value = correct (factored g code) g.ofs g.gain ∧
        (srcStored u (32 * (g.chan / 28) + g.chan % 28)).seq = g.seq) := by
  have hview := released_sampleRelease s hready
  generalize hs2 : ({ s.reach (it.doneAt + 40) with meas := { s.meas with ready := rest } } : State) = s2 at hview
  obtain ⟨hmem, hwait, hnow⟩ := releaseItem_keeps s2 it
  refine ⟨sampleRelease s, rfl, ?ready, ?instant, rdByte_congr ?window, fun g code hcodes hg hen => ?value⟩
  case ready => exact ((congrArg Released.ready hview).trans hwait).trans (by rw [← hs2])
  case instant =>
    have hreach : (sampleRelease s).now = max s.now (it.doneAt + 40) :=
      ((congrArg Released.now hview).trans hnow).trans (by rw [← hs2]; rfl)
    rw [hreach]
    exact Nat.le_max_right ..
  case window => exact ((congrArg Released.mem hview).trans hmem).trans (by rw [← hs2]; rfl)
  case value =>
    have hen2 : chanEn s2 (g.chan / 28) (g.chan % 28) = true := by
      rw [← hs2]
      exact hen
    rw [releaseItem_single s2 hcodes hen2] at hview
    have hn : chanSource g.chan < 0x40 := by
      simp only [chanSource]
      omega
    have hvalue := value_releaseCode s2 hg code
    rwa [← srcStored_of_released hview hn] at hvalue

end

/-- Settles O36: a conversion joins the list by its own step; a release delivers its code, and no later stage touches a channel's value. -/
theorem conversionsBecomeReleasedSamples : Obligations.ConversionsBecomeReleasedSamples := by
  unfold Obligations.ConversionsBecomeReleasedSamples
  exact fun levels x c bits s => ⟨fun t0 => gives_sarConversionDone, fun g => gives_sdFilterRelease,
    fun it rest => gives_sampleSetRelease⟩

end Sys2Proof.Laws.Samples
end

section
/-! PROOFS. What the operations of the control law engine, of field control and of protection leave alone of a context: its output, whether
a run of it is outstanding and how many have committed; with them time and the memory windows. -/

namespace Sys2Proof.Laws.Contexts
open Sys2Proof.Machine Sys2Proof.Safety Sys2Proof.Laws.Protection

/-! ### What a run's end alone decides -/

/-- Time, the memory windows, and of one context whether a run is outstanding, how many have committed, and its output. -/
structure Kept where
  now : Nat
  mem : List Host.Cell
  running : Bool
  runs : Nat
  out : Word

/-- That part of a state, for context `n`. -/
def kept (n : Nat) (s : State) : Kept :=
  ⟨s.now, s.mem, (ctxOf s n).run.isSome, (ctxOf s n).runs, s.rdL (Ctx.OUT n)⟩

theorem now_of_kept {n : Nat} {s t : State} (h : kept n t = kept n s) : t.now = s.now := congrArg Kept.now h

theorem ctxOf_putCtx (n m : Nat) (h : CtxHid) (s : State) : ctxOf (putCtx m h s) n = if n = m then h else ctxOf s n :=
  KMap.get_set _ s.cle.ctxs m n h

@[simp] theorem ctxOf_putCtx_self (n : Nat) (h : CtxHid) (s : State) : ctxOf (putCtx n h s) n = h := by simp [ctxOf_putCtx]

section
variable (n : Nat) (s : State)

/-! ### State operations: a visible register is no part of it, and a live one only if it is the output -/

@[simp] theorem kept_wr (a : Nat) (v : Word) : kept n (s.wr a v) = kept n s := by cases s; rfl

@[simp] theorem kept_wrF (a hi lo v : Nat) : kept n (s.wrF a hi lo v) = kept n s := kept_wr ..

@[simp] theorem kept_wrB (a i : Nat) (b : Bool) : kept n (s.wrB a i b) = kept n s := kept_wr ..

@[simp] theorem kept_incSat (a hi lo : Nat) : kept n (s.incSat a hi lo) = kept n s := kept_wr ..

@[simp] theorem kept_raw (p i : Nat) (b : Bool) : kept n (s.raw p i b) = kept n s :=
  (kept_wr ..).trans (kept_wr ..)

@[simp] theorem kept_pulse (p i : Nat) : kept n (s.pulse p i) = kept n s := by
  simp only [State.pulse, apply_ite (kept n), kept_wr, kept_raw, ite_self]

@[simp] theorem kept_stampNow (a : Nat) : kept n (s.stampNow a) = kept n s := by cases s; rfl

@[simp] theorem kept_emit (c : EvClass) (p k o : Nat) (d : Word) : kept n (s.emit c p k o d) = kept n s := by
  cases s; rfl

@[simp] theorem kept_emitPage (c : EvClass) (p k o : Nat) : kept n (emitPage c p k o s) = kept n s := kept_emit ..

theorem kept_wrL {a : Nat} (v : Word) (ha : Ctx.OUT n ≠ a) : kept n (s.wrL a v) = kept n s := by
  have hout : (s.wrL a v).rdL (Ctx.OUT n) = s.rdL (Ctx.OUT n) := by simp [State.rdL_wrL, ha]
  exact congrArg (Kept.mk s.now s.mem (ctxOf s n).run.isSome (ctxOf s n).runs) hout

theorem kept_incL {a : Nat} (ha : Ctx.OUT n ≠ a) : kept n (s.incL a) = kept n s := kept_wrL n s _ ha

theorem kept_produce {a : Nat} (v : Word) (ha : Ctx.OUT n ≠ a) : kept n (s.produce a v) = kept n s := kept_wrL n s v ha

/-- The output lies above the pages of the engine's telemetry and of the groups. -/
theorem out_ne_of_lt {a : Nat} (ha : a < 0xA0000) : Ctx.OUT n ≠ a := by
  simp only [Ctx.OUT]
  omega

/-- An address whose place in its 16 bytes is not the first is no output. -/
theorem out_ne_of_mod {a : Nat} (ha : a % 16 ≠ 0) : Ctx.OUT n ≠ a := by
  simp only [Ctx.OUT]
  omega

@[simp] theorem kept_setPwm (x : PwmState) : kept n { s with pwm := x } = kept n s := by cases s; rfl

@[simp] theorem kept_setProt (x : ProtState) : kept n { s with prot := x } = kept n s := by cases s; rfl

@[simp] theorem kept_setTwin (x : TwinState) : kept n { s with twin := x } = kept n s := by cases s; rfl

@[simp] theorem kept_setInputs (x : List (Nat × InVal)) : kept n { s with inputs := x } = kept n s := by cases s; rfl

/-- An update of a context that leaves its outstanding run and its count of runs. -/
theorem kept_putCtx {m : Nat} {h : CtxHid} (hrun : h.run.isSome = (ctxOf s m).run.isSome) (hruns : h.runs = (ctxOf s m).runs) :
    kept n (putCtx m h s) = kept n s := by
  have hctx := ctxOf_putCtx n m h s
  by_cases hn : n = m
  · subst hn
    simp only [kept, hctx, if_pos, hrun, hruns]
    rfl
  · simp only [kept, hctx, if_neg hn]
    rfl

/-- An update of the engine that leaves its contexts. -/
theorem kept_setCle {x : CleState} (hx : x.ctxs = s.cle.ctxs) : kept n { s with cle := x } = kept n s := by
  simp only [kept, ctxOf, hx]
  rfl

@[simp] theorem kept_putMach (m : Nat) (h : MachHid) : kept n (putMach m h s) = kept n s := by cases s; rfl

@[simp] theorem kept_putHw (g : Nat) (h : HwHid) : kept n (putHw g h s) = kept n s := by cases s; rfl

/-! ### The modulator's authorities (R28-R30) -/

@[simp] theorem kept_putCh (c : Nat) (h : ChHid) : kept n (putCh c h s) = kept n s := by cases s; rfl

@[simp] theorem kept_putLeg (g x : Nat) (h : LegHid) : kept n (putLeg g x h s) = kept n s := by cases s; rfl

@[simp] theorem kept_setLevel (c : Nat) (b : Bool) (t8 : Int) : kept n (setLevel c b t8 s) = kept n s := by
  simp only [setLevel, apply_ite (kept n), kept_putCh, kept_setPwm, kept_wrB, ite_self]

@[simp] theorem kept_requestOn (c : Nat) (t8 : Int) : kept n (requestOn c t8 s) = kept n s := by
  simp only [requestOn, apply_ite (kept n), kept_setLevel, kept_putCh, kept_wrB, ite_self]

@[simp] theorem kept_showPassage (g x : Nat) (b : Bool) : kept n (showPassage g x b s) = kept n s := kept_wrB ..

@[simp] theorem kept_passLeg (t8 : Int) (g x : Nat) : kept n (passLeg t8 s g x) = kept n s := by
  have hcount : Ctx.OUT n ≠ PwmTel.NP_PASS g := out_ne_of_mod n (by simp only [PwmTel.NP_PASS]; omega)
  unfold passLeg
  dsimp only
  split
  · rfl
  · split <;> simp only [apply_ite (kept n), kept_incL _ _ hcount, kept_showPassage, kept_putLeg, ite_self]

@[simp] theorem kept_resolveNow : kept n (resolveNow s) = kept n s := by
  have hoff : ∀ t c, kept n (if wants t c then t else setLevel c false (8 * s.now) t) = kept n t := by
    simp only [apply_ite (kept n), kept_setLevel, ite_self, implies_true]
  have hon : ∀ t c, kept n (if wants t c then requestOn c (8 * s.now) t else t) = kept n t := by
    simp only [apply_ite (kept n), kept_requestOn, ite_self, implies_true]
  have hleg : ∀ (t : State) (e : Nat × Nat), kept n (passLeg (8 * s.now) t e.1 e.2) = kept n t :=
    fun t e => kept_passLeg n t _ e.1 e.2
  have hrank : ∀ t c, kept n (showRank c t) = kept n t := fun _ _ => rfl
  have hgov : ∀ t c, kept n (putCh c (govern t false c) t) = kept n t := fun _ _ => rfl
  simp only [resolveNow, resolve, foldl_keeps (kept n) hon, foldl_keeps (kept n) hoff, foldl_keeps (kept n) hleg,
    foldl_keeps (kept n) hrank, foldl_keeps (kept n) hgov]

@[simp] theorem kept_addForce (f : Force) : kept n (addForce f s) = kept n s := kept_resolveNow n _

@[simp] theorem kept_dropForce (tag : ForceTag) (id : Nat) : kept n (dropForce tag id s) = kept n s := kept_resolveNow n _

/-! ### The gate links and protection (R237-R293) -/

@[simp] theorem kept_setGl (m st : Nat) : kept n (setGl m st s) = kept n s := by
  have hput : ∀ h : GlHid, ∀ t, kept n (putPos m h t) = kept n t := fun _ _ => rfl
  simp only [setGl, glLevels, glMasks, updCarry, kept_raw, kept_wr, kept_wrF, apply_ite (kept n), kept_stampNow, hput, ite_self]

@[simp] theorem kept_glFail (m code : Nat) : kept n (glFail m code s) = kept n s := by
  simp only [glFail, kept_emit, kept_pulse, kept_setGl]
  rfl

@[simp] theorem kept_latchFrames (wasOff : List Nat) : kept n (latchFrames wasOff s) = kept n s := by
  have hput : ∀ m (h : GlHid) t, kept n (putPos m h t) = kept n t := fun _ _ _ => rfl
  refine foldl_keeps (kept n) (fun t m => ?_) _ s
  simp only [allOffFrame, apply_ite (kept n), kept_glFail, hput, ite_self]

@[simp] theorem kept_wakeRisen (k p : Nat) (mask : Word) (old : State) : kept n (wakeRisen k p mask old s) = kept n s := by
  simp only [wakeRisen, wakeOn, wake, pwrGo, apply_ite (kept n), kept_pulse, kept_wr, kept_wrB, ite_self]

@[simp] theorem kept_protShow : kept n (protShow s) = kept n s := by
  unfold protShow
  dsimp only
  split <;> simp only [kept_setProt, kept_wakeRisen, kept_raw, kept_wr]

@[simp] theorem kept_protLockout : kept n (protLockout s) = kept n s := by
  simp only [protLockout, protBit, apply_ite (kept n), kept_emitPage, kept_protShow, kept_wrB, ite_self]

@[simp] theorem kept_ascStart (m : Nat) : kept n (ascStart m s) = kept n s := by
  unfold ascStart
  split <;> rfl

@[simp] theorem kept_disMethod (method : Nat) : kept n (disMethod method s) = kept n s := by
  simp only [disMethod, kept_protShow, apply_ite (kept n), kept_dropForce, kept_addForce, kept_wr, ite_self]

@[simp] theorem kept_disEnd (code : Nat) : kept n (disEnd code s) = kept n s := by
  simp only [disEnd, apply_ite (kept n), kept_emitPage, kept_protShow, kept_dropForce, kept_wr, ite_self]

/-! ### Speculations and the count of a run (R142, R153) -/

/-- The speculation registers lie in the records of the contexts, beside the outputs. -/
theorem out_ne_spec (m : Nat) : Ctx.OUT n ≠ Ctx.SPEC_HITS m ∧ Ctx.OUT n ≠ Ctx.SPEC_SQUASHES m ∧ Ctx.OUT n ≠ Ctx.SPEC_CAUSES m := by
  simp only [Ctx.OUT, Ctx.SPEC_HITS, Ctx.SPEC_SQUASHES, Ctx.SPEC_CAUSES]
  omega

@[simp] theorem kept_markCause (m c : Nat) : kept n (markCause m c s) = kept n s :=
  (kept_wrL n _ _ (out_ne_of_lt n (by decide))).trans (kept_wrL n s _ (out_ne_spec n m).2.2)

@[simp] theorem kept_countEnd (m : Nat) (r : Run) : kept n (countEnd m r s) = kept n s := by
  obtain ⟨hhits, hsquashes, hcauses⟩ := out_ne_spec n m
  have hput : kept n (putCtx m { ctxOf s m with spec := none } s) = kept n s := kept_putCtx n s rfl rfl
  have hall : Ctx.OUT n ≠ CleTel.SPEC_HITS_ALL ∧ Ctx.OUT n ≠ CleTel.SPEC_SQUASH_ALL :=
    ⟨out_ne_of_lt n (by decide), out_ne_of_lt n (by decide)⟩
  simp only [countEnd, countRun, apply_ite (kept n), kept_wrL _ _ _ hcauses, kept_markCause, kept_incL _ _ hhits, kept_incL _ _ hsquashes,
    kept_incL _ _ hall.1, kept_incL _ _ hall.2, hput, ite_self]

@[simp] theorem kept_startPre (m : Nat) : kept n (startPre m s) = kept n s := kept_putCtx n s rfl rfl

@[simp] theorem kept_nextPre (m : Nat) (held : Bool) : kept n (nextPre m held s) = kept n s := by
  simp only [nextPre, apply_ite (kept n), kept_startPre, ite_self]

/-- A run put in place of the outstanding one is outstanding. -/
theorem kept_putRun {m : Nat} {r : Run} (r1 : Run) (hrun : (ctxOf s m).run = some r) : kept n (putRun m r r1 s) = kept n s := by
  have hput : kept n (putCtx m { ctxOf s m with run := some r1 } s) = kept n s := kept_putCtx n s (by simp [hrun]) rfl
  unfold putRun
  dsimp only
  split <;> exact hput

@[simp] theorem kept_squashCtx (c m : Nat) : kept n (squashCtx c m s) = kept n s := by
  have hput : kept n (putCtx m { ctxOf s m with spec := none, pre := none } s) = kept n s := kept_putCtx n s rfl rfl
  have habandon : Ctx.OUT n ≠ CleTel.SPEC_PRE_ABANDON := out_ne_of_lt n (by decide)
  unfold squashCtx
  dsimp only
  split
  next r hrun => exact kept_putRun n s _ hrun
  next => simp only [apply_ite (kept n), kept_startPre, kept_incL _ _ habandon, kept_markCause, hput, ite_self]

@[simp] theorem kept_squashAll (c : Nat) : kept n (squashAll c s) = kept n s :=
  foldl_keeps (kept n) (fun t (e : Nat × CtxHid) => kept_squashCtx n t c e.1) _ s

/-! ### Latching (R265-R277) -/

/-- A source that latches counts in a register of its own. -/
theorem kept_latchSource {j : Nat} (obj : Nat) (own : List Nat) (hcount : Ctx.OUT n ≠ ProtTel.LATCH_CNT j) :
    kept n (latchSource j obj own s) = kept n s := by
  have hcancel : ∀ t, kept n (cancelAsc t) = kept n t := fun _ => rfl
  have hevent : ∀ t, kept n (squallEvent j obj t) = kept n t := fun _ => rfl
  unfold latchSource
  dsimp only
  split
  · rfl
  · split <;> simp only [apply_ite (kept n), hevent, kept_protLockout, kept_squashAll, kept_latchFrames, kept_protShow, kept_resolveNow,
      kept_incL _ _ hcount, hcancel, kept_setProt, ite_self]

/-- Source 43, the loss of a feedback, counts in a register that is no output. -/
theorem kept_latchFeedback (obj : Nat) (own : List Nat) : kept n (latchSource 43 obj own s) = kept n s :=
  kept_latchSource n s obj own (out_ne_of_mod n (by decide))

/-! ### Groups of contexts (R132-R135) -/

@[simp] theorem kept_setSrc (x : Nat) (v : Word) (ok : Bool) : kept n (setSrc x v ok s) = kept n s := by cases s; rfl

@[simp] theorem kept_putInput (d : Nat) (v : Word) : kept n (putInput d v s) = kept n s := by
  simp only [putInput, apply_ite (kept n), kept_wrB, kept_setInputs, ite_self]

@[simp] theorem kept_hwShow (g : Nat) : kept n (hwShow g s) = kept n s := by
  simp only [hwShow, kept_wrB, kept_raw, kept_wr, apply_ite (kept n), kept_stampNow, ite_self]

theorem out_ne_hwOut (g : Nat) : Ctx.OUT n ≠ Hw.HW_OUT g := out_ne_of_mod n (by simp only [Hw.HW_OUT]; omega)

@[simp] theorem kept_hwOutput (g : Nat) (y : Word) : kept n (hwOutput g y s) = kept n s := by
  simp only [hwOutput, apply_ite (kept n), kept_putInput, kept_setSrc, kept_produce _ _ _ (out_ne_hwOut n g), ite_self]

@[simp] theorem kept_hwSafe (g : Nat) : kept n (hwSafe g s) = kept n s := kept_hwShow n _ g

@[simp] theorem kept_hwFollow (g : Nat) : kept n (hwFollow g s) = kept n s := by
  simp only [hwFollow, apply_ite (kept n), kept_hwOutput, kept_hwShow, ite_self]

@[simp] theorem kept_mirrorSend (kind : Nat) (head : List Nat) (ws : List Word) : kept n (mirrorSend kind head ws s) = kept n s := by
  unfold mirrorSend
  split <;> rfl

@[simp] theorem kept_mirrorCtx (m run : Nat) : kept n (mirrorCtx m run s) = kept n s := by
  simp only [mirrorCtx, apply_ite (kept n), kept_mirrorSend, ite_self]

/-- Held records leave what applying one of them leaves, the record of their age, and the list of those that wait. -/
theorem takeHeld_keeps {α : Type} (part : State → α) {kind obj : Nat} {apply : List Nat → State → State}
    (happly : ∀ b t, part (apply b t) = part t) (hage : ∀ at_ t, part (noteAge at_ t) = part t)
    (hheld : ∀ x : List HeldRec, part { s with twin := { s.twin with held := x } } = part s) :
    part (takeHeld kind obj apply s) = part s :=
  (foldl_keeps part (fun t r => (hage (HeldRec.at_ r) _).trans (happly r.bulk t)) _ _).trans (hheld _)

@[simp] theorem kept_noteAge (at_ : Nat) : kept n (noteAge at_ s) = kept n s := kept_wrL n s _ (out_ne_of_mod n (by decide))

@[simp] theorem kept_takeHeldGrp (g : Nat) : kept n (takeHeld 4 g (applyGrp g) s) = kept n s :=
  takeHeld_keeps s (kept n) (fun _ t => (kept_wrL n _ _ (out_ne_hwOut n g)).trans (kept_wr n t _ _))
    (fun at_ t => kept_noteAge n t at_) (fun _ => kept_setTwin n s _)

@[simp] theorem kept_hwCorrect (g tick : Nat) (y : Word) : kept n (hwCorrect g tick y s) = kept n s := by
  refine foldl_keeps (kept n) (fun t m => ?_) _ s
  have hstate : Ctx.OUT n ≠ Ctx.ISTATE0 m 0 := by
    simp only [Ctx.OUT, Ctx.ISTATE0]
    omega
  simp only [apply_ite (kept n), kept_wrL _ _ _ hstate, ite_self]

@[simp] theorem kept_hwEvaluate (g tick : Nat) : kept n (hwEvaluate g tick s) = kept n s := by
  simp only [hwEvaluate, mirrorGrp, kept_mirrorSend, kept_hwCorrect, kept_hwOutput, kept_hwShow, apply_ite (kept n), kept_wrB, kept_wrF,
    kept_hwSafe, kept_putHw, kept_takeHeldGrp, ite_self]

@[simp] theorem kept_hwTry (m : Nat) : kept n (hwTry m s) = kept n s := by
  unfold hwTry
  split
  · simp only [apply_ite (kept n), kept_hwEvaluate, ite_self]
  · rfl

/-! ### Transitions of a context (R123-R131, R174) -/

@[simp] theorem kept_showLimited (m : Nat) (b : Bool) (tgt : Int) : kept n (showLimited m b tgt s) = kept n s := by
  have hput : kept n (putCtx m { ctxOf s m with limited := b } s) = kept n s := kept_putCtx n s rfl rfl
  have hcount : ∀ k, Ctx.OUT n ≠ Foc.LIMITED_CNT k := fun k => out_ne_of_mod n (by simp only [Foc.LIMITED_CNT]; omega)
  unfold showLimited
  dsimp only
  split
  · rfl
  · split <;> simp only [apply_ite (kept n), kept_putMach, kept_incL _ _ (hcount _), kept_pulse, kept_wrB, hput, ite_self]

@[simp] theorem kept_cleShow : kept n (cleShow s) = kept n s := by
  simp only [cleShow, cleLevels, kept_wrB, kept_raw]

@[simp] theorem kept_ctxGo (m st : Nat) : kept n (ctxGo m st s) = kept n s := by
  unfold ctxGo
  extract_lets old s1 s2 s3 h h1 h2 s4
  have hs3 : kept n s3 = kept n s := by
    simp only [s3, s2, s1, apply_ite (kept n), kept_pulse, kept_incSat, kept_wrF, ite_self]
  have hput : kept n (putCtx m h2 s3) = kept n s3 := by
    refine kept_putCtx n s3 ?_ ?_ <;> simp only [h2, h1] <;> split <;> split <;> rfl
  have hs4 : kept n s4 = kept n s := by
    simp only [s4, kept_cleShow]
    split <;> simp only [id, kept_showLimited, hput, hs3]
  split <;> simp only [kept_hwFollow, hs4]

@[simp] theorem kept_ctxCause (m i : Nat) : kept n (ctxCause m i s) = kept n s :=
  (kept_cleShow n _).trans (kept_wrB ..)

@[simp] theorem kept_ctxEvent (c : EvClass) (code m : Nat) : kept n (ctxEvent c code m s) = kept n s := kept_emit ..

@[simp] theorem kept_ctxSafeOut (m : Nat) : kept n (ctxSafeOut m s) = kept n s := by
  unfold ctxSafeOut
  split <;> simp only [apply_ite (kept n), kept_hwSafe, kept_putInput, ite_self]

@[simp] theorem kept_fbReact (m i : Nat) : kept n (fbReact m i s) = kept n s := by
  simp only [fbReact, apply_ite (kept n), kept_latchFeedback, kept_ctxSafeOut, kept_ctxEvent, ite_self]

@[simp] theorem kept_fbLost (m i : Nat) : kept n (fbLost m i s) = kept n s := by
  simp only [fbLost, dropSpec, apply_ite (kept n), kept_fbReact, kept_squashCtx, kept_ctxGo, kept_ctxCause, ite_self]

@[simp] theorem kept_ctxMiss (m : Nat) : kept n (ctxMiss m s) = kept n s := by
  have hput : ∀ t, kept n (putCtx m { ctxOf t m with frz := {} } t) = kept n t := fun t => kept_putCtx n t rfl rfl
  have hcount : Ctx.OUT n ≠ CleTel.MISSES := out_ne_of_lt n (by decide)
  simp only [ctxMiss, apply_ite (kept n), kept_fbLost, hput, kept_incL _ _ hcount, kept_incSat, ite_self]

@[simp] theorem kept_freezeStep (m : Nat) (r : Run) : kept n (freezeStep m r s) = kept n s := by
  have hput : ∀ f, kept n (putCtx m { ctxOf s m with frz := f } s) = kept n s := fun f => kept_putCtx n s rfl rfl
  simp only [freezeStep, apply_ite (kept n), kept_fbLost, hput, ite_self]

@[simp] theorem kept_ctxClose (m : Nat) : kept n (ctxClose m s).1 = kept n s := by
  have hput : ∀ t, kept n (putCtx m { ctxOf t m with first := true, spLost := [], closedAt := none } t) = kept n t :=
    fun t => kept_putCtx n t rfl rfl
  simp only [ctxClose, deny, accept, apply_ite Prod.fst, apply_ite (kept n), kept_ctxGo, kept_stampNow, hput, kept_squashCtx, kept_wr,
    ite_self]

@[simp] theorem kept_ctxOpen (m : Nat) : kept n (ctxOpen m s).1 = kept n s := by
  simp only [ctxOpen, deny, accept, apply_ite Prod.fst, apply_ite (kept n), kept_squashCtx, kept_ctxGo, ite_self]

/-! ### Machines (R176-R188) -/

@[simp] theorem kept_disLeftRun (m : Nat) : kept n (disLeftRun m s) = kept n s := by
  simp only [disLeftRun, apply_ite (kept n), kept_disMethod, kept_disEnd, ite_self]

@[simp] theorem kept_endPulse (m : Nat) : kept n (endPulse m s) = kept n s := by
  simp only [endPulse, apply_ite (kept n), kept_addForce, kept_putMach, ite_self]

@[simp] theorem kept_machGo (m st : Nat) : kept n (machGo m st s) = kept n s := by
  simp only [machGo, apply_ite (kept n), kept_disLeftRun, kept_setInputs, kept_putMach, kept_raw, kept_pulse, kept_wrF, kept_stampNow,
    kept_endPulse, ite_self]

@[simp] theorem kept_openCtxs (m : Nat) : kept n (openCtxs m s) = kept n s := by
  have hopen : ∀ (t : State) (k : Nat), kept n (if ctxLive t k then (ctxOpen k t).1 else t) = kept n t := by
    simp only [apply_ite (kept n), kept_ctxOpen, ite_self, implies_true]
  simp only [openCtxs, kept_putMach, foldl_keeps (kept n) hopen]

@[simp] theorem kept_enterStop (m : Nat) (asc : Bool) : kept n (enterStop m asc s) = kept n s := by
  simp only [enterStop, apply_ite (kept n), kept_openCtxs, kept_putMach, kept_addForce, kept_ascStart, ite_self]

@[simp] theorem kept_machFault (m c : Nat) : kept n (machFault m c s) = kept n s := by
  simp only [machFault, machEvent, machCause, apply_ite (kept n), kept_emit, kept_enterStop, kept_machGo, kept_wrF, kept_wrB, ite_self]

@[simp] theorem kept_startFail (m c : Nat) : kept n (startFail m c s) = kept n s := by
  simp only [startFail, machEvent, machCause, apply_ite (kept n), kept_machFault, kept_enterStop, kept_machGo, kept_emit, kept_pulse,
    kept_wrF, ite_self]

@[simp] theorem kept_closeCtxs (m : Nat) : kept n (closeCtxs m s) = kept n s := by
  unfold closeCtxs
  extract_lets r
  have hr : kept n r.1 = kept n s := by
    refine List.foldlRecOn (motive := fun a : State × RefCode => kept n a.1 = kept n s) _ _ rfl (fun a ha k _ => ?_)
    simp only [apply_ite Prod.fst, apply_ite (kept n), kept_ctxClose, ite_self, ha]
  split <;> simp only [kept_putMach, kept_startFail, kept_openCtxs, kept_wrF, hr]

@[simp] theorem kept_focRunEnd (m : Nat) : kept n (focRunEnd m s) = kept n s :=
  foldl_keeps (kept n) (fun t k => by simp only [apply_ite (kept n), kept_closeCtxs, ite_self]) _ s


/-! ### The commit (R112, R154) -/

@[simp] theorem kept_shadowWrite (t a stat i : Nat) (v : Word) : kept n (shadowWrite t a stat i v s) = kept n s := by
  have hcount : Ctx.OUT n ≠ PwmTel.LATE t := out_ne_of_mod n (by simp only [PwmTel.LATE]; omega)
  have htb : ∀ (h : TbHid) u, kept n (putTb t h u) = kept n u := fun _ u => by cases u; rfl
  simp only [shadowWrite, intoShadow, markLate, apply_ite (kept n), kept_setPwm, kept_wr, kept_incL _ _ hcount, htb, kept_pulse, kept_wrB,
    ite_self]

@[simp] theorem kept_groupCommit (g : Nat) (a b c : Word) : kept n (groupCommit g a b c s) = kept n s := by
  simp only [groupCommit, grpShadow, kept_shadowWrite]

section
variable {n s} {now runs : Nat} {mem : List Host.Cell} {running : Bool} {out : Word}

/-- The commit transfer puts the result into the output. -/
theorem kept_commitRes (r : Run) (h : kept n s = ⟨now, mem, running, runs, out⟩) :
    kept n (commitRes n r s) = ⟨now, mem, running, runs, r.res.out'⟩ := by
  cases h
  have hrecord : Ctx.OUT n ≠ Ctx.OUT_D n ∧ Ctx.OUT n ≠ Ctx.SETPT n ∧ Ctx.OUT n ≠ Ctx.SETPT_D n ∧ ∀ j, Ctx.OUT n ≠ Ctx.ISTATE0 n j := by
    simp only [Ctx.OUT, Ctx.OUT_D, Ctx.SETPT, Ctx.SETPT_D, Ctx.ISTATE0]
    exact ⟨by omega, by omega, by omega, fun j => by omega⟩
  obtain ⟨houtD, hset, hsetD, hist⟩ := hrecord
  have hout : kept n (s.produce (Ctx.OUT n) r.res.out') = ⟨s.now, s.mem, (ctxOf s n).run.isSome, (ctxOf s n).runs, r.res.out'⟩ :=
    congrArg (Kept.mk _ _ _ _) (State.rdL_wrL_self s (Ctx.OUT n) r.res.out')
  unfold commitRes
  extract_lets v s1 s2 s3 g s4 cle s5
  have hs1 : kept n s1 = kept n (s.produce (Ctx.OUT n) v.out') := by
    simp only [s1, kept_wrL _ _ _ houtD, kept_wrL _ _ _ hset, kept_wrL _ _ _ hsetD]
  have hs3 : kept n s3 = kept n s1 := by
    simp only [s3, s2, kept_setSrc, foldl_keeps (kept n) (fun t j => kept_wrL n t (v.ist.getD j 0) (hist j))]
  have hs5 : kept n s5 = kept n s3 := (kept_setCle n s4 rfl).trans (kept_groupCommit ..)
  simp only [apply_ite (kept n), kept_showLimited, hs5, kept_putInput, hs3, hs1, ite_self]
  exact hout

/-- Once its run is over a context has none outstanding. -/
theorem kept_endRun (r : Run) (h : kept n s = ⟨now, mem, running, runs, out⟩) :
    kept n (endRun n r s) = ⟨now, mem, false, runs, out⟩ := by
  cases h
  simp only [endRun, kept, ctxOf_putCtx_self]
  rfl

/-- An update of a context that counts one run more. -/
theorem kept_countedRun {h : CtxHid} (hs : kept n s = ⟨now, mem, running, runs, out⟩) (hrun : h.run = (ctxOf s n).run)
    (hruns : h.runs = (ctxOf s n).runs + 1) : kept n (putCtx n h s) = ⟨now, mem, running, runs + 1, out⟩ := by
  cases hs
  simp only [kept, ctxOf_putCtx_self, hrun, hruns]
  rfl

end

/-- A commit ends the run at its instant, counts it, and puts its result into the output unless it ran in OPEN (R124, R154). -/
theorem kept_runCommit {r : Run} (hrun : (ctxOf s n).run = some r) (hstarted : r.started = true) (hdue : (r.doneAt : Int) ≤ r.deadline) :
    kept n (runCommit n s) = ⟨max s.now r.doneAt, s.mem, false, (ctxOf s n).runs + 1,
      if r.st = 1 then s.rdL (Ctx.OUT n) else r.res.out'⟩ := by
  unfold runCommit
  split
  case h_1 hnone => simp [hrun] at hnone
  case h_2 q hq =>
  obtain rfl : r = q := Option.some.inj (hrun.symm.trans hq)
  rw [if_neg (by simp [hstarted, hdue])]
  extract_lets s1 s2 s3 h s4 base next s6 s5 s7
  have hs1 : kept n s1 = ⟨max s.now r.doneAt, s.mem, (ctxOf s n).run.isSome, (ctxOf s n).runs, s.rdL (Ctx.OUT n)⟩ :=
    (kept_incL n _ (out_ne_of_lt n (by decide))).trans (kept_setCle n (s.reach r.doneAt) rfl)
  have hs2 : kept n s2 = ⟨max s.now r.doneAt, s.mem, (ctxOf s n).run.isSome, (ctxOf s n).runs,
      if r.st = 1 then s.rdL (Ctx.OUT n) else r.res.out'⟩ := by
    simp only [s2]
    split
    · exact hs1
    · exact kept_commitRes r hs1
  have hs3 := kept_endRun r ((kept_countEnd n s2 n r).trans hs2)
  have hs4 : kept n s4 = ⟨max s.now r.doneAt, s.mem, false, (ctxOf s n).runs + 1,
      if r.st = 1 then s.rdL (Ctx.OUT n) else r.res.out'⟩ := by
    exact kept_countedRun hs3 rfl rfl
  have hs5 : kept n s5 = kept n s4 := by
    simp only [s5, s6, apply_ite (kept n), kept_pulse, kept_ctxGo, ite_self]
  simp only [kept_focRunEnd, kept_mirrorCtx, s7, kept_hwTry, kept_nextPre, kept_freezeStep, hs5, hs4]

end
end Sys2Proof.Laws.Contexts
end

section
/-! PROOFS. The lanes of the control law engine: dispatch, the end of a segment and of a precompute, and the commit (R111, R112, R143-R145,
R154). -/

namespace Sys2Proof.Laws.Lanes
open Sys2Proof.Machine Sys2Proof.Safety Sys2Proof.Laws.Fabric Sys2Proof.Laws.Protection Sys2Proof.Laws.Frames Sys2Proof.Laws.Contexts

/-! ### A lane's work starts and ends -/

section
variable {n k : Nat} {s : State}

theorem mem_lanes_putLane (k : Nat) (l : Lane) (s : State) : (k, l) ∈ (putLane k l s).cle.lanes := by simp [putLane]

theorem ctxOf_putLane (n k : Nat) (l : Lane) (s : State) : ctxOf (putLane k l s) n = ctxOf s n := rfl

/-- A stored speculation ends its precompute. -/
theorem ctxOf_storeSpec {p : PreRun} (hpre : (ctxOf s n).pre = some p) :
    (ctxOf (storeSpec n s) n).pre = none ∧ (ctxOf (storeSpec n s) n).spec ≠ none := by
  simp [storeSpec, hpre]

/-- Storing a speculation moves hidden state of its context alone. -/
theorem storeSpec_effect (n : Nat) (s : State) : (storeSpec n s).now = s.now ∧ (storeSpec n s).regs = s.regs ∧
    (storeSpec n s).mem = s.mem ∧ (storeSpec n s).cle.lanes = s.cle.lanes := by
  unfold storeSpec
  dsimp only
  split <;> exact ⟨rfl, rfl, rfl, rfl⟩

variable {e : Nat × Lane} (hlane : s.cle.lanes.find? (fun e => decide (e.1 = k)) = some e)
include hlane

/-- The lane's work ends at its instant and the lane is without work; beside the lanes only hidden state of its context moves. -/
theorem endLane_effect : (endLane k s).now = max s.now e.2.till ∧ (endLane k s).regs = s.regs ∧ (endLane k s).mem = s.mem ∧
    (endLane k s).cle.lanes = s.cle.lanes.filter (fun x => decide (x.1 ≠ k)) := by
  unfold endLane
  rw [hlane]
  dsimp only
  split
  · split
    · exact ⟨rfl, rfl, rfl, rfl⟩
    · split
      · exact storeSpec_effect ..
      · exact ⟨rfl, rfl, rfl, rfl⟩
  · exact ⟨rfl, rfl, rfl, rfl⟩

/-- The last segment of the precompute that stands leaves a speculation, and no precompute (R145). -/
theorem ctxOf_endLane_last {p : PreRun} (hctx : e.2.ctx = n) (hgen : e.2.gen = some (ctxOf s n).preGen) (hlast : e.2.last = true)
    (hpre : (ctxOf s n).pre = some p) : (ctxOf (endLane k s) n).pre = none ∧ (ctxOf (endLane k s) n).spec ≠ none := by
  subst hctx
  unfold endLane
  rw [hlane]
  dsimp only
  split
  case h_1 g q hg hq =>
    split
    next hother => exact absurd (Option.some.inj (hg.symm.trans hgen)) hother
    next => exact ctxOf_storeSpec (n := e.2.ctx) hpre
  case h_2 hnone => exact absurd hpre (hnone _ p hgen)

end

/-! ### Dispatch takes no time -/

section
variable (n k : Nat) (s : State)

theorem now_putCtx (h : CtxHid) : (putCtx n h s).now = s.now := rfl

theorem now_noteSets : (noteSets n s).now = s.now := by
  refine foldl_keeps State.now (fun t j => ?_) _ s
  dsimp only
  split
  · rfl
  · simp only [apply_ite State.now, now_putCtx, ctxEvent, State.emit_now, ite_self]

theorem now_applyCtx (b : List Nat) : (applyCtx n b s).now = s.now := by
  have hwake : (wakeCtx n s).now = s.now := by
    unfold wakeCtx
    dsimp only
    split <;> rfl
  simp only [applyCtx, foldl_keeps State.now (fun t j => State.wrL_now t (Ctx.ISTATE0 n j) (recWord b (5 + j))), State.wrL_now,
    State.wr_now, hwake]

theorem now_takeHeldCtx : (takeHeld 1 n (applyCtx n) s).now = s.now :=
  takeHeld_keeps s State.now (fun b t => now_applyCtx n t b) (fun _ _ => State.wrL_now ..) (fun _ => rfl)

theorem now_noteSeen (r : Run) : (noteSeen n r s).now = s.now := rfl

theorem now_noteDeviation (d : Option Word) : (noteDeviation n d s).now = s.now := by
  unfold noteDeviation
  split
  · exact State.wrL_now ..
  · rfl

theorem now_putLane (l : Lane) : (putLane k l s).now = s.now := rfl

theorem now_endRun (r : Run) : (endRun n r s).now = s.now := rfl

theorem now_dispatchMiss (r : Run) (c till : Nat) : (dispatchMiss n k r c till s).now = s.now := by
  simp only [dispatchMiss, now_of_kept (kept_focRunEnd n _ n), now_of_kept (kept_hwTry n _ n), now_of_kept (kept_ctxMiss n _ n),
    now_putLane, now_of_kept (kept_showLimited n _ n false 0), now_endRun, now_of_kept (kept_countEnd n _ n _), now_noteSeen]

theorem now_dispatchRun (r : Run) : (dispatchRun n k r s).now = s.now := by
  simp only [dispatchRun, apply_ite State.now, now_dispatchMiss, now_putLane, now_putCtx, now_noteDeviation, now_noteSeen, State.wrF_now,
    State.wrL_now, now_noteSets, now_takeHeldCtx, ite_self]

theorem now_dispatchSegment (seg : Nat) (p : PreRun) : (dispatchSegment n k seg p s).now = s.now := rfl

theorem now_dispatch (seg : Nat) : (dispatch k seg s).now = s.now := by
  unfold dispatch
  split
  · rfl
  · split
    · split
      · exact now_dispatchRun ..
      · rfl
    · split
      · split
        · exact now_dispatchRun ..
        · exact now_dispatchSegment ..
        · rfl
      · rfl

end

/-! ### What a free lane takes (R111) -/

section
variable {n k seg : Nat} {s : State}

/-- A halted engine dispatches nothing (R470). -/
theorem dispatch_of_halted (hhalt : s.rdB SecDbg.DBG_HSTAT 2 = true) : dispatch k seg s = s := by
  simp [dispatch, hhalt]

section
variable (hfree : laneFree s k = true) (hhalt : s.rdB SecDbg.DBG_HSTAT 2 = false)
include hfree hhalt

/-- The FAST run with the earliest deadline is taken before any other work. -/
theorem dispatch_of_fast {r : Run} (hfirst : edf (fastReady s) = some n) (hrun : (ctxOf s n).run = some r) :
    dispatch k seg s = dispatchRun n k r s := by
  simp [dispatch, hfree, hhalt, hfirst, hrun]

/-- With no FAST run ready, the precompute with the earliest deadline has its next segment taken. -/
theorem dispatch_of_segment {p : PreRun} (hfast : edf (fastReady s) = none) (hfirst : edf (periodicReady s) = some n)
    (hrun : (ctxOf s n).run = none) (hpre : (ctxOf s n).pre = some p) : dispatch k seg s = dispatchSegment n k seg p s := by
  simp [dispatch, hfree, hhalt, hfast, hfirst, hrun, hpre]

end

theorem takeHeld_of_none {kind obj : Nat} {apply : List Nat → State → State} (hheld : s.twin.held = []) :
    takeHeld kind obj apply s = s := by
  simp only [takeHeld, hheld, List.filter_nil, List.map_nil, List.foldl_nil]
  rw [← hheld]

theorem noteSets_of_none (hq : ctxSrc s n 6 = none) (hd : ctxSrc s n 7 = none) : noteSets n s = s := by
  simp [noteSets, hq, hd]

theorem noteDeviation_effect (n : Nat) (d : Option Word) (s : State) :
    (noteDeviation n d s).regs = s.regs ∧ (noteDeviation n d s).mem = s.mem := by
  unfold noteDeviation
  split <;> exact ⟨rfl, rfl⟩

/-- LIVE_CNT reads zero once it is cleared. -/
theorem liveCnt_wrF_zero (n : Nat) (s : State) : liveCnt (s.wrF (Ctx.STATE n) 23 16 0) n = 0 := by
  have hmask : fmask 23 16 = 0xFF0000#32 := by decide
  have hfield : (setFld (s.rd (Ctx.STATE n)) 23 16 0).extractLsb' 16 8 = 0#8 := by
    have hone : ∀ i < 8, (0xFF0000#32).getLsbD (16 + i) = true := by decide
    apply BitVec.eq_of_getLsbD_eq
    intro i hi
    simp only [setFld, hmask, word, Nat.zero_mod, Nat.zero_mul, BitVec.getLsbD_extractLsb', BitVec.getLsbD_or, BitVec.getLsbD_and,
      BitVec.getLsbD_not, hone i hi, Bool.not_true, Bool.and_false, Bool.or_false, BitVec.getLsbD_zero]
  have hnat := congrArg BitVec.toNat hfield
  rw [BitVec.extractLsb'_toNat, Nat.shiftRight_eq_div_pow] at hnat
  rw [liveCnt, State.rdF, State.rd_wrF, if_pos rfl]
  exact hnat

/-- A run that misses nothing starts on the lane; of the visible registers only LIVE_CNT moves (R112, R129). -/
theorem dispatchRun_starts {r : Run} (hheld : s.twin.held = []) (hq : ctxSrc s n 6 = none) (hd : ctxSrc s n 7 = none)
    (hmiss : runMissing s n r = false) : ∃ (l : Lane) (q : Run) (u : State),
      dispatchRun n k r s = putLane k l (putCtx n { ctxOf u n with run := some q } u) ∧ l.ctx = n ∧ q.started = true ∧ q.lane = k ∧
        u.regs = (s.wrF (Ctx.STATE n) 23 16 0).regs ∧ u.mem = s.mem := by
  unfold dispatchRun
  rw [takeHeld_of_none hheld, noteSets_of_none hq hd]
  extract_lets v h st load band missing x seq mode at_ full bc s1 hit args res done r1 s2
  have hstarts : ¬ missing = true := by simp only [missing, v, hmiss, Bool.false_eq_true, not_false_eq_true]
  rw [if_neg hstarts]
  refine ⟨_, r1, s2, rfl, rfl, rfl, rfl, ?_, ?_⟩
  · refine (noteDeviation_effect n bc.2 _).1.trans ?_
    simp only [s1, v]
    split <;> rfl
  · refine (noteDeviation_effect n bc.2 _).2.trans ?_
    simp only [s1, v]
    split <;> rfl

/-! ### The instructions -/

/-- The FAST run with the earliest deadline starts on the lane. -/
theorem gives_dispatch_fast {r : Run} (hfree : laneFree s k = true) (hhalt : s.rdB SecDbg.DBG_HSTAT 2 = false) (hheld : s.twin.held = [])
    (hfirst : edf (fastReady s) = some n) (hrun : (ctxOf s n).run = some r) (hq : ctxSrc s n 6 = none) (hd : ctxSrc s n 7 = none)
    (hmiss : runMissing s n r = false) : Gives (.contextDispatch k seg) s (fun t => (∃ l, (k, l) ∈ t.cle.lanes ∧ l.ctx = n) ∧
      (∃ q, (ctxOf t n).run = some q ∧ q.started = true ∧ q.lane = k) ∧ liveCnt t n = 0 ∧ Frame [Ctx.STATE n] s t) := by
  obtain ⟨l, q, u, hstart, hctx, hstarted, hlane, hregs, hmem⟩ := dispatchRun_starts (k := k) hheld hq hd hmiss
  refine ⟨dispatch k seg s, rfl, ?_⟩
  rw [dispatch_of_fast hfree hhalt hfirst hrun, hstart]
  refine ⟨⟨l, mem_lanes_putLane .., hctx⟩, ⟨q, by rw [ctxOf_putLane, ctxOf_putCtx_self], hstarted, hlane⟩, ?count, ?frame⟩
  case count => exact (congrArg (fun w => fld w 23 16) (State.rd_congr hregs _)).trans (liveCnt_wrF_zero n s)
  case frame => exact frame_hidden (frame_wr s (Ctx.STATE n) _) hregs (hmem.trans (State.wrF_mem ..).symm)

/-- With no FAST run ready, the lane works on the precompute with the earliest deadline. -/
theorem gives_dispatch_segment {p : PreRun} (hfree : laneFree s k = true) (hhalt : s.rdB SecDbg.DBG_HSTAT 2 = false)
    (hfast : edf (fastReady s) = none) (hfirst : edf (periodicReady s) = some n) (hrun : (ctxOf s n).run = none)
    (hpre : (ctxOf s n).pre = some p) : Gives (.contextDispatch k seg) s (fun t =>
      (∃ l, (k, l) ∈ t.cle.lanes ∧ l.ctx = n ∧ l.gen = some (ctxOf s n).preGen) ∧ Frame [] s t) := by
  refine ⟨dispatch k seg s, rfl, ?_⟩
  rw [dispatch_of_segment hfree hhalt hfast hfirst hrun hpre]
  exact ⟨⟨_, mem_lanes_putLane .., rfl, rfl⟩, frame_of_regs_mem rfl rfl⟩

theorem gives_segmentEnd {e : Nat × Lane} (hlane : s.cle.lanes.find? (fun e => decide (e.1 = k)) = some e) :
    Gives (.segmentEnd k seg) s (fun t => e.2.till ≤ t.now ∧
      (s.rdB SecDbg.DBG_HSTAT 2 = true → (∀ l, (k, l) ∉ t.cle.lanes) ∧ Frame [] s t)) := by
  obtain ⟨hnow, hregs, hmem, hlanes⟩ := endLane_effect hlane
  have hexec : segmentEnd k seg s = dispatch k seg (endLane k s) := by simp [segmentEnd, hlane]
  refine ⟨segmentEnd k seg s, rfl, ?instant, fun hhalt => ?halted⟩
  case instant =>
    rw [hexec, now_dispatch, hnow]
    exact Nat.le_max_right ..
  case halted =>
    have hstill : (endLane k s).rdB SecDbg.DBG_HSTAT 2 = true := by rwa [State.rdB, State.rd_congr hregs]
    rw [hexec, dispatch_of_halted hstill]
    exact ⟨fun l => by simp [hlanes], frame_of_regs_mem hregs hmem⟩

theorem gives_precomputeDone {e : Nat × Lane} {p : PreRun}
    (hlast : s.cle.lanes.find? (fun e => decide (e.2.ctx = n ∧ e.2.gen = some (ctxOf s n).preGen) && e.2.last) = some e)
    (hlane : s.cle.lanes.find? (fun x => decide (x.1 = e.1)) = some e) (hpre : (ctxOf s n).pre = some p) :
    Gives (.precomputeDone n) s (fun t =>
      (ctxOf t n).pre = none ∧ (ctxOf t n).spec ≠ none ∧ e.2.till ≤ t.now ∧ Frame [] s t) := by
  obtain ⟨⟨hctx, hgen⟩, hend⟩ : (e.2.ctx = n ∧ e.2.gen = some (ctxOf s n).preGen) ∧ e.2.last = true := by
    simpa using List.find?_some hlast
  obtain ⟨hnow, hregs, hmem, -⟩ := endLane_effect hlane
  obtain ⟨hnone, hspec⟩ := ctxOf_endLane_last hlane hctx hgen hend hpre
  have hexec : precomputeDone n s = endLane e.1 s := by simp only [precomputeDone, hlast]
  refine ⟨precomputeDone n s, rfl, ?_⟩
  rw [hexec]
  exact ⟨hnone, hspec, hnow ▸ Nat.le_max_right .., frame_of_regs_mem hregs hmem⟩

/-- The run is over at its instant and counted, and its result stands unless it ran in OPEN. -/
theorem gives_runCommit {r : Run} (hrun : (ctxOf s n).run = some r) (hstarted : r.started = true) (hdue : (r.doneAt : Int) ≤ r.deadline) :
    Gives (.runCommit n) s (fun t => (ctxOf t n).run = none ∧ (ctxOf t n).runs = (ctxOf s n).runs + 1 ∧ r.doneAt ≤ t.now ∧
      (r.st ≠ 1 → t.rdL (Ctx.OUT n) = r.res.out') ∧ ∀ a, t.rdByte a = s.rdByte a) := by
  have hkept := kept_runCommit n s hrun hstarted hdue
  simp only [kept, Kept.mk.injEq] at hkept
  obtain ⟨hnow, hmem, hended, hcounted, hout⟩ := hkept
  refine ⟨runCommit n s, rfl, by simpa using hended, hcounted, hnow ▸ Nat.le_max_right .., fun hst => ?_, rdByte_congr hmem⟩
  rw [hout, if_neg hst]

end

/-- Settles O43: a dispatch, the end of a lane's work and a commit by what each leaves of its context; an operation that may run after them
takes no time and leaves the run's end as it is. -/
theorem lanesRunAndCommitTheWork : Obligations.LanesRunAndCommitTheWork := by
  unfold Obligations.LanesRunAndCommitTheWork
  intro k seg n s
  refine ⟨fun hfree hhalt hheld => ⟨?fast, ?segment⟩, fun e => gives_segmentEnd, fun e p => gives_precomputeDone, ?commit⟩
  case fast => exact fun r hfirst hrun hq hd hmiss => gives_dispatch_fast hfree hhalt hheld hfirst hrun hq hd hmiss
  case segment => exact fun p hfast hfirst hrun hpre => gives_dispatch_segment hfree hhalt hfast hfirst hrun hpre
  case commit => exact fun r hrun hstarted hdue _ _ => gives_runCommit hrun hstarted hdue

end Sys2Proof.Laws.Lanes
end

section
/-! PROOFS. CLEAR of FOC.CMD where the machine's context is closed (R176, R177). -/

namespace Sys2Proof.Laws.MachineCommands
open Sys2Proof.Machine Sys2Proof.Safety

/-- Machine 0 in FAULT after a loss of synchronism, its timebase standing, and the context its CUR_CTX names CLOSED. -/
def faultWithClosedContext : State := ((State.reset.wr Bup.STATE 9).wr (Foc.MSTATE 0) 0x809).wr (Ctx.STATE 0) 3

/-- What CLEAR (command 6) of that machine leads to. -/
def clearedFault : State := (gated .host (Foc.CMD 0) 6 (focCmdWrite 0 6) faultWithClosedContext).1

theorem admits_faultWithClosedContext : Admits faultWithClosedContext .host (Foc.CMD 0) := by
  unfold Admits
  decide +kernel

theorem exec_focClear_faultWithClosedContext : exec (.focClear .host 0) faultWithClosedContext = .next clearedFault := rfl

/-- CLEAR brings the machine to its stop's end, and the stop opens the context. -/
theorem ctxState_clearedFault : ctxState faultWithClosedContext 0 = 3 ∧ ctxState clearedFault 0 = 1 := by decide +kernel

/-- Refutes O44: a machine is in FAULT, its timebase stands and its context is CLOSED. CLEAR opens the context (R176), so `Ctx.STATE`, which
lies outside the pages the clause of CLEAR names, moves from 3 to 1. -/
theorem not_machineCommandsMoveTheMachine : ¬ Obligations.MachineCommandsMoveTheMachine := by
  unfold Obligations.MachineCommandsMoveTheMachine
  intro hall
  obtain ⟨-, -, -, -, -, -, hclear⟩ := hall .host 0 0 false faultWithClosedContext (by decide) (by decide) admits_faultWithClosedContext
  obtain ⟨t, hexec, -, -, hregs, -⟩ := hclear (by decide +kernel) (by decide +kernel)
  obtain rfl : clearedFault = t := Host.Outcome.next.inj (exec_focClear_faultWithClosedContext.symm.trans hexec)
  have hsame : ctxState clearedFault 0 = ctxState faultWithClosedContext 0 := by
    rw [ctxState, State.rdF, hregs (Ctx.STATE 0) (by decide)]
    rfl
  rw [ctxState_clearedFault.1, ctxState_clearedFault.2] at hsame
  exact absurd hsame (by decide)

end Sys2Proof.Laws.MachineCommands
end

section
/-! PROOFS. Fields of a register after a write of a field. -/

namespace Sys2Proof.Laws.Fields
open Sys2Proof.Machine

section
variable {hi lo v : Nat} (w : Word)

/-- The bits of a field value are the bits of its word from `lo` on. -/
theorem testBit_fld (j : Nat) : (fld w hi lo).testBit j = (decide (j < hi + 1 - lo) && w.getLsbD (lo + j)) := by
  rw [fld, Nat.testBit_mod_two_pow, Nat.testBit_div_two_pow, BitVec.getLsbD, Nat.add_comm j lo]

theorem getLsbD_fmask {i : Nat} (hi32 : hi < 32) (hlo : lo ≤ hi) : (fmask hi lo).getLsbD i = decide (lo ≤ i ∧ i ≤ hi) := by
  rw [fmask, word, BitVec.getLsbD_ofNat, Nat.testBit_mul_two_pow, Nat.testBit_two_pow_sub_one, Bool.eq_iff_iff]
  simp only [Bool.and_eq_true, decide_eq_true_eq]
  omega

/-- A field write puts the bits of its value into the field and leaves the others. -/
theorem getLsbD_setFld {i : Nat} (hi32 : hi < 32) (hlo : lo ≤ hi) :
    (setFld w hi lo v).getLsbD i = if lo ≤ i ∧ i ≤ hi then v.testBit (i - lo) else w.getLsbD i := by
  have hput : (word (v % 2 ^ (hi + 1 - lo) * 2 ^ lo)).getLsbD i = (decide (lo ≤ i ∧ i ≤ hi) && v.testBit (i - lo)) := by
    rw [word, BitVec.getLsbD_ofNat, Nat.testBit_mul_two_pow, Nat.testBit_mod_two_pow, Bool.eq_iff_iff]
    simp only [Bool.and_eq_true, decide_eq_true_eq, ← and_assoc, and_congr_left_iff]
    omega
  rw [setFld, BitVec.getLsbD_or, BitVec.getLsbD_and, BitVec.getLsbD_not, getLsbD_fmask hi32 hlo, hput]
  by_cases hin : lo ≤ i ∧ i ≤ hi
  · simp [hin]
  · have hw : ¬ i < 32 → w.getLsbD i = false := fun h => BitVec.getLsbD_of_ge w i (Nat.not_lt.mp h)
    by_cases h32 : i < 32 <;> simp [hin, h32, hw]

theorem fld_setFld_self (hi32 : hi < 32) (hlo : lo ≤ hi) (hv : v < 2 ^ (hi + 1 - lo)) : fld (setFld w hi lo v) hi lo = v := by
  refine Nat.eq_of_testBit_eq (fun j => ?_)
  rw [testBit_fld, getLsbD_setFld w hi32 hlo, Nat.add_sub_cancel_left]
  by_cases hj : j < hi + 1 - lo
  · rw [if_pos (by omega)]
    simp [hj]
  · have hzero : v.testBit j = false :=
      Nat.testBit_lt_two_pow (Nat.lt_of_lt_of_le hv (Nat.pow_le_pow_right (by decide) (Nat.not_lt.mp hj)))
    simp [hj, hzero]

/-- A field write leaves a field that lies apart from it. -/
theorem fld_setFld_apart {hi' lo' : Nat} (hi32 : hi < 32) (hlo : lo ≤ hi) (hapart : hi' < lo ∨ hi < lo') :
    fld (setFld w hi lo v) hi' lo' = fld w hi' lo' := by
  refine Nat.eq_of_testBit_eq (fun j => ?_)
  rw [testBit_fld, testBit_fld, getLsbD_setFld w hi32 hlo]
  by_cases hj : j < hi' + 1 - lo'
  · rw [if_neg (by omega)]
  · simp [hj]

end

end Sys2Proof.Laws.Fields
end

section
/-! PROOFS. A part of the state that the modulator, protection, the gate links and the contexts of the control law engine leave alone: what
they write are registers other than the states of the machines, live values, and hidden state of their own. -/

namespace Sys2Proof.Laws.Asides
open Sys2Proof.Machine Sys2Proof.Laws.Protection

/-- The address is not MSTATE of a machine. -/
abbrev NotMstate (a : Nat) : Prop := a % 4096 ≠ 0xCC ∨ 0x104000 ≤ a

/-- A part of the state that a register write beside MSTATE, a live value and the modulator's hidden state leave alone. -/
structure Apart {α : Type} (part : State → α) : Prop where
  wr : ∀ s {a} v, NotMstate a → part (s.wr a v) = part s
  wrL : ∀ s a v, part (s.wrL a v) = part s
  setPwm : ∀ s x, part { s with pwm := x } = part s

/-- Such a part that a flag of MSTATE from bit 24 on, an event and the hidden state of other blocks leave alone as well; of a machine's hidden
state it holds at most whether an update is due. -/
structure Aside {α : Type} (part : State → α) : Prop extends Apart part where
  flag : ∀ s k {i} b, 24 ≤ i ∧ i < 32 → part (s.wrB (Foc.MSTATE k) i b) = part s
  emit : ∀ s c p k o d, part (s.emit c p k o d) = part s
  stampNow : ∀ s a, part (s.stampNow a) = part s
  setProt : ∀ s x, part { s with prot := x } = part s
  setGl : ∀ s x, part { s with gl := x } = part s
  setCle : ∀ s x, part { s with cle := x } = part s
  setTwin : ∀ s x, part { s with twin := x } = part s
  setSrcs : ∀ s x, part { s with srcs := x } = part s
  setInputs : ∀ s x, part { s with inputs := x } = part s
  putMach : ∀ s k {x}, x.trigNew = (machOf s k).trigNew → part (putMach k x s) = part s

/-! ### The modulator's authorities (R28-R30) -/

section
variable {α : Type} {part : State → α} (h : Apart part) (s : State)
include h

theorem apart_wrB {a : Nat} (i : Nat) (b : Bool) (ha : NotMstate a) : part (s.wrB a i b) = part s := h.wr s _ ha

theorem apart_incL (a : Nat) : part (s.incL a) = part s := h.wrL ..

theorem apart_putCh (c : Nat) (x : ChHid) : part (putCh c x s) = part s := h.setPwm ..

theorem apart_putLeg (g x : Nat) (l : LegHid) : part (putLeg g x l s) = part s := h.setPwm ..

omit h in
theorem notMstate_chStat (c : Nat) : NotMstate (Ch.CH_STAT c) := .inr (by simp only [Ch.CH_STAT]; omega)

theorem apart_setLevel (c : Nat) (b : Bool) (t8 : Int) : part (setLevel c b t8 s) = part s := by
  simp only [setLevel, apply_ite part, apart_putCh h, h.setPwm, apart_wrB h _ _ _ (notMstate_chStat c), ite_self]

theorem apart_requestOn (c : Nat) (t8 : Int) : part (requestOn c t8 s) = part s := by
  simp only [requestOn, apply_ite part, apart_setLevel h, apart_putCh h, apart_wrB h _ _ _ (notMstate_chStat c), ite_self]

theorem apart_showRank (c : Nat) : part (showRank c s) = part s :=
  (h.wr _ _ (notMstate_chStat c)).trans (h.wr s _ (notMstate_chStat c))

theorem apart_showPassage (g x : Nat) (b : Bool) : part (showPassage g x b s) = part s :=
  apart_wrB h s _ _ (.inr (by simp only [Grp.GRP_STAT]; omega))

theorem apart_passLeg (t8 : Int) (g x : Nat) : part (passLeg t8 s g x) = part s := by
  unfold passLeg
  dsimp only
  split
  · rfl
  · split <;> simp only [apply_ite part, apart_incL h, apart_showPassage h, apart_putLeg h, ite_self]

theorem apart_resolveNow : part (resolveNow s) = part s := by
  have hoff : ∀ t c, part (if wants t c then t else setLevel c false (8 * s.now) t) = part t := by
    simp only [apply_ite part, apart_setLevel h, ite_self, implies_true]
  have hon : ∀ t c, part (if wants t c then requestOn c (8 * s.now) t else t) = part t := by
    simp only [apply_ite part, apart_requestOn h, ite_self, implies_true]
  have hleg : ∀ (t : State) (e : Nat × Nat), part (passLeg (8 * s.now) t e.1 e.2) = part t := fun t e => apart_passLeg h t ..
  have hgov : ∀ t c, part (putCh c (govern t false c) t) = part t := fun t c => apart_putCh h t c _
  simp only [resolveNow, resolve, foldl_keeps part hon, foldl_keeps part hoff, foldl_keeps part hleg,
    foldl_keeps part (fun t c => apart_showRank h t c), foldl_keeps part hgov]

theorem apart_addForce (f : Force) : part (addForce f s) = part s := (apart_resolveNow h _).trans (h.setPwm ..)

theorem apart_dropForce (tag : ForceTag) (id : Nat) : part (dropForce tag id s) = part s := (apart_resolveNow h _).trans (h.setPwm ..)

theorem apart_ascMove (m : Nat) : part (ascMove m s) = part s := by
  refine foldl_keeps part (fun t f => ?_) _ s
  simp only [apply_ite part, apart_addForce h, ite_self]

end

section
variable {α : Type} {part : State → α} (h : Aside part) (s : State)
include h

/-! ### State operations -/

theorem aside_wrF {a : Nat} (hi lo v : Nat) (ha : NotMstate a) : part (s.wrF a hi lo v) = part s := h.wr s _ ha

theorem aside_wrB {a : Nat} (i : Nat) (b : Bool) (ha : NotMstate a) : part (s.wrB a i b) = part s := h.wr s _ ha

theorem aside_incSat {a : Nat} (hi lo : Nat) (ha : NotMstate a) : part (s.incSat a hi lo) = part s := h.wr s _ ha

theorem aside_incL (a : Nat) : part (s.incL a) = part s := apart_incL h.toApart s a

theorem aside_produce (a : Nat) (v : Word) : part (s.produce a v) = part s := (h.stampNow ..).trans (h.wrL ..)

theorem aside_emitPage (c : EvClass) (p k o : Nat) : part (emitPage c p k o s) = part s := h.emit ..

theorem aside_raw (p i : Nat) (b : Bool) : part (s.raw p i b) = part s :=
  (h.wr _ _ (.inl (by simp only [hIRQ_PEND]; omega))).trans (h.wr s _ (.inl (by simp only [hIRQ_RAW]; omega)))

theorem aside_pulse (p i : Nat) : part (s.pulse p i) = part s := by
  have hraw : NotMstate (hIRQ_RAW p) := .inl (by simp only [hIRQ_RAW]; omega)
  simp only [State.pulse, apply_ite part, h.wr _ _ hraw, aside_raw h, ite_self]

theorem aside_wakeRisen (k p : Nat) (mask : Word) (old : State) : part (wakeRisen k p mask old s) = part s := by
  simp (disch := decide) only [wakeRisen, wakeOn, wake, pwrGo, apply_ite part, aside_pulse h, h.wr, aside_wrB h, ite_self]

/-! ### The modulator's authorities, for a part that stands aside -/

theorem aside_resolveNow : part (resolveNow s) = part s := apart_resolveNow h.toApart s

theorem aside_addForce (f : Force) : part (addForce f s) = part s := apart_addForce h.toApart s f

theorem aside_dropForce (tag : ForceTag) (id : Nat) : part (dropForce tag id s) = part s := apart_dropForce h.toApart s tag id

theorem aside_ascMove (m : Nat) : part (ascMove m s) = part s := apart_ascMove h.toApart s m

/-! ### The gate links (R237-R256) -/

theorem aside_putPos (n : Nat) (x : GlHid) : part (putPos n x s) = part s := h.setGl ..

omit h in
theorem notMstate_glStat (n : Nat) : NotMstate (GlPos.GL_STAT n) := .inr (by simp only [GlPos.GL_STAT]; omega)

theorem aside_setGl (n st : Nat) : part (setGl n st s) = part s := by
  simp (disch := decide) only [setGl, glLevels, glMasks, updCarry, aside_raw h, h.wr, aside_wrF h _ _ _ _ (notMstate_glStat n),
    aside_putPos h, apply_ite part, h.stampNow, ite_self]

theorem aside_glFail (n code : Nat) : part (glFail n code s) = part s := by
  simp only [glFail, h.emit, aside_pulse h, aside_setGl h, aside_putPos h, aside_wrF h _ _ _ _ (notMstate_glStat n)]

theorem aside_latchFrames (wasOff : List Nat) : part (latchFrames wasOff s) = part s := by
  refine foldl_keeps part (fun t n => ?_) _ s
  simp only [allOffFrame, apply_ite part, aside_glFail h, aside_putPos h, ite_self]

/-! ### Protection (R265-R293) -/

theorem aside_protShow : part (protShow s) = part s := by
  unfold protShow
  dsimp only
  split <;> simp (disch := decide) only [h.setProt, aside_wakeRisen h, aside_raw h, h.wr]

theorem aside_protLockout : part (protLockout s) = part s := by
  simp (disch := decide) only [protLockout, protBit, apply_ite part, aside_emitPage h, aside_protShow h, aside_wrB h, ite_self]

theorem aside_ascStart (m : Nat) : part (ascStart m s) = part s := by
  have hput : ∀ x, part (putMach m { machOf s m with ascAt := s.now } { s with prot := x }) = part s :=
    fun x => (h.putMach { s with prot := x } m (x := { machOf s m with ascAt := s.now }) rfl).trans (h.setProt s x)
  unfold ascStart
  split
  · rfl
  · exact hput { s.prot with
      ascSide := KMap.set (fun _ => 0) s.prot.ascSide m 0, ascStop := s.prot.ascStop.filter (fun k => decide (k ≠ m)) }

theorem aside_disMethod (method : Nat) : part (disMethod method s) = part s := by
  simp (disch := decide) only [disMethod, aside_protShow h, apply_ite part, aside_dropForce h, aside_addForce h, h.wr, ite_self]

theorem aside_disEnd (code : Nat) : part (disEnd code s) = part s := by
  simp (disch := decide) only [disEnd, apply_ite part, aside_emitPage h, aside_protShow h, aside_dropForce h, h.wr, ite_self]

/-! ### Speculations and latching (R142, R153, R265-R277) -/

theorem aside_putCtx (n : Nat) (x : CtxHid) : part (putCtx n x s) = part s := h.setCle ..

theorem aside_startPre (n : Nat) : part (startPre n s) = part s := h.setCle ..

theorem aside_markCause (n c : Nat) : part (markCause n c s) = part s := (h.wrL ..).trans (h.wrL ..)

theorem aside_squashCtx (c n : Nat) : part (squashCtx c n s) = part s := by
  unfold squashCtx
  dsimp only
  split <;> simp only [putRun, apply_ite part, h.setCle, aside_startPre h, aside_markCause h, aside_putCtx h, aside_incL h,
    ite_self]

theorem aside_squashAll (c : Nat) : part (squashAll c s) = part s :=
  foldl_keeps part (fun t (e : Nat × CtxHid) => aside_squashCtx h t c e.1) _ s

theorem aside_latchSource (n obj : Nat) (own : List Nat) : part (latchSource n obj own s) = part s := by
  have hcancel : ∀ t, part (cancelAsc t) = part t := fun t => h.setPwm t _
  unfold latchSource
  dsimp only
  split
  · rfl
  · split <;> simp only [squallEvent, hcancel, apply_ite part, h.emit, aside_protLockout h, aside_squashAll h, aside_latchFrames h,
      aside_protShow h, aside_resolveNow h, aside_incL h, h.setProt, ite_self]

/-! ### Groups of contexts (R132-R135) -/

theorem aside_putInput (d : Nat) (v : Word) : part (putInput d v s) = part s := by
  simp (disch := decide) only [putInput, apply_ite part, h.flag, h.setInputs, ite_self]

theorem aside_setSrc (n : Nat) (v : Word) (ok : Bool) : part (setSrc n v ok s) = part s := h.setSrcs ..

theorem aside_hwShow (g : Nat) : part (hwShow g s) = part s := by
  have hstat : NotMstate (Hw.HW_STAT g) := .inl (by simp only [Hw.HW_STAT]; omega)
  simp (disch := decide) only [hwShow, apply_ite part, aside_wrB h, aside_raw h, h.wr _ _ hstat, h.stampNow, ite_self]

theorem aside_hwOutput (g : Nat) (y : Word) : part (hwOutput g y s) = part s := by
  simp only [hwOutput, apply_ite part, aside_putInput h, aside_setSrc h, aside_produce h, ite_self]

theorem aside_hwFollow (g : Nat) : part (hwFollow g s) = part s := by
  simp only [hwFollow, apply_ite part, aside_hwOutput h, aside_hwShow h, ite_self]

/-! ### Transitions of a context (R123-R131, R174) -/

theorem aside_showLimited (n : Nat) (b : Bool) (tgt : Int) : part (showLimited n b tgt s) = part s := by
  have hcount : ∀ t k, part (putMach k { machOf t k with limAt := some tgt } ((t.pulse (Foc.page k) 4).incL (Foc.LIMITED_CNT k))) =
      part t := fun t k => by
    rw [h.putMach _ k (by simp [machOf, State.incL]), aside_incL h, aside_pulse h]
  unfold showLimited
  dsimp only
  split
  · rfl
  · split <;> simp (disch := decide) only [apply_ite part, hcount, h.flag, aside_putCtx h, ite_self]

theorem aside_cleShow : part (cleShow s) = part s := by
  simp (disch := decide) only [cleShow, cleLevels, aside_wrB h, aside_raw h]

theorem aside_ctxGo (n st : Nat) : part (ctxGo n st s) = part s := by
  have hrecord : NotMstate (Ctx.STATE n) ∧ NotMstate (Ctx.COUNTS n) := by
    simp only [NotMstate, Ctx.STATE, Ctx.COUNTS]
    omega
  obtain ⟨hstate, hcounts⟩ := hrecord
  unfold ctxGo
  extract_lets old s1 s2 s3 x x1 x2 s4
  have hs3 : part s3 = part s := by
    simp only [s3, s2, s1, apply_ite part, aside_pulse h, aside_incSat h _ _ _ hcounts, aside_wrF h _ _ _ _ hstate, ite_self]
  have hs4 : part s4 = part s := by
    simp only [s4, aside_cleShow h]
    split <;> simp only [id, aside_showLimited h, aside_putCtx h, hs3]
  split <;> simp only [aside_hwFollow h, hs4]

theorem aside_ctxOpen (n : Nat) : part (ctxOpen n s).1 = part s := by
  simp only [ctxOpen, deny, accept, apply_ite Prod.fst, apply_ite part, aside_squashCtx h, aside_ctxGo h, ite_self]

theorem aside_ctxClose (n : Nat) : part (ctxClose n s).1 = part s := by
  have hcrc : NotMstate (Ctx.CFG_CRC n) := .inl (by simp only [Ctx.CFG_CRC]; omega)
  simp only [ctxClose, deny, accept, apply_ite Prod.fst, apply_ite part, aside_ctxGo h, h.stampNow, aside_putCtx h, aside_squashCtx h,
    h.wr _ _ hcrc, ite_self]

/-! ### Stop states of a machine (R176, R178, R286) -/

theorem aside_disLeftRun (m : Nat) : part (disLeftRun m s) = part s := by
  simp only [disLeftRun, apply_ite part, aside_disMethod h, aside_disEnd h, ite_self]

theorem aside_endPulse (m : Nat) : part (endPulse m s) = part s := by
  have hput : part (putMach m { machOf s m with pulse := none } s) = part s := h.putMach s m rfl
  simp only [endPulse, apply_ite part, aside_addForce h, hput, ite_self]

theorem aside_openCtxs (m : Nat) : part (openCtxs m s) = part s := by
  have hopen : ∀ (t : State) (k : Nat), part (if ctxLive t k then (ctxOpen k t).1 else t) = part t := by
    simp only [apply_ite part, aside_ctxOpen h, ite_self, implies_true]
  have hput : ∀ t, part (putMach m { machOf t m with closed := false, openPend := false, closePend := false } t) = part t :=
    fun t => h.putMach t m rfl
  simp only [openCtxs, hput, foldl_keeps part hopen]

theorem aside_enterStop (m : Nat) (asc : Bool) : part (enterStop m asc s) = part s := by
  have hput : ∀ t, part (putMach m { machOf t m with openPend := true, closePend := false, relPend := false, recatch := false } t) =
      part t := fun t => h.putMach t m rfl
  simp only [enterStop, apply_ite part, aside_openCtxs h, hput, aside_addForce h, aside_ascStart h, ite_self]

end

end Sys2Proof.Laws.Asides
end

section
/-! PROOFS. The machines of field control: what their operations leave of time, the memory windows, the state, the cause and the update
that is due (R162-R187). -/

namespace Sys2Proof.Laws.Machines
open Sys2Proof.Machine Sys2Proof.Laws.Fields Sys2Proof.Laws.Protection Sys2Proof.Laws.Contexts Sys2Proof.Laws.Asides

/-! ### The view of a machine -/

/-- Time, the memory windows, and whether an update of the machine is due (R162). -/
structure Course where
  now : Nat
  mem : List Host.Cell
  due : Bool

/-- That part of a state, for machine `m`. -/
def course (m : Nat) (s : State) : Course := ⟨s.now, s.mem, (machOf s m).trigNew⟩

/-- The course of a machine with its STATE and CAUSE (R176, R177). -/
structure Standing where
  course : Course
  state : Nat
  cause : Nat

/-- The same machine in state `st`. -/
def Standing.inState (x : Standing) (st : Nat) : Standing := { x with state := st }

/-- The same machine with cause `c`. -/
def Standing.because (x : Standing) (c : Nat) : Standing := { x with cause := c }

/-- That part of a state, for machine `m`. -/
def standing (m : Nat) (s : State) : Standing := ⟨course m s, machState s m, s.rdF (Foc.MSTATE m) 15 8⟩

theorem machOf_putMach (m k : Nat) (x : MachHid) (s : State) : machOf (putMach k x s) m = if m = k then x else machOf s m :=
  KMap.get_set _ s.foc k m x

@[simp] theorem machOf_putMach_self (m : Nat) (x : MachHid) (s : State) : machOf (putMach m x s) m = x := by simp [machOf_putMach]

section
variable {m : Nat} {s : State}

theorem course_wr (a : Nat) (v : Word) : course m (s.wr a v) = course m s := by cases s; rfl

theorem course_putMach {k : Nat} {x : MachHid} (hx : x.trigNew = (machOf s k).trigNew) : course m (putMach k x s) = course m s := by
  have hdue : (machOf (putMach k x s) m).trigNew = (machOf s m).trigNew := by
    rw [machOf_putMach]
    split
    · next hk => rw [hx, hk]
    · rfl
  exact congrArg (Course.mk s.now s.mem) hdue

theorem aside_course : Aside (course m) where
  wr _ _ _ _ := rfl
  flag _ _ _ _ _ := rfl
  wrL _ _ _ := rfl
  emit _ _ _ _ _ _ := rfl
  stampNow _ _ := rfl
  setPwm _ _ := rfl
  setProt _ _ := rfl
  setGl _ _ := rfl
  setCle _ _ := rfl
  setTwin _ _ := rfl
  setSrcs _ _ := rfl
  setInputs _ _ := rfl
  putMach _ _ _ hx := course_putMach hx

/-- A machine stands as before where its course and its MSTATE are as before. -/
theorem standing_congr {t : State} (hcourse : course m t = course m s) (hreg : t.rd (Foc.MSTATE m) = s.rd (Foc.MSTATE m)) :
    standing m t = standing m s := by
  simp only [standing, machState, State.rdF, hcourse, hreg]

/-- A flag of MSTATE lies above STATE and CAUSE. -/
theorem standing_flag (k : Nat) {i : Nat} (b : Bool) (hi : 24 ≤ i ∧ i < 32) : standing m (s.wrB (Foc.MSTATE k) i b) = standing m s := by
  obtain ⟨hlow, hhigh⟩ := hi
  by_cases hk : Foc.MSTATE m = Foc.MSTATE k
  · have hfld : ∀ hi lo, hi < 24 → fld (setBit (s.rd (Foc.MSTATE k)) i b) hi lo = fld (s.rd (Foc.MSTATE k)) hi lo :=
      fun hi lo h24 => fld_setFld_apart _ hhigh (Nat.le_refl i) (.inl (by omega))
    simp only [standing, machState, State.rdF, State.rd_wrB, hk, if_true, hfld 3 0 (by decide), hfld 15 8 (by decide)]
    rfl
  · refine standing_congr rfl ?_
    rw [State.rd_wrB, if_neg hk]

theorem aside_standing (hm : m < 4) : Aside (standing m) where
  wr s a v ha := by
    refine standing_congr rfl (State.rd_wr_ne s a _ v ?_)
    rintro rfl
    simp only [NotMstate, Foc.MSTATE] at ha
    omega
  flag _ k _ b hi := standing_flag k b hi
  wrL _ _ _ := rfl
  emit _ _ _ _ _ _ := rfl
  stampNow _ _ := rfl
  setPwm _ _ := rfl
  setProt _ _ := rfl
  setGl _ _ := rfl
  setCle _ _ := rfl
  setTwin _ _ := rfl
  setSrcs _ _ := rfl
  setInputs _ _ := rfl
  putMach _ _ _ hx := standing_congr (course_putMach hx) rfl

end

/-! ### Transitions of a machine (R176, R177) -/

section
variable {m : Nat} (hm : m < 4) (s : State)
include hm

omit hm in
theorem standing_wrF_state {st : Nat} (hst : st < 16) : standing m (s.wrF (Foc.MSTATE m) 3 0 st) = (standing m s).inState st := by
  simp only [standing, machState, State.rdF, State.rd_wrF, if_true, fld_setFld_self _ (hi := 3) (lo := 0) (by decide) (by decide) hst,
    fld_setFld_apart _ (hi := 3) (lo := 0) (hi' := 15) (lo' := 8) (by decide) (by decide) (.inr (by decide))]
  rfl

omit hm in
theorem standing_machCause {c : Nat} (hc : c < 256) : standing m (machCause m c s) = (standing m s).because c := by
  simp only [standing, machCause, machState, State.rdF, State.rd_wrF, if_true,
    fld_setFld_self _ (hi := 15) (lo := 8) (by decide) (by decide) hc,
    fld_setFld_apart _ (hi := 15) (lo := 8) (hi' := 3) (lo' := 0) (by decide) (by decide) (.inl (by decide))]
  rfl

/-- A transition puts the machine into the state it names. -/
theorem standing_machGo {st : Nat} (hst : st < 16) : standing m (machGo m st s) = (standing m s).inState st := by
  have h := aside_standing hm
  unfold machGo
  extract_lets old s0 s1 x s2 s3
  have hs0 : standing m s0 = standing m s := by
    simp only [s0, apply_ite (standing m), aside_endPulse h, ite_self]
  split
  · next hold =>
    rw [hs0]
    exact congrArg (Standing.mk _ · _) hold
  · have hs1 : standing m s1 = (standing m s).inState st := by
      rw [← hs0]
      simp only [s1, aside_pulse h, standing_wrF_state _ hst, apply_ite (standing m), h.stampNow, ite_self]
    have hs2 : standing m s2 = standing m s1 := by
      refine (h.putMach _ m ?_).trans (aside_raw h ..)
      rfl
    have hs3 : standing m s3 = standing m s1 := by
      simp only [s3, apply_ite (standing m), h.setInputs, hs2, ite_self]
    simp only [apply_ite (standing m), aside_disLeftRun h, hs3, hs1, ite_self]

/-- A machine that is neither OFF nor in FAULT already takes a fault with its cause. -/
theorem standing_machFault {c : Nat} (hc : c < 256) (hoff : machState s m ≠ 0) (hfault : machState s m ≠ 9) :
    standing m (machFault m c s) = ((standing m s).because c).inState 9 := by
  have h := aside_standing hm
  have hipd : NotMstate (Foc.IPD_RESULT m) := .inl (by simp only [Foc.IPD_RESULT]; omega)
  rw [machFault, if_neg (by simp [hoff, hfault])]
  simp only [machEvent, h.emit, aside_enterStop h, standing_machGo hm _ (st := 9) (by decide), standing_machCause _ hc,
    apply_ite (standing m), aside_wrB h _ _ _ hipd, ite_self]

/-- A start that fails for another cause than EMF_ABOVE_LINK and CTX_REFUSED ends in BLOCKED with its cause. -/
theorem standing_startFail {c : Nat} (hc : c < 256) (hlink : c ≠ 4) (hrefused : c ≠ 7) :
    standing m (startFail m c s) = ((standing m s).because c).inState 1 := by
  have h := aside_standing hm
  rw [startFail, if_neg hrefused]
  simp only [hlink, decide_false, Bool.false_and, Bool.false_eq_true, if_false, aside_enterStop h, standing_machGo hm _ (st := 1) (by decide),
    machEvent, h.emit, aside_pulse h, standing_machCause _ hc]

theorem standing_enterIpd : standing m (enterIpd m s) = (standing m s).inState 2 := by
  have h := aside_standing hm
  have hipd : NotMstate (Foc.IPD_RESULT m) := .inl (by simp only [Foc.IPD_RESULT]; omega)
  have hput : ∀ p, standing m (putMach m { machOf s m with ipd := [], pulse := p, omega := 0 } (s.wrB (Foc.IPD_RESULT m) 24 false)) =
      standing m s := by
    intro p
    refine (h.putMach _ m ?_).trans (aside_wrB h s _ _ hipd)
    rfl
  simp only [enterIpd, standing_machGo hm _ (st := 2) (by decide), hput]

end

end Sys2Proof.Laws.Machines
end

section
/-! PROOFS. The update of a machine keeps its course: of time, the memory windows and the update that is due, only the last moves, and only
where the update takes its trigger (R162-R187). -/

namespace Sys2Proof.Laws.Updates
open Sys2Proof.Machine Sys2Proof.Laws.Fields Sys2Proof.Laws.Protection Sys2Proof.Laws.Contexts Sys2Proof.Laws.Asides Sys2Proof.Laws.Machines

section
variable (m : Nat) (s : State)

/-! ### Transitions and failures (R176, R177) -/

theorem course_pulse (p i : Nat) : course m (s.pulse p i) = course m s := aside_pulse aside_course s p i

theorem course_machGo (st : Nat) : course m (machGo m st s) = course m s := by
  have h := aside_course (m := m)
  unfold machGo
  extract_lets old s0 s1 x s2 s3
  have hs0 : course m s0 = course m s := by
    simp only [s0, apply_ite (course m), aside_endPulse h, ite_self]
  have hs1 : course m s1 = course m s0 := by
    simp only [s1, course_pulse, State.wrF, course_wr, apply_ite (course m), h.stampNow, ite_self]
  have hs2 : course m s2 = course m s1 := course_putMach rfl
  have hs3 : course m s3 = course m s2 := by
    simp only [s3, apply_ite (course m), h.setInputs, ite_self]
  simp only [apply_ite (course m), aside_disLeftRun h, hs3, hs2, hs1, hs0, ite_self]

theorem course_machFault (c : Nat) : course m (machFault m c s) = course m s := by
  have h := aside_course (m := m)
  simp only [machFault, machEvent, machCause, State.wrB, State.wrF, apply_ite (course m), h.emit, aside_enterStop h, course_machGo, course_wr,
    ite_self]

theorem course_startFail (c : Nat) : course m (startFail m c s) = course m s := by
  have h := aside_course (m := m)
  simp only [startFail, machEvent, machCause, State.wrF, apply_ite (course m), course_machFault, aside_enterStop h, course_machGo, h.emit,
    course_pulse, course_wr, ite_self]

theorem course_closeCtxs : course m (closeCtxs m s) = course m s := by
  have h := aside_course (m := m)
  unfold closeCtxs
  extract_lets r
  have hr : course m r.1 = course m s := by
    refine List.foldlRecOn (motive := fun a : State × RefCode => course m a.1 = course m s) _ _ rfl (fun a ha k _ => ?_)
    simp only [apply_ite Prod.fst, apply_ite (course m), aside_ctxClose h, ite_self, ha]
  split
  · refine Eq.trans (course_putMach ?_) hr
    rfl
  · simp only [course_startFail, aside_openCtxs h, State.wrF, course_wr, hr]

theorem course_leaveStop : course m (leaveStop m s) = course m s := by
  have hput : course m (putMach m { machOf s m with closePend := true } s) = course m s := course_putMach rfl
  simp only [leaveStop, apply_ite (course m), hput, course_closeCtxs, ite_self]

/-! ### Initial position (R178, R179) -/

theorem course_enterIpd : course m (enterIpd m s) = course m s := by
  have hput : ∀ p, course m (putMach m { machOf s m with ipd := [], pulse := p, omega := 0 } (s.wrB (Foc.IPD_RESULT m) 24 false)) =
      course m s := fun p => course_putMach rfl
  simp only [enterIpd, course_machGo, hput]

theorem course_ipdEnd (l : List Word) : course m (ipdEnd m l s) = course m s := by
  have hput : ∀ t th, course m (putMach m { machOf t m with theta := th, omega := 0 } t) = course m t := fun t th => course_putMach rfl
  simp only [ipdEnd, apply_ite (course m), course_startFail, course_leaveStop, course_machGo, hput, course_pulse, course_wr, ite_self]

theorem course_ipdStep : course m (ipdStep m s) = course m s := by
  have hput : ∀ l p, course m (putMach m { machOf s m with ipd := l, pulse := p } s) = course m s := fun l p => course_putMach rfl
  simp only [ipdStep, apply_ite (course m), course_startFail, course_ipdEnd, hput, ite_self]

/-! ### Catching (R181-R183) -/

theorem course_catchStep : course m (catchStep m s) = course m s := by
  unfold catchStep
  extract_lets h0 t0 s1 h v
  have hs1 : course m s1 = course m s := course_putMach rfl
  split
  · exact hs1
  · have hput : ∀ l, course m (putMach m { h with emf := l } s1) = course m s1 := fun l => course_putMach rfl
    simp only [apply_ite (course m), course_startFail, hput, hs1, ite_self]

theorem course_searchStep : course m (searchStep m s) = course m s := by
  have hput : ∀ f p, course m (putMach m { machOf s m with freq := f, power := p } s) = course m s := fun f p => course_putMach rfl
  have hcaught : ∀ a w, course m (putMach m { machOf s m with omega := w, power := none } ((s.wr a w).pulse (Foc.page m) 2)) = course m s :=
    fun a w => (course_putMach (by simp [machOf])).trans (course_pulse ..)
  unfold searchStep
  dsimp only
  split
  · rfl
  · split <;> simp only [apply_ite (course m), course_machGo, course_startFail, hcaught, hput, ite_self]

/-! ### Loss of synchronism (R184) -/

theorem course_losRecatch : course m (losRecatch m s) = course m s := by
  have hput : ∀ t, course m (putMach m { machOf t m with recatch := true, recatchAt := some t.now } t) = course m t :=
    fun t => course_putMach rfl
  simp only [losRecatch, hput, aside_enterStop aside_course, course_machGo]

theorem course_losReact : course m (losReact m s) = course m s := by
  have h := aside_course (m := m)
  unfold losReact
  extract_lets x s1
  have hs1 : course m s1 = course m s :=
    (aside_incL h ..).trans ((course_putMach (by simp [x, machOf])).trans (course_pulse ..))
  split
  · exact (h.emit ..).trans hs1
  · split <;> simp only [apply_ite (course m), course_machFault, course_losRecatch, hs1, ite_self]
  · exact (course_machFault ..).trans hs1
  · exact (aside_latchSource h ..).trans ((course_machFault ..).trans hs1)

theorem course_losCount : course m (losCount m s) = course m s := by
  have hput : ∀ n l, course m (putMach m { machOf s m with los := n, hist := l } s) = course m s := fun n l => course_putMach rfl
  simp only [losCount, apply_ite (course m), course_losReact, hput, ite_self]

/-! ### The update (R162) -/

theorem course_stateStep : course m (stateStep m s) = course m s := by
  unfold stateStep
  split
  · exact course_ipdStep m s
  · simp only [apply_ite (course m), course_searchStep, course_catchStep, ite_self]
  · simp only [apply_ite (course m), aside_enterStop aside_course, course_machGo, ite_self]
  · rfl

theorem aside_focTelemetry {α : Type} {part : State → α} (h : Aside part) (o : ObsOut) : part (focTelemetry m o s) = part s := by
  simp only [focTelemetry, h.wrL, aside_produce h]

theorem aside_mirrorMach {α : Type} {part : State → α} (h : Aside part) : part (mirrorMach m s) = part s := by
  simp only [mirrorMach, mirrorSend, twinSend, apply_ite part, h.setTwin, ite_self]

/-- The observer leaves the update that is due. -/
theorem observe_trigNew : (observe s m).h.trigNew = (machOf s m).trigNew := by
  unfold observe
  dsimp only
  split
  · rfl
  · split
    · split <;> rfl
    · rfl

/-- The body of an update leaves time, the windows and the update that is due. -/
theorem course_focBody : course m (focBody m s) = course m s := by
  have h := aside_course (m := m)
  unfold focBody
  extract_lets s1 s2 o t tq d x h1 r h2 s3 s4
  have hs1 : course m s1 = course m s := by
    simp only [s1]
    split
    · exact course_machFault ..
    · rfl
  have hs2 : course m s2 = course m s := (aside_ascMove h ..).trans hs1
  have hs3 : course m s3 = course m s := by
    refine (course_wr ..).trans (Eq.trans (course_putMach ?_) hs2)
    exact observe_trigNew m s2
  have hs4 : course m s4 = course m s :=
    (course_losCount ..).trans ((course_stateStep ..).trans ((aside_focTelemetry _ _ h _).trans hs3))
  refine Eq.trans (course_putMach ?_) hs4
  rfl

/-- A record of the machine that the standby applies leaves the update that is due (R356). -/
theorem course_applyMach (b : List Nat) : course m (applyMach m b s) = course m s := by
  have h := aside_course (m := m)
  unfold applyMach
  extract_lets w x s1 i0 s2
  have hs2 : course m s2 = course m s :=
    (h.setInputs ..).trans ((course_wr ..).trans ((aside_putInput h ..).trans (aside_putInput h ..)))
  refine Eq.trans (course_putMach ?_) hs2
  exact (congrArg Course.due hs2).symm

theorem course_takeHeld : course m (takeHeld 2 m (applyMach m) s) = course m s :=
  takeHeld_keeps s (course m) (fun b t => course_applyMach m t b) (fun _ _ => rfl) (fun _ => rfl)

end

/-! ### FOC_UPDATE -/

section
variable {m dt : Nat} {s : State}

/-- A machine in FAULT has nothing to do at an update. -/
theorem stateStep_of_fault (hstate : machState s m = 9) : stateStep m s = s := by
  simp only [stateStep, hstate]

theorem losCount_of_fault (hstate : machState s m = 9) : losCount m s = putMach m { machOf s m with los := 0, hist := [] } s := by
  simp only [losCount, hstate, Nat.reduceLeDiff, and_false, if_false]

/-- An update with a cause of FAULT sends the machine there (R177, R187). -/
theorem standing_focBody_of_cause {c : Nat} (hm : m < 4) (hcause : updateCause s m = some c) (hc : c < 256) (hoff : machState s m ≠ 0)
    (hfault : machState s m ≠ 9) : standing m (focBody m s) = ((standing m s).because c).inState 9 := by
  have h := aside_standing hm
  unfold focBody
  extract_lets s1 s2 o t tq d x h1 r h2 s3 s4
  have hs1 : s1 = machFault m c s := by simp only [s1, hcause]
  have hs2 : standing m s2 = ((standing m s).because c).inState 9 :=
    (aside_ascMove h ..).trans (hs1 ▸ standing_machFault hm s hc hoff hfault)
  have hs3 : standing m s3 = standing m s2 := by
    refine (h.flag _ m _ (by decide)).trans (h.putMach _ m ?_)
    exact observe_trigNew m s2
  have htel : standing m (focTelemetry m o s3) = standing m s2 := (aside_focTelemetry m s3 h o).trans hs3
  have hstate : machState (focTelemetry m o s3) m = 9 := congrArg Standing.state (htel.trans hs2)
  have hs4 : standing m s4 = standing m s2 := by
    simp only [s4, stateStep_of_fault hstate, losCount_of_fault hstate]
    refine (h.putMach _ m ?_).trans htel
    rfl
  refine (h.putMach _ m ?_).trans (hs4.trans hs2)
  rfl

/-- The causes that authorities above field control give (R187). -/
theorem overrideCause_lt {c : Nat} (hcause : overrideCause s m = some c) : c < 256 := by
  simp only [overrideCause] at hcause
  split at hcause
  · cases hcause
    decide
  · split at hcause
    · cases hcause
      decide
    · split at hcause
      · cases hcause
        decide
      · cases hcause

/-- The state in which an update of machine `m` begins: 200 cycles after its trigger at the earliest, with the mirror records that waited in
place and the trigger taken (R162). -/
def updateStart (m dt : Nat) (s : State) : State :=
  let s1 := takeHeld 2 m (applyMach m) (s.reach ((machOf s m).trigAt + 200 + min dt 192))
  putMach m { machOf s1 m with trigNew := false, updAt := s1.now } s1

theorem course_updateStart :
    course m (updateStart m dt s) = ⟨max s.now ((machOf s m).trigAt + 200 + min dt 192), s.mem, false⟩ := by
  unfold updateStart
  extract_lets s1 x
  have hs1 : course m s1 = course m (s.reach ((machOf s m).trigAt + 200 + min dt 192)) := course_takeHeld m _
  have hnow : s1.now = max s.now ((machOf s m).trigAt + 200 + min dt 192) := congrArg Course.now hs1
  have hmem : s1.mem = s.mem := congrArg Course.mem hs1
  rw [← hnow, ← hmem, course, machOf_putMach_self]
  rfl

/-- Where no record waits, the start of an update leaves the state of the machine and the authorities above it. -/
theorem updateStart_of_no_held (hheld : s.twin.held = []) : machState (updateStart m dt s) m = machState s m ∧
    overrideCause (updateStart m dt s) m = overrideCause s m := by
  have htake : takeHeld 2 m (applyMach m) (s.reach ((machOf s m).trigAt + 200 + min dt 192)) =
      s.reach ((machOf s m).trigAt + 200 + min dt 192) := Lanes.takeHeld_of_none hheld
  simp only [updateStart, htake]
  exact ⟨rfl, rfl⟩

section
variable (hm : m < 4) (hnew : (machOf s m).trigNew = true) (hoff : machState s m ≠ 0) (hrun : tbRun s (machTb s m) = true)
include hm hnew hoff hrun

/-- FOC_UPDATE of a running machine with a new trigger runs the body of the update. -/
theorem focUpdate_of_due : focUpdate m dt s = mirrorMach m (focBody m (updateStart m dt s)) :=
  if_neg (by simp [hnew, hoff, hrun, hm])

/-- The update takes its trigger as done, at the earliest 200 cycles after it. -/
theorem course_focUpdate : course m (focUpdate m dt s) = ⟨max s.now ((machOf s m).trigAt + 200 + min dt 192), s.mem, false⟩ := by
  rw [focUpdate_of_due hm hnew hoff hrun, aside_mirrorMach _ _ aside_course, course_focBody, course_updateStart]

/-- Where an authority of rank 1 to 3 governs a switch of the machine and no mirror record waits, the update ends in FAULT with its cause. -/
theorem standing_focUpdate_of_override {c : Nat} (hheld : s.twin.held = []) (hfault : machState s m ≠ 9)
    (hcause : overrideCause s m = some c) : machState (focUpdate m dt s) m = 9 ∧ (focUpdate m dt s).rdF (Foc.MSTATE m) 15 8 = c := by
  obtain ⟨hstate, hover⟩ := updateStart_of_no_held (m := m) (dt := dt) hheld
  have hupdate : updateCause (updateStart m dt s) m = some c := by simp only [updateCause, hover, hcause]
  have hend : standing m (focUpdate m dt s) = ((standing m (updateStart m dt s)).because c).inState 9 := by
    rw [focUpdate_of_due hm hnew hoff hrun, aside_mirrorMach _ _ (aside_standing hm),
      standing_focBody_of_cause hm hupdate (overrideCause_lt hcause) (hstate ▸ hoff) (hstate ▸ hfault)]
  exact ⟨congrArg Standing.state hend, congrArg Standing.cause hend⟩

end
end

end Sys2Proof.Laws.Updates
end

section
/-! PROOFS. The instants of field control: the update, the catch window, SYNC and magnetising times, the torque time-out and the side timer
(R162, R166, R180, R181, R185, R187). -/

namespace Sys2Proof.Laws.MachineTimes
open Sys2Proof.Machine Sys2Proof.Safety Sys2Proof.Laws.Fields Sys2Proof.Laws.Protection Sys2Proof.Laws.Fabric Sys2Proof.Laws.Frames
open Sys2Proof.Laws.Asides Sys2Proof.Laws.Machines Sys2Proof.Laws.Updates

section
variable {m dt : Nat} {s : State}

/-! ### The update (R162, R187) -/

theorem gives_focUpdate (hm : m < 4) (hnew : (machOf s m).trigNew = true) (hoff : machState s m ≠ 0)
    (hrun : tbRun s (machTb s m) = true) : Gives (.focUpdate m dt) s (fun t =>
      (machOf t m).trigNew = false ∧ (machOf s m).trigAt + 200 ≤ t.now ∧ (∀ a, t.rdByte a = s.rdByte a) ∧
      ∀ c, s.twin.held = [] → machState s m ≤ 8 → overrideCause s m = some c → machState t m = 9 ∧ t.rdF (Foc.MSTATE m) 15 8 = c) := by
  have hcourse := course_focUpdate (dt := dt) hm hnew hoff hrun
  have hnow : (focUpdate m dt s).now = max s.now ((machOf s m).trigAt + 200 + min dt 192) := congrArg Course.now hcourse
  refine ⟨focUpdate m dt s, rfl, congrArg Course.due hcourse, by omega, rdByte_congr (congrArg Course.mem hcourse), ?_⟩
  exact fun c hheld hstate => standing_focUpdate_of_override hm hnew hoff hrun hheld (by omega)

/-! ### The catch window (R181) -/

/-- A window whose samples all stay below EMF_MIN ends in IPD or with NO_EMF. -/
theorem catchWindowEnd_of_quiet {f : Nat} (hfirst : (machOf s m).emfAt = some f) (hstate : machState s m = 3) (him : isIm s m = false)
    (hnew : (machOf s m).trigNew = false)
    (hquiet : ∀ x ∈ (machOf s m).emf, F.lt (magOf x.2.1 x.2.2) (s.rd (Foc.EMF_MIN m)) = true) :
    catchWindowEnd m s = (if (machOf s m).mode = 2 then enterIpd m (s.reach (f + s.rdF (Foc.CATCH_TIME m) 15 0 * 80000))
      else startFail m 3 (s.reach (f + s.rdF (Foc.CATCH_TIME m) 15 0 * 80000))) := by
  have hall : ((machOf s m).emf.map (fun x => magOf x.2.1 x.2.2)).all (fun x => F.lt x (s.rd (Foc.EMF_MIN m))) = true := by
    simpa [List.all_eq_true] using hquiet
  simp only [catchWindowEnd, hfirst, hstate, him, hnew, ne_eq, not_true_eq_false, Bool.false_eq_true, false_and, or_self, if_false,
    State.rd_reach, hall, if_true]

theorem gives_catchWindowEnd {f : Nat} (hm : m < 4) (hfirst : (machOf s m).emfAt = some f) (hstate : machState s m = 3)
    (him : isIm s m = false) (hnew : (machOf s m).trigNew = false)
    (hquiet : ∀ x ∈ (machOf s m).emf, F.lt (magOf x.2.1 x.2.2) (s.rd (Foc.EMF_MIN m)) = true) :
    Gives (.catchWindowEnd m) s (fun t => f + s.rdF (Foc.CATCH_TIME m) 15 0 * 80000 ≤ t.now ∧
      (if (machOf s m).mode = 2 then machState t m = 2 else machState t m = 1 ∧ t.rdF (Foc.MSTATE m) 15 8 = 3) ∧
      ∀ a, t.rdByte a = s.rdByte a) := by
  have hend := catchWindowEnd_of_quiet hfirst hstate him hnew hquiet
  generalize f + s.rdF (Foc.CATCH_TIME m) 15 0 * 80000 = due at hend ⊢
  have hcourse : course m (catchWindowEnd m s) = course m (s.reach due) := by
    rw [hend]
    split
    · exact course_enterIpd ..
    · exact course_startFail ..
  have hnow : (catchWindowEnd m s).now = max s.now due := congrArg Course.now hcourse
  refine ⟨catchWindowEnd m s, rfl, by omega, ?_, rdByte_congr (congrArg Course.mem hcourse)⟩
  rw [hend]
  split
  · exact congrArg Standing.state (standing_enterIpd hm (s.reach due))
  · have hfail := standing_startFail hm (s.reach due) (c := 3) (by decide) (by decide) (by decide)
    exact ⟨congrArg Standing.state hfail, congrArg Standing.cause hfail⟩

/-! ### RUN after SYNC and MAGNETISE (R180) -/

/-- A transition between states that need no pulse ended, no telemetry stamped and no run of the distribution left: beside MSTATE only
interrupts of the machine's page move, and T* stands. -/
theorem machGo_between {st : Nat} (hpulse : machState s m ≠ 2) (hoff : machState s m ≠ 0) (hrun : machState s m ≠ 6)
    (hnew : machState s m ≠ st) (hst : st ≠ 0) :
    (machOf (machGo m st s) m).tq = (machOf s m).tq ∧ Frame (Foc.MSTATE m :: irqRegs (Foc.page m)) s (machGo m st s) := by
  have hirq : irqRegs (Foc.page m) ⊆ Foc.MSTATE m :: irqRegs (Foc.page m) := List.subset_cons_self ..
  simp only [machGo, hpulse, hoff, hrun, hnew, hst, false_and, if_false]
  constructor
  · rw [machOf_putMach_self]
    simp [machOf]
  · have hput : Frame (Foc.MSTATE m :: irqRegs (Foc.page m)) s (s.wrF (Foc.MSTATE m) 3 0 st) :=
      frame_put (frame_refl _ s) _ (List.mem_cons_self ..)
    exact frame_hidden (frame_raw (frame_pulse hput 0 hirq) 6 (decide (st = 9)) hirq) rfl rfl

/-- From SYNC or MAGNETISE a machine enters RUN with T* zero; beside MSTATE only interrupts of its page move. -/
theorem enterRun_effect (hm : m < 4) (hstate : machState s m = 4 ∨ machState s m = 5) : machState (enterRun m s) m = 6 ∧
    (machOf (enterRun m s) m).tq = 0 ∧ (enterRun m s).now = s.now ∧ Frame (Foc.MSTATE m :: irqRegs (Foc.page m)) s (enterRun m s) := by
  have hsame : machState (putMach m { machOf s m with tq := 0 } s) m = machState s m := rfl
  have hcourse : course m (enterRun m s) = course m s := (course_machGo m _ 6).trans (course_putMach rfl)
  obtain ⟨htq, hframe⟩ := machGo_between (m := m) (s := putMach m { machOf s m with tq := 0 } s) (st := 6)
    (by omega) (by omega) (by omega) (by omega) (by decide)
  refine ⟨congrArg Standing.state (standing_machGo hm _ (by decide)), ?_, congrArg Course.now hcourse, ?_⟩
  · rw [enterRun, htq, machOf_putMach_self]
  · exact frame_trans (frame_of_regs_mem rfl rfl) hframe

theorem gives_syncDwell {x : Nat} (hm : m < 4) (hfirst : firstClosed s m = some x) (hstate : machState s m = 5)
    (hclosed : (machOf s m).closed = true) (hnew : (machOf s m).trigNew = false)
    (hdwell : x + s.rdF (Foc.CATCH_TIME m) 31 16 * 80000 ≤ (machOf s m).trigAt) : Gives (.syncDwellElapsed m) s (fun t =>
      machState t m = 6 ∧ (machOf t m).tq = 0 ∧ Frame (Foc.MSTATE m :: irqRegs (Foc.page m)) s t) := by
  have hrun : syncDwell m s = enterRun m s := by simp [syncDwell, hfirst, hstate, hclosed, hnew, hdwell]
  obtain ⟨hsix, htq, -, hframe⟩ := enterRun_effect hm (.inr hstate)
  exact ⟨syncDwell m s, rfl, hrun ▸ ⟨hsix, htq, hframe⟩⟩

theorem gives_magTime {x : Nat} (hm : m < 4) (hfirst : firstClosed s m = some x) (hstate : machState s m = 4)
    (hclosed : (machOf s m).closed = true) : Gives (.magTimeElapsed m) s (fun t =>
      machState t m = 6 ∧ (machOf t m).tq = 0 ∧ x + s.rdF (Foc.MAG_TIME m) 15 0 * 80000 ≤ t.now ∧
      Frame (Foc.MSTATE m :: irqRegs (Foc.page m)) s t) := by
  refine ⟨magTime m s, rfl, ?_⟩
  simp only [magTime, hfirst, hstate, hclosed, and_self, if_true]
  generalize hdue : max x (if (machOf s m).mode = 0 then 0 else (machOf s m).since) + s.rdF (Foc.MAG_TIME m) 15 0 * 80000 = due
  obtain ⟨hsix, htq, hnow, hframe⟩ := enterRun_effect (s := s.reach due) hm (.inl hstate)
  have hreach : (s.reach due).now = max s.now due := rfl
  exact ⟨hsix, htq, by omega, frame_trans (frame_of_regs_mem rfl rfl) hframe⟩

/-! ### The torque input (R166) -/

theorem gives_torqueTimeout (hstate : machState s m = 6) (htimed : s.rdB (Foc.TQ_CFG m) 0 = true) (hfresh : s.rdB (Foc.MSTATE m) 25 = false) :
    Gives (.torqueInputTimeout m) s (fun t =>
      t.rdB (Foc.MSTATE m) 25 = true ∧ (machOf s m).since + s.rdF (Foc.TQ_CFG m) 15 8 * 80000 ≤ t.now ∧ Frame [Foc.MSTATE m] s t) := by
  refine ⟨torqueTimeout m s, rfl, ?_⟩
  simp only [torqueTimeout, hstate, htimed, hfresh, ne_eq, not_true_eq_false, Bool.not_true, Bool.false_eq_true, or_self, if_false]
  generalize hdue : max (inputOf s (0x480 + 16 * m)).at_ (machOf s m).since + s.rdF (Foc.TQ_CFG m) 15 8 * 80000 = due
  have hnow : (machEvent .warn 0xFF m ((s.reach due).wrB (Foc.MSTATE m) 25 true)).now = max s.now due := rfl
  refine ⟨rdB_wrB_self (s.reach due) _ (by decide) true, by omega, ?_⟩
  exact frame_hidden (frame_putBit (frame_of_regs_mem (t := s.reach due) rfl rfl) 25 true (List.mem_cons_self ..)) rfl rfl

/-! ### The side of the short circuit (R185) -/

theorem apart_prot : Apart State.prot where
  wr _ _ _ _ := rfl
  wrL _ _ _ := rfl
  setPwm _ _ := rfl

/-- A change of side names the other side; the forced states that carry it out move no memory window. -/
theorem ascFlip_effect : KMap.get (fun _ => 0) (ascFlip m s).prot.ascSide m = (KMap.get (fun _ => 0) s.prot.ascSide m + 1) % 2 ∧
    (ascFlip m s).mem = s.mem := by
  constructor
  · rw [ascFlip, apart_ascMove apart_prot]
    exact KMap.get_set_self ..
  · exact congrArg Course.mem (aside_ascMove (aside_course (m := m)) _ m)

theorem gives_ascAlternate (hcfg : s.rdF (Foc.ASC_CFG m) 1 0 = 2) (hasc : ascOn s m = true) (hstop : s.prot.ascStop.contains m = false) :
    (tbRun s (machTb s m) = true → Gives (.ascSideAlternate m) s (fun t => (machOf t m).ascDue = true ∧ Frame [] s t)) ∧
    (tbRun s (machTb s m) = false → Gives (.ascSideAlternate m) s (fun t =>
      KMap.get (fun _ => 0) t.prot.ascSide m = (KMap.get (fun _ => 0) s.prot.ascSide m + 1) % 2 ∧ ∀ a, t.rdByte a = s.rdByte a)) := by
  have htb : ∀ due, tbRun (s.reach due) (machTb (s.reach due) m) = tbRun s (machTb s m) := fun _ => rfl
  refine ⟨fun hrun => ⟨ascAlternate m s, rfl, ?runs⟩, fun hstands => ⟨ascAlternate m s, rfl, ?stands⟩⟩
  case runs =>
    simp only [ascAlternate, hcfg, hasc, hstop, htb, hrun, ne_eq, not_true_eq_false, Bool.not_true, Bool.false_eq_true, or_self, if_false, if_true]
    exact ⟨by rw [machOf_putMach_self], frame_of_regs_mem rfl rfl⟩
  case stands =>
    simp only [ascAlternate, hcfg, hasc, hstop, htb, hstands, ne_eq, not_true_eq_false, Bool.not_true, Bool.false_eq_true, or_self, if_false]
    obtain ⟨hside, hmem⟩ := ascFlip_effect (m := m) (s := s.reach ((machOf s m).ascAt + s.rdF (Foc.ASC_CFG m) 15 8 * 8000000))
    exact ⟨hside, rdByte_congr hmem⟩

end

/-- Settles O45: the operations of a machine leave time, the memory windows and its due update as they are, except for the one place where the
update is taken as done; a transition sets the state and its cause, and nothing that follows in the same operation moves them again. -/
theorem machineTimesRunOut : Obligations.MachineTimesRunOut := by
  unfold Obligations.MachineTimesRunOut
  intro m dt s hm
  refine ⟨?update, ?window, ?sync, ?magnetise, gives_torqueTimeout, gives_ascAlternate⟩
  case update => exact fun hnew hoff hrun => gives_focUpdate hm hnew hoff hrun
  case window => exact fun f hfirst hstate him hnew hquiet => gives_catchWindowEnd hm hfirst hstate him hnew hquiet
  case sync => exact fun x hfirst hstate hclosed hnew hdwell => gives_syncDwell hm hfirst hstate hclosed hnew hdwell
  case magnetise => exact fun x hfirst hstate hclosed => gives_magTime hm hfirst hstate hclosed

end Sys2Proof.Laws.MachineTimes
end

section
/-! PROOFS. The driver's side of the gate link: how it judges frames, executes edges, latches and holds its gate off (R249-R257). -/

namespace Sys2Proof.Laws.Drivers
open Sys2Proof.Machine Sys2Proof.Safety Sys2Proof.Laws.Fabric

/-! ### Ports -/

section
variable (d : Driver) (p : Nat) (x : DrvPort)

@[simp] theorem port_setPort_self : (d.setPort p x).port p = x := by
  unfold Driver.setPort Driver.port
  split <;> rfl

theorem port_setPort_other {p : Nat} (hp : p < 2) : (d.setPort (1 - p) x).port p = d.port p := by
  obtain rfl | rfl : p = 0 ∨ p = 1 := by omega
  · rfl
  · rfl

/-- A port write that changes only the phase of that port changes at most the phase of any port. -/
theorem port_setPort_phase (q : Nat) (ph : DrvPhase) :
    (d.setPort p { d.port p with phase := ph }).port q = { d.port q with phase := ph } ∨
      (d.setPort p { d.port p with phase := ph }).port q = d.port q := by
  unfold Driver.setPort Driver.port
  by_cases hp : p = 0 <;> by_cases hq : q = 0 <;> simp [hp, hq]

end

/-! ### What a driver reports beside its state (R244) -/

/-- The driver with other uplink frames. -/
def withUplinks (d : Driver) (f0 f1 : Nat) : Driver :=
  { d with port0 := { d.port0 with uplink := f0 }, port1 := { d.port1 with uplink := f1 } }

theorem port_withUplinks (d : Driver) (f0 f1 q : Nat) : ∃ f, (withUplinks d f0 f1).port q = { d.port q with uplink := f } := by
  unfold Driver.port withUplinks
  split
  · exact ⟨f0, rfl⟩
  · exact ⟨f1, rfl⟩

theorem encodeUp_withUplinks (d : Driver) (s : State) (n p f0 f1 : Nat) :
    ∃ g0 g1, (withUplinks d f0 f1).encodeUp s n p = withUplinks d g0 g1 := by
  unfold Driver.encodeUp
  dsimp only
  split
  · split
    · exact ⟨f0, f1, rfl⟩
    · by_cases hp : p = 0 <;> simp only [Driver.setPort, Driver.port, hp, if_true, if_false]
      · exact ⟨_, f1, rfl⟩
      · exact ⟨f0, _, rfl⟩
  · exact ⟨f0, f1, rfl⟩

/-- A driver that is put differs from the one given in its uplink frames alone. -/
theorem drvOf_setDrv (n : Nat) (d : Driver) (s : State) : ∃ f0 f1, drvOf (setDrv n d s) n = withUplinks d f0 f1 := by
  obtain ⟨f0, f1, h0⟩ := encodeUp_withUplinks d s n 0 d.port0.uplink d.port1.uplink
  obtain ⟨g0, g1, h1⟩ := encodeUp_withUplinks d s n 1 f0 f1
  refine ⟨g0, g1, (KMap.get_set_self ..).trans ?_⟩
  rw [← h1, ← h0]
  rfl

theorem port_setDrv (n : Nat) (d : Driver) (s : State) (q : Nat) :
    ∃ f, (drvOf (setDrv n d s) n).port q = { d.port q with uplink := f } := by
  obtain ⟨f0, f1, h⟩ := drvOf_setDrv n d s
  rw [h]
  exact port_withUplinks d f0 f1 q

theorem phase_setDrv (n : Nat) (d : Driver) (s : State) (q : Nat) :
    ((drvOf (setDrv n d s) n).port q).phase = (d.port q).phase := by
  obtain ⟨f, h⟩ := port_setDrv n d s q
  rw [h]

/-- A driver's state is no register and no byte of the device. -/
theorem frame_setDrv (n : Nat) (d : Driver) (s : State) : Frame [] s (setDrv n d s) := frame_of_regs_mem rfl rfl

theorem frame_setDrv_reach (n : Nat) (d : Driver) (s : State) (t : Nat) : Frame [] s (setDrv n d (s.reach t)) :=
  frame_of_regs_mem rfl rfl

/-! ### The driver as it stands now (R251, R255) -/

section
variable (d : Driver) (s : State) (n : Nat)

theorem settleOff_ports (now : Nat) : (d.settleOff n now).port0 = d.port0 ∧ (d.settleOff n now).port1 = d.port1 := by
  unfold Driver.settleOff
  split
  · split <;> exact ⟨rfl, rfl⟩
  · exact ⟨rfl, rfl⟩

theorem port_settleOff (now q : Nat) : (d.settleOff n now).port q = d.port q := by
  obtain ⟨h0, h1⟩ := settleOff_ports d n now
  simp only [Driver.port, h0, h1]

theorem port_settlePin (q : Nat) : ∃ ph, (d.settlePin s n).port q = { d.port q with phase := ph } ∧
    (ph = (d.port q).phase ∨ ph = .pin) := by
  have hold : ∃ ph, d.port q = { d.port q with phase := ph } ∧ (ph = (d.port q).phase ∨ ph = .pin) := ⟨_, rfl, .inl rfl⟩
  unfold Driver.settlePin
  split
  · dsimp only
    split
    · rcases port_setPort_phase d (d.owner.getD d.lastOwner) q .pin with h | h
      · exact ⟨.pin, h, .inr rfl⟩
      · exact ⟨_, h, .inl rfl⟩
    · exact hold
  · exact hold

/-- As time passes, a port changes only its phase, and only to PIN. -/
theorem port_drvNow (q : Nat) : ∃ ph, (drvNow s n).port q = { (drvOf s n).port q with phase := ph } ∧
    (ph = ((drvOf s n).port q).phase ∨ ph = .pin) := by
  have h := port_settlePin ((drvOf s n).settleOff n s.now) s n q
  rwa [port_settleOff] at h

theorem trained_drvNow {q : Nat} (htrained : ((drvOf s n).port q).phase ≠ .untrained) : ((drvNow s n).port q).phase ≠ .untrained := by
  obtain ⟨ph, hport, rfl | rfl⟩ := port_drvNow s n q
  · rwa [hport]
  · simp [hport]

/-- The faults a driver has seen stay as time passes. -/
theorem faults_drvNow : (drvNow s n).uvPos = (drvOf s n).uvPos ∧ (drvNow s n).uvNeg = (drvOf s n).uvNeg ∧
    (drvNow s n).desat = (drvOf s n).desat := by
  have hoff : ∀ (e : Driver) now, (e.settleOff n now).uvPos = e.uvPos ∧ (e.settleOff n now).uvNeg = e.uvNeg ∧
      (e.settleOff n now).desat = e.desat := by
    intro e now
    unfold Driver.settleOff
    split
    · split <;> exact ⟨rfl, rfl, rfl⟩
    · exact ⟨rfl, rfl, rfl⟩
  have hpin : ∀ e : Driver, (e.settlePin s n).uvPos = e.uvPos ∧ (e.settlePin s n).uvNeg = e.uvNeg ∧ (e.settlePin s n).desat = e.desat := by
    intro e
    unfold Driver.settlePin
    split
    · dsimp only
      split
      · unfold Driver.setPort
        split <;> exact ⟨rfl, rfl, rfl⟩
      · exact ⟨rfl, rfl, rfl⟩
    · exact ⟨rfl, rfl, rfl⟩
  obtain ⟨hp0, hn0, hd0⟩ := hoff (drvOf s n) s.now
  obtain ⟨hp1, hn1, hd1⟩ := hpin ((drvOf s n).settleOff n s.now)
  exact ⟨hp1.trans hp0, hn1.trans hn0, hd1.trans hd0⟩

/-- A missing supply holds the gate off (R249). -/
theorem gateLevel_of_undervoltage (huv : (drvOf s n).uvPos = true ∨ (drvOf s n).uvNeg = true) : gateLevel s n = false := by
  obtain ⟨hpos, hneg, -⟩ := faults_drvNow s n
  rw [gateLevel, Driver.gate, hpos, hneg, if_pos (by simpa using huv)]

end

/-! ### Good frames (R250) -/

/-- What the judgement of frames keeps of a port: its bad frames in a row, its loss, and its last SEQ. -/
def tally (x : DrvPort) : Nat × Bool × Option Nat := (x.bad, x.lost, x.seq)

section
variable (p f now : Nat) (d : Driver)

/-- A training that breaks changes only the phase of its port. -/
theorem port_drvBreak : ∃ ph, (drvBreak p d).port p = { d.port p with phase := ph } := by
  unfold drvBreak
  dsimp only
  split
  · exact ⟨_, port_setPort_self ..⟩
  · exact ⟨_, rfl⟩

theorem tally_drvBreak : tally ((drvBreak p d).port p) = tally (d.port p) := by
  obtain ⟨ph, h⟩ := port_drvBreak p d
  rw [h]
  rfl

theorem tally_drvDrive {p : Nat} (a8 : Int) (hp : p < 2) : tally ((drvDrive p f a8 d).port p) = tally (d.port p) := by
  unfold drvDrive
  extract_lets o d1 d2 es x d3
  have hd1 : d1.port p = d.port p := by
    simp only [d1]
    split
    · exact port_setPort_other d _ hp
    · rfl
  have hd3 : tally (d3.port p) = tally (d.port p) := by
    rw [← hd1]
    exact (congrArg tally (port_setPort_self d2 p { x with standby := false })).trans rfl
  split
  · exact hd3
  · exact hd3

theorem tally_drvAllOff (n : Nat) : tally ((drvAllOff n p f now d).port p) = tally (d.port p) := by
  have hqueue : ∀ (e : Driver) l o, ({ e with edges := l, offAt := o } : Driver).port p = e.port p := fun _ _ _ => rfl
  simp only [drvAllOff, hqueue, port_setPort_self]
  rfl

theorem tally_drvTrain (w : Nat) : tally ((drvTrain p w d).port p) = tally (d.port p) := by
  have hclear : ∀ (e : Driver) b l h, ({ e with desat := b, softTill := l, pinHeld := h } : Driver).port p = e.port p :=
    fun _ _ _ _ => rfl
  unfold drvTrain
  dsimp only
  split
  · rw [port_setPort_self]
    rfl
  · split
    · split
      · rw [hclear, port_setPort_self]
        rfl
      · rw [port_setPort_self]
        rfl
    · split
      · rw [port_setPort_self]
        rfl
      · rfl

theorem tally_drvAnswer (meas : Nat) : tally ((drvAnswer p f meas now d).port p) = tally (d.port p) := by
  rw [drvAnswer, port_setPort_self]
  rfl

end

/-- A good frame of any type ends its port's row of bad ones and its loss, and its SEQ is the last one seen (R250). -/
theorem gives_goodFrame {n p f m : Nat} {late : Bool} {s : State} (hp : p < 2) (hgood : downGood (drvNow s n) p f late = true) :
    Gives (.driverDownlinkFrame n p f late m) s (fun t =>
      ((drvOf t n).port p).bad = 0 ∧ ((drvOf t n).port p).lost = false ∧ ((drvOf t n).port p).seq = some (dSeq f) ∧ Frame [] s t) := by
  suffices h : ∃ d : Driver, drvFrame n p f late m s = setDrv n d s ∧ tally (d.port p) = (0, false, some (dSeq f)) by
    obtain ⟨d, hframe, htally⟩ := h
    obtain ⟨u, hport⟩ := port_setDrv n d s p
    simp only [tally, Prod.mk.injEq] at htally
    obtain ⟨hbad, hlost, hseq⟩ := htally
    exact ⟨setDrv n d s, congrArg Host.Outcome.next hframe, (congrArg DrvPort.bad hport).trans hbad,
      (congrArg DrvPort.lost hport).trans hlost, (congrArg DrvPort.seq hport).trans hseq, frame_setDrv n d s⟩
  unfold drvFrame
  extract_lets d x d1 e y d2
  rw [if_neg (by simpa [d] using hgood)]
  refine ⟨_, rfl, ?_⟩
  have h1 : tally (d1.port p) = (0, false, some (dSeq f)) := by
    simp only [d1, port_setPort_self]
    rfl
  have h2 : tally (d2.port p) = tally (d1.port p) := by
    simp only [d2]
    split
    · exact (congrArg tally (port_setPort_self ..)).trans (tally_drvBreak p d1)
    · exact (tally_drvDrive f _ _ hp).trans (tally_drvBreak p d1)
    · exact (tally_drvAllOff ..).trans (tally_drvBreak p d1)
    · exact tally_drvTrain ..
  rw [← h1, ← h2]
  split
  · rfl
  · exact tally_drvAnswer ..

/-! ### Latching (R249) -/

/-- A latch changes only the phase of a port, and makes a trained one LATCHED. -/
theorem port_latch (d : Driver) (n now q : Nat) : ∃ ph, (d.latch n now).port q = { d.port q with phase := ph } ∧
    ((d.port q).phase ≠ .untrained → ph = .latched) := by
  have hgo : ∀ x : DrvPort, ∃ ph, (if x.phase = .untrained then x else { x with phase := .latched }) = { x with phase := ph } ∧
      (x.phase ≠ .untrained → ph = .latched) := by
    intro x
    split
    · next h => exact ⟨x.phase, rfl, fun hne => absurd h hne⟩
    · exact ⟨.latched, rfl, fun _ => rfl⟩
  unfold Driver.port
  split
  · exact hgo _
  · exact hgo _

theorem phase_latch (d : Driver) (n now : Nat) {q : Nat} (htrained : (d.port q).phase ≠ .untrained) :
    ((d.latch n now).port q).phase = .latched := by
  obtain ⟨ph, hport, hph⟩ := port_latch d n now q
  rw [hport]
  exact hph htrained

/-! ### Bad frames and the loss of a link (R250, R255) -/

/-- The loss of a link changes only the phase and the loss of its port. -/
theorem port_drvLoss (n p : Nat) (s : State) (d : Driver) :
    ∃ ph, (drvLoss n p s d).port p = { d.port p with phase := ph, lost := true } := by
  have hhold : ∀ (e : Driver) t, ({ e with holdAt := t } : Driver).port p = e.port p := fun _ _ => rfl
  have hwait : ∀ (e : Driver) t, ({ e with pinWait := t } : Driver).port p = e.port p := fun _ _ => rfl
  unfold drvLoss
  dsimp only
  split
  · exact ⟨.holdover, by rw [hhold, port_setPort_self]⟩
  · split
    · exact ⟨_, port_setPort_self ..⟩
    · split
      · obtain ⟨ph, hport, -⟩ := port_settlePin { (d.setPort p { d.port p with lost := true }) with pinWait := some s.now } s n p
        exact ⟨ph, by rw [hport, hwait, port_setPort_self]⟩
      · obtain ⟨ph, hport, -⟩ := port_latch (d.setPort p { d.port p with lost := true }) n s.now p
        exact ⟨ph, by rw [hport, port_setPort_self]⟩

/-- A bad or missing frame is counted and reported. -/
theorem drvBad_counts (n p : Nat) (s : State) (d : Driver) :
    ((drvBad n p s d).port p).bad = (d.port p).bad + 1 ∧ ((drvBad n p s d).port p).upErr = true := by
  obtain ⟨ph, hbreak⟩ := port_drvBreak p d
  unfold drvBad
  extract_lets d1 x d2
  have hd2 : (d2.port p).bad = (d.port p).bad + 1 ∧ (d2.port p).upErr = true := by
    simp only [d2, x, d1, port_setPort_self, nextUp, hbreak, and_self]
  split
  · obtain ⟨ph', hloss⟩ := port_drvLoss n p s d2
    rw [hloss]
    exact hd2
  · exact hd2

theorem setDrv_drvBad (n p : Nat) (s : State) :
    ((drvOf (setDrv n (drvBad n p s (drvNow s n)) s) n).port p).bad = ((drvNow s n).port p).bad + 1 ∧
      ((drvOf (setDrv n (drvBad n p s (drvNow s n)) s) n).port p).upErr = true ∧ Frame [] s (setDrv n (drvBad n p s (drvNow s n)) s) := by
  obtain ⟨hbad, herr⟩ := drvBad_counts n p s (drvNow s n)
  obtain ⟨u, hport⟩ := port_setDrv n (drvBad n p s (drvNow s n)) s p
  rw [hport]
  exact ⟨hbad, herr, frame_setDrv ..⟩

theorem gives_badFrame {n p f m : Nat} {late : Bool} {s : State} (hbad : downGood (drvNow s n) p f late = false) :
    Gives (.driverDownlinkFrame n p f late m) s (fun t =>
      ((drvOf t n).port p).bad = ((drvNow s n).port p).bad + 1 ∧ ((drvOf t n).port p).upErr = true ∧ Frame [] s t) := by
  have hframe : drvFrame n p f late m s = setDrv n (drvBad n p s (drvNow s n)) s := by
    simp only [drvFrame, hbad, Bool.not_false, if_true]
  exact ⟨_, congrArg Host.Outcome.next hframe, setDrv_drvBad n p s⟩

theorem gives_missingFrame (n p : Nat) (s : State) : Gives (.driverFrameMissing n p) s (fun t =>
    ((drvOf t n).port p).bad = ((drvNow s n).port p).bad + 1 ∧ ((drvOf t n).port p).upErr = true ∧ Frame [] s t) :=
  ⟨_, rfl, setDrv_drvBad n p s⟩

/-! ### Edges (R252) -/

/-- The earliest edge of a queue `e :: r`, the first of several. -/
def earliest (e : Int × Bool) (r : List (Int × Bool)) : Int × Bool := r.foldl (fun a x => if x.1 < a.1 then x else a) e

theorem earliest_first (e : Int × Bool) (r : List (Int × Bool)) :
    earliest e r ∈ e :: r ∧ ∀ x ∈ e :: r, (earliest e r).1 ≤ x.1 := by
  induction r generalizing e with
  | nil => simp [earliest]
  | cons y r ih =>
    obtain ⟨hmem, hle⟩ := ih (if y.1 < e.1 then y else e)
    have hstep : earliest e (y :: r) = earliest (if y.1 < e.1 then y else e) r := rfl
    have hhead := hle _ (List.mem_cons_self ..)
    have hmin : (if y.1 < e.1 then y else e).1 ≤ e.1 ∧ (if y.1 < e.1 then y else e).1 ≤ y.1 := by split <;> omega
    rw [hstep]
    refine ⟨?_, fun x hx => ?_⟩
    · rcases List.mem_cons.mp hmem with h | h
      · rw [h]
        split <;> simp
      · exact List.mem_cons_of_mem _ (List.mem_cons_of_mem _ h)
    · rcases List.mem_cons.mp hx with rfl | hx
      · exact Int.le_trans hhead hmin.1
      · rcases List.mem_cons.mp hx with rfl | hx
        · exact Int.le_trans hhead hmin.2
        · exact hle x (List.mem_cons_of_mem _ hx)

/-- Where no all-off and no wait for the pin is under way, the earliest edge leaves the queue at its instant and sets the level of a driver in
ARMED or HOLDOVER. -/
theorem drvExecute_of_queue {n : Nat} {s : State} {e : Int × Bool} {r : List (Int × Bool)} (hedges : (drvOf s n).edges = e :: r)
    (hoff : (drvOf s n).offAt = none) (hpin : (drvOf s n).pinWait = none) :
    drvExecute n s = setDrv n { drvOf s n with
      edges := (drvOf s n).edges.erase (earliest e r)
      level := if (drvOf s n).phase = .armed ∨ (drvOf s n).phase = .holdover then (earliest e r).2 else (drvOf s n).level }
      (s.reach (Int.toNat (((earliest e r).1 + 7) / 8))) := by
  simp only [drvExecute, hedges, hoff, Driver.settleOff, Driver.settlePin, hpin, earliest, decide_eq_true_eq]

theorem gives_edgeExecute {n : Nat} {s : State} (hedges : (drvOf s n).edges ≠ []) (hoff : (drvOf s n).offAt = none)
    (hpin : (drvOf s n).pinWait = none) : Gives (.driverEdgeExecute n) s (fun t =>
      (∃ e ∈ (drvOf s n).edges, (∀ x ∈ (drvOf s n).edges, e.1 ≤ x.1) ∧ (drvOf t n).edges = (drvOf s n).edges.erase e ∧
        e.1 ≤ 8 * (t.now : Int) ∧ (drvOf t n).level = (if (drvOf s n).phase = .armed ∨ (drvOf s n).phase = .holdover then e.2 else (drvOf s n).level)) ∧ Frame [] s t) := by
  obtain ⟨e, r, hqueue⟩ := List.exists_cons_of_ne_nil hedges
  obtain ⟨hmem, hle⟩ := earliest_first e r
  refine ⟨_, congrArg Host.Outcome.next (drvExecute_of_queue hqueue hoff hpin), ⟨earliest e r, hqueue ▸ hmem, hqueue ▸ hle, ?_⟩,
    frame_setDrv_reach ..⟩
  obtain ⟨f0, f1, hdrv⟩ := drvOf_setDrv n { drvOf s n with
      edges := (drvOf s n).edges.erase (earliest e r)
      level := if (drvOf s n).phase = .armed ∨ (drvOf s n).phase = .holdover then (earliest e r).2 else (drvOf s n).level }
      (s.reach (Int.toNat (((earliest e r).1 + 7) / 8)))
  have hnow : (earliest e r).1 ≤ 8 * ((max s.now (Int.toNat (((earliest e r).1 + 7) / 8)) : Nat) : Int) := by omega
  rw [hdrv]
  exact ⟨rfl, hnow, rfl⟩

/-! ### Holdover, fall-back and desaturation (R249, R252, R255) -/

/-- A latched driver that is put shows its gate off and nothing left to execute, and every port that was trained as LATCHED. -/
theorem drvOf_setDrv_latch (n now : Nat) (d : Driver) (s : State) : (drvOf (setDrv n (d.latch n now) s) n).level = false ∧
    (drvOf (setDrv n (d.latch n now) s) n).edges = [] ∧ (drvOf (setDrv n (d.latch n now) s) n).pinWait = none ∧
    ∀ q, (d.port q).phase ≠ .untrained → ((drvOf (setDrv n (d.latch n now) s) n).port q).phase = .latched := by
  obtain ⟨f0, f1, hdrv⟩ := drvOf_setDrv n (d.latch n now) s
  exact ⟨congrArg Driver.level hdrv, congrArg Driver.edges hdrv, congrArg Driver.pinWait hdrv,
    fun q htrained => (phase_setDrv ..).trans (phase_latch d n now htrained)⟩

theorem gives_holdExpiry {n p : Nat} {s : State} (hhold : (drvNow s n).phase = .holdover) :
    Gives (.driverHoldExpiry n) s (fun t => (drvOf t n).level = false ∧ (drvOf t n).edges = [] ∧
      (((drvOf s n).port p).phase ≠ .untrained → ((drvOf t n).port p).phase = .latched) ∧ (drvNow s n).holdAt < t.now ∧ Frame [] s t) := by
  have hexec : drvHoldExpiry n s = _ := if_neg (fun hother => hother hhold)
  have hlate : ∀ h : Nat, (drvNow s n).holdAt < max s.now ((drvNow s n).holdAt + 800 * 2 ^ (h - 1)) := by
    intro h
    have hpow : 0 < 2 ^ (h - 1) := Nat.two_pow_pos (h - 1)
    omega
  refine ⟨_, congrArg Host.Outcome.next hexec, ?_⟩
  obtain ⟨hlevel, hedges, -, hports⟩ := drvOf_setDrv_latch n _ (drvNow s n) _
  exact ⟨hlevel, hedges, fun h => hports p (trained_drvNow s n h), hlate _, frame_setDrv_reach ..⟩

theorem gives_pinMismatch {n p x : Nat} {s : State} (hwait : (drvOf s n).pinWait = some x) :
    Gives (.driverPinMismatch n) s (fun t => (drvOf t n).pinWait = none ∧ x + 40 ≤ t.now ∧
      ((drvNow (s.reach (x + 40)) n).pinWait ≠ none → (drvOf t n).level = false ∧
        (((drvOf s n).port p).phase ≠ .untrained → ((drvOf t n).port p).phase = .latched)) ∧ Frame [] s t) := by
  have hlate : x + 40 ≤ max s.now (x + 40) := Nat.le_max_right ..
  by_cases hstill : (drvNow (s.reach (x + 40)) n).pinWait = none
  · have hexec : drvPinMismatch n s = setDrv n (drvNow (s.reach (x + 40)) n) (s.reach (x + 40)) := by
      simp [drvPinMismatch, hwait, hstill]
    obtain ⟨f0, f1, hdrv⟩ := drvOf_setDrv n (drvNow (s.reach (x + 40)) n) (s.reach (x + 40))
    exact ⟨_, congrArg Host.Outcome.next hexec, (congrArg Driver.pinWait hdrv).trans hstill, hlate, fun h => absurd hstill h,
      frame_setDrv_reach ..⟩
  · have hexec : drvPinMismatch n s = setDrv n ((drvNow (s.reach (x + 40)) n).latch n (s.reach (x + 40)).now) (s.reach (x + 40)) := by
      simp [drvPinMismatch, hwait, Option.isSome_iff_ne_none.mpr hstill]
    obtain ⟨hlevel, -, hpin, hports⟩ := drvOf_setDrv_latch n (s.reach (x + 40)).now (drvNow (s.reach (x + 40)) n) (s.reach (x + 40))
    exact ⟨_, congrArg Host.Outcome.next hexec, hpin, hlate,
      fun _ => ⟨hlevel, fun h => hports p (trained_drvNow (s.reach (x + 40)) n h)⟩, frame_setDrv_reach ..⟩

/-- A desaturation latches the driver, with its reports beside. -/
theorem drvDesat_latches (n : Nat) (s : State) : ∃ e : Driver, drvDesat n true s = setDrv n e s ∧
    e.desat = true ∧ e.desatNow = true ∧ e.level = false ∧ ∀ q, e.port q = ((drvNow s n).latch n s.now).port q :=
  ⟨_, rfl, rfl, rfl, rfl, fun _ => rfl⟩

theorem gives_desat (n p : Nat) (s : State) : Gives (.driverDesat n true) s (fun t =>
    (drvOf t n).desat = true ∧ (drvOf t n).desatNow = true ∧ (drvOf t n).level = false ∧
      (((drvOf s n).port p).phase ≠ .untrained → ((drvOf t n).port p).phase = .latched) ∧ Frame [] s t) := by
  obtain ⟨e, hput, hdesat, hpresent, hlevel, hports⟩ := drvDesat_latches n s
  obtain ⟨f0, f1, hdrv⟩ := drvOf_setDrv n e s
  refine ⟨setDrv n e s, congrArg Host.Outcome.next hput, (congrArg Driver.desat hdrv).trans hdesat,
    (congrArg Driver.desatNow hdrv).trans hpresent, (congrArg Driver.level hdrv).trans hlevel, fun htrained => ?_, frame_setDrv ..⟩
  rw [phase_setDrv, hports]
  exact phase_latch _ n s.now (trained_drvNow s n htrained)

theorem gives_desatEnd (n : Nat) (s : State) : Gives (.driverDesat n false) s (fun t =>
    (drvOf t n).desatNow = false ∧ (drvOf t n).desat = (drvOf s n).desat ∧ Frame [] s t) := by
  obtain ⟨-, -, hdesat⟩ := faults_drvNow s n
  obtain ⟨f0, f1, hdrv⟩ := drvOf_setDrv n { drvNow s n with desatNow := false } s
  exact ⟨setDrv n { drvNow s n with desatNow := false } s, rfl, congrArg Driver.desatNow hdrv, (congrArg Driver.desat hdrv).trans hdesat,
    frame_setDrv ..⟩

/-! ### Power-up and the supplies (R249, R252) -/

theorem gives_powerUp (n : Nat) (s : State) : Gives (.driverPowerUp n) s (fun t =>
    drvOf t n = {} ∧ gateLevel t n = false ∧ Frame [] s t) := by
  have hdrv : drvOf (putDrv n {} s) n = {} := by simp only [drvOf, putDrv, KMap.get_set_self]
  have hnow : drvNow (putDrv n {} s) n = {} := by rw [drvNow, hdrv]; rfl
  refine ⟨putDrv n {} s, rfl, hdrv, ?_, frame_of_regs_mem rfl rfl⟩
  rw [gateLevel, hnow]
  rfl

/-- A supply or temperature report shows in its own flag. -/
theorem drvUnder_shows (n w : Nat) (b : Bool) (s : State) : (w = 0 → (drvOf (drvUnder n w b s) n).uvPos = b) ∧
    (w = 1 → (drvOf (drvUnder n w b s) n).uvNeg = b) ∧ (2 ≤ w → (drvOf (drvUnder n w b s) n).ot = b) ∧
    Frame [] s (drvUnder n w b s) := by
  have hput : ∃ e : Driver, drvUnder n w b s = setDrv n e s ∧ (w = 0 → e.uvPos = b) ∧ (w = 1 → e.uvNeg = b) ∧ (2 ≤ w → e.ot = b) := by
    refine ⟨_, rfl, ?_, ?_, fun hw => ?_⟩
    · rintro rfl
      rfl
    · rintro rfl
      rfl
    · obtain ⟨k, rfl⟩ := Nat.exists_eq_add_of_le' hw
      rfl
  obtain ⟨e, hunder, hpos, hneg, hot⟩ := hput
  obtain ⟨f0, f1, hdrv⟩ := drvOf_setDrv n e s
  rw [hunder, hdrv]
  exact ⟨hpos, hneg, hot, frame_setDrv ..⟩

theorem gives_undervoltage (n w : Nat) (b : Bool) (s : State) : Gives (.driverUndervoltage n w b) s (fun t =>
    (w < 2 → b = true → gateLevel t n = false) ∧
      (w = 0 → (drvOf t n).uvPos = b) ∧ (w = 1 → (drvOf t n).uvNeg = b) ∧ (2 ≤ w → (drvOf t n).ot = b) ∧ Frame [] s t) := by
  obtain ⟨hpos, hneg, hrest⟩ := drvUnder_shows n w b s
  refine ⟨drvUnder n w b s, rfl, fun hw hb => gateLevel_of_undervoltage _ n ?_, hpos, hneg, hrest⟩
  obtain rfl | rfl : w = 0 ∨ w = 1 := by omega
  · exact .inl ((hpos rfl).trans hb)
  · exact .inr ((hneg rfl).trans hb)

/-! ### The statement -/

/-- Settles O54, clause by clause. -/
theorem driversJudgeFramesAndLatch : Obligations.DriversJudgeFramesAndLatch := by
  intro n p f w m late b s hp
  refine ⟨gives_goodFrame hp, ?_, ⟨_, rfl⟩, gives_edgeExecute, gives_holdExpiry, fun x => gives_pinMismatch, gives_desat n p s,
    gives_desatEnd n s, gives_powerUp n s, gives_undervoltage n w b s⟩
  rintro i (rfl | ⟨rfl, hbad⟩)
  · exact gives_missingFrame n p s
  · exact gives_badFrame hbad

end Sys2Proof.Laws.Drivers
end

section
/-! PROOFS. What the reactions of the modulator, of protection and of the gate links leave alone when a gate link reports (R28-R30, R253,
R265-R284). -/

namespace Sys2Proof.Laws.Reactions
open Sys2Proof.Machine Sys2Proof.Laws.Protection

/-! ### Parts that a reaction spares -/

/-- The pages whose registers show what resolving the channels and evaluating protection decide. -/
abbrev switchPages : List Nat := [Ch.page, Grp.page, Prot.page, ProtSrc.page, Sec.page]

/-- A part of the state that the switches, their passages and the display of protection leave alone: of the modulator's hidden state it holds
at most the forced states. -/
structure Spared {α : Type} (part : State → α) : Prop where
  wr : ∀ s {a} v, pageOf a ∈ switchPages → part (s.wr a v) = part s
  wrL : ∀ s a v, part (s.wrL a v) = part s
  setPwm : ∀ s {x}, x.forces = s.pwm.forces → part { s with pwm := x } = part s
  setProt : ∀ s x, part { s with prot := x } = part s

/-- Such a part that the end of a latch leaves alone as well: the trip latches and the message to a twin (R275, R365). -/
structure Cleared {α : Type} (part : State → α) : Prop extends Spared part where
  trip : ∀ s {a} v, pageOf a = Trip.page → part (s.wr a v) = part s
  setTwin : ∀ s x, part { s with twin := x } = part s

/-- Such a part that a new latch leaves alone as well, with the ALL_OFF frames it sends; of a position it holds at most the row of bad uplinks
and the last good one (R253, R267). -/
structure Linked {α : Type} (part : State → α) : Prop extends Cleared part where
  link : ∀ s {a} v, pageOf a = Gl.page → part (s.wr a v) = part s
  emit : ∀ s c p k o d, part (s.emit c p k o d) = part s
  stampNow : ∀ s a, part (s.stampNow a) = part s
  setForces : ∀ s x, part { s with pwm := x } = part s
  setCle : ∀ s x, part { s with cle := x } = part s
  putPos : ∀ s m {x}, x.bad = (posOf s m).bad → x.goodAt = (posOf s m).goodAt → part (putPos m x s) = part s
  allOff : ∀ s m soft, part (allOffFrame m soft s) = part s

/-- A fold keeps a part of the state that its step keeps for every element of the list. -/
theorem foldl_keeps_mem {α β : Type} (part : State → β) {f : State → α → State} {l : List α}
    (h : ∀ t, ∀ x ∈ l, part (f t x) = part t) (s : State) : part (l.foldl f s) = part s :=
  List.foldlRecOn l f (motive := fun t => part t = part s) rfl (fun t ht x hx => (h t x hx).trans ht)

theorem pageOf_header (p : Nat) : pageOf (hIRQ_RAW p) = p ∧ pageOf (hIRQ_PEND p) = p := by
  simp only [pageOf, hIRQ_RAW, hIRQ_PEND]
  omega

section
variable {α : Type} {part : State → α}

/-- A raw condition moves registers of its page alone. -/
theorem keeps_raw {p : Nat} (h : ∀ s {a} v, pageOf a = p → part (s.wr a v) = part s) (s : State) (i : Nat) (b : Bool) :
    part (s.raw p i b) = part s :=
  (h _ _ (pageOf_header p).2).trans (h s _ (pageOf_header p).1)

theorem keeps_pulse {p : Nat} (h : ∀ s {a} v, pageOf a = p → part (s.wr a v) = part s) (s : State) (i : Nat) :
    part (s.pulse p i) = part s := by
  simp only [State.pulse, apply_ite part, h _ _ (pageOf_header p).1, keeps_raw h, ite_self]

end

/-! ### Switches (R28-R30, R219-R224) -/

section
variable {α : Type} {part : State → α} (h : Spared part) (s : State)
include h

theorem spared_wrB {a : Nat} (i : Nat) (b : Bool) (ha : pageOf a ∈ switchPages) : part (s.wrB a i b) = part s := h.wr s _ ha

theorem spared_incL (a : Nat) : part (s.incL a) = part s := h.wrL ..

theorem spared_raw {p : Nat} (i : Nat) (b : Bool) (hp : p ∈ switchPages) : part (s.raw p i b) = part s :=
  keeps_raw (fun t _ v ha => h.wr t v (ha ▸ hp)) s i b

theorem spared_pulse {p : Nat} (i : Nat) (hp : p ∈ switchPages) : part (s.pulse p i) = part s :=
  keeps_pulse (fun t _ v ha => h.wr t v (ha ▸ hp)) s i

theorem spared_putCh (c : Nat) (x : ChHid) : part (putCh c x s) = part s := h.setPwm s rfl

theorem spared_putLeg (g x : Nat) (l : LegHid) : part (putLeg g x l s) = part s := h.setPwm s rfl

omit h in
theorem chStat_page {c : Nat} (hc : c < 52) : pageOf (Ch.CH_STAT c) ∈ switchPages := by
  have hpage : pageOf (Ch.CH_STAT c) = Ch.page := by
    simp only [pageOf, Ch.CH_STAT, Ch.page]
    omega
  simp [hpage]

omit h in
theorem grpStat_page {g : Nat} (hg : g < 6) : pageOf (Grp.GRP_STAT g) ∈ switchPages := by
  have hpage : pageOf (Grp.GRP_STAT g) = Grp.page := by
    simp only [pageOf, Grp.GRP_STAT, Grp.page]
    omega
  simp [hpage]

theorem spared_setLevel {c : Nat} (b : Bool) (t8 : Int) (hc : c < 52) : part (setLevel c b t8 s) = part s := by
  have hlevel : ∀ t i x, part (t.wrB (Ch.CH_STAT c) i x) = part t := fun t i x => spared_wrB h t i x (chStat_page hc)
  have hedges : ∀ t l, part ({ t with pwm := { t.pwm with edges := l } } : State) = part t := fun t l => h.setPwm t rfl
  simp only [setLevel, apply_ite part, spared_putCh h, hedges, hlevel, ite_self]

theorem spared_requestOn {c : Nat} (t8 : Int) (hc : c < 52) : part (requestOn c t8 s) = part s := by
  simp only [requestOn, apply_ite part, spared_setLevel h _ _ _ hc, spared_putCh h, spared_wrB h _ _ _ (chStat_page hc), ite_self]

theorem spared_showRank {c : Nat} (hc : c < 52) : part (showRank c s) = part s :=
  (h.wr _ _ (chStat_page hc)).trans (h.wr s _ (chStat_page hc))

theorem spared_passLeg {g : Nat} (t8 : Int) (x : Nat) (hg : g < 6) : part (passLeg t8 s g x) = part s := by
  have hshow : ∀ t b, part (showPassage g x b t) = part t := fun t b => spared_wrB h t _ b (grpStat_page hg)
  unfold passLeg
  dsimp only
  split
  · rfl
  · split <;> simp only [apply_ite part, spared_incL h, hshow, spared_putLeg h, ite_self]

omit h in
/-- There are six groups. -/
theorem group_of_legHead {c : Nat} {e : Nat × Nat} (he : legHead s c = some e) : e.1 < 6 := by
  have hgroup : ∀ {g x i : Nat}, chanGroup s c = some (g, x, i) → g < 6 := by
    intro g x i hc
    unfold chanGroup at hc
    split at hc
    · next k hk =>
      obtain ⟨rfl, -⟩ := Prod.mk.inj (Option.some.inj hc)
      exact List.mem_range.mp (List.mem_of_find?_eq_some hk)
    · cases hc
  unfold legHead at he
  split at he
  · next g x hc =>
    obtain rfl := Option.some.inj he
    exact hgroup hc
  · cases he

theorem spared_resolveNow : part (resolveNow s) = part s := by
  have hchan : ∀ {c}, c ∈ allChans → c < 52 := List.mem_range.mp
  have hgov : ∀ t, ∀ c ∈ allChans, part (putCh c (govern t false c) t) = part t := fun t c _ => spared_putCh h t c _
  have hrank : ∀ t, ∀ c ∈ allChans, part (showRank c t) = part t := fun t c hc => spared_showRank h t (hchan hc)
  have hleg : ∀ u t, ∀ e ∈ allChans.filterMap (legHead u), part (passLeg (8 * s.now) t e.1 e.2) = part t := by
    intro u t e he
    obtain ⟨c, -, hc⟩ := List.mem_filterMap.mp he
    exact spared_passLeg h t _ _ (group_of_legHead u hc)
  have hoff : ∀ t, ∀ c ∈ allChans, part (if wants t c then t else setLevel c false (8 * s.now) t) = part t := by
    intro t c hc
    simp only [apply_ite part, spared_setLevel h _ _ _ (hchan hc), ite_self]
  have hon : ∀ t, ∀ c ∈ allChans, part (if wants t c then requestOn c (8 * s.now) t else t) = part t := by
    intro t c hc
    simp only [apply_ite part, spared_requestOn h _ _ (hchan hc), ite_self]
  simp only [resolveNow, resolve, foldl_keeps_mem part hon, foldl_keeps_mem part hoff, foldl_keeps_mem part (hleg _),
    foldl_keeps_mem part hrank, foldl_keeps_mem part hgov]

/-! ### What protection shows (R290-R293, R473) -/

theorem spared_wakeRisen (k p : Nat) (mask : Word) (old : State) : part (wakeRisen k p mask old s) = part s := by
  simp (disch := decide) only [wakeRisen, wakeOn, wake, pwrGo, apply_ite part, spared_pulse h, h.wr, spared_wrB h, ite_self]

theorem spared_protShow : part (protShow s) = part s := by
  unfold protShow
  dsimp only
  split <;> simp (disch := decide) only [h.setProt, spared_wakeRisen h, spared_raw h, h.wr]

end

/-! ### The end of a latch (R275, R276) -/

section
variable {α : Type} {part : State → α} (h : Cleared part) (s : State)
include h

theorem cleared_clearLatches (l : List Nat) : part (clearLatches l s) = part s := by
  have htrip : ∀ t k b, part (putTripLatch k b t) = part t := fun t k b => (keeps_raw h.trip _ k b).trans (h.trip t _ (by decide))
  have hlatch : ∀ (t : State) (n : Nat), part (if 32 ≤ n ∧ n < 40 then putTripLatch (n - 32) false t else t) = part t := by
    simp only [apply_ite part, htrip, ite_self, implies_true]
  simp only [clearLatches, spared_protShow h.toSpared, spared_resolveNow h.toSpared, foldl_keeps part hlatch, h.setProt]

theorem cleared_retryClear (n : Nat) : part (retryClear n s) = part s := by
  have hshare : ∀ t, part (shareClear n t) = part t := fun t => by
    unfold shareClear
    split
    · exact h.setTwin t _
    · rfl
  simp (disch := decide) only [retryClear, spared_incL h.toSpared, spared_pulse h.toSpared, h.setProt, hshare, cleared_clearLatches h]

theorem cleared_retryScan : part (retryScan s) = part s :=
  foldl_keeps part (fun t n => by simp only [apply_ite part, cleared_retryClear h, ite_self]) _ s

end

/-! ### A new latch (R230, R265-R277) -/

section
variable {α : Type} {part : State → α} (h : Linked part) (s : State)
include h

theorem linked_protShow : part (protShow s) = part s := spared_protShow h.toSpared s

theorem linked_addForce (f : Force) : part (addForce f s) = part s :=
  (spared_resolveNow h.toSpared _).trans (h.setForces s _)

theorem linked_dropForce (tag : ForceTag) (id : Nat) : part (dropForce tag id s) = part s :=
  (spared_resolveNow h.toSpared _).trans (h.setForces s _)

theorem linked_emitPage (c : EvClass) (p k o : Nat) : part (emitPage c p k o s) = part s := h.emit ..

theorem linked_squashAll (c : Nat) : part (squashAll c s) = part s := by
  refine foldl_keeps part (fun t e => ?_) _ s
  have hctx : ∀ u n x, part (putCtx n x u) = part u := fun u _ _ => h.setCle u _
  have hpre : ∀ u n, part (startPre n u) = part u := fun u _ => h.setCle u _
  have hcause : ∀ u n k, part (markCause n k u) = part u := fun u _ _ => (h.wrL ..).trans (h.wrL u ..)
  unfold squashCtx
  dsimp only
  split <;> simp only [putRun, apply_ite part, h.setCle, hpre, hcause, hctx, spared_incL h.toSpared, ite_self]

theorem linked_latchSource (n obj : Nat) (own : List Nat) : part (latchSource n obj own s) = part s := by
  have hcancel : ∀ t, part (cancelAsc t) = part t := fun t => h.setForces t _
  have hevent : ∀ t, part (squallEvent n obj t) = part t := fun t => h.emit ..
  have hframes : ∀ t w, part (latchFrames w t) = part t := fun t w =>
    foldl_keeps part (fun u m => by simp only [apply_ite part, h.allOff, ite_self]) _ t
  have hlock : ∀ t, part (protLockout t) = part t := fun t => by
    simp (disch := decide) only [protLockout, protBit, apply_ite part, linked_emitPage h, linked_protShow h, spared_wrB h.toSpared, ite_self]
  unfold latchSource
  dsimp only
  split
  · rfl
  · split <;> simp only [apply_ite part, hevent, hlock, linked_squashAll h, hframes, linked_protShow h, spared_resolveNow h.toSpared,
      spared_incL h.toSpared, hcancel, h.setProt, ite_self]

/-! ### Desaturation and faulty switches (R272, R273, R284) -/

theorem linked_ascAway (m n : Nat) : part (ascAway m n s) = part s := by
  simp only [ascAway, apply_ite part, linked_protShow h, linked_addForce h, linked_emitPage h, linked_latchSource h, ite_self]

theorem linked_desatCount (n : Nat) : part (desatCount n s) = part s := by
  unfold desatCount
  split
  · rfl
  · simp only [apply_ite part, linked_latchSource h, h.setProt, ite_self]

theorem linked_desatReact (n : Nat) : part (desatReact n s) = part s := by
  unfold desatReact
  split <;> simp only [apply_ite part, linked_ascAway h, linked_latchSource h, ite_self]

theorem linked_ascRecheck : part (ascRecheck s) = part s := by
  refine foldl_keeps part (fun t f => ?_) _ s
  simp (disch := decide) only [apply_ite part, linked_emitPage h, linked_protShow h, linked_addForce h, spared_pulse h.toSpared, h.setProt,
    ite_self]

theorem linked_ascAwayEnd : part (ascAwayEnd s) = part s :=
  foldl_keeps part (fun t m => by simp only [apply_ite part, linked_protShow h, linked_dropForce h, ite_self]) _ s

theorem linked_ownerSeen : part (ownerSeen s) = part s := by
  unfold ownerSeen
  split
  · exact (h.setTwin _ _).trans (h.wrL ..)
  · rfl

theorem linked_glLevels : part (glLevels s) = part s := by
  simp only [glLevels, keeps_raw h.link]

/-! ### Uplinks (R244, R253, R262) -/

/-- Of a loss such a part sees at most that the position takes the state LOST. -/
theorem linked_glLost (n : Nat) : part (glLost n s) = part (setGl n 4 s) := by
  simp only [glLost, apply_ite part, linked_latchSource h, linked_ascRecheck h, h.emit, ite_self]

/-- Of a STATUS such a part sees at most the register that shows it. -/
theorem linked_takeStatus (n f : Nat) :
    part (takeStatus n f s) = part (s.wr (GlPos.GL_DRV n) (word (uStatus f + at' (dSeq f) 16))) := by
  simp only [takeStatus, cleared_retryScan h.toCleared, linked_protShow h, linked_ascAwayEnd h, linked_ascRecheck h, apply_ite part,
    linked_ownerSeen h, linked_desatReact h, linked_desatCount h, linked_glLevels h, spared_incL h.toSpared, ite_self]

/-- The same of a NORMAL uplink, where such a part does not see a position take the state LOST. -/
theorem linked_uplinkNormal (n f : Nat) (a : Option Asked) (hlost : ∀ t, part (setGl n 4 t) = part t)
    (hdrv : ∀ t u w, part t = part u → part (t.wr (GlPos.GL_DRV n) w) = part (u.wr (GlPos.GL_DRV n) w)) :
    part (uplinkNormal n f a s) = part (s.wr (GlPos.GL_DRV n) (word (uStatus f + at' (dSeq f) 16))) := by
  have hproduce : ∀ t b w, part (t.produce b w) = part t := fun t b w => (h.stampNow ..).trans (h.wrL t b w)
  have hmeas : ∀ t q m, part (uplinkMeas n q m t) = part t := fun t q m => by
    unfold uplinkMeas
    split <;> exact hproduce ..
  unfold uplinkNormal
  extract_lets st s1 x s2 drove s3 s4
  have h1 : part s1 = part s := by
    simp only [s1]
    split
    · exact hmeas ..
    · rfl
  have h2 : part s2 = part s1 := by
    simp only [s2]
    split
    · split
      · exact h.putPos s1 n rfl rfl
      · rfl
    · rfl
  have h3 : part s3 = part s := by
    simp only [s3, apply_ite part, keeps_pulse h.link, ite_self, h2, h1]
  have h4 : part s4 = part (s.wr (GlPos.GL_DRV n) (word (uStatus f + at' (dSeq f) 16))) :=
    (linked_takeStatus h s3 n f).trans (hdrv _ _ _ h3)
  simp only [apply_ite part, linked_glLost h, hlost, h4, ite_self]

end

end Sys2Proof.Laws.Reactions
end

section
/-! PROOFS. The positions of the gate links, device side: their states, frames, uplinks and training (R238-R262). -/

namespace Sys2Proof.Laws.GateLinks
open Sys2Proof.Machine Sys2Proof.Safety Sys2Proof.Laws.Fabric Sys2Proof.Laws.Frames Sys2Proof.Laws.Fields Sys2Proof.Laws.Protection
open Sys2Proof.Laws.Reactions

/-! ### Page frames -/

theorem pageFrame_of_frame {l ps : List Nat} {s t : State} (h : Frame l s t) (hl : ∀ a ∈ l, pageOf a ∈ ps) : PageFrame ps s t :=
  ⟨fun a ha => h.1 a (fun hal => ha (hl a hal)), h.2⟩

theorem pageFrame_trans {ps : List Nat} {s t u : State} (h₁ : PageFrame ps s t) (h₂ : PageFrame ps t u) : PageFrame ps s u :=
  ⟨fun a ha => (h₂.1 a ha).trans (h₁.1 a ha), fun a => (h₂.2 a).trans (h₁.2 a)⟩

theorem pageFrame_mono {ps qs : List Nat} {s t : State} (h : PageFrame ps s t) (hsub : ps ⊆ qs) : PageFrame qs s t :=
  ⟨fun a ha => h.1 a (fun hp => ha (hsub hp)), h.2⟩

/-! ### Positions -/

theorem posOf_putPos (n m : Nat) (x : GlHid) (s : State) : posOf (putPos m x s) n = if n = m then x else posOf s n :=
  KMap.get_set _ s.gl.pos m n x

@[simp] theorem posOf_putPos_self (n : Nat) (x : GlHid) (s : State) : posOf (putPos n x s) n = x := by simp [posOf_putPos]

theorem posOf_congr {s t : State} (h : t.gl = s.gl) (n : Nat) : posOf t n = posOf s n := by simp only [posOf, h]

/-- A note of what the pin carries moves nothing else of a position, no register and no latch (R254). -/
theorem updCarry_effect (n : Nat) (s : State) : ∃ g, updCarry n s = { s with gl := g } ∧
    ∀ m, ∃ c, posOf (updCarry n s) m = { posOf s m with carryLog := c } := by
  unfold updCarry
  extract_lets h last old new
  split
  · exact ⟨s.gl, rfl, fun m => ⟨_, rfl⟩⟩
  · refine ⟨_, rfl, fun m => ?_⟩
    rw [posOf_putPos]
    split
    · next hm =>
      subst hm
      exact ⟨_, rfl⟩
    · exact ⟨_, rfl⟩

/-- The registers that show all positions together (R261). -/
def linkLevels : List Nat := [Gl.UP_MASK0, Gl.UP_MASK1, Gl.LOST_MASK0, Gl.LOST_MASK1] ++ irqRegs Gl.page

theorem page_linkLevels : ∀ a ∈ linkLevels, pageOf a = Gl.page := by decide

theorem frame_linkLevels (s : State) : Frame linkLevels s (glLevels (glMasks s)) := by
  have hirq : irqRegs Gl.page ⊆ linkLevels := List.subset_append_right ..
  have hmask : Frame linkLevels s (glMasks s) :=
    frame_put (frame_put (frame_put (frame_put (frame_refl _ s) _ (by decide)) _ (by decide)) _ (by decide)) _ (by decide)
  exact frame_raw (frame_raw (frame_raw hmask _ _ hirq) _ _ hirq) _ _ hirq

/-- A register of a position lies on the page of the positions. -/
theorem posRegs_page {n : Nat} (hn : n < 36) : pageOf (GlPos.GL_STAT n) = GlPos.page ∧ pageOf (GlPos.GL_DRV n) = GlPos.page := by
  simp only [pageOf, GlPos.GL_STAT, GlPos.GL_DRV, GlPos.page]
  omega

theorem posRegs_notMem_levels (n : Nat) : GlPos.GL_STAT n ∉ linkLevels ∧ GlPos.GL_DRV n ∉ linkLevels := by
  have hlow : ∀ a ∈ linkLevels, a < 0x161000 := by decide
  constructor
  · intro h
    have := hlow _ h
    simp only [GlPos.GL_STAT] at this
    omega
  · intro h
    have := hlow _ h
    simp only [GlPos.GL_DRV] at this
    omega

/-! ### A position takes a state (R248, R262) -/

section
variable (n st : Nat) (s : State)

/-- The state with the new position state in its register, before the levels follow it. -/
theorem setGl_eq : ∃ u, setGl n st s = glLevels (glMasks (updCarry n u)) ∧ u.regs = (s.wrF (GlPos.GL_STAT n) 2 0 st).regs ∧
    u.mem = s.mem ∧ u.gl = s.gl ∧ u.prot = s.prot ∧ u.now = s.now := by
  unfold setGl
  extract_lets s1
  have hs1 : s1.regs = s.regs ∧ s1.mem = s.mem ∧ s1.gl = s.gl ∧ s1.prot = s.prot ∧ s1.now = s.now := by
    simp only [s1]
    split <;> simp
  obtain ⟨hregs, hmem, hgl, hprot, hnow⟩ := hs1
  have hput : (s1.wrF (GlPos.GL_STAT n) 2 0 st).regs = (s.wrF (GlPos.GL_STAT n) 2 0 st).regs := by
    simp only [State.wrF, State.wr, State.rd, hregs]
  exact ⟨s1.wrF (GlPos.GL_STAT n) 2 0 st, rfl, hput, hmem, hgl, hprot, hnow⟩

/-- The position's state stands in GL_STAT, and beside it only the common registers move. -/
theorem setGl_frame : (setGl n st s).rd (GlPos.GL_STAT n) = setFld (s.rd (GlPos.GL_STAT n)) 2 0 st ∧
    Frame (GlPos.GL_STAT n :: linkLevels) s (setGl n st s) := by
  obtain ⟨u, hset, hregs, hmem, -⟩ := setGl_eq n st s
  obtain ⟨g, hcarry, -⟩ := updCarry_effect n u
  have hframe : Frame linkLevels (s.wr (GlPos.GL_STAT n) (setFld (s.rd (GlPos.GL_STAT n)) 2 0 st)) (setGl n st s) := by
    rw [hset]
    refine frame_trans (frame_of_regs_mem ?_ ?_) (frame_linkLevels _)
    · rw [hcarry]
      exact hregs
    · rw [hcarry]
      exact hmem
  exact put_then_frame hframe (posRegs_notMem_levels n).1

theorem setGl_hidden : (setGl n st s).prot = s.prot ∧ (setGl n st s).now = s.now ∧
    ∀ m, ∃ c, posOf (setGl n st s) m = { posOf s m with carryLog := c } := by
  obtain ⟨u, hset, -, -, hgl, hprot, hnow⟩ := setGl_eq n st s
  obtain ⟨g, hcarry, hpos⟩ := updCarry_effect n u
  have hlevels : ∀ t, (glLevels (glMasks t)).gl = t.gl ∧ (glLevels (glMasks t)).prot = t.prot ∧ (glLevels (glMasks t)).now = t.now := by
    intro t
    simp [glLevels, glMasks]
  obtain ⟨hlgl, hlprot, hlnow⟩ := hlevels (updCarry n u)
  rw [hset]
  refine ⟨hlprot.trans ?_, hlnow.trans ?_, fun m => ?_⟩
  · rw [hcarry]
    exact hprot
  · rw [hcarry]
    exact hnow
  · obtain ⟨c, hc⟩ := hpos m
    rw [posOf_congr hlgl, hc, posOf_congr hgl]
    exact ⟨c, rfl⟩

theorem glState_setGl {st : Nat} (hst : st < 8) : glState (setGl n st s) n = st := by
  rw [glState, State.rdF, (setGl_frame n st s).1]
  exact fld_setFld_self _ (by decide) (by decide) hst

/-- A change of state leaves the fields of GL_STAT above it. -/
theorem glStat_setGl {hi lo : Nat} (hlo : 2 < lo) : (setGl n st s).rdF (GlPos.GL_STAT n) hi lo = s.rdF (GlPos.GL_STAT n) hi lo := by
  rw [State.rdF, (setGl_frame n st s).1]
  exact fld_setFld_apart _ (by decide) (by decide) (.inr hlo)

theorem glState_congr {s t : State} (h : t.rd (GlPos.GL_STAT n) = s.rd (GlPos.GL_STAT n)) : glState t n = glState s n := by
  simp only [glState, State.rdF, h]

end

/-- What moves when a position takes a state lies on the two link pages. -/
theorem page_setGl {n : Nat} (hn : n < 36) : ∀ a ∈ GlPos.GL_STAT n :: linkLevels, pageOf a ∈ [Gl.page, GlPos.page] := by
  intro a ha
  rcases List.mem_cons.mp ha with rfl | ha
  · simp [(posRegs_page hn).1]
  · simp [page_linkLevels a ha]

/-! ### A training fails (R247) -/

/-- The position stands in DOWN with the code of TFAIL, no training is under way, and beside GL_STAT only the common registers move. -/
theorem glFail_effect {code : Nat} (n : Nat) (s : State) (hcode : code < 16) : glState (glFail n code s) n = 1 ∧
    (glFail n code s).rdF (GlPos.GL_STAT n) 11 8 = code ∧ Frame (GlPos.GL_STAT n :: linkLevels) s (glFail n code s) ∧
    ∀ m, (posOf (glFail n code s) m).bad = (posOf s m).bad ∧ (posOf (glFail n code s) m).goodAt = (posOf s m).goodAt ∧
      (m = n → (posOf (glFail n code s) m).train = none) := by
  unfold glFail
  extract_lets x s1
  have hirq : irqRegs Gl.page ⊆ linkLevels := List.subset_append_right ..
  have hpulse : Frame linkLevels s1 (s1.pulse Gl.page 1) := frame_pulse (frame_refl _ _) 1 hirq
  have hend : Frame linkLevels s1 ((s1.pulse Gl.page 1).emit .warn GlPos.page (0x20 + code) n (s1.rd (GlPos.GL_STAT n))) :=
    frame_hidden hpulse rfl rfl
  have hstat := hend.1 _ (posRegs_notMem_levels n).1
  obtain ⟨-, hset⟩ := setGl_frame n 1 (putPos n { posOf s n with train := none } (s.wrF (GlPos.GL_STAT n) 11 8 code))
  have hput : Frame (GlPos.GL_STAT n :: linkLevels) s (s.wrF (GlPos.GL_STAT n) 11 8 code) :=
    frame_put (frame_refl _ s) _ (List.mem_cons_self ..)
  refine ⟨(glState_congr n hstat).trans (glState_setGl n _ (by decide)), ?_, ?_, fun m => ?_⟩
  · rw [State.rdF, hstat]
    refine (glStat_setGl n 1 _ (by decide)).trans ?_
    rw [State.rdF]
    refine (congrArg (fld · 11 8) (State.rd_wr_self s ..)).trans ?_
    exact fld_setFld_self _ (by decide) (by decide) hcode
  · exact frame_trans (frame_trans (frame_hidden hput rfl rfl) hset) (frame_mono hend (List.subset_cons_self ..))
  · obtain ⟨-, -, hpos⟩ := setGl_hidden n 1 (putPos n { posOf s n with train := none } (s.wrF (GlPos.GL_STAT n) 11 8 code))
    obtain ⟨c, hc⟩ := hpos m
    have hgl : posOf ((s1.pulse Gl.page 1).emit .warn GlPos.page (0x20 + code) n (s1.rd (GlPos.GL_STAT n))) m = posOf s1 m :=
      posOf_congr (State.pulse_gl s1 Gl.page 1) m
    rw [hgl, hc, posOf_putPos]
    split
    · next hm =>
      subst hm
      exact ⟨rfl, rfl, fun _ => rfl⟩
    · next hm => exact ⟨rfl, rfl, fun h => absurd h hm⟩

/-- An ALL_OFF frame leaves a position's registers beside GL_STAT, its bad uplinks and its last good one; a state changes from TRAINING alone. -/
theorem allOffFrame_effect (m : Nat) (soft : Bool) (s : State) : Frame (GlPos.GL_STAT m :: linkLevels) s (allOffFrame m soft s) ∧
    (glState s m ≠ 2 → Frame [] s (allOffFrame m soft s)) ∧ (glState s m = 2 → glState (allOffFrame m soft s) m = 1) ∧
    ∀ n, (posOf (allOffFrame m soft s) n).bad = (posOf s n).bad ∧ (posOf (allOffFrame m soft s) n).goodAt = (posOf s n).goodAt := by
  unfold allOffFrame
  split
  · next hoff => exact ⟨frame_refl _ s, fun _ => frame_refl _ s, fun h => absurd (hoff.symm.trans h) (by decide), fun _ => ⟨rfl, rfl⟩⟩
  · extract_lets start h f s1
    have hs1 : ∀ l, Frame l s s1 := fun _ => frame_of_regs_mem rfl rfl
    have hpos : ∀ n, (posOf s1 n).bad = (posOf s n).bad ∧ (posOf s1 n).goodAt = (posOf s n).goodAt := by
      intro n
      simp only [s1, posOf_putPos]
      split
      · next hn =>
        subst hn
        exact ⟨rfl, rfl⟩
      · exact ⟨rfl, rfl⟩
    split
    · next htrain =>
      obtain ⟨hstate, -, hframe, hfail⟩ := glFail_effect (code := 6) m s1 (by decide)
      refine ⟨frame_trans (hs1 _) hframe, fun h => absurd htrain h, fun _ => hstate, fun n => ?_⟩
      obtain ⟨hbad, hgood, -⟩ := hfail n
      exact ⟨hbad.trans (hpos n).1, hgood.trans (hpos n).2⟩
    · next htrain => exact ⟨hs1 _, fun _ => hs1 _, fun h => absurd h htrain, hpos⟩

end Sys2Proof.Laws.GateLinks
end

section
/-! PROOFS. The gate links, device side: frames keep their grid, uplinks report or count as bad, and training, DROP and the bootstrap inputs set
position and pin (R238-R262, R287). -/

namespace Sys2Proof.Laws.GateReports
open Sys2Proof.Machine Sys2Proof.Safety Sys2Proof.Laws.Fabric Sys2Proof.Laws.Frames Sys2Proof.Laws.Fields Sys2Proof.Laws.Protection
open Sys2Proof.Laws.Reactions Sys2Proof.Laws.GateLinks

/-! ### Parts of the state that the reactions spare -/

/-- A write to one page leaves the registers of another. -/
theorem rd_wr_of_page {a b : Nat} (s : State) (v : Word) (h : pageOf a ≠ pageOf b) : (s.wr a v).rd b = s.rd b :=
  State.rd_wr_ne s a b v (fun hab => h (congrArg pageOf hab.symm))

/-- What a position reports: the register of its last STATUS, its row of bad uplinks and its last good one. -/
def report (n : Nat) (s : State) : Word × Nat × Option Nat := (s.rd (GlPos.GL_DRV n), (posOf s n).bad, (posOf s n).goodAt)

/-- Where a position stands: its GL_STAT, and the hidden state of the gate links. -/
def stance (n : Nat) (s : State) : Word × GlState := (s.rd (GlPos.GL_STAT n), s.gl)

/-- Whether a position is LOST. -/
def isLost (n : Nat) (s : State) : Bool := decide (glState s n = 4)

/-- The registers of other pages than those of the switches and of protection, and the memory windows. -/
def beyond (s : State) : (Nat → Word) × List Host.Cell := (fun a => if pageOf a ∈ switchPages then 0 else s.rd a, s.mem)

/-- No reaction writes to the page of the positions. -/
theorem page_ne_of_reaction {a n : Nat} (hn : n < 36) (ha : pageOf a ∈ [Gl.page, Trip.page] ++ switchPages) :
    pageOf a ≠ pageOf (GlPos.GL_STAT n) ∧ pageOf a ≠ pageOf (GlPos.GL_DRV n) := by
  obtain ⟨hstat, hdrv⟩ := posRegs_page hn
  have hother : GlPos.page ∉ [Gl.page, Trip.page] ++ switchPages := by decide
  rw [hstat, hdrv]
  exact ⟨fun h => hother (h ▸ ha), fun h => hother (h ▸ ha)⟩

theorem report_congr {n : Nat} {s t : State} (hdrv : t.rd (GlPos.GL_DRV n) = s.rd (GlPos.GL_DRV n)) (hbad : (posOf t n).bad = (posOf s n).bad)
    (hgood : (posOf t n).goodAt = (posOf s n).goodAt) : report n t = report n s := by
  simp only [report, hdrv, hbad, hgood]

theorem report_wr {a n : Nat} (hn : n < 36) (s : State) (v : Word) (ha : pageOf a ∈ [Gl.page, Trip.page] ++ switchPages) :
    report n (s.wr a v) = report n s :=
  report_congr (rd_wr_of_page s v (page_ne_of_reaction hn ha).2) rfl rfl

/-- GL_STAT of no position is GL_DRV of one. -/
theorem glDrv_notMem (n m : Nat) : GlPos.GL_DRV n ∉ GlPos.GL_STAT m :: linkLevels := by
  rw [List.mem_cons, not_or]
  refine ⟨?_, (posRegs_notMem_levels n).2⟩
  simp only [GlPos.GL_DRV, GlPos.GL_STAT]
  omega

theorem report_setGl (n m st : Nat) (s : State) : report n (setGl m st s) = report n s := by
  obtain ⟨-, -, hpos⟩ := setGl_hidden m st s
  obtain ⟨c, hc⟩ := hpos n
  refine report_congr ((setGl_frame m st s).2.1 _ (glDrv_notMem n m)) ?_ ?_
  · rw [hc]
  · rw [hc]

theorem linked_report {n : Nat} (hn : n < 36) : Linked (report n) where
  wr s _ v ha := report_wr hn s v (List.mem_append_right _ ha)
  wrL _ _ _ := rfl
  setPwm _ _ _ := rfl
  setProt _ _ := rfl
  trip s _ v ha := report_wr hn s v (by simp [ha])
  setTwin _ _ := rfl
  link s _ v ha := report_wr hn s v (by simp [ha])
  emit _ _ _ _ _ _ := rfl
  stampNow _ _ := rfl
  setForces _ _ := rfl
  setCle _ _ := rfl
  putPos s m x hbad hgood := by
    refine report_congr rfl ?_ ?_
    · rw [posOf_putPos]
      split
      · next hm => rw [hbad, hm]
      · rfl
    · rw [posOf_putPos]
      split
      · next hm => rw [hgood, hm]
      · rfl
  allOff s m soft := by
    obtain ⟨hframe, -, -, hpos⟩ := allOffFrame_effect m soft s
    exact report_congr (hframe.1 _ (glDrv_notMem n m)) (hpos n).1 (hpos n).2

theorem isLost_wr {a n : Nat} (hn : n < 36) (s : State) (v : Word) (ha : pageOf a ∈ [Gl.page, Trip.page] ++ switchPages) :
    isLost n (s.wr a v) = isLost n s := by
  simp only [isLost, glState_congr n (rd_wr_of_page s v (page_ne_of_reaction hn ha).1)]

/-- An ALL_OFF frame breaks the training of a position, and so it loses none and brings none back. -/
theorem isLost_allOffFrame (n m : Nat) (soft : Bool) (s : State) : isLost n (allOffFrame m soft s) = isLost n s := by
  obtain ⟨hframe, hkeep, hbreak, -⟩ := allOffFrame_effect m soft s
  by_cases hnm : n = m
  · subst hnm
    by_cases htrain : glState s n = 2
    · simp [isLost, hbreak htrain, htrain]
    · simp only [isLost, glState_congr n ((hkeep htrain).1 _ (by simp))]
  · have hother : GlPos.GL_STAT n ∉ GlPos.GL_STAT m :: linkLevels := by
      rw [List.mem_cons, not_or]
      refine ⟨?_, (posRegs_notMem_levels n).1⟩
      simp only [GlPos.GL_STAT]
      omega
    simp only [isLost, glState_congr n (hframe.1 _ hother)]

theorem linked_isLost {n : Nat} (hn : n < 36) : Linked (isLost n) where
  wr s _ v ha := isLost_wr hn s v (List.mem_append_right _ ha)
  wrL _ _ _ := rfl
  setPwm _ _ _ := rfl
  setProt _ _ := rfl
  trip s _ v ha := isLost_wr hn s v (by simp [ha])
  setTwin _ _ := rfl
  link s _ v ha := isLost_wr hn s v (by simp [ha])
  emit _ _ _ _ _ _ := rfl
  stampNow _ _ := rfl
  setForces _ _ := rfl
  setCle _ _ := rfl
  putPos _ _ _ _ _ := rfl
  allOff s m soft := isLost_allOffFrame n m soft s

theorem outside_wr_of_page {a : Nat} (s : State) (v : Word) (ha : 0x100 ≤ pageOf a) : outside (s.wr a v) = outside s :=
  outside_wr s (by simp only [pageOf] at ha; omega)

theorem linked_outside : Linked outside where
  wr s a v ha := outside_wr_of_page s v ((by decide : ∀ p ∈ switchPages, 0x100 ≤ p) _ ha)
  wrL _ _ _ := rfl
  setPwm _ _ _ := rfl
  setProt _ _ := rfl
  trip s _ v ha := outside_wr_of_page s v (by simp [ha, Trip.page])
  setTwin _ _ := rfl
  link s _ v ha := outside_wr_of_page s v (by simp [ha, Gl.page])
  emit _ _ _ _ _ _ := rfl
  stampNow _ _ := rfl
  setForces _ _ := rfl
  setCle _ _ := rfl
  putPos _ _ _ _ _ := rfl
  allOff s m soft := outside_allOffFrame s m soft

theorem stance_wr {a n : Nat} (hn : n < 36) (s : State) (v : Word) (ha : pageOf a ∈ [Gl.page, Trip.page] ++ switchPages) :
    stance n (s.wr a v) = stance n s := by
  simp only [stance, rd_wr_of_page s v (page_ne_of_reaction hn ha).1, State.wr_gl]

theorem cleared_stance {n : Nat} (hn : n < 36) : Cleared (stance n) where
  wr s _ v ha := stance_wr hn s v (List.mem_append_right _ ha)
  wrL _ _ _ := rfl
  setPwm _ _ _ := rfl
  setProt _ _ := rfl
  trip s _ v ha := stance_wr hn s v (by simp [ha])
  setTwin _ _ := rfl

theorem spared_beyond : Spared beyond where
  wr s a v ha := by
    have hregs : (fun b => if pageOf b ∈ switchPages then 0 else (s.wr a v).rd b) =
        fun b => if pageOf b ∈ switchPages then 0 else s.rd b := by
      funext b
      split
      · rfl
      · next hb => exact State.rd_wr_ne s a b v (fun hab => hb (hab ▸ ha))
    simp only [beyond, hregs, State.wr_mem]
  wrL _ _ _ := rfl
  setPwm _ _ _ := rfl
  setProt _ _ := rfl

theorem spared_forces : Spared (fun s => s.pwm.forces) where
  wr _ _ _ _ := rfl
  wrL _ _ _ := rfl
  setPwm _ _ hx := hx
  setProt _ _ := rfl

theorem pageFrame_of_beyond {s t : State} (h : beyond t = beyond s) : PageFrame switchPages s t := by
  refine ⟨fun a ha => ?_, rdByte_congr (congrArg Prod.snd h)⟩
  have hreg := congrFun (congrArg Prod.fst h) a
  simpa only [beyond, if_neg ha] using hreg

/-! ### Grid frames (R238) -/

/-- What a grid frame at position `n` cannot move: the registers, the windows, the instant, the grid, and the position while it is OFF. -/
def gridKeep (n : Nat) (s : State) : List (Nat × Word) × List Host.Cell × Nat × Option Nat × Option GlHid :=
  (s.regs, s.mem, s.now, s.gl.gridAt, if glState s n = 0 then some (posOf s n) else none)

theorem gridKeep_gridPos (n f k : Nat) (s : State) (m : Nat) : gridKeep n (gridPos f k s m) = gridKeep n s := by
  have hput : ∀ x, glState s m ≠ 0 → gridKeep n (putPos m x s) = gridKeep n s := by
    intro x hon
    have hpos : (if glState s n = 0 then some (posOf (putPos m x s) n) else none) = if glState s n = 0 then some (posOf s n) else none := by
      split
      · next hoff =>
        rw [posOf_putPos, if_neg]
        rintro rfl
        exact hon hoff
      · rfl
    exact congrArg (fun o => (s.regs, s.mem, s.now, s.gl.gridAt, o)) hpos
  unfold gridPos
  extract_lets st h seq q idx training owner due sync put drive es w lev carried slot frame ask asked s1 edges later s2
  split
  · rfl
  · next hon =>
    have hs2 : gridKeep n s2 = gridKeep n s1 := by
      simp only [s2]
      split <;> rfl
    exact Eq.trans rfl (hs2.trans (hput _ (fun hoff => hon (.inl hoff))))

theorem gives_gridFrame (n : Nat) (s : State) : Gives .gridFrame s (fun t =>
    t.gl.gridAt = some (gridDue s) ∧ gridDue s ≤ t.now ∧ (glState s n = 0 → posOf t n = posOf s n) ∧ Frame [] s t) := by
  have hkeep : gridKeep n (gridFrame s) = (s.regs, s.mem, max s.now (gridDue s), some (gridDue s),
      if glState s n = 0 then some (posOf s n) else none) :=
    foldl_keeps (gridKeep n) (fun t m => gridKeep_gridPos n _ _ t m) _ _
  simp only [gridKeep, Prod.mk.injEq] at hkeep
  obtain ⟨hregs, hmem, hnow, hgrid, hpos⟩ := hkeep
  refine ⟨gridFrame s, rfl, hgrid, hnow ▸ Nat.le_max_right .., fun hoff => ?_, frame_of_regs_mem hregs hmem⟩
  have hoff' : glState (gridFrame s) n = 0 := (glState_congr n (State.rd_congr hregs _)).trans hoff
  rw [if_pos hoff, if_pos hoff'] at hpos
  exact Option.some.inj hpos

/-! ### Uplinks (R244, R253, R262) -/

/-- A good NORMAL uplink whose frame asked for no training word is taken as such. -/
theorem uplinkFrame_of_good {n f rt : Nat} {s : State} (hon : glState s n ≠ 0) (hgood : uplinkGood s n f rt = true) (htype : dType f = 0)
    (hasked : ∀ a, (posOf s n).asked.find? (fun a => decide (a.seq = dSeq f)) = some a → a.idx = none) :
    ∃ a, uplinkFrame n f rt s = uplinkNormal n f a (putPos n { posOf s n with bad := 0, goodAt := some s.now } s) := by
  unfold uplinkFrame
  extract_lets asked h s1
  rw [if_neg hon, if_neg (by simp [hgood])]
  split
  · next a ha =>
    rw [hasked a ha]
    exact ⟨some a, if_pos htype⟩
  · exact ⟨none, if_pos htype⟩

/-- The STATUS of an uplink stands in the low bits of GL_DRV. -/
theorem fld_status (f : Nat) : fld (word (uStatus f + at' (dSeq f) 16)) 9 0 = uStatus f := by
  have hstatus : uStatus f < 1024 := Nat.mod_lt _ (by decide)
  have hseq : dSeq f < 8 := Nat.mod_lt _ (by decide)
  simp only [fld, word, at', BitVec.toNat_ofNat]
  omega

theorem gives_goodUplink {n f rt : Nat} {s : State} (hn : n < 36) (hon : glState s n ≠ 0) (hgood : uplinkGood s n f rt = true)
    (htype : dType f = 0) (hasked : ∀ a, (posOf s n).asked.find? (fun a => decide (a.seq = dSeq f)) = some a → a.idx = none) :
    Gives (.uplinkFrame n f rt) s (fun t =>
      t.rdF (GlPos.GL_DRV n) 9 0 = uStatus f ∧ (posOf t n).bad = 0 ∧ (posOf t n).goodAt = some s.now ∧ ∀ a, t.rdByte a = s.rdByte a) := by
  obtain ⟨a, hframe⟩ := uplinkFrame_of_good hon hgood htype hasked
  refine ⟨uplinkFrame n f rt s, rfl, ?_⟩
  have hwr : ∀ (t : State) w, outside (t.wr (GlPos.GL_DRV n) w) = outside t := fun t w =>
    outside_wr_of_page t w (by simp [(posRegs_page hn).2, GlPos.page])
  have hput : ∀ (t u : State) w, report n t = report n u → report n (t.wr (GlPos.GL_DRV n) w) = report n (u.wr (GlPos.GL_DRV n) w) := by
    intro t u w h
    obtain ⟨-, hbad, hgood⟩ : _ ∧ (posOf t n).bad = (posOf u n).bad ∧ (posOf t n).goodAt = (posOf u n).goodAt := by
      simpa only [report, Prod.mk.injEq] using h
    exact report_congr (by simp only [State.rd_wr_self]) hbad hgood
  have hreport := linked_uplinkNormal (linked_report hn) (putPos n { posOf s n with bad := 0, goodAt := some s.now } s) n f a
    (report_setGl n n 4) hput
  have hmem := linked_uplinkNormal linked_outside (putPos n { posOf s n with bad := 0, goodAt := some s.now } s) n f a
    (fun t => outside_setGl t n 4) (fun t u w h => (hwr t w).trans (h.trans (hwr u w).symm))
  rw [← hframe] at hreport hmem
  have hpos : ∀ w, posOf ((putPos n { posOf s n with bad := 0, goodAt := some s.now } s).wr (GlPos.GL_DRV n) w) n =
      { posOf s n with bad := 0, goodAt := some s.now } := fun w => posOf_putPos_self n _ s
  simp only [report, State.rd_wr_self, hpos, Prod.mk.injEq] at hreport
  obtain ⟨hdrv, hbad, hgoodAt⟩ := hreport
  refine ⟨?_, hbad, hgoodAt, rdByte_congr (mem_of_outside (hmem.trans (hwr _ _)))⟩
  rw [State.rdF, hdrv]
  exact fld_status f

/-- A bad or missing uplink is counted; the third in a row of a position that is UP makes it LOST. -/
theorem uplinkBad_effect {n : Nat} (f : Nat) (arrived : Bool) (s : State) (hn : n < 36) :
    ((glState s n ≠ 3 ∨ (posOf s n).bad + 1 < 3) →
      (posOf (uplinkBad n f arrived s) n).bad = (posOf s n).bad + 1 ∧ Frame [] s (uplinkBad n f arrived s)) ∧
    (glState s n = 3 → 3 ≤ (posOf s n).bad + 1 →
      glState (uplinkBad n f arrived s) n = 4 ∧ ∀ a, (uplinkBad n f arrived s).rdByte a = s.rdByte a) := by
  unfold uplinkBad
  extract_lets h tr s1
  have hstate : glState s1 n = glState s n := rfl
  have hbad : (posOf s1 n).bad = (posOf s n).bad + 1 := congrArg GlHid.bad (posOf_putPos_self n _ s)
  refine ⟨fun hfew => ?_, fun hup hthird => ?_⟩
  · have hbase : h.bad = (posOf s n).bad := rfl
    rw [if_neg (by rw [hstate, hbase]; omega)]
    exact ⟨hbad, frame_of_regs_mem rfl rfl⟩
  · rw [if_pos ⟨hstate.trans hup, hthird⟩]
    have hlost : isLost n (glLost n s1) = true := by
      rw [linked_glLost (linked_isLost hn), isLost, glState_setGl n s1 (by decide)]
      rfl
    have hmem := (linked_glLost linked_outside s1 n).trans (outside_setGl s1 n 4)
    exact ⟨of_decide_eq_true hlost, rdByte_congr (mem_of_outside hmem)⟩

/-- A missing uplink of a position that is on, and one that is not good, are taken as bad ones. -/
theorem exec_badUplink {n f rt : Nat} {s : State} {i : Instr} (hon : glState s n ≠ 0)
    (hi : i = .uplinkMissing n ∨ (i = .uplinkFrame n f rt ∧ uplinkGood s n f rt = false)) :
    ∃ g arrived, exec i s = .next (uplinkBad n g arrived s) := by
  rcases hi with rfl | ⟨rfl, hbad⟩
  · exact ⟨_, _, congrArg Host.Outcome.next (if_neg hon)⟩
  · have hframe : uplinkFrame n f rt s = uplinkBad n (s.now - 80 - rt / 8) true s := by
      unfold uplinkFrame
      rw [if_neg hon, if_pos (by simp [hbad])]
    exact ⟨_, _, congrArg Host.Outcome.next hframe⟩

/-! ### GL_CMD (R247, R248, R262) -/

@[simp] theorem forward_gl (port : Port) (a : Nat) (v : Word) (s : State) : (forward port a v s).gl = s.gl := by
  unfold forward; split <;> rfl

@[simp] theorem touchLock_gl (p : Nat) (s : State) : (touchLock p s).gl = s.gl := rfl

@[simp] theorem touchSession_gl (p : Nat) (s : State) : (touchSession p s).gl = s.gl := by
  unfold touchSession; split <;> rfl

@[simp] theorem debugNote_gl (port : Port) (c : RefCode) (w : Word) (s : State) : (debugNote port c w s).gl = s.gl := by
  unfold debugNote; split <;> rfl

/-- A write that the fabric admits and its operation accepts gives what holds of every state with the operation's registers, windows and
gate links. -/
theorem gives_gated_links {i : Instr} {port : Port} {a : Nat} {v : Word} {op : State → Reply} {s t : State} {P : State → Prop}
    (hexec : exec i s = replied (gated port a v op s)) (hadm : Admits s port a) (hop : op s = accept t)
    (hP : ∀ u : State, u.regs = t.regs → u.mem = t.mem → u.gl = t.gl → P u) : Gives i s P := by
  obtain ⟨hregs, hmem⟩ := gated_of_accept (v := v) hadm hop
  have hgl : (gated port a v op s).1.gl = t.gl := by
    have hcode : gateCode s port a = .none := hadm
    by_cases hl : needsLock a = true <;> simp [gated, gate, recorded, accept, hcode, hop, hl]
  exact ⟨_, hexec, hP _ hregs hmem hgl⟩

/-- What a scan for retries leaves of a position, and of everything where no source is latched. -/
theorem retryScan_effect {n : Nat} (hn : n < 36) (s : State) : glState (retryScan s) n = glState s n ∧ (retryScan s).gl = s.gl ∧
    (retryScan s).mem = s.mem ∧ (anyLatched s = false → retryScan s = s) := by
  have hstance := cleared_retryScan (cleared_stance hn) s
  exact ⟨glState_congr n (congrArg Prod.fst hstance), congrArg Prod.snd hstance, mem_of_outside (outside_retryScan s),
    retryScan_of_not_latched s⟩

/-- A position takes a state, and retries follow: nothing beside the two link pages moves while no source is latched. -/
theorem retryScan_setGl_effect {n st : Nat} (hn : n < 36) (hst : st < 8) (s : State) : glState (retryScan (setGl n st s)) n = st ∧
    (∃ c, posOf (retryScan (setGl n st s)) n = { posOf s n with carryLog := c }) ∧
    (∀ a, (retryScan (setGl n st s)).rdByte a = s.rdByte a) ∧
    (anyLatched s = false → PageFrame [Gl.page, GlPos.page] s (retryScan (setGl n st s))) := by
  obtain ⟨hstate, hgl, hmem, hquiet⟩ := retryScan_effect hn (setGl n st s)
  obtain ⟨-, hframe⟩ := setGl_frame n st s
  obtain ⟨hprot, -, hpos⟩ := setGl_hidden n st s
  obtain ⟨c, hc⟩ := hpos n
  refine ⟨hstate.trans (glState_setGl n s hst), ⟨c, (posOf_congr hgl n).trans hc⟩, fun a => (rdByte_congr hmem a).trans (hframe.2 a),
    fun hlat => ?_⟩
  rw [hquiet (by simpa only [anyLatched, hprot] using hlat)]
  exact pageFrame_of_frame hframe (page_setGl hn)

/-- A page frame and the byte frame depend on registers and windows alone. -/
theorem pageFrame_congr {ps : List Nat} {s t u : State} (h : PageFrame ps s t) (hregs : u.regs = t.regs) (hmem : u.mem = t.mem) :
    PageFrame ps s u :=
  pageFrame_trans h ⟨fun a _ => State.rd_congr hregs a, rdByte_congr hmem⟩

/-- TRAIN is accepted for a SERIAL position that is not in TRAINING and whose channel is idle or held off by rank 1 or 2. -/
theorem glCmdWrite_train {n : Nat} {b : Bool} {s : State} (hpart : s.part = .sep9624 → n < 24) (hmode : glMode s n = 1)
    (hstate : glState s n ≠ 2) (hidle : chanIdle s n = true ∨ (chOf s n).gov = 1 ∨ (chOf s n).gov = 2) :
    glCmdWrite n (word (1 + at' (bitN b) 1)) s = accept (glStartTrain n b false s) := by
  have hbits : ∀ b, bit (word (1 + at' (bitN b) 1)) 0 = true ∧ bit (word (1 + at' (bitN b) 1)) 1 = b ∧
      bit (word (1 + at' (bitN b) 1)) 2 = false := by decide
  obtain ⟨htrain, hclear, hdrop⟩ := hbits b
  have hfits : ¬(s.part = .sep9624 ∧ 24 ≤ n) := fun h => absurd (hpart h.1) (Nat.not_lt.mpr h.2)
  rcases hidle with h | h | h <;> simp [glCmdWrite, htrain, hclear, hdrop, hfits, hmode, hstate, h]

/-- A training starts with the state TRAINING and a record whose first frame lies ahead. -/
theorem glStartTrain_eq (n : Nat) (b retry : Bool) (s : State) : ∃ r : TrainRec, r.clear = b ∧ s.now < r.at_ ∧
    glStartTrain n b retry s = retryScan (setGl n 2 (putPos n { posOf s n with train := some r } s)) := by
  refine ⟨_, rfl, ?_, rfl⟩
  simp only [gridDue]
  split <;> omega

theorem gives_glTrain {n : Nat} {port : Port} {b : Bool} {s : State} (hn : n < 36) (hadm : Admits s port (GlPos.GL_CMD n))
    (hpart : s.part = .sep9624 → n < 24) (hmode : glMode s n = 1) (hstate : glState s n ≠ 2)
    (hidle : chanIdle s n = true ∨ (chOf s n).gov = 1 ∨ (chOf s n).gov = 2) : Gives (.glTrain port n b) s (fun t =>
      glState t n = 2 ∧ (∃ r, (posOf t n).train = some r ∧ r.clear = b ∧ s.now < r.at_) ∧ (∀ a, t.rdByte a = s.rdByte a) ∧
        (anyLatched s = false → PageFrame [Gl.page, GlPos.page] s t)) := by
  obtain ⟨r, hclear, hlater, hstart⟩ := glStartTrain_eq n b false s
  obtain ⟨hnew, ⟨c, hpos⟩, hbytes, hpages⟩ :=
    retryScan_setGl_effect (st := 2) hn (by decide) (putPos n { posOf s n with train := some r } s)
  rw [← hstart] at hnew hpos hbytes hpages
  refine gives_gated_links rfl hadm (glCmdWrite_train hpart hmode hstate hidle) (fun u hregs hmem hgl => ?_)
  have htrain : (posOf u n).train = some r := by
    rw [posOf_congr hgl, hpos, posOf_putPos_self]
  exact ⟨(glState_congr n (State.rd_congr hregs _)).trans hnew, ⟨r, htrain, hclear, hlater⟩,
    fun a => (rdByte_congr hmem a).trans (hbytes a), fun hlat => pageFrame_congr (hpages hlat) hregs hmem⟩

/-- DROP is accepted for an UP or LOST position that control does not govern. -/
theorem glCmdWrite_drop {n : Nat} {s : State} (hgov : (chOf s n).gov ≠ 7) (hstate : glState s n = 3 ∨ glState s n = 4) :
    glCmdWrite n 4 s = accept (retryScan (setGl n 1 s)) := by
  have hbits : bit (BitVec.ofNat 32 4) 0 = false ∧ bit (BitVec.ofNat 32 4) 2 = true := by decide
  rcases hstate with h | h <;> simp [glCmdWrite, hbits, hgov, h]

theorem gives_glDrop {n : Nat} {port : Port} {s : State} (hn : n < 36) (hadm : Admits s port (GlPos.GL_CMD n)) (hgov : (chOf s n).gov ≠ 7)
    (hstate : glState s n = 3 ∨ glState s n = 4) : Gives (.glDrop port n) s (fun t =>
      glState t n = 1 ∧ (∀ a, t.rdByte a = s.rdByte a) ∧ (anyLatched s = false → PageFrame [Gl.page, GlPos.page] s t)) := by
  obtain ⟨hnew, -, hbytes, hpages⟩ := retryScan_setGl_effect (st := 1) hn (by decide) s
  exact gives_gated_links rfl hadm (glCmdWrite_drop hgov hstate) (fun u hregs hmem _ =>
    ⟨(glState_congr n (State.rd_congr hregs _)).trans hnew, fun a => (rdByte_congr hmem a).trans (hbytes a),
      fun hlat => pageFrame_congr (hpages hlat) hregs hmem⟩)

/-! ### The end of a training (R247) -/

/-- Every code of TFAIL fits its field, and a training that passes has measured at most 128. -/
theorem trainVerdict_bounds (r : TrainRec) : (∀ c d, trainVerdict r = (some c, d) → c < 16) ∧
    (∀ d, trainVerdict r = (none, d) → d < 2 ^ 16) := by
  unfold trainVerdict
  extract_lets sum d hi lo code
  constructor
  · intro c d' h
    obtain ⟨hcode, -⟩ := Prod.mk.inj h
    simp only [code] at hcode
    (repeat' split at hcode) <;> cases hcode <;> decide
  · intro d' h
    obtain ⟨hcode, rfl⟩ := Prod.mk.inj h
    simp only [code] at hcode
    (repeat' split at hcode) <;> cases hcode
    omega

/-- A training that no retry started and that passes ends in UP with the delay it measured. -/
theorem gives_trainingPassed {n dt d : Nat} {r : TrainRec} {s : State} (hn : n < 36) (htrain : (posOf s n).train = some r)
    (hstate : glState s n = 2) (hretry : r.retry = false) (hpass : trainVerdict r = (none, d)) : Gives (.trainingDone n dt) s (fun t =>
      glState t n = 3 ∧ t.rdF (GlPos.GL_STAT n) 31 16 = d ∧ (posOf t n).train = none ∧ r.at_ + 5120 ≤ t.now ∧
      PageFrame [Gl.page, GlPos.page] s t) := by
  refine ⟨trainingDone n dt s, rfl, ?_⟩
  simp only [trainingDone, htrain, hstate, hpass, hretry, ne_eq, not_true_eq_false, if_false, Bool.false_eq_true]
  generalize hs1 : s.reach (max (r.at_ + 5120) (min (s.now + dt) (r.at_ + 5280))) = s1
  have hdue : r.at_ + 5120 ≤ s1.now := by
    rw [← hs1]
    exact Nat.le_trans (Nat.le_max_left ..) (Nat.le_max_right ..)
  have hreach : Frame (GlPos.GL_STAT n :: linkLevels) s s1 := hs1 ▸ frame_of_regs_mem rfl rfl
  generalize hs2 : putPos n { posOf s1 n with train := none, bad := 0 } (s1.wrF (GlPos.GL_STAT n) 31 16 d) = s2
  have hput : Frame (GlPos.GL_STAT n :: linkLevels) s s2 := hs2 ▸ frame_hidden (frame_put hreach _ (List.mem_cons_self ..)) rfl rfl
  obtain ⟨-, hset⟩ := setGl_frame n 3 s2
  obtain ⟨-, hnow, hpos⟩ := setGl_hidden n 3 s2
  obtain ⟨c, hc⟩ := hpos n
  have hirq : irqRegs Gl.page ⊆ linkLevels := List.subset_append_right ..
  have hpulse : Frame linkLevels (setGl n 3 s2) ((setGl n 3 s2).pulse Gl.page 0) := frame_pulse (frame_refl _ _) 0 hirq
  have hstat := hpulse.1 _ (posRegs_notMem_levels n).1
  refine ⟨(glState_congr n hstat).trans (glState_setGl n s2 (by decide)), ?_, ?_, ?_, ?_⟩
  · rw [State.rdF, hstat]
    refine (glStat_setGl n 3 s2 (by decide)).trans ?_
    rw [State.rdF, ← hs2]
    refine (congrArg (fld · 31 16) (State.rd_wr_self s1 ..)).trans ?_
    exact fld_setFld_self _ (by decide) (by decide) ((trainVerdict_bounds r).2 d hpass)
  · rw [posOf_congr (State.pulse_gl ..), hc, ← hs2, posOf_putPos_self]
  · rw [State.pulse_now, hnow, ← hs2]
    exact hdue
  · exact pageFrame_of_frame (frame_trans (frame_trans hput hset) (frame_mono hpulse (List.subset_cons_self ..))) (page_setGl hn)

/-- One that fails ends in DOWN with its code. -/
theorem gives_trainingFailed {n dt c d : Nat} {r : TrainRec} {s : State} (hn : n < 36) (htrain : (posOf s n).train = some r)
    (hstate : glState s n = 2) (hretry : r.retry = false) (hfail : trainVerdict r = (some c, d)) : Gives (.trainingDone n dt) s (fun t =>
      glState t n = 1 ∧ t.rdF (GlPos.GL_STAT n) 11 8 = c ∧ (posOf t n).train = none ∧ PageFrame [Gl.page, GlPos.page] s t) := by
  refine ⟨trainingDone n dt s, rfl, ?_⟩
  simp only [trainingDone, htrain, hstate, hfail, hretry, ne_eq, not_true_eq_false, if_false, Bool.false_eq_true]
  obtain ⟨hdown, hcode, hframe, hpos⟩ := glFail_effect n (s.reach (max (r.at_ + 5120) (min (s.now + dt) (r.at_ + 5280))))
    ((trainVerdict_bounds r).1 c d hfail)
  obtain ⟨-, -, hnone⟩ := hpos n
  exact ⟨hdown, hcode, hnone rfl, pageFrame_of_frame (frame_trans (frame_of_regs_mem rfl rfl) hframe) (page_setGl hn)⟩

/-! ### Bootstrap inputs (R260, R287) -/

/-- The bit of BS_STAT and its interrupt, before the channels follow. -/
def bsuvShown (l : Nat) (b : Bool) (s : State) : State :=
  (s.wrB Gl.BS_STAT l b).raw Gl.page 6 (decide ((s.wrB Gl.BS_STAT l b).rdF Gl.BS_STAT 5 0 ≠ 0))

/-- The forced state that the input asks for is put or taken away, and the channels and the display follow. -/
theorem bsuvInput_eq (l : Nat) (b : Bool) (s : State) : ∃ u, bsuvInput l b s = protShow (resolveNow u) ∧
    u.regs = (bsuvShown l b s).regs ∧ u.mem = (bsuvShown l b s).mem ∧ hasForce u .bootstrap l = b := by
  unfold bsuvInput
  extract_lets s1 s2 f
  cases b with
  | true =>
    rw [if_pos rfl]
    exact ⟨putForce f s2, rfl, rfl, rfl, by simp [hasForce, putForce, f]⟩
  | false =>
    rw [if_neg Bool.false_ne_true, dropForce]
    exact ⟨_, rfl, rfl, rfl, by simpa [hasForce] using fun x _ h htag => h.resolve_left (not_not_intro htag)⟩

theorem gives_bsuvInput {l : Nat} (b : Bool) (s : State) (hl : l < 6) : Gives (.bsuvInput l b) s (fun t =>
    t.rdB Gl.BS_STAT l = b ∧ hasForce t .bootstrap l = b ∧
      PageFrame [Gl.page, Ch.page, Grp.page, Prot.page, ProtSrc.page, Sec.page] s t) := by
  obtain ⟨u, heq, hregs, hmem, hforce⟩ := bsuvInput_eq l b s
  have hbeyond : beyond (protShow (resolveNow u)) = beyond u :=
    (spared_protShow spared_beyond _).trans (spared_resolveNow spared_beyond u)
  have hforces : (protShow (resolveNow u)).pwm.forces = u.pwm.forces :=
    (spared_protShow spared_forces _).trans (spared_resolveNow spared_forces u)
  have hshow : Frame (irqRegs Gl.page) (s.wrB Gl.BS_STAT l b) u :=
    frame_hidden (frame_raw (frame_refl _ _) 6 _ (List.Subset.refl _)) hregs hmem
  obtain ⟨hbit, hframe⟩ := putBit_then_frame (i := l) hshow (by decide) (by omega)
  have hreact := pageFrame_of_beyond hbeyond
  refine ⟨bsuvInput l b s, rfl, ?_⟩
  rw [heq]
  refine ⟨?_, ?_, pageFrame_trans (pageFrame_of_frame hframe (by decide)) (pageFrame_mono hreact (List.subset_cons_self ..))⟩
  · rw [State.rdB, hreact.1 _ (by decide)]
    exact hbit
  · rw [hasForce, hforces]
    exact hforce

/-! ### The statement -/

/-- Settles O53, clause by clause. -/
theorem gateLinksTrainAndReport : Obligations.GateLinksTrainAndReport := by
  intro port n f rt dt l b s hn
  refine ⟨gives_gridFrame n s, gives_goodUplink hn, fun i hi hon => ?_, ⟨_, rfl⟩, gives_glTrain hn, gives_glDrop hn,
    fun r d => gives_trainingPassed hn, fun r c d => gives_trainingFailed hn, gives_bsuvInput b s⟩
  obtain ⟨g, arrived, hexec⟩ := exec_badUplink hon hi
  obtain ⟨hcount, hlost⟩ := uplinkBad_effect g arrived s hn
  exact ⟨fun hfew => ⟨_, hexec, hcount hfew⟩, fun hup hthird => ⟨_, hexec, hlost hup hthird⟩⟩

end Sys2Proof.Laws.GateReports
end

section
/-! PROOFS. What resolving the channels and the display of protection leave alone (R28-R30, R219-R224, R290-R293): the status bits of
protection that have no other home, the set latches, and the registers of other pages. -/

namespace Sys2Proof.Laws.ProtDisplay
open Sys2Proof.Machine Sys2Proof.Safety Sys2Proof.Laws.Fabric Sys2Proof.Laws.Frames Sys2Proof.Laws.Fields Sys2Proof.Laws.Protection
open Sys2Proof.Laws.Reactions Sys2Proof.Laws.GateLinks Sys2Proof.Laws.GateReports

/-! ### A bit put into a register -/

theorem bit_setBit_ne (w : Word) {i j : Nat} (b : Bool) (hi : i < 32) (hij : j ≠ i) : bit (setBit w i b) j = bit w j := by
  rw [bit, setBit, getLsbD_setFld w hi (Nat.le_refl i), if_neg (by omega), bit]

theorem rdB_wrB_ne (s : State) (a : Nat) {i j : Nat} (b : Bool) (hi : i < 32) (hij : j ≠ i) : (s.wrB a i b).rdB a j = s.rdB a j := by
  rw [State.rdB, State.rd_wrB, if_pos rfl, bit_setBit_ne _ b hi hij, State.rdB]

/-! ### Parts that resolving the channels and the display of protection leave alone -/

/-- A part of the state that the switches and their passages leave alone. Unlike a `Spared` part it may hold registers of protection and
protection's hidden state. -/
structure Resolved {α : Type} (part : State → α) : Prop where
  chan : ∀ s {a} v, pageOf a ∈ [Ch.page, Grp.page] → part (s.wr a v) = part s
  wrL : ∀ s a v, part (s.wrL a v) = part s
  setPwm : ∀ s x, part { s with pwm := x } = part s

/-- The registers beside STATUS that protection's display writes. -/
abbrev shownRegs : List Nat :=
  [Prot.FORCE_STAT, ProtSrc.SRC_LATCH0, ProtSrc.SRC_LATCH1, Sec.WAKE_STAT, Sec.PWR_STAT] ++ irqRegs Prot.page ++ irqRegs Sec.page

/-- The bits of STATUS that have no other home: LOCKOUT, CHOP_FAULT, ESCALATED, ESC_ASC, OV2 and DCL_STALE (R290). -/
abbrev keptFlags : List Nat := [2, 4, 5, 6, 7, 9]

/-- Protection's hidden state without what its display keeps of the chopper (R281, R293). -/
def settled (p : ProtState) : ProtState :=
  { p with chopAt := none, chopVal := 0, chopSeen := false, chopJudge := false, chopOn := 0, chopSince := none }

/-- A part of the state that the display of protection leaves alone. -/
structure Shown {α : Type} (part : State → α) : Prop where
  wr : ∀ s {a} v, a ∈ shownRegs → part (s.wr a v) = part s
  status : ∀ s {w}, (∀ i ∈ keptFlags, bit w i = s.rdB (hSTATUS Prot.page) i) → part (s.wr (hSTATUS Prot.page) w) = part s
  setProt : ∀ s {x}, settled x = settled s.prot → part { s with prot := x } = part s

/-! ### Switches (R28-R30, R219-R224) -/

section
variable {α : Type} {part : State → α} (h : Resolved part) (s : State)
include h

omit h in
theorem chStat_onPage {c : Nat} (hc : c < 52) : pageOf (Ch.CH_STAT c) ∈ [Ch.page, Grp.page] := by
  simp only [pageOf, Ch.CH_STAT, Ch.page, List.mem_cons]
  omega

omit h in
theorem grpStat_onPage {g : Nat} (hg : g < 6) : pageOf (Grp.GRP_STAT g) ∈ [Ch.page, Grp.page] := by
  simp only [pageOf, Grp.GRP_STAT, Grp.page, List.mem_cons]
  omega

theorem resolved_incL (a : Nat) : part (s.incL a) = part s := h.wrL ..

theorem resolved_putCh (c : Nat) (x : ChHid) : part (putCh c x s) = part s := h.setPwm ..

theorem resolved_setLevel {c : Nat} (b : Bool) (t8 : Int) (hc : c < 52) : part (setLevel c b t8 s) = part s := by
  have hbit : ∀ t i x, part (State.wrB t (Ch.CH_STAT c) i x) = part t := fun t i x => h.chan t _ (chStat_onPage hc)
  simp only [setLevel, apply_ite part, resolved_putCh h, h.setPwm, hbit, ite_self]

theorem resolved_requestOn {c : Nat} (t8 : Int) (hc : c < 52) : part (requestOn c t8 s) = part s := by
  have hbit : ∀ t i x, part (State.wrB t (Ch.CH_STAT c) i x) = part t := fun t i x => h.chan t _ (chStat_onPage hc)
  simp only [requestOn, apply_ite part, resolved_setLevel h _ _ _ hc, resolved_putCh h, hbit, ite_self]

theorem resolved_passLeg {g : Nat} (t8 : Int) (x : Nat) (hg : g < 6) : part (passLeg t8 s g x) = part s := by
  have hshow : ∀ t b, part (showPassage g x b t) = part t := fun t b => h.chan t _ (grpStat_onPage hg)
  have hput : ∀ t l, part (putLeg g x l t) = part t := fun t l => h.setPwm ..
  unfold passLeg
  dsimp only
  split
  · rfl
  · split <;> simp only [apply_ite part, resolved_incL h, hshow, hput, ite_self]

theorem resolved_resolveNow : part (resolveNow s) = part s := by
  have hchan : ∀ {c}, c ∈ allChans → c < 52 := List.mem_range.mp
  have hgov : ∀ t, ∀ c ∈ allChans, part (putCh c (govern t false c) t) = part t := fun t c _ => resolved_putCh h t c _
  have hrank : ∀ t, ∀ c ∈ allChans, part (showRank c t) = part t := fun t c hc =>
    (h.chan _ _ (chStat_onPage (hchan hc))).trans (h.chan t _ (chStat_onPage (hchan hc)))
  have hleg : ∀ u t, ∀ e ∈ allChans.filterMap (legHead u), part (passLeg (8 * s.now) t e.1 e.2) = part t := by
    intro u t e he
    obtain ⟨c, -, hc⟩ := List.mem_filterMap.mp he
    exact resolved_passLeg h t _ _ (group_of_legHead u hc)
  have hoff : ∀ t, ∀ c ∈ allChans, part (if wants t c then t else setLevel c false (8 * s.now) t) = part t := by
    intro t c hc
    simp only [apply_ite part, resolved_setLevel h _ _ _ (hchan hc), ite_self]
  have hon : ∀ t, ∀ c ∈ allChans, part (if wants t c then requestOn c (8 * s.now) t else t) = part t := by
    intro t c hc
    simp only [apply_ite part, resolved_requestOn h _ _ (hchan hc), ite_self]
  simp only [resolveNow, resolve, foldl_keeps_mem part hon, foldl_keeps_mem part hoff, foldl_keeps_mem part (hleg _),
    foldl_keeps_mem part hrank, foldl_keeps_mem part hgov]

theorem resolved_addForce (f : Force) : part (addForce f s) = part s := (resolved_resolveNow h _).trans (h.setPwm ..)

theorem resolved_dropForce (tag : ForceTag) (id : Nat) : part (dropForce tag id s) = part s :=
  (resolved_resolveNow h _).trans (h.setPwm ..)

end

/-! ### The display of protection (R290-R293, R473) -/

/-- The bits of STATUS that the display works out lie apart from those it keeps. -/
theorem bit_shownStatus (o : Word) (armed latched chop dis more : Bool) (src : Nat) {i : Nat} (hi : i ∈ keptFlags) :
    bit (word (bitN armed + at' (bitN latched) 1 + at' (bitN chop) 3 + at' (bitN dis) 8 + at' src 16 + at' (bitN more) 22) |||
      (o &&& 0x2F4)) i = bit o i := by
  have hbit : ∀ b, bitN b < 2 := by decide
  have h0 := hbit armed
  have h1 := hbit latched
  have h3 := hbit chop
  have h8 := hbit dis
  generalize bitN armed = b0 at h0 ⊢
  generalize bitN latched = b1 at h1 ⊢
  generalize bitN chop = b3 at h3 ⊢
  generalize bitN dis = b8 at h8 ⊢
  generalize bitN more = b22
  have hfree : (b0 + at' b1 1 + at' b3 3 + at' b8 8 + at' src 16 + at' b22 22).testBit i = false := by
    obtain rfl | rfl | rfl | rfl | rfl | rfl : i = 2 ∨ i = 4 ∨ i = 5 ∨ i = 6 ∨ i = 7 ∨ i = 9 := by
      simpa only [keptFlags, List.mem_cons, List.not_mem_nil, or_false] using hi
    all_goals
      simp only [at', Nat.testBit_eq_decide_div_mod_eq, decide_eq_false_iff_not]
      omega
  have hkept : (0x2F4 : Word).getLsbD i = true := (by decide : ∀ j ∈ keptFlags, (0x2F4 : Word).getLsbD j = true) i hi
  simp only [bit, word, BitVec.getLsbD_or, BitVec.getLsbD_and, BitVec.getLsbD_ofNat, hfree, hkept, Bool.and_false, Bool.false_or,
    Bool.and_true]

section
variable {α : Type} {part : State → α} (h : Shown part) (s : State)
include h

theorem shown_raw {p : Nat} (i : Nat) (b : Bool) (hraw : hIRQ_RAW p ∈ shownRegs) (hpend : hIRQ_PEND p ∈ shownRegs) :
    part (s.raw p i b) = part s :=
  (h.wr _ _ hpend).trans (h.wr s _ hraw)

theorem shown_pulse {p : Nat} (i : Nat) (hraw : hIRQ_RAW p ∈ shownRegs) (hpend : hIRQ_PEND p ∈ shownRegs) :
    part (s.pulse p i) = part s := by
  simp only [State.pulse, apply_ite part, h.wr _ _ hraw, shown_raw h _ _ _ hraw hpend, ite_self]

theorem shown_wakeRisen (k p : Nat) (mask : Word) (old : State) : part (wakeRisen k p mask old s) = part s := by
  have hmark : ∀ t, part (State.wrB t Sec.WAKE_STAT k true) = part t := fun t => h.wr t _ (by decide)
  simp (disch := decide) only [wakeRisen, wakeOn, wake, pwrGo, apply_ite part, shown_pulse h, h.wr, hmark, ite_self]

theorem shown_protShow : part (protShow s) = part s := by
  unfold protShow
  extract_lets o l0 l1 st kept s1 p s2 s3
  have hstatus : part (s.wr (hSTATUS Prot.page) (st ||| kept)) = part s := h.status s (fun i hi => bit_shownStatus o _ _ _ _ _ _ hi)
  have hs3 : part s3 = part s := by
    simp (disch := decide) only [s3, s2, s1, p, shown_wakeRisen h, shown_raw h, h.wr, hstatus]
  have hput : ∀ x, settled x = settled s3.prot → part { s3 with prot := x } = part s := fun x hx => (h.setProt s3 hx).trans hs3
  split
  · exact hput _ rfl
  · exact hput _ rfl
  · exact hs3

theorem shown_protBit (i : Nat) (b : Bool) : part (protBit i b s) = part (s.wrB (hSTATUS Prot.page) i b) := shown_protShow h _

end

/-! ### The parts in use -/

/-- The registers of other pages than `ps`, and the memory windows. -/
def elsewhere (ps : List Nat) (s : State) : (Nat → Word) × List Host.Cell := (fun a => if pageOf a ∈ ps then 0 else s.rd a, s.mem)

/-- A bit of protection's STATUS. -/
def flag (i : Nat) (s : State) : Bool := s.rdB (hSTATUS Prot.page) i

/-- Protection's hidden state but for the chopper's display. -/
def latched (s : State) : ProtState := settled s.prot

theorem pageFrame_of_elsewhere {ps : List Nat} {s t : State} (h : elsewhere ps t = elsewhere ps s) : PageFrame ps s t := by
  refine ⟨fun a ha => ?_, rdByte_congr (congrArg Prod.snd h)⟩
  have hreg := congrFun (congrArg Prod.fst h) a
  simpa only [elsewhere, if_neg ha] using hreg

theorem elsewhere_wr {ps : List Nat} (s : State) {a : Nat} (v : Word) (ha : pageOf a ∈ ps) : elsewhere ps (s.wr a v) = elsewhere ps s := by
  have hregs : (fun b => if pageOf b ∈ ps then 0 else (s.wr a v).rd b) = fun b => if pageOf b ∈ ps then 0 else s.rd b := by
    funext b
    split
    · rfl
    · next hb => exact State.rd_wr_ne s a b v (fun hab => hb (hab ▸ ha))
  simp only [elsewhere, hregs, State.wr_mem]

theorem elsewhere_wrB {ps : List Nat} (s : State) {a : Nat} (i : Nat) (b : Bool) (ha : pageOf a ∈ ps) :
    elsewhere ps (s.wrB a i b) = elsewhere ps s := elsewhere_wr s _ ha

theorem shown_elsewhere {ps : List Nat} (hps : [Prot.page, ProtSrc.page, Sec.page] ⊆ ps) : Shown (elsewhere ps) where
  wr s _ v ha := elsewhere_wr s v (hps ((by decide : ∀ a ∈ shownRegs, pageOf a ∈ [Prot.page, ProtSrc.page, Sec.page]) _ ha))
  status s _ _ := elsewhere_wr s _ (hps (by decide))
  setProt _ _ _ := rfl

theorem resolved_elsewhere {ps : List Nat} (hps : [Ch.page, Grp.page] ⊆ ps) : Resolved (elsewhere ps) where
  chan s _ v ha := elsewhere_wr s v (hps ha)
  wrL _ _ _ := rfl
  setPwm _ _ := rfl

theorem cleared_elsewhere {ps : List Nat} (hps : Trip.page :: switchPages ⊆ ps) : Cleared (elsewhere ps) where
  wr s _ v ha := elsewhere_wr s v (hps (List.mem_cons_of_mem _ ha))
  wrL _ _ _ := rfl
  setPwm _ _ _ := rfl
  setProt _ _ := rfl
  trip s _ v ha := elsewhere_wr s v (hps (ha ▸ List.mem_cons_self ..))
  setTwin _ _ := rfl

theorem rdB_wr_ne (s : State) {a b : Nat} (v : Word) (i : Nat) (h : b ≠ a) : (s.wr a v).rdB b i = s.rdB b i := by
  rw [State.rdB, State.rd_wr_ne s a b v h, State.rdB]

theorem flag_wr (i : Nat) (s : State) {a : Nat} (v : Word) (ha : a ≠ hSTATUS Prot.page) : flag i (s.wr a v) = flag i s :=
  rdB_wr_ne s v i ha.symm

theorem shown_flag {i : Nat} (hi : i ∈ keptFlags) : Shown (flag i) where
  wr s a v ha := flag_wr i s v ((by decide : ∀ b ∈ shownRegs, b ≠ hSTATUS Prot.page) a ha)
  status s w h := by
    rw [flag, State.rdB, State.rd_wr_self, h i hi, flag]
  setProt _ _ _ := rfl

theorem resolved_flag (i : Nat) : Resolved (flag i) where
  chan s a v ha := flag_wr i s v (by rintro rfl; exact absurd ha (by decide))
  wrL _ _ _ := rfl
  setPwm _ _ := rfl

/-- A register that the display does not write. -/
theorem shown_rd {a : Nat} (ha : a ∉ hSTATUS Prot.page :: shownRegs) : Shown (fun s => s.rd a) where
  wr s b v hb := State.rd_wr_ne s b a v (fun hab => ha (List.mem_cons_of_mem _ (hab ▸ hb)))
  status s w _ := State.rd_wr_ne s _ a w (List.ne_of_not_mem_cons ha)
  setProt _ _ _ := rfl

/-- A register of another page than those of the switches. -/
theorem resolved_rd {a : Nat} (ha : pageOf a ∉ [Ch.page, Grp.page]) : Resolved (fun s => s.rd a) where
  chan s b v hb := State.rd_wr_ne s b a v (fun hab => ha (hab ▸ hb))
  wrL s b v := State.rd_wrL s b a v
  setPwm _ _ := rfl

theorem shown_latched : Shown latched where
  wr s a v _ := congrArg settled (State.wr_prot s a v)
  status s w _ := congrArg settled (State.wr_prot s _ w)
  setProt _ _ h := h

theorem resolved_latched : Resolved latched where
  chan s a v _ := congrArg settled (State.wr_prot s a v)
  wrL s a v := congrArg settled (State.wrL_prot s a v)
  setPwm _ _ := rfl

/-- Latches, tries and locked retries stand as before where the hidden state but for the chopper's display does. -/
theorem lists_of_latched {s t : State} (h : latched t = latched s) :
    t.prot.lats = s.prot.lats ∧ t.prot.tries = s.prot.tries ∧ t.prot.chflt = s.prot.chflt :=
  ⟨(congrArg ProtState.lats h :), (congrArg ProtState.tries h :), (congrArg ProtState.chflt h :)⟩

/-! ### The end of a latch (R275) -/

/-- A cleared latch moves, of a part that the trip latches do not belong to, only what the list of latches decides. -/
theorem clearLatches_part {α : Type} {part : State → α} (hshown : Shown part) (hres : Resolved part)
    (htrip : ∀ s {a} v, pageOf a = Trip.page → part (s.wr a v) = part s) (l : List Nat) (s : State) :
    part (clearLatches l s) = part { s with prot := { s.prot with
      lats := s.prot.lats.filter (fun k => !l.contains k.src), noRetry := s.prot.noRetry.filter (fun n => !l.contains n) } } := by
  have hput : ∀ t k b, part (putTripLatch k b t) = part t := fun t k b => (keeps_raw htrip _ k b).trans (htrip t _ (by decide))
  have hlatch : ∀ (t : State) (n : Nat), part (if 32 ≤ n ∧ n < 40 then putTripLatch (n - 32) false t else t) = part t := by
    simp only [apply_ite part, hput, ite_self, implies_true]
  simp only [clearLatches, shown_protShow hshown, resolved_resolveNow hres, foldl_keeps part hlatch]

theorem latched_clearLatches (l : List Nat) (s : State) : latched (clearLatches l s) = { latched s with
    lats := s.prot.lats.filter (fun k => !l.contains k.src), noRetry := s.prot.noRetry.filter (fun n => !l.contains n) } :=
  clearLatches_part shown_latched resolved_latched (fun s a v _ => congrArg settled (State.wr_prot s a v)) l s

theorem flag_clearLatches {i : Nat} (hi : i ∈ keptFlags) (l : List Nat) (s : State) : flag i (clearLatches l s) = flag i s :=
  clearLatches_part (shown_flag hi) (resolved_flag i) (fun s a v ha => flag_wr i s v (by rintro rfl; exact absurd ha (by decide))) l s

/-! ### An admitted write and protection's hidden state -/

/-- A write that the fabric admits and its operation accepts gives what holds of every state with the operation's registers, windows and
latches. -/
theorem gives_gated_prot {i : Instr} {port : Port} {a : Nat} {v : Word} {op : State → Reply} {s t : State} {P : State → Prop}
    (hexec : exec i s = replied (gated port a v op s)) (hadm : Admits s port a) (hop : op s = accept t)
    (hP : ∀ u : State, u.regs = t.regs → u.mem = t.mem → u.prot = t.prot → P u) : Gives i s P := by
  obtain ⟨hregs, hmem⟩ := gated_of_accept (v := v) hadm hop
  obtain ⟨-, hprot, -⟩ := gated_hidden_of_accept (v := v) hadm hop
  exact ⟨_, hexec, hP _ hregs hmem hprot⟩

end Sys2Proof.Laws.ProtDisplay
end

section
/-! PROOFS. The Squall sources: comparators show their outputs and latch, and SRC_CLR, the automatic retry and LOCKOUT_CLR clear (R265-R277). -/

namespace Sys2Proof.Laws.Squall
open Sys2Proof.Machine Sys2Proof.Safety Sys2Proof.Laws.Fabric Sys2Proof.Laws.Refusals Sys2Proof.Laws.Frames Sys2Proof.Laws.Protection
open Sys2Proof.Laws.Reactions Sys2Proof.Laws.GateLinks Sys2Proof.Laws.GateReports Sys2Proof.Laws.ProtDisplay

/-! ### Which sources are latched -/

theorem isLatched_congr {s t : State} (h : latched t = latched s) (n : Nat) : isLatched t n = isLatched s n := by
  obtain ⟨hlats, -⟩ := lists_of_latched h
  simp only [isLatched, hlats]

/-- Clearing takes away the latches of the sources it names and no other. -/
theorem isLatched_clearLatches (l : List Nat) (s : State) (n : Nat) :
    isLatched (clearLatches l s) n = (isLatched s n && !l.contains n) := by
  have hlats : (clearLatches l s).prot.lats = s.prot.lats.filter (fun k => !l.contains k.src) :=
    congrArg ProtState.lats (latched_clearLatches l s)
  rw [isLatched, hlats, List.any_filter, isLatched, Bool.eq_iff_iff]
  simp only [List.any_eq_true, Bool.and_eq_true, decide_eq_true_eq]
  constructor
  · rintro ⟨k, hk, hnot, rfl⟩
    exact ⟨⟨k, hk, rfl⟩, hnot⟩
  · rintro ⟨⟨k, hk, rfl⟩, hnot⟩
    exact ⟨k, hk, hnot, rfl⟩

theorem shareClear_prot (n : Nat) (s : State) : (shareClear n s).prot = s.prot := by
  unfold shareClear
  split <;> rfl

theorem isLatched_retryClear (m : Nat) (s : State) (n : Nat) : isLatched (retryClear m s) n = (isLatched s n && !decide (n = m)) := by
  have hlats : (retryClear m s).prot.lats = (clearLatches [m] s).prot.lats := by
    simp only [retryClear, State.incL_prot, State.pulse_prot, shareClear_prot]
  have hsame : isLatched (retryClear m s) n = isLatched (clearLatches [m] s) n := by simp only [isLatched, hlats]
  simp [hsame, isLatched_clearLatches]

/-! ### A new latch (R265-R268) -/

theorem squashAll_prot (c : Nat) (s : State) : (squashAll c s).prot = s.prot := by
  refine foldl_keeps State.prot (fun t e => ?_) _ s
  have hpre : ∀ u n, (startPre n u).prot = u.prot := fun _ _ => rfl
  have hctx : ∀ u n x, (putCtx n x u).prot = u.prot := fun _ _ _ => rfl
  have hcause : ∀ u n k, (markCause n k u).prot = u.prot := fun _ _ _ => rfl
  unfold squashCtx
  dsimp only
  split <;> simp only [putRun, apply_ite State.prot, hpre, hcause, hctx, State.incL_prot, ite_self]

theorem latchFrames_prot (wasOff : List Nat) (s : State) : (latchFrames wasOff s).prot = s.prot := by
  have hfail : ∀ n code t, (glFail n code t).prot = t.prot := fun n code t => by
    obtain ⟨hset, -⟩ := setGl_hidden n 1 (putPos n { posOf t n with train := none } (t.wrF (GlPos.GL_STAT n) 11 8 code))
    rw [glFail, State.emit_prot, State.pulse_prot, hset]
    exact State.wrF_prot t (GlPos.GL_STAT n) 11 8 code
  have hput : ∀ n x t, (putPos n x t).prot = t.prot := fun _ _ _ => rfl
  have hframe : ∀ n soft t, (allOffFrame n soft t).prot = t.prot := fun n soft t => by
    simp only [allOffFrame, apply_ite State.prot, hfail, hput, ite_self]
  exact foldl_keeps State.prot (fun t n => by simp only [apply_ite State.prot, hframe, ite_self]) _ s

theorem latched_protLockout (s : State) : latched (protLockout s) = latched s := by
  have hbit : latched (protBit 2 true s) = latched s :=
    (shown_protBit shown_latched s 2 true).trans (congrArg settled (State.wrB_prot ..))
  have hevent : latched (emitPage .fault Prot.page 1 0 (protBit 2 true s)) = latched (protBit 2 true s) := rfl
  simp only [protLockout, apply_ite latched, hevent, hbit, ite_self]

theorem latched_offFrames (wasOff : List Nat) (s : State) : latched (latchFrames wasOff (protShow (resolveNow s))) = latched s :=
  (congrArg settled (latchFrames_prot ..)).trans ((shown_protShow shown_latched _).trans (resolved_resolveNow resolved_latched s))

theorem latch_of_find {n : Nat} {s : State} {l : Latch} (hl : s.prot.lats.find? (fun l => decide (l.src = n)) = some l) :
    l ∈ s.prot.lats ∧ l.src = n := by
  refine ⟨List.mem_of_find?_eq_some hl, ?_⟩
  simpa using List.find?_some hl

/-- A source that latched already keeps its latch, with the object that joins it or without (R265). -/
theorem isLatched_joined {n : Nat} {s : State} {l : Latch} (upd : Latch) (hl : s.prot.lats.find? (fun l => decide (l.src = n)) = some l)
    (hupd : upd.src = l.src) :
    isLatched { s with prot := { s.prot with lats := s.prot.lats.map (fun k => if k.src = n then upd else k) } } n = true := by
  obtain ⟨hmem, hsrc⟩ := latch_of_find hl
  simp only [isLatched, List.any_map, List.any_eq_true]
  exact ⟨l, hmem, by simp [hsrc, hupd]⟩

/-- The condition of an enabled source leaves it latched while protection is armed. -/
theorem isLatched_latchSource {n : Nat} {s : State} (obj : Nat) (own : List Nat) (harmed : armed s = true)
    (hen : s.rdB (ProtSrc.SRC_CFG n) 0 = true) : isLatched (latchSource n obj own s) n = true := by
  have hen' : bit (s.rd (ProtSrc.SRC_CFG n)) 0 = true := hen
  unfold latchSource
  extract_lets cfg wasOff old tries lock lat s1 s2 s3 s4
  rw [if_neg (by simp [cfg, harmed, hen'])]
  split
  case h_1 l hl =>
    obtain ⟨hmem, hsrc⟩ := latch_of_find hl
    have hstands : isLatched s n = true := List.any_eq_true.mpr ⟨l, hmem, decide_eq_true hsrc⟩
    extract_lets upd joined
    split
    · exact (isLatched_congr (latched_offFrames wasOff joined) n).trans (isLatched_joined upd hl rfl)
    · exact hstands
  case h_2 hnone =>
    have hs1 : isLatched s1 n = true := by simp [isLatched, s1, lat]
    have hs2 : isLatched s2 n = true := by
      simp only [s2]
      split <;> exact hs1
    have hs3 : latched s3 = latched s2 := (congrArg settled (squashAll_prot ..)).trans (latched_offFrames wasOff _)
    have hs4 : isLatched s4 n = true := (isLatched_congr hs3 n).trans hs2
    split
    · exact (isLatched_congr (latched_protLockout s4) n).trans hs4
    · exact hs4

/-! ### Comparators (R265, R270, R276) -/

/-- Is the input above HI, as the output of comparator `k` sees it (R270)? -/
def seesAbove (s : State) (k code : Nat) : Bool :=
  if s.rdB (ProtCmp.CMP_STAT k) 1 then decide (cmpLevel s (ProtCmp.CMP_HI k) ≤ code + 64) else decide (cmpLevel s (ProtCmp.CMP_HI k) < code)

/-- Is the input below LO, as the output of comparator `k` sees it (R270)? -/
def seesBelow (s : State) (k code : Nat) : Bool :=
  if s.rdB (ProtCmp.CMP_STAT k) 2 then decide (code ≤ cmpLevel s (ProtCmp.CMP_LO k) + 64) else decide (code < cmpLevel s (ProtCmp.CMP_LO k))

/-- The output of comparator `k` with its input at `code`. -/
def cmpActive (s : State) (k code : Nat) : Bool :=
  cmpOut (s.rdF (ProtCmp.CMP_CFG k) 2 1) (seesAbove s k code) (seesBelow s k code)

/-- CMP_STAT with the input at `code` (R292). -/
def cmpShown (s : State) (k code : Nat) : Word :=
  word (bitN (cmpActive s k code) + at' (bitN (seesAbove s k code)) 1 + at' (bitN (seesBelow s k code)) 2)

/-- The comparator's output stands in CMP_STAT; then its source latches, or retries may clear. -/
theorem comparatorInput_eq (k code : Nat) (s : State) : ∃ x, comparatorInput k code s =
    if cmpActive s k code then
      (if !s.rdB (ProtCmp.CMP_STAT k) 0 && s.rdB (ProtCmp.CMP_CFG k) 0 then
        latchSource k 0 [] { s.wr (ProtCmp.CMP_STAT k) (cmpShown s k code) with prot := x }
      else { s.wr (ProtCmp.CMP_STAT k) (cmpShown s k code) with prot := x })
    else retryScan { s.wr (ProtCmp.CMP_STAT k) (cmpShown s k code) with prot := x } := by
  unfold comparatorInput
  extract_lets old cfg hi lo above below out' s1 inWindow resp protOld s2
  by_cases hresp : resp = true
  · rw [show s2 = _ from if_pos hresp]
    exact ⟨_, rfl⟩
  · rw [show s2 = s1 from if_neg hresp]
    exact ⟨s1.prot, rfl⟩

theorem cmpStat_page {k : Nat} (hk : k < 32) : pageOf (ProtCmp.CMP_STAT k) = ProtCmp.page := by
  simp only [pageOf, ProtCmp.CMP_STAT, ProtCmp.page]
  omega

theorem linked_cmpStat {k : Nat} (hk : k < 32) : Linked (fun s => s.rd (ProtCmp.CMP_STAT k)) := by
  have hwr : ∀ (s : State) {a : Nat} v, pageOf a ∈ Gl.page :: Trip.page :: switchPages →
      (s.wr a v).rd (ProtCmp.CMP_STAT k) = s.rd (ProtCmp.CMP_STAT k) :=
    fun s a v ha => rd_wr_of_page s v (fun h => absurd ((h.trans (cmpStat_page hk)) ▸ ha)
      (by decide : ProtCmp.page ∉ Gl.page :: Trip.page :: switchPages))
  have hpos : ∀ m, ProtCmp.CMP_STAT k ∉ GlPos.GL_STAT m :: linkLevels := fun m h => by
    rcases List.mem_cons.mp h with h | h
    · simp only [ProtCmp.CMP_STAT, GlPos.GL_STAT] at h
      omega
    · exact absurd ((cmpStat_page hk).symm.trans (page_linkLevels _ h)) (by decide)
  exact {
    wr := fun s _ v ha => hwr s v (List.mem_cons_of_mem _ (List.mem_cons_of_mem _ ha))
    wrL := fun s a v => State.rd_wrL s a _ v
    setPwm := fun _ _ _ => rfl
    setProt := fun _ _ => rfl
    trip := fun s _ v ha => hwr s v (by simp [ha])
    setTwin := fun _ _ => rfl
    link := fun s _ v ha => hwr s v (by simp [ha])
    emit := fun s c p i o d => State.rd_emit s c p i o _ d
    stampNow := fun s a => State.rd_stampNow s a _
    setForces := fun _ _ => rfl
    setCle := fun _ _ => rfl
    putPos := fun _ _ _ _ _ => rfl
    allOff := fun s m soft => (allOffFrame_effect m soft s).1.1 _ (hpos m) }

section
variable {k : Nat} (code : Nat) (s : State)

/-- Of a comparator's input, a part that latching and clearing leave alone sees CMP_STAT at most. -/
theorem linked_comparatorInput {α : Type} {part : State → α} (h : Linked part) :
    part (comparatorInput k code s) = part (s.wr (ProtCmp.CMP_STAT k) (cmpShown s k code)) := by
  obtain ⟨x, hx⟩ := comparatorInput_eq k code s
  simp only [hx, apply_ite part, linked_latchSource h, cleared_retryScan h.toCleared, h.setProt, ite_self]

/-- An output that rises to active leaves the source of an enabled comparator latched while protection is armed (R265). -/
theorem isLatched_comparatorInput (hk : k < 32) (hout : cmpActive s k code = true) (hrise : s.rdB (ProtCmp.CMP_STAT k) 0 = false)
    (hen : s.rdB (ProtCmp.CMP_CFG k) 0 = true) (harmed : armed s = true) (hsrc : s.rdB (ProtSrc.SRC_CFG k) 0 = true) :
    isLatched (comparatorInput k code s) k = true := by
  obtain ⟨x, hx⟩ := comparatorInput_eq k code s
  rw [hx, if_pos hout, if_pos (by simp [hrise, hen])]
  have hpage := cmpStat_page hk
  have hctrl : Prot.CTRL ≠ ProtCmp.CMP_STAT k := fun h => absurd (hpage.symm.trans (congrArg pageOf h.symm)) (by decide)
  have hcfg : ProtSrc.SRC_CFG k ≠ ProtCmp.CMP_STAT k := by
    simp only [ProtSrc.SRC_CFG, ProtCmp.CMP_STAT]
    omega
  exact isLatched_latchSource 0 [] ((rdB_wr_ne s _ 0 hctrl).trans harmed) ((rdB_wr_ne s _ 0 hcfg).trans hsrc)

end

/-! ### SRC_CLR (R275) -/

/-- The named sources whose automatic clear falls in the same cycle clear by it first (R294). -/
def retried (due : List Nat) (s : State) : State := due.foldl (fun t n => retryClear n t) s

/-- With no cause active, SRC_CLR retries the named sources that are due and clears the rest of those that are latched. -/
theorem srcClrWrite_of_inactive {l : List Nat} {s : State} (hopen : lockedOut s = false) (hcause : ∀ j ∈ l, causeActive s j = false) :
    ∃ due ⊆ l, srcClrWrite l s = accept (clearLatches (l.filter (isLatched (retried due s))) (retried due s)) := by
  have hnone : l.any (causeActive s) = false := by simpa using hcause
  refine ⟨l.filter (fun n => retryDue s n && (decide (n ≠ 46) || (latchedPositions s).isEmpty)), fun _ hj => (List.mem_filter.mp hj).1, ?_⟩
  simp only [srcClrWrite, hopen, hnone, Bool.false_and, Bool.false_eq_true, if_false]
  rfl

theorem isLatched_retried (due : List Nat) (s : State) (n : Nat) : isLatched (retried due s) n = (isLatched s n && !due.contains n) := by
  unfold retried
  induction due generalizing s with
  | nil => simp
  | cons m due ih => simp [ih, isLatched_retryClear, Bool.and_assoc]

/-- Every named source is clear then, and every other one as it was. -/
theorem isLatched_cleared {l due : List Nat} (s : State) (hdue : due ⊆ l) (j : Nat) :
    isLatched (clearLatches (l.filter (isLatched (retried due s))) (retried due s)) j = (isLatched s j && !l.contains j) := by
  rw [isLatched_clearLatches, List.contains_eq_mem, List.contains_eq_mem]
  simp only [List.mem_filter, isLatched_retried]
  by_cases hj : j ∈ l
  · simp [hj]
  · have hnot : j ∉ due := fun h => hj (hdue h)
    simp [hj, hnot]

theorem elsewhere_cleared (l due : List Nat) (s : State) {ps : List Nat} (hps : Trip.page :: switchPages ⊆ ps) :
    elsewhere ps (clearLatches l (retried due s)) = elsewhere ps s :=
  (cleared_clearLatches (cleared_elsewhere hps) _ _).trans
    (foldl_keeps (elsewhere ps) (fun t n => cleared_retryClear (cleared_elsewhere hps) t n) due s)

/-- A source with an active cause refuses the write. -/
theorem srcClrWrite_of_active {l : List Nat} {s : State} (hopen : lockedOut s = false) (hcause : ∃ j ∈ l, causeActive s j = true) :
    srcClrWrite l s = deny s .tripPersist := by
  have hany : l.any (causeActive s) = true := List.any_eq_true.mpr hcause
  simp only [srcClrWrite, hopen, hany, Bool.false_and, Bool.false_eq_true, if_false, if_true]

section
variable {port : Port} {b : Bool} {v : Word} {s : State}

theorem gives_srcClr_of_inactive (hadm : Admits s port (if b then ProtSrc.SRC_CLR1 else ProtSrc.SRC_CLR0)) (hopen : lockedOut s = false)
    (hcause : ∀ j ∈ clrSources b v, causeActive s j = false) : Gives (.srcClr port b v) s (fun t =>
      (∀ j ∈ clrSources b v, isLatched t j = false) ∧ (∀ j, j ∉ clrSources b v → isLatched t j = isLatched s j) ∧
      PageFrame [Trip.page, Ch.page, Grp.page, Prot.page, ProtSrc.page, Sec.page] s t) := by
  obtain ⟨due, hdue, hop⟩ := srcClrWrite_of_inactive hopen hcause
  refine gives_gated_prot rfl hadm hop (fun u hregs hmem hprot => ?_)
  have hlatched : ∀ j, isLatched u j = (isLatched s j && !(clrSources b v).contains j) := fun j =>
    (isLatched_congr (congrArg settled hprot) j).trans (isLatched_cleared s hdue j)
  refine ⟨fun j hj => ?_, fun j hj => ?_, pageFrame_congr (pageFrame_of_elsewhere (elsewhere_cleared _ due s (by decide))) hregs hmem⟩
  · simp [hlatched, hj]
  · simp [hlatched, hj]

theorem gives_srcClr_of_active (hadm : Admits s port (if b then ProtSrc.SRC_CLR1 else ProtSrc.SRC_CLR0)) (hopen : lockedOut s = false)
    (hcause : ∃ j ∈ clrSources b v, causeActive s j = true) : Gives (.srcClr port b v) s (fun t =>
      fld (t.rd (hERRINFO ProtSrc.page)) 31 24 = 8 ∧ Frame (hERRINFO ProtSrc.page :: irqRegs ProtSrc.page) s t) := by
  have hgated := gated_of_deny (v := v) hadm (srcClrWrite_of_active hopen hcause) (by decide)
  have hhome : ∀ b : Bool, isMapped (if b then ProtSrc.SRC_CLR1 else ProtSrc.SRC_CLR0) = true ∧
      homePage (if b then ProtSrc.SRC_CLR1 else ProtSrc.SRC_CLR0) = ProtSrc.page := by decide
  have hpage : refusalPage port (if b then ProtSrc.SRC_CLR1 else ProtSrc.SRC_CLR0) .tripPersist s = ProtSrc.page := by
    simp [refusalPage, hhome b]
  obtain ⟨hcode, -⟩ := fields_errinfo_refuseAt s ProtSrc.page port .tripPersist ((if b then ProtSrc.SRC_CLR1 else ProtSrc.SRC_CLR0) % 4096)
  have hframe := frame_hidden (frame_refuseAt s ProtSrc.page port .tripPersist ((if b then ProtSrc.SRC_CLR1 else ProtSrc.SRC_CLR0) % 4096))
    (debugNote_regs port .tripPersist 0 _) (debugNote_mem ..)
  refine ⟨_, congrArg Host.Outcome.next (congrArg Prod.fst hgated), ?_⟩
  rw [recordRefusal, hpage]
  refine ⟨?_, hframe⟩
  rw [State.rd_congr (debugNote_regs ..)]
  exact hcode

end

/-! ### The automatic retry (R276) -/

/-- WAIT has run out for a recoverable source whose cause is inactive: it clears. -/
theorem retryWait_eq {n : Nat} {s : State} {l : Latch} (hn : n < 46)
    (hl : s.prot.lats.find? (fun l => decide (l.src = n)) = some l) (hrec : s.rdB (ProtSrc.SRC_CFG n) 2 = true) (hopen : lockedOut s = false)
    (hmay : n ∉ s.prot.noRetry) (hcause : causeActive s n = false) :
    retryWait n s = retryClear n (s.reach (l.at_ + s.rdF Prot.RETRY_CFG 23 8 * 800000)) := by
  have hlater : ∀ t, causeActive (s.reach t) n = false := fun _ => hcause
  have hn46 : n ≠ 46 := by omega
  have hn47 : ¬ 47 ≤ n := by omega
  simp only [retryWait, hl]
  simp [hrec, hopen, hmay, hlater, hn46, hn47]

theorem gives_retryWaitExpiry {n : Nat} {s : State} {l : Latch} (hn : n < 46)
    (hl : s.prot.lats.find? (fun l => decide (l.src = n)) = some l) (hrec : s.rdB (ProtSrc.SRC_CFG n) 2 = true) (hopen : lockedOut s = false)
    (hmay : n ∉ s.prot.noRetry) (hcause : causeActive s n = false) : Gives (.retryWaitExpiry n) s (fun t =>
      isLatched t n = false ∧ l.at_ + s.rdF Prot.RETRY_CFG 23 8 * 800000 ≤ t.now ∧ ∀ a, t.rdByte a = s.rdByte a) := by
  refine ⟨retryWait n s, rfl, ?_⟩
  rw [retryWait_eq hn hl hrec hopen hmay hcause]
  generalize hs1 : s.reach (l.at_ + s.rdF Prot.RETRY_CFG 23 8 * 800000) = s1
  have hout := outside_retryClear s1 n
  refine ⟨by simp [isLatched_retryClear], ?_, fun a => rdByte_congr ((mem_of_outside hout).trans (hs1 ▸ rfl)) a⟩
  have hnow : (retryClear n s1).now = s1.now := congrArg Outside.now hout
  rw [hnow, ← hs1]
  exact Nat.le_max_right ..

/-! ### LOCKOUT_CLR (R277) -/

/-- Lock-out and source 47, its latch, have ended. -/
def unlocked (s : State) : State := clearLatches [47] (protBit 2 false s)

/-- With its key, under the open LOCK and with no cause of a latch active, LOCKOUT_CLR ends lock-out and forgets the tries. -/
theorem lockoutClrWrite_eq {s : State} (hlock : lockOpen s Prot.page = true) (hout : lockedOut s = true)
    (hcause : ∀ l ∈ s.prot.lats, causeActive s l.src = false) : ∃ x : ProtState,
      lockoutClrWrite 0x50524F54 s = accept { unlocked s with prot := x } ∧ x.lats = (unlocked s).prot.lats ∧ x.tries = [] := by
  have hnone : s.prot.lats.any (fun l => causeActive s l.src) = false := by simpa using hcause
  simp only [lockoutClrWrite, hlock, hout, hnone, Bool.not_true, Bool.false_eq_true, ne_eq, not_true_eq_false, if_false]
  exact ⟨_, rfl, rfl, rfl⟩

theorem unlocked_effect (s : State) : lockedOut (unlocked s) = false ∧ isLatched (unlocked s) 47 = false ∧ (unlocked s).mem = s.mem := by
  have hflag : flag 2 (unlocked s) = flag 2 (s.wrB (hSTATUS Prot.page) 2 false) :=
    (flag_clearLatches (by decide) _ _).trans (shown_protBit (shown_flag (by decide)) s 2 false)
  refine ⟨hflag.trans (rdB_wrB_self s _ (by decide) false), ?_, mem_of_outside ((outside_clearLatches _ _).trans (outside_protBit ..))⟩
  simp [unlocked, isLatched_clearLatches]

theorem gives_lockoutClr {port : Port} {s : State} (hadm : Admits s port Prot.LOCKOUT_CLR) (hlock : lockOpen s Prot.page = true)
    (hout : lockedOut s = true) (hcause : ∀ l ∈ s.prot.lats, causeActive s l.src = false) : Gives (.lockoutClr port 0x50524F54) s (fun t =>
      lockedOut t = false ∧ isLatched t 47 = false ∧ t.prot.tries = [] ∧ ∀ a, t.rdByte a = s.rdByte a) := by
  obtain ⟨x, hop, hlats, htries⟩ := lockoutClrWrite_eq hlock hout hcause
  obtain ⟨hopen, hclear, hmem'⟩ := unlocked_effect s
  refine gives_gated_prot rfl hadm hop (fun u hregs hmem hprot => ⟨?_, ?_, (congrArg ProtState.tries hprot).trans htries,
    rdByte_congr (hmem.trans hmem')⟩)
  · rw [lockedOut, State.rdB, State.rd_congr hregs]
    exact hopen
  · rw [isLatched, hprot]
    exact (congrArg (fun l : List Latch => l.any (fun k => decide (k.src = 47))) hlats).trans hclear

/-! ### The statement -/

/-- Settles O51, clause by clause: a comparator by what latching and clearing leave of its register, the clears by what they leave of the
list of latches. -/
theorem squallSourcesLatchAndClear : Obligations.SquallSourcesLatchAndClear := by
  intro port k n b v s
  refine ⟨?comparator, fun hadm hopen => ⟨gives_srcClr_of_inactive hadm hopen, gives_srcClr_of_active hadm hopen⟩,
    fun l hn hl hrec hopen hmay => gives_retryWaitExpiry hn hl hrec hopen hmay, gives_lockoutClr⟩
  rintro above below hk rfl rfl i hi
  have hexec : exec i s = .next (comparatorInput k n s) := by
    obtain rfl | rfl : i = .comparatorTrip k n ∨ i = .comparatorOutputReturn { k := k, code := n } := by
      simpa only [List.mem_cons, List.not_mem_nil, or_false] using hi
    · rfl
    · rfl
  have hstat := linked_comparatorInput (k := k) n s (linked_cmpStat hk)
  have hout := linked_comparatorInput (k := k) n s linked_outside
  refine ⟨_, hexec, hstat.trans (State.rd_wr_self ..), isLatched_comparatorInput n s hk, rdByte_congr (mem_of_outside (hout.trans ?_))⟩
  exact outside_wr_of_page s _ (by rw [cmpStat_page hk]; decide)

end Sys2Proof.Laws.Squall
end

section
/-! PROOFS. Protection of the DC link: arming, the chopper's response, escalation, a stale voltage and active discharge (R278-R289). -/

namespace Sys2Proof.Laws.LinkProtection
open Sys2Proof.Machine Sys2Proof.Safety Sys2Proof.Laws.Fabric Sys2Proof.Laws.Frames Sys2Proof.Laws.Protection
open Sys2Proof.Laws.GateLinks Sys2Proof.Laws.GateReports Sys2Proof.Laws.ProtDisplay

/-! ### Parts that the reactions of the DC link leave alone -/

/-- A part of the state that resolving the channels, the display of protection and events leave alone. -/
structure Steady {α : Type} (part : State → α) : Prop extends Resolved part, Shown part where
  emit : ∀ s c p k o d, part (s.emit c p k o d) = part s

/-- The pages on which a reaction of the DC link shows. -/
abbrev linkPages : List Nat := [Prot.page, ProtSrc.page, Ch.page, Grp.page, Sec.page]

theorem steady_elsewhere {ps : List Nat} (hps : linkPages ⊆ ps) : Steady (elsewhere ps) where
  toResolved := resolved_elsewhere (fun _ h => hps ((by decide : [Ch.page, Grp.page] ⊆ linkPages) h))
  toShown := shown_elsewhere (fun _ h => hps ((by decide : [Prot.page, ProtSrc.page, Sec.page] ⊆ linkPages) h))
  emit _ _ _ _ _ _ := rfl

theorem steady_flag {i : Nat} (hi : i ∈ keptFlags) : Steady (flag i) where
  toResolved := resolved_flag i
  toShown := shown_flag hi
  emit _ _ _ _ _ _ := rfl

theorem steady_latched : Steady latched where
  toResolved := resolved_latched
  toShown := shown_latched
  emit _ _ _ _ _ _ := rfl

theorem steady_disStat : Steady (fun s => s.rd Prot.DIS_STAT) where
  toResolved := resolved_rd (by decide)
  toShown := shown_rd (by decide)
  emit s c p k o d := State.rd_emit s c p k o _ d

section
variable {α : Type} {part : State → α} (h : Steady part) (s : State)
include h

theorem steady_protShow : part (protShow s) = part s := shown_protShow h.toShown s

theorem steady_addForce (f : Force) : part (addForce f s) = part s := resolved_addForce h.toResolved s f

theorem steady_dropForce (tag : ForceTag) (id : Nat) : part (dropForce tag id s) = part s := resolved_dropForce h.toResolved s tag id

theorem steady_emitPage (c : EvClass) (p k o : Nat) : part (emitPage c p k o s) = part s := h.emit ..

/-- Of a discharge that runs by a method, such a part sees DIS_STAT at most. -/
theorem steady_disMethod (m : Nat) : part (disMethod m s) = part (s.wr Prot.DIS_STAT (word (1 + at' m 2))) := by
  simp only [disMethod, apply_ite part, steady_protShow h, steady_addForce h, steady_dropForce h, ite_self]

/-- Of the end of a discharge, it sees DIS_STAT at most. -/
theorem steady_disEnd (code : Nat) : part (disEnd code s) =
    part (s.wr Prot.DIS_STAT (word (code + at' (s.rdF Prot.DIS_STAT 3 2) 2 + at' (disElapsed s) 16))) := by
  simp only [disEnd, apply_ite part, steady_emitPage h, steady_protShow h, steady_dropForce h, ite_self]

/-- Of CHOP_FAULT, it sees the bit of STATUS and DIS_STAT at most. -/
theorem steady_setChopFault (hdis : ∀ t v, part (t.wr Prot.DIS_STAT v) = part t) :
    part (setChopFault s) = if chopFault s then part s else part (s.wrB (hSTATUS Prot.page) 4 true) := by
  simp only [setChopFault, apply_ite part, steady_disMethod h, hdis, steady_emitPage h, steady_protShow h, steady_addForce h,
    steady_dropForce h, shown_protBit h.toShown, ite_self]

end

theorem elsewhere_setChopFault (s : State) : elsewhere linkPages (setChopFault s) = elsewhere linkPages s := by
  rw [steady_setChopFault (steady_elsewhere (List.Subset.refl linkPages)) s (fun t v => elsewhere_wr t v (by decide))]
  split
  · rfl
  · exact elsewhere_wrB s _ _ (by decide)

/-- CHOP_FAULT stands after it latches. -/
theorem chopFault_setChopFault (s : State) : chopFault (setChopFault s) = true := by
  have hflag : chopFault (setChopFault s) = if chopFault s then flag 4 s else flag 4 (s.wrB (hSTATUS Prot.page) 4 true) :=
    steady_setChopFault (steady_flag (by decide)) s (fun t v => flag_wr 4 t v (by decide))
  rw [hflag]
  split
  · next h => exact h
  · exact rdB_wrB_self s _ (by decide) true

theorem latched_setChopFault (s : State) : latched (setChopFault s) = latched s := by
  rw [steady_setChopFault steady_latched s (fun t v => congrArg settled (State.wr_prot t _ v))]
  split
  · rfl
  · exact congrArg settled (State.wrB_prot ..)

/-! ### Arming (R289) -/

section
variable {port : Port} {v : Word} {s : State}

theorem armWrite_arms (hv : bit v 0 = true) (hsel : s.rdB Prot.DCL_CFG 15 = true)
    (hsrc : (srcNow s (s.rdF Prot.DCL_CFG 11 0)).valid = true) (hlev : levelsOk (levels s) = true)
    (hchop : (chopChans s).isEmpty = false → s.rdB Prot.CHOP_CFG 4 = true ∨ F.pos (s.rd Prot.CHOP_DV) = true) (hlat : anyLatched s = false) :
    armWrite v s = accept (protShow (setReady 5 true ((s.wr Prot.CTRL 1).stampNow ProtTel.VDC_MIN))) := by
  have hresp : (!(chopChans s).isEmpty && !s.rdB Prot.CHOP_CFG 4 && !F.pos (s.rd Prot.CHOP_DV)) = false := by
    cases hch : (chopChans s).isEmpty with
    | true => rfl
    | false => rcases hchop hch with h | h <;> simp [h]
  simp [armWrite, hv, hsel, hsrc, hlev, hresp, hlat]

theorem gives_arm (hadm : Admits s port Prot.CTRL) (hop : armWrite v s =
      accept (protShow (setReady 5 true ((s.wr Prot.CTRL 1).stampNow ProtTel.VDC_MIN)))) : Gives (.protArm port v) s (fun t =>
      armed t = true ∧ PageFrame [Prot.page, ProtSrc.page, Bup.page, Sec.page] s t) := by
  refine gives_gated_prot rfl hadm hop (fun u hregs hmem _ => ⟨?_, pageFrame_congr (pageFrame_of_elsewhere ?_) hregs hmem⟩)
  · rw [armed, State.rdB, State.rd_congr hregs, shown_protShow (shown_rd (by decide)), setReady, State.rd_wrB, if_neg (by decide),
      State.rd_stampNow, State.rd_wr_self]
    decide
  · rw [shown_protShow (shown_elsewhere (by decide)), setReady, elsewhere_wrB _ _ _ (by decide)]
    exact elsewhere_wr s (a := Prot.CTRL) 1 (by decide)

/-- Protection without its level and age bits, as it stands when it disarms. -/
def disarmed (s : State) : State :=
  ((setReady 5 false (s.wr Prot.CTRL 0)).wrB (hSTATUS Prot.page) 7 false).wrB (hSTATUS Prot.page) 9 false

theorem armWrite_disarms (hv : bit v 0 = false) (hidle : ∀ t, t < 8 → tbRun s t = false ∨ tbDrives s t = false) :
    armWrite v s = accept (protShow (dropForce .chopper 0 (disarmed s))) := by
  have hnone : (List.range 8).any (fun t => tbRun s t && tbDrives s t) = false := by
    rw [List.any_eq_false]
    intro t ht
    rcases hidle t (List.mem_range.mp ht) with h | h <;> simp [h]
  simp only [armWrite, hv, hnone, Bool.false_eq_true, if_false]
  rfl

theorem gives_disarm (hadm : Admits s port Prot.CTRL) (hv : bit v 0 = false)
    (hidle : ∀ t, t < 8 → tbRun s t = false ∨ tbDrives s t = false) : Gives (.protArm port v) s (fun t =>
      armed t = false ∧ PageFrame [Prot.page, ProtSrc.page, Bup.page, Ch.page, Grp.page, Sec.page] s t) := by
  refine gives_gated_prot rfl hadm (armWrite_disarms hv hidle)
    (fun u hregs hmem _ => ⟨?_, pageFrame_congr (pageFrame_of_elsewhere ?_) hregs hmem⟩)
  · have hctrl : (disarmed s).rd Prot.CTRL = 0 := by
      rw [disarmed, State.rd_wrB, if_neg (by decide), State.rd_wrB, if_neg (by decide), setReady, State.rd_wrB, if_neg (by decide),
        State.rd_wr_self]
    rw [armed, State.rdB, State.rd_congr hregs, shown_protShow (shown_rd (by decide)), resolved_dropForce (resolved_rd (by decide)), hctrl]
    decide
  · have hsteady : Steady (elsewhere [Prot.page, ProtSrc.page, Bup.page, Ch.page, Grp.page, Sec.page]) := steady_elsewhere (by decide)
    rw [steady_protShow hsteady, steady_dropForce hsteady, disarmed, elsewhere_wrB _ _ _ (by decide), elsewhere_wrB _ _ _ (by decide),
      setReady, elsewhere_wrB _ _ _ (by decide)]
    exact elsewhere_wr s _ (by decide)

end

/-! ### The chopper's response (R281) -/

/-- A window of the comparator's response that ends without one latches CHOP_FAULT where the voltage response is not in use. -/
theorem gives_chopResponseTimeout {s : State} {x : Nat} (hwin : s.prot.chopAt = some x) (hseen : s.prot.chopSeen = false)
    (hcmp : s.rdB Prot.CHOP_CFG 4 = true) (hdv : F.pos (s.rd Prot.CHOP_DV) = false) : Gives .chopResponseTimeout s (fun t =>
      chopFault t = true ∧ x + s.rdF Prot.CHOP_CFG 23 16 * 800 ≤ t.now ∧
        PageFrame [Prot.page, ProtSrc.page, Ch.page, Grp.page, Sec.page] s t) := by
  have hop : chopTimeout s = setChopFault (s.reach (x + s.rdF Prot.CHOP_CFG 23 16 * 800)) := by
    have hcmp' : ∀ t, (s.reach t).rdB Prot.CHOP_CFG 4 = true := fun _ => hcmp
    simp [chopTimeout, hwin, hseen, hcmp', hdv]
  have hnow : ∀ t, (setChopFault t).now = t.now := fun t => congrArg Outside.now (outside_setChopFault t)
  refine ⟨chopTimeout s, rfl, ?_⟩
  rw [hop]
  refine ⟨chopFault_setChopFault _, ?_, pageFrame_of_elsewhere (elsewhere_setChopFault _)⟩
  rw [hnow]
  exact Nat.le_max_right ..

/-- The state with the pin of chopper channel `k` active or not, before protection looks at it. -/
def pinSeen (k : Nat) (active : Bool) (s : State) : State :=
  { s with prot := { s.prot with chflt :=
      if active then s.prot.chflt.filter (fun x => decide (x ≠ k)) ++ [k] else s.prot.chflt.filter (fun x => decide (x ≠ k)) } }

theorem chfltInput_eq (k : Nat) (active : Bool) (s : State) : chfltInput k active s = chfltCheck (pinSeen k active s) := rfl

/-- An active pin of a chopper in use latches CHOP_FAULT while the pins are watched. -/
theorem gives_chfltActive {k : Nat} {s : State} (hwatch : s.rdB Prot.CHOP_CFG 24 = true) (huse : s.rdB Prot.CHOP_CFG k = true) :
    Gives (.chfltInput k true) s (fun t => chopFault t = true ∧ k ∈ t.prot.chflt ∧
      PageFrame [Prot.page, ProtSrc.page, Ch.page, Grp.page, Sec.page] s t) := by
  have hpin : k ∈ (pinSeen k true s).prot.chflt := by simp [pinSeen]
  have hop : chfltInput k true s = setChopFault (pinSeen k true s) := by
    rw [chfltInput_eq, chfltCheck, if_pos]
    exact Bool.and_eq_true_iff.mpr ⟨hwatch, List.any_eq_true.mpr ⟨k, hpin, huse⟩⟩
  refine ⟨chfltInput k true s, rfl, ?_⟩
  rw [hop]
  obtain ⟨-, -, hchflt⟩ := lists_of_latched (latched_setChopFault (pinSeen k true s))
  exact ⟨chopFault_setChopFault _, hchflt ▸ hpin, pageFrame_of_elsewhere (elsewhere_setChopFault _)⟩

/-- A pin that is inactive again leaves CHOP_FAULT alone where no other pin in use is active. -/
theorem gives_chfltInactive {k : Nat} {s : State}
    (hnone : s.rdB Prot.CHOP_CFG 24 = false ∨ ∀ j ∈ s.prot.chflt, j ≠ k → s.rdB Prot.CHOP_CFG j = false) :
    Gives (.chfltInput k false) s (fun t => k ∉ t.prot.chflt ∧ Frame [] s t) := by
  have hquiet : ((pinSeen k false s).rdB Prot.CHOP_CFG 24 &&
      (pinSeen k false s).prot.chflt.any (fun j => (pinSeen k false s).rdB Prot.CHOP_CFG j)) = false := by
    rcases hnone with h | h
    · exact Bool.and_eq_false_iff.mpr (.inl h)
    · refine Bool.and_eq_false_iff.mpr (.inr (List.any_eq_false.mpr fun j hj => ?_))
      obtain ⟨hmem, hne⟩ := List.mem_filter.mp hj
      exact Bool.not_eq_true _ ▸ h j hmem (of_decide_eq_true hne)
  have hop : chfltInput k false s = pinSeen k false s := by
    rw [chfltInput_eq, chfltCheck, hquiet, if_neg Bool.false_ne_true]
  refine ⟨chfltInput k false s, rfl, ?_⟩
  rw [hop]
  exact ⟨by simp [pinSeen], frame_of_regs_mem rfl rfl⟩

/-! ### Escalation (R282, R283) -/

theorem flag_protAsc {i : Nat} (hi : i ∈ keptFlags) (tag : ForceTag) (m : Nat) (s : State) : flag i (protAsc tag m s) = flag i s := by
  have hstart : flag i (ascStart m s) = flag i s := by
    unfold ascStart
    split <;> rfl
  have hprot : ∀ t x, flag i { t with prot := x } = flag i t := fun _ _ => rfl
  have hsteady := steady_flag hi
  simp (disch := decide) only [protAsc, apply_ite (flag i), steady_protShow hsteady, steady_addForce hsteady, steady_emitPage hsteady,
    shown_pulse hsteady.toShown, hprot, hstart, ite_self]

/-- Step 2 of the escalation stands after it is taken. -/
theorem escAsc_escStep2 (s : State) : escAsc (escStep2 s) = true := by
  have hsteady := steady_flag (i := 6) (by decide)
  have hmach : ∀ t m, flag 6 (if !State.rdB t Prot.ESC_CFG m then t
      else if t.rdF (Foc.CFG m) 1 0 = 0 then protAsc .escalation m t
      else protShow (addForce (blockForce t 3 2 .escalation m) t)) = flag 6 t := by
    simp only [apply_ite (flag 6), flag_protAsc (i := 6) (by decide), steady_protShow hsteady, steady_addForce hsteady, ite_self,
      implies_true]
  unfold escStep2
  split
  · next h => exact h
  · refine (foldl_keeps (flag 6) hmach _ (protBit 6 true s)).trans ?_
    rw [shown_protBit hsteady.toShown]
    exact rdB_wrB_self s _ (by decide) true

/-- ESC_TIME, which began at `x`, has run out. -/
def escRunOut (x : Nat) (s : State) : State :=
  let t := s.reach (x + s.rdF Prot.ESC_CFG 31 16 * 80000)
  { t with prot := { t.prot with escAt := none } }

theorem escTimeout_eq {s : State} {x : Nat} (hat : s.prot.escAt = some x) (hesc : escalated s = true)
    (hlink : F.le (s.rd Prot.OV1_OFF) (dcl s).value = true) : escTimeout s = escStep2 (escRunOut x s) := by
  unfold escTimeout
  rw [hat]
  exact if_pos (Bool.and_eq_true_iff.mpr ⟨hesc, hlink⟩)

theorem gives_escTimeExpiry {s : State} {x : Nat} (hat : s.prot.escAt = some x) (hesc : escalated s = true)
    (hlink : F.le (s.rd Prot.OV1_OFF) (dcl s).value = true) : Gives .escTimeExpiry s (fun t =>
      escAsc t = true ∧ x + s.rdF Prot.ESC_CFG 31 16 * 80000 ≤ t.now ∧ ∀ a, t.rdByte a = s.rdByte a) := by
  have hout := outside_escStep2 (escRunOut x s)
  have hnow : (escStep2 (escRunOut x s)).now = (escRunOut x s).now := congrArg Outside.now hout
  have hmem : (escStep2 (escRunOut x s)).mem = s.mem := (mem_of_outside hout).trans rfl
  refine ⟨escTimeout s, rfl, ?_⟩
  rw [escTimeout_eq hat hesc hlink]
  refine ⟨escAsc_escStep2 _, ?_, rdByte_congr hmem⟩
  rw [hnow]
  exact Nat.le_max_right ..

/-- STATUS without chopper fault and escalation. -/
def escFlagless (s : State) : State :=
  ((s.wrB (hSTATUS Prot.page) 4 false).wrB (hSTATUS Prot.page) 5 false).wrB (hSTATUS Prot.page) 6 false

/-- Chopper fault and escalation no longer stand, before the forced states they asked for are released. -/
def escCleared (s : State) : State := { escFlagless s with prot := { (escFlagless s).prot with escAt := none } }

theorem flags_escCleared (s : State) : ∀ i ∈ [4, 5, 6], flag i (escCleared s) = false := by
  have hself : ∀ (t : State) i, i < 32 → (t.wrB (hSTATUS Prot.page) i false).rdB (hSTATUS Prot.page) i = false := fun t i hi =>
    rdB_wrB_self t _ hi false
  have hflag : ∀ i, flag i (escCleared s) = (escFlagless s).rdB (hSTATUS Prot.page) i := fun _ => rfl
  intro i hi
  rw [hflag, escFlagless]
  obtain rfl | rfl | rfl : i = 4 ∨ i = 5 ∨ i = 6 := by
    simpa only [List.mem_cons, List.not_mem_nil, or_false] using hi
  all_goals simp (disch := decide) only [rdB_wrB_ne, hself]

theorem elsewhere_escCleared {ps : List Nat} (s : State) (hps : Prot.page ∈ ps) : elsewhere ps (escCleared s) = elsewhere ps s := by
  have hflagless : elsewhere ps (escCleared s) = elsewhere ps (escFlagless s) := rfl
  have hpage : pageOf (hSTATUS Prot.page) ∈ ps := hps
  rw [hflagless, escFlagless, elsewhere_wrB _ _ _ hpage, elsewhere_wrB _ _ _ hpage, elsewhere_wrB _ _ _ hpage]

/-- The forced states of CHOP_FAULT and of the escalation are released, and the display follows. -/
def escReleased (s : State) : State :=
  protShow ((List.range 4).foldl (fun t m => dropForce .escalation m t) (dropForce .chopFault 0 (escCleared s)))

theorem steady_escReleased {α : Type} {part : State → α} (h : Steady part) (s : State) : part (escReleased s) = part (escCleared s) :=
  (steady_protShow h _).trans ((foldl_keeps part (fun t m => steady_dropForce h t .escalation m) _ _).trans (steady_dropForce h ..))

theorem escClrWrite_eq {v : Word} {s : State} (hv : bit v 0 = true) (hpins : s.prot.chflt = [])
    (hlink : F.le (s.rd Prot.OV1_OFF) (dcl s).value = false) : escClrWrite v s = accept (escReleased s) := by
  simp only [escClrWrite, hv, hpins, hlink, Bool.not_true, List.isEmpty_nil, Bool.or_self, Bool.false_eq_true, if_false]
  rfl

theorem gives_escClr {port : Port} {v : Word} {s : State} (hadm : Admits s port Prot.ESC_CLR) (hv : bit v 0 = true)
    (hpins : s.prot.chflt = []) (hlink : F.le (s.rd Prot.OV1_OFF) (dcl s).value = false) : Gives (.escClr port v) s (fun t =>
      chopFault t = false ∧ escalated t = false ∧ escAsc t = false ∧
        PageFrame [Prot.page, ProtSrc.page, Ch.page, Grp.page, Sec.page] s t) := by
  refine gives_gated_prot rfl hadm (escClrWrite_eq hv hpins hlink) (fun u hregs hmem _ => ?_)
  have hflag : ∀ i ∈ [4, 5, 6], flag i u = false := fun i hi => by
    have hsame : flag i u = flag i (escReleased s) := by rw [flag, flag, State.rdB, State.rdB, State.rd_congr hregs]
    rw [hsame, steady_escReleased (steady_flag ((by decide : [4, 5, 6] ⊆ keptFlags) hi)), flags_escCleared s i hi]
  have hpages := (steady_escReleased (steady_elsewhere (List.Subset.refl linkPages)) s).trans (elsewhere_escCleared s (by decide))
  exact ⟨hflag 4 (by decide), hflag 5 (by decide), hflag 6 (by decide), pageFrame_congr (pageFrame_of_elsewhere hpages) hregs hmem⟩

/-! ### A stale voltage (R280) -/

theorem gives_dclStaleTimeout {s : State} (harmed : armed s = true) : Gives .dclStaleTimeout s (fun t =>
    t.rdB (hSTATUS Prot.page) 9 = true ∧ (dcl s).at_ + 80000 ≤ t.now ∧ PageFrame [Prot.page, ProtSrc.page, Sec.page] s t) := by
  refine ⟨dclTimeout s, rfl, ?_⟩
  rw [dclTimeout, if_pos harmed]
  generalize hs1 : s.reach ((dcl s).at_ + 80000) = s1
  have harmed' : armed s1 = true := hs1 ▸ harmed
  have hnow : (dclStale s1).now = s1.now := congrArg Outside.now (outside_dclStale s1)
  have hpages : PageFrame [Prot.page, ProtSrc.page, Sec.page] s s1 := hs1 ▸ ⟨fun _ _ => rfl, fun _ => rfl⟩
  refine ⟨?stale, ?due, pageFrame_trans hpages ?pages⟩
  case due =>
    rw [hnow, ← hs1]
    exact Nat.le_max_right ..
  case stale =>
    unfold dclStale
    split
    · exact (shown_protBit (shown_flag (by decide)) s1 9 true).trans (rdB_wrB_self s1 _ (by decide) true)
    · next h => simpa [harmed'] using h
  case pages =>
    unfold dclStale
    split
    · exact pageFrame_of_elsewhere ((shown_protBit (shown_elsewhere (by decide)) s1 9 true).trans (elsewhere_wrB s1 _ _ (by decide)))
    · exact ⟨fun _ _ => rfl, fun _ => rfl⟩

/-! ### Active discharge (R285, R286) -/

section
variable {s : State}

/-- The fields of DIS_STAT while a discharge runs by a method. -/
theorem fields_disStat {m : Nat} (hm : m < 4) : fld (word (1 + at' m 2)) 1 0 = 1 ∧ fld (word (1 + at' m 2)) 3 2 = m := by
  simp only [fld, word, at', BitVec.toNat_ofNat]
  omega

/-- The code with which a discharge has ended. -/
theorem fld_disEnd {code : Nat} (m e : Nat) (hcode : code < 4) : fld (word (code + at' m 2 + at' e 16)) 1 0 = code := by
  simp only [fld, word, at', BitVec.toNat_ofNat]
  omega

theorem disMethod_effect {m : Nat} (s : State) (hm : m < 4) : discharging (disMethod m s) = true ∧
    (disMethod m s).rdF Prot.DIS_STAT 3 2 = m ∧ PageFrame linkPages s (disMethod m s) := by
  have hstat : (disMethod m s).rd Prot.DIS_STAT = word (1 + at' m 2) := (steady_disMethod steady_disStat s m).trans (State.rd_wr_self ..)
  have hpages := (steady_disMethod (steady_elsewhere (List.Subset.refl _)) s m).trans (elsewhere_wr s _ (by decide))
  obtain ⟨hrun, hmethod⟩ := fields_disStat hm
  refine ⟨?_, ?_, pageFrame_of_elsewhere hpages⟩
  · rw [discharging, State.rdF, hstat, hrun]
    rfl
  · rw [State.rdF, hstat, hmethod]

theorem disEnd_effect {code : Nat} (s : State) (hcode : code < 4) : (disEnd code s).rdF Prot.DIS_STAT 1 0 = code ∧
    (disEnd code s).now = s.now ∧ PageFrame linkPages s (disEnd code s) := by
  have hstat : (disEnd code s).rd Prot.DIS_STAT = word (code + at' (s.rdF Prot.DIS_STAT 3 2) 2 + at' (disElapsed s) 16) :=
    (steady_disEnd steady_disStat s code).trans (State.rd_wr_self ..)
  have hpages := (steady_disEnd (steady_elsewhere (List.Subset.refl _)) s code).trans (elsewhere_wr s _ (by decide))
  refine ⟨?_, congrArg Outside.now (outside_disEnd s code), pageFrame_of_elsewhere hpages⟩
  rw [State.rdF, hstat]
  exact fld_disEnd _ _ hcode

/-- A discharge by the configured method has started. -/
def disStarted (s : State) : State := disMethod (s.rdF Prot.DIS_CFG 1 0) { s with prot := { s.prot with disAt := s.now } }

theorem disStart_eq (hmay : disAllowed s (s.rdF Prot.DIS_CFG 1 0) = true) : disStart s = accept (disStarted s) := by
  simp only [disStart, hmay, if_true, disStarted]

theorem disStarted_effect (s : State) : discharging (disStarted s) = true ∧
    (disStarted s).rdF Prot.DIS_STAT 3 2 = s.rdF Prot.DIS_CFG 1 0 ∧ PageFrame linkPages s (disStarted s) :=
  disMethod_effect { s with prot := { s.prot with disAt := s.now } } (Nat.mod_lt _ (by decide))

theorem disCmdWrite_start (hmay : disAllowed s (s.rdF Prot.DIS_CFG 1 0) = true) : disCmdWrite 1 s = accept (disStarted s) := by
  have hbits : bit (1#32) 0 = true ∧ bit (1#32) 1 = false := by decide
  simp [disCmdWrite, hbits, disStart_eq hmay, accept]

theorem disCmdWrite_stop (hrun : discharging s = true) : disCmdWrite 2 s = accept (disEnd 0 s) := by
  have hbits : bit (2#32) 0 = false ∧ bit (2#32) 1 = true := by decide
  simp [disCmdWrite, hbits, accept, hrun]

theorem gives_disStart {port : Port} (hadm : Admits s port Prot.DIS_CMD) (hmay : disAllowed s (s.rdF Prot.DIS_CFG 1 0) = true) :
    Gives (.disStart port) s (fun t => discharging t = true ∧ t.rdF Prot.DIS_STAT 3 2 = s.rdF Prot.DIS_CFG 1 0 ∧
      PageFrame [Prot.page, ProtSrc.page, Ch.page, Grp.page, Sec.page] s t) := by
  obtain ⟨hrun, hmethod, hpages⟩ := disStarted_effect s
  refine gives_gated_prot rfl hadm (disCmdWrite_start hmay) (fun u hregs hmem _ => ⟨?_, ?_, pageFrame_congr hpages hregs hmem⟩)
  · rw [discharging, State.rdF, State.rd_congr hregs]
    exact hrun
  · rw [State.rdF, State.rd_congr hregs]
    exact hmethod

theorem gives_disStop {port : Port} (hadm : Admits s port Prot.DIS_CMD) (hrun : discharging s = true) : Gives (.disStop port) s (fun t =>
    t.rdF Prot.DIS_STAT 1 0 = 0 ∧ PageFrame [Prot.page, ProtSrc.page, Ch.page, Grp.page, Sec.page] s t) := by
  obtain ⟨hcode, -, hpages⟩ := disEnd_effect (code := 0) s (by decide)
  refine gives_gated_prot rfl hadm (disCmdWrite_stop hrun) (fun u hregs hmem _ => ⟨?_, pageFrame_congr hpages hregs hmem⟩)
  rw [State.rdF, State.rd_congr hregs]
  exact hcode

theorem gives_disTimeout (hrun : discharging s = true) : Gives .disTimeout s (fun t =>
    t.rdF Prot.DIS_STAT 1 0 = 3 ∧ s.prot.disAt + 1600000000 ≤ t.now ∧
      PageFrame [Prot.page, ProtSrc.page, Ch.page, Grp.page, Sec.page] s t) := by
  refine ⟨disTimeout s, rfl, ?_⟩
  rw [disTimeout, if_pos hrun]
  obtain ⟨hcode, hnow, hpages⟩ := disEnd_effect (code := 3) (s.reach (s.prot.disAt + 1600000000)) (by decide)
  refine ⟨hcode, ?_, hpages⟩
  rw [hnow]
  exact Nat.le_max_right ..

theorem gives_kfbOpenTimeout (hen : s.rdB Prot.DIS_CFG 3 = true) (hidle : discharging s = false)
    (hmay : disAllowed s (s.rdF Prot.DIS_CFG 1 0) = true) : Gives .kfbOpenTimeout s (fun t =>
      discharging t = true ∧ PageFrame [Prot.page, ProtSrc.page, Ch.page, Grp.page, Sec.page] s t) := by
  have hop : kfbOpen s = disStarted s := by
    rw [kfbOpen, if_pos (by simp [hen, hidle]), disStart_eq hmay]
    rfl
  obtain ⟨hrun, -, hpages⟩ := disStarted_effect s
  refine ⟨kfbOpen s, rfl, ?_⟩
  rw [hop]
  exact ⟨hrun, hpages⟩

end

/-! ### The statement -/

/-- Settles O52, clause by clause: each operation by what it leaves of the bits of STATUS, of DIS_STAT and of the pages it does not name. -/
theorem linkProtectionActsOnTheDcLink : Obligations.LinkProtectionActsOnTheDcLink := by
  intro port k v s
  exact ⟨fun hadm hv hsel hsrc hlev hchop hlat => gives_arm hadm (armWrite_arms hv hsel hsrc hlev hchop hlat), gives_disarm,
    fun x => gives_chopResponseTimeout, fun _ => gives_chfltActive, gives_chfltInactive, fun x => gives_escTimeExpiry, gives_escClr,
    gives_dclStaleTimeout, gives_disStart, gives_disStop, gives_disTimeout, gives_kfbOpenTimeout⟩

end Sys2Proof.Laws.LinkProtection
end

section
/-! PROOFS. The island's account: its own hidden state but for the levels of its outputs, time, the memory windows, the committed parameters and
the registers of its control page. What the rest of the device does when a group of the island changes state leaves the account alone
(R297-R301, R305, R314, R318). -/

namespace Sys2Proof.Laws.IslandAccount
open Sys2Proof.Machine Sys2Proof.Laws.Protection Sys2Proof.Laws.Reactions Sys2Proof.Laws.GateLinks Sys2Proof.Laws.ProtDisplay
open Sys2Proof.Laws.LinkProtection

/-- The address is that of a register of the control page, above its header (R327). -/
abbrev OnControl (a : Nat) : Prop := 0x200040 ≤ a ∧ a < 0x201000

/-- What only the island itself moves. -/
structure Account where
  now : Nat
  mem : List Host.Cell
  isl : IslandState
  committed : List (Nat × Word)
  control : Nat → Word

/-- That part of a state: of the island's hidden state all but the levels of its outputs. -/
def account (s : State) : Account :=
  ⟨s.now, s.mem, { s.isl with stoOff0 := true, stoOff1 := true, brake := true }, s.committed, fun a => if OnControl a then s.rd a else 0⟩

section
variable {s t : State} (h : account t = account s)
include h

theorem now_of_account : t.now = s.now := congrArg Account.now h

theorem mem_of_account : t.mem = s.mem := congrArg Account.mem h

theorem rd_of_account {a : Nat} (ha : OnControl a) : t.rd a = s.rd a := by
  have hreg := congrFun (congrArg Account.control h) a
  simpa only [account, if_pos ha] using hreg

theorem grpState_of_account (g : Nat) : grpState t g = grpState s g := by
  simp only [grpState, State.rdF, rd_of_account h (by decide : OnControl Safe.GRP_STATE)]

theorem sgOf_of_account (g : Nat) : sgOf t g = sgOf s g :=
  congrArg (fun x : Account => KMap.get (fun _ => ({} : SafeGrp)) x.isl.grps g) h

end

/-! ### State operations -/

section
variable (s : State)

theorem account_wr {a : Nat} (v : Word) (ha : ¬OnControl a) : account (s.wr a v) = account s := by
  have hregs : (fun b => if OnControl b then (s.wr a v).rd b else 0) = fun b => if OnControl b then s.rd b else 0 := by
    funext b
    split
    · next hb => exact State.rd_wr_ne s a b v (fun hab => ha (hab ▸ hb))
    · rfl
  simp only [account, hregs, State.wr_now, State.wr_mem, State.wr_isl, State.wr_committed]

theorem account_wrF {a : Nat} (hi lo v : Nat) (ha : ¬OnControl a) : account (s.wrF a hi lo v) = account s := account_wr s _ ha

theorem account_wrB {a : Nat} (i : Nat) (b : Bool) (ha : ¬OnControl a) : account (s.wrB a i b) = account s := account_wr s _ ha

theorem account_raw (p i : Nat) (b : Bool) : account (s.raw p i b) = account s :=
  (account_wr _ _ (by simp only [hIRQ_PEND]; omega)).trans (account_wr s _ (by simp only [hIRQ_RAW]; omega))

theorem account_pulse (p i : Nat) : account (s.pulse p i) = account s := by
  have hraw : ¬OnControl (hIRQ_RAW p) := by simp only [hIRQ_RAW]; omega
  simp only [State.pulse, apply_ite account, account_wr _ _ hraw, account_raw, ite_self]

theorem steady_account : Steady account where
  chan t a v ha := account_wr t v (by
    have hpage : pageOf a = 0x141 ∨ pageOf a = 0x142 := by simpa [Ch.page, Grp.page] using ha
    simp only [pageOf] at hpage
    omega)
  wrL _ _ _ := rfl
  setPwm _ _ := rfl
  wr t a v ha := account_wr t v ((by decide : ∀ b ∈ shownRegs, ¬OnControl b) a ha)
  status t w _ := account_wr t w (by decide)
  setProt _ _ _ := rfl
  emit _ _ _ _ _ _ := rfl

theorem account_resolveNow : account (resolveNow s) = account s := resolved_resolveNow steady_account.toResolved s

theorem account_protShow : account (protShow s) = account s := steady_protShow steady_account s

theorem account_addForce (f : Force) : account (addForce f s) = account s := steady_addForce steady_account s f

theorem account_dropForce (tag : ForceTag) (id : Nat) : account (dropForce tag id s) = account s :=
  steady_dropForce steady_account s tag id

theorem account_wakeOn (k : Nat) : account (wakeOn k s) = account s := by
  simp (disch := decide) only [wakeOn, wake, pwrGo, apply_ite account, account_pulse, account_wr, account_wrB, ite_self]

theorem account_wakeRisen (k p : Nat) (mask : Word) (old : State) : account (wakeRisen k p mask old s) = account s := by
  simp only [wakeRisen, apply_ite account, account_wakeOn, ite_self]

theorem account_setReady (i : Nat) (b : Bool) : account (setReady i b s) = account s := account_wrB s i b (by decide)

theorem account_safeShow : account (safeShow s) = account s := by
  simp only [safeShow, account_wakeRisen, account_raw, account_setReady]

/-! ### The outputs (R28, R240, R297) -/

theorem glStat_notOnControl {n : Nat} (hn : n < 36) : ¬OnControl (GlPos.GL_STAT n) := by
  simp only [GlPos.GL_STAT]
  omega

theorem account_putPos (n : Nat) (x : GlHid) : account (putPos n x s) = account s := rfl

theorem account_setGl {n : Nat} (st : Nat) (hn : n < 36) : account (setGl n st s) = account s := by
  have hstamp : ∀ t a, account (State.stampNow t a) = account t := fun _ _ => rfl
  simp (disch := decide) only [setGl, glLevels, glMasks, updCarry, account_raw, account_wr, apply_ite account, account_putPos,
    account_wrF _ _ _ _ (glStat_notOnControl hn), hstamp, ite_self]

theorem account_allOffFrame {n : Nat} (soft : Bool) (hn : n < 36) : account (allOffFrame n soft s) = account s := by
  simp only [allOffFrame, glFail, apply_ite account, steady_account.emit, account_pulse, account_setGl _ _ hn, account_putPos,
    account_wrF _ _ _ _ (glStat_notOnControl hn), ite_self]

/-- The positions of a group that lose their supply are those of the gate links. -/
theorem stoPositions_lt {g n : Nat} (hn : n ∈ stoPositions s g) : n < 36 := by
  unfold stoPositions at hn
  split at hn
  · simpa using (List.mem_filter.mp hn).2
  · cases hn

theorem account_outputs : account (outputs s) = account s := by
  unfold outputs
  extract_lets n0 n1 chg ps i s1
  have hs1 : account s1 = account s := rfl
  have hframes : ∀ t, account (allOffFrames ps false t) = account t := fun t =>
    foldl_keeps_mem account (fun u n hn => account_allOffFrame u false (by
      rcases List.mem_append.mp hn with h | h
      · split at h
        · exact stoPositions_lt s h
        · cases h
      · split at h
        · exact stoPositions_lt s h
        · cases h)) t
  simp only [account_safeShow, apply_ite account, hframes, account_protShow, account_resolveNow, account_wakeOn, account_pulse, hs1, ite_self]

/-! ### Stop requests (R176, R202, R305) -/

theorem account_disLeftRun (m : Nat) : account (disLeftRun m s) = account s := by
  simp (disch := decide) only [disLeftRun, apply_ite account, steady_disMethod steady_account, steady_disEnd steady_account, account_wr,
    ite_self]

theorem account_endPulse (m : Nat) : account (endPulse m s) = account s := by
  have hput : account (putMach m { machOf s m with pulse := none } s) = account s := rfl
  simp only [endPulse, apply_ite account, account_addForce, hput, ite_self]

theorem account_machGo {m : Nat} (st : Nat) (hm : m < 4) : account (machGo m st s) = account s := by
  have hstate : ¬OnControl (Foc.MSTATE m) := by simp only [Foc.MSTATE]; omega
  have hput : ∀ t x, account (putMach m x t) = account t := fun _ _ => rfl
  have hin : ∀ (t : State) x, account { t with inputs := x } = account t := fun _ _ => rfl
  have hstamp : ∀ t a, account (State.stampNow t a) = account t := fun _ _ => rfl
  simp only [machGo, apply_ite account, account_disLeftRun, hin, hput, account_raw, account_pulse, account_wrF _ _ _ _ hstate, hstamp,
    account_endPulse, ite_self]

theorem account_focStop {m : Nat} (hm : m < 4) : account (focStop m s).1 = account s := by
  simp only [focStop, accept, deny, apply_ite Prod.fst, apply_ite account, account_machGo _ _ hm, ite_self]

theorem account_profGo {ch : Nat} (st : Nat) (hch : ch < 4) : account (profGo ch st s) = account s := by
  have hstate : ¬OnControl (Prof.PSTATE ch) := by simp only [Prof.PSTATE]; omega
  have hstamp : ∀ t a, account (State.stampNow t a) = account t := fun _ _ => rfl
  simp only [profGo, account_raw, account_wrF _ _ _ _ hstate, apply_ite account, hstamp, ite_self]

theorem account_profStop {ch : Nat} (hch : ch < 4) : account (profStop ch s).1 = account s := by
  unfold profStop
  split
  · exact account_profGo s 3 hch
  · rfl
  · rfl

/-- An active short circuit that begins is noted outside the island (R185). -/
theorem account_ascStart (m : Nat) : account (ascStart m s) = account s := by
  unfold ascStart
  split <;> rfl

/-! ### Telegram carriers (R396, R400) -/

theorem account_putBytes {a : Nat} (l : List Nat) (ha : 0x201000 ≤ a) : account (putBytes a l s) = account s :=
  foldl_keeps account (fun t _ => account_wr t _ (by omega)) _ s

theorem account_canDevice (ch o : Nat) (replace : Bool) (l : List Nat) : account (canDevice ch o replace l s).1 = account s := by
  have hobj : ∀ k, ¬OnControl (Obj.OBJ_STAT k) ∧ ¬OnControl (Obj.OBJ_DLC k) ∧ 0x201000 ≤ Obj.OBJ_DATA0 k 0 := fun k => by
    simp only [Obj.OBJ_STAT, Obj.OBJ_DLC, Obj.OBJ_DATA0]
    omega
  obtain ⟨hstat, hdlc, hdata⟩ := hobj (objOf ch o)
  have hcan : ∀ t x, account (putCan ch x t) = account t := fun _ _ => rfl
  simp only [canDevice, objQueue, canKick, apply_ite Prod.fst, apply_ite account, hcan, account_wr _ _ hstat, account_wr _ _ hdlc,
    account_putBytes _ _ hdata, ite_self]

theorem account_macDevice (m i : Nat) (replace : Bool) (l : List Nat) : account (macDevice m i replace l s).1 = account s := by
  have hslot : ¬OnControl (EthTx.SLOT_STAT m i) ∧ ¬OnControl (EthTx.SLOT_LEN m i) ∧ 0x201000 ≤ EthTx.FRAME m i 0 := by
    simp only [EthTx.SLOT_STAT, EthTx.SLOT_LEN, EthTx.FRAME]
    omega
  obtain ⟨hstat, hlen, hframe⟩ := hslot
  simp only [macDevice, apply_ite Prod.fst, apply_ite account, account_wr _ _ hstat, account_wr _ _ hlen, account_putBytes _ _ hframe,
    ite_self]

theorem account_sendCopy (k carrier : Nat) (tel : List Nat) : account (sendCopy k carrier tel s) = account s := by
  simp only [sendCopy, apply_ite account, account_canDevice, account_macDevice, ite_self]

end

end Sys2Proof.Laws.IslandAccount
end

section
/-! PROOFS. The states of the island's groups and its lock-out: what a change of state leaves alone, and what a detected fault latches (R299-R301,
R305, R306, R318, R320). -/

namespace Sys2Proof.Laws.IslandGroups
open Sys2Proof.Machine Sys2Proof.Laws.Fields Sys2Proof.Laws.Resets Sys2Proof.Laws.Protection Sys2Proof.Laws.Reactions
open Sys2Proof.Laws.ProtDisplay Sys2Proof.Laws.IslandAccount

/-! ### Parts that a change of state leaves alone -/

/-- A part of the state that the account decides, but for the states of the groups and their hidden state. -/
structure Ungrouped {α : Type} (part : State → α) : Prop where
  congr : ∀ {s t}, account t = account s → part t = part s
  putSg : ∀ s g x, part (putSg g x s) = part s
  grpState : ∀ s v, part (s.wr Safe.GRP_STATE v) = part s

/-- Such a part that sees nothing of the causes of lock-out either. -/
structure Uncaused {α : Type} (part : State → α) : Prop extends Ungrouped part where
  cause : ∀ s v, part (s.wr Safe.LO_CAUSE v) = part s

/-- Time, the memory windows, and the island's hidden state but for its groups and the levels of its outputs. -/
def bearing (s : State) : Nat × List Host.Cell × IslandState :=
  (s.now, s.mem, { s.isl with grps := [], stoOff0 := true, stoOff1 := true, brake := true })

theorem bearing_of_account {s t : State} (h : account t = account s) : bearing t = bearing s :=
  congrArg (fun x : Account => (x.now, x.mem, { x.isl with grps := [] })) h

theorem uncaused_bearing : Uncaused bearing where
  congr := bearing_of_account
  putSg _ _ _ := rfl
  grpState _ _ := rfl
  cause _ _ := rfl

theorem ungrouped_cause : Ungrouped (fun s => s.rd Safe.LO_CAUSE) where
  congr h := rd_of_account h (by decide)
  putSg _ _ _ := rfl
  grpState s v := State.rd_wr_ne s _ _ v (by decide)

/-! ### Groups -/

section
variable {α : Type} {part : State → α} (h : Ungrouped part) (s : State)
include h

theorem ungrouped_outputs : part (outputs s) = part s := h.congr (account_outputs s)

theorem ungrouped_safeEvent (code obj : Nat) : part (safeEvent code obj s) = part s := h.congr rfl

theorem ungrouped_putGrp (g st : Nat) : part (putGrp g st s) = part s := h.grpState s _

theorem ungrouped_enterStopped (g : Nat) (delay : Bool) : part (enterStopped g delay s) = part s := by
  have hdrop : ∀ t m, part (resolveNow (dropForce .island m t)) = part t := fun t m =>
    h.congr ((account_resolveNow _).trans (account_dropForce t .island m))
  simp only [enterStopped, ungrouped_outputs h, apply_ite part, hdrop, h.putSg, ungrouped_putGrp h, ite_self]

theorem ungrouped_enterSs1 {g : Nat} (hg : g < 2) : part (enterSs1 g s) = part s := by
  have hm : grpMachine s g < 4 := by
    unfold grpMachine
    split <;> omega
  have hstop : part (focStop (grpMachine s g) s).1 = part s := h.congr (account_focStop s hm)
  have hbound : ∀ l : List Nat, (∀ c ∈ l, c < 4) → part (l.foldl (fun t c => (profStop c t).1) s) = part s := fun l hl =>
    foldl_keeps_mem part (fun t c hc => h.congr (account_profStop t (hl c hc))) s
  unfold enterSs1
  extract_lets m bound s1
  have hs1 : part s1 = part s := by
    have hlt : ∀ c ∈ bound, c < 4 := fun c hc => List.mem_range.mp (List.mem_filter.mp hc).1
    simp only [s1, apply_ite part, m, hstop, hbound bound hlt, ite_self]
  simp only [ungrouped_outputs h, ungrouped_putGrp h, h.putSg, hs1]

theorem ungrouped_enterReleased (g : Nat) : part (enterReleased g s) = part s := by
  have hviol : ∀ t i b, part (State.wrB t Safe.GRP_STATE i b) = part t := fun t _ _ => h.grpState t _
  simp only [enterReleased, ungrouped_outputs h, ungrouped_putGrp h, hviol, h.putSg]

theorem ungrouped_enterAsc (g : Nat) : part (enterAsc g s) = part s := by
  have hforce : ∀ t f, part (resolveNow (addForce f t)) = part t := fun t f =>
    h.congr ((account_resolveNow _).trans (account_addForce t f))
  have hstart : ∀ m, part (ascStart m s) = part s := fun m => h.congr (account_ascStart s m)
  simp only [enterAsc, ungrouped_outputs h, ungrouped_putGrp h, h.putSg, hforce, hstart]

theorem ungrouped_violate (g : Nat) : part (violate g s) = part s := by
  have hviol : ∀ t i b, part (State.wrB t Safe.GRP_STATE i b) = part t := fun t _ _ => h.grpState t _
  simp only [violate, apply_ite part, ungrouped_safeEvent h, h.putSg, hviol, ite_self]

theorem ungrouped_sbcStep (g : Nat) : part (sbcStep s g) = part s := by
  unfold sbcStep
  split
  · simp only [apply_ite part, ungrouped_outputs h, h.putSg, ite_self]
  · rfl

theorem ungrouped_transition (j : State) {g : Nat} (hg : g < 2) : part (transition j s g) = part s := by
  simp only [transition, apply_ite part, ungrouped_enterStopped h, ungrouped_safeEvent h, ungrouped_enterSs1 h _ hg,
    ungrouped_enterReleased h, ungrouped_violate h, h.putSg, ite_self]

end

/-! ### The state a group takes -/

theorem grpState_putGrp_self (s : State) {g st : Nat} (hg : g < 2) (hst : st < 16) : grpState (putGrp g st s) g = st := by
  rw [grpState, putGrp, State.rdF, State.rd_wrF, if_pos rfl]
  have hwidth : 4 * g + 3 + 1 - 4 * g = 4 := by omega
  exact fld_setFld_self _ (by omega) (by omega) (by rw [hwidth]; exact hst)

theorem grpState_putGrp_ne (s : State) {g k : Nat} (st : Nat) (hg : g < 2) (hne : k ≠ g) : grpState (putGrp g st s) k = grpState s k := by
  rw [grpState, putGrp, State.rdF, State.rd_wrF, if_pos rfl]
  exact fld_setFld_apart _ (by omega) (by omega) (by omega)

theorem grpState_enterStopped (s : State) {g : Nat} (delay : Bool) (hg : g < 2) (k : Nat) :
    grpState (enterStopped g delay s) k = if k = g then 0 else grpState s k := by
  have hdrop : ∀ t m, grpState (resolveNow (dropForce .island m t)) k = grpState t k := fun t m =>
    grpState_of_account ((account_resolveNow _).trans (account_dropForce t .island m)) k
  have hput : ∀ t x, grpState (putSg g x t) k = grpState t k := fun _ _ => rfl
  have hstate : grpState (enterStopped g delay s) k = grpState (putGrp g 0 s) k := by
    simp only [enterStopped, grpState_of_account (account_outputs _), apply_ite (fun t => grpState t k), hdrop, hput, ite_self]
  rw [hstate]
  split
  · next hk =>
    subst hk
    exact grpState_putGrp_self s hg (by decide)
  · next hk => exact grpState_putGrp_ne s 0 hg hk

/-! ### Lock-out (R320) -/

/-- Is an enabled group stopped by lock-out: not where it follows its own torque monitor's reaction? -/
def lockStops (t : State) (g : Nat) : Bool :=
  decide (grpState t g ≠ 0) && !((sgOf t g).viaTm && decide (grpState t g = 1 ∨ grpState t g = 3))

/-- The causes as a detected fault leaves them. -/
def latchCause (c : Nat) (s : State) : State := (if inLockout s then s else s.wr Safe.LO_CAUSE (word c)).wrB Safe.LO_CAUSE (15 + c) true

theorem lockOut_eq (c : Nat) (s : State) : lockOut c s =
    outputs ([0, 1].foldl (fun t g => if lockStops t g then enterStopped g false t else t) (safeEvent (0x20 + c) 0 (latchCause c s))) := rfl

/-- Of a lock-out a part that no change of state touches sees its cause at most. -/
theorem ungrouped_lockOut {α : Type} {part : State → α} (h : Ungrouped part) (c : Nat) (s : State) :
    part (lockOut c s) = part (latchCause c s) := by
  have hstop : ∀ t g, part (if lockStops t g then enterStopped g false t else t) = part t := by
    simp only [apply_ite part, ungrouped_enterStopped h, ite_self, implies_true]
  rw [lockOut_eq, ungrouped_outputs h, foldl_keeps part hstop, ungrouped_safeEvent h]

theorem uncaused_lockOut {α : Type} {part : State → α} (h : Uncaused part) (c : Nat) (s : State) : part (lockOut c s) = part s := by
  have hbit : ∀ t i, part (State.wrB t Safe.LO_CAUSE i true) = part t := fun t i => h.cause t _
  simp only [ungrouped_lockOut h.toUngrouped, latchCause, hbit, apply_ite part, h.cause, ite_self]

/-- A detected fault latches lock-out with the bit of its cause. -/
theorem causes_lockOut {c : Nat} (hpos : 0 < c) (hc : c ≤ 16) (s : State) :
    inLockout (lockOut c s) = true ∧ (lockOut c s).rdB Safe.LO_CAUSE (15 + c) = true := by
  have hword : (lockOut c s).rd Safe.LO_CAUSE =
      setBit (if inLockout s then s.rd Safe.LO_CAUSE else word c) (15 + c) true := by
    refine (ungrouped_lockOut ungrouped_cause c s).trans ?_
    rw [latchCause, State.rd_wrB, if_pos rfl, apply_ite (fun t : State => t.rd Safe.LO_CAUSE), State.rd_wr_self]
  have hfirst : fld (if inLockout s then s.rd Safe.LO_CAUSE else word c) 7 0 ≠ 0 := by
    split
    · next hin => exact of_decide_eq_true hin
    · simp only [fld, word, BitVec.toNat_ofNat]
      omega
  constructor
  · rw [inLockout, State.rdF, hword]
    rw [setBit, fld_setFld_apart _ (by omega) (Nat.le_refl _) (.inl (by omega))]
    exact decide_eq_true hfirst
  · rw [State.rdB, hword]
    exact bit_setBit_self _ (by omega)

/-- A group that is STOPPED stays so in lock-out. -/
theorem grpState_lockOut {c g : Nat} {s : State} (hstop : grpState s g = 0) : grpState (lockOut c s) g = 0 := by
  have hcause : grpState (safeEvent (0x20 + c) 0 (latchCause c s)) g = 0 := by
    have hreg : (latchCause c s).rd Safe.GRP_STATE = s.rd Safe.GRP_STATE := by
      rw [latchCause, State.rd_wrB, if_neg (by decide)]
      split
      · rfl
      · exact State.rd_wr_ne s _ _ _ (by decide)
    exact (congrArg (fun w => fld w (4 * g + 3) (4 * g)) hreg).trans hstop
  rw [lockOut_eq, grpState_of_account (account_outputs _)]
  refine List.foldlRecOn _ _ (motive := fun t => grpState t g = 0) hcause (fun t ht x hx => ?_)
  have hx2 : x < 2 := by
    simp only [List.mem_cons, List.not_mem_nil, or_false] at hx
    omega
  split
  · rw [grpState_enterStopped t false hx2, ht, ite_self]
  · exact ht

/-- Lock-out leaves time, the memory windows and the island's hidden state beside its groups and outputs alone. -/
theorem bearing_lockOut (c : Nat) (s : State) : bearing (lockOut c s) = bearing s := uncaused_lockOut uncaused_bearing c s

end Sys2Proof.Laws.IslandGroups
end

section
/-! PROOFS. The island's cycle: its pace, the verdict of the output read-back, and what a cycle leaves alone (R297). -/

namespace Sys2Proof.Laws.IslandCycle
open Sys2Proof.Machine Sys2Proof.Safety Sys2Proof.Laws.Fabric Sys2Proof.Laws.Protection Sys2Proof.Laws.Reactions
open Sys2Proof.Laws.IslandAccount Sys2Proof.Laws.IslandGroups

/-! ### The pace of the cycle -/

/-- Time, the memory windows, the instant of the cycle, and the outputs whose read-back differed in the last one. -/
structure Pace where
  now : Nat
  mem : List Host.Cell
  cycleAt : Nat
  outBad : Word

/-- That part of a state. -/
def pace (s : State) : Pace := ⟨s.now, s.mem, s.isl.cycleAt, s.isl.outBad⟩

theorem uncaused_pace : Uncaused pace where
  congr h := congrArg (fun x : Account => Pace.mk x.now x.mem x.isl.cycleAt x.isl.outBad) h
  putSg _ _ _ := rfl
  grpState _ _ := rfl
  cause _ _ := rfl

theorem ungrouped_pace : Ungrouped pace := uncaused_pace.toUngrouped

section
variable (s : State)

/-! ### State operations: the pace sees no register and no object of the island -/

theorem pace_wrB (a i : Nat) (b : Bool) : pace (s.wrB a i b) = pace s := rfl

theorem pace_wrL (a : Nat) (v : Word) : pace (s.wrL a v) = pace s := rfl

theorem pace_incL (a : Nat) : pace (s.incL a) = pace s := rfl

theorem pace_produce (a : Nat) (v : Word) : pace (s.produce a v) = pace s := rfl

theorem pace_setSrc (n : Nat) (v : Word) (ok : Bool) : pace (setSrc n v ok s) = pace s := rfl

theorem pace_putSg (g : Nat) (x : SafeGrp) : pace (putSg g x s) = pace s := rfl

theorem pace_putSi (k : Nat) (x : SafeIn) : pace (putSi k x s) = pace s := rfl

theorem pace_putTg (k : Nat) (x : TgConn) : pace (putTg k x s) = pace s := rfl

theorem pace_safeShow : pace (safeShow s) = pace s := ungrouped_pace.congr (account_safeShow s)

theorem pace_outputs : pace (outputs s) = pace s := ungrouped_outputs ungrouped_pace s

theorem pace_lockOut (c : Nat) : pace (lockOut c s) = pace s := uncaused_lockOut uncaused_pace c s

/-! ### Releases and safe inputs (R300, R309-R312, R321) -/

theorem pace_askRelease (g : Nat) : pace (askRelease g s) = pace s :=
  foldl_keeps pace (fun t x => pace_putSg t x _) _ s

theorem pace_pressEnd : pace (pressEnd s) = pace s := by
  have hclear : ∀ t, pace (logEntry (s.isl.session.getD 0) 0xFFFE (word (s.rdF Safe.LO_CAUSE 31 16)) 0 t) = pace t := fun _ => rfl
  have hmanual : ∀ (t : State) (g : Nat), pace ((putSg g { sgOf t g with manual := true, relReq := false } t).wr (Tmon.TM_STAT g) 0) =
      pace t := fun _ _ => rfl
  have hask : ∀ (t : State) (g : Nat), pace (if parB t (Param.GCFG g) 3 then askRelease g t else t) = pace t := by
    simp only [apply_ite pace, pace_askRelease, ite_self, implies_true]
  unfold pressEnd
  extract_lets armed mask s1 s2
  have hs2 : pace s2 = pace s := (foldl_keeps pace hmanual _ _).trans (hclear _)
  split
  · exact (pace_outputs _).trans hs2
  · exact foldl_keeps pace hask _ s

theorem pace_siShow (k : Nat) : pace (siShow k s) = pace s := rfl

theorem pace_siJudge (k : Nat) (cfg : Word) : pace (siJudge k cfg s) = pace s := by
  simp only [siJudge, pace_siShow, apply_ite pace, pace_lockOut, pace_pressEnd, pace_wrB, pace_putSi, ite_self]

theorem pace_siCycle (pins : Word) (k : Nat) : pace (siCycle pins s k) = pace s := by
  simp only [siCycle, apply_ite pace, pace_siJudge, pace_lockOut, pace_putSi, ite_self]

theorem pace_inputsCycle (pins : Word) : pace (inputsCycle pins s) = pace s :=
  foldl_keeps pace (fun t k => pace_siCycle t pins k) _ s

/-! ### Speed and telegrams (R302, R303, R313-R316) -/

theorem pace_speedCycle (g : Nat) : pace (speedCycle s g) = pace s := by
  simp only [speedCycle, apply_ite pace, pace_setSrc, pace_produce, pace_wrB, pace_putSg, ite_self]

theorem pace_diverseCycle (g : Nat) : pace (diverseCycle s g) = pace s := by
  simp only [diverseCycle, apply_ite pace, pace_lockOut, pace_putSg, ite_self]

theorem pace_telegramApply (k : Nat) : pace (telegramApply s k) = pace s := by
  refine (foldl_keeps pace (fun t p => ?_) _ _).trans (pace_putTg s k _)
  refine (foldl_keeps pace (fun u g => ?_) _ _).trans (pace_putTg t k _)
  simp only [apply_ite pace, pace_askRelease, ite_self]

theorem pace_tgShow (k : Nat) : pace (tgShow k s) = pace s := rfl

theorem pace_tgWatch (k : Nat) : pace (tgWatch s k) = pace s := by
  simp only [tgWatch, apply_ite pace, pace_safeShow, pace_tgShow, pace_putTg, ite_self]

theorem pace_tgOneSided (k : Nat) : pace (tgOneSided s k) = pace s := by
  have hcount : ∀ (l : List Nat) t, pace (l.foldl (fun t _ => t.incL (SafeTel.TG_ONE_SIDED k)) t) = pace t := fun l t =>
    foldl_keeps pace (fun u _ => pace_incL u _) l t
  simp only [tgOneSided, apply_ite pace, hcount, pace_putTg, ite_self]

/-! ### Functions and the torque monitor (R303-R308, R317, R318) -/

theorem pace_slsStep (g : Nat) (d : Demand) : pace (slsStep g d s) = pace s := by
  unfold slsStep
  extract_lets h
  split <;> rfl

theorem pace_functionStep (g : Nat) : pace (functionStep s g) = pace s := by
  have hsdi : ∀ t d, pace (sdiStep g d t) = pace t := fun _ _ => rfl
  simp only [functionStep, pace_setSrc, hsdi, pace_slsStep]

theorem pace_tmReact {g : Nat} (hg : g < 2) : pace (tmReact g s) = pace s := by
  have hsame : ∀ t, ∀ x ∈ sgSame t g, x < 2 := fun t x hx => by
    unfold sgSame at hx
    split at hx
    · simp only [List.mem_cons, List.not_mem_nil, or_false] at hx
      omega
    · simp only [List.mem_cons, List.not_mem_nil, or_false] at hx
      omega
  unfold tmReact
  extract_lets s1 s2 r act
  have hs2 : pace s2 = pace s := rfl
  have hact : ∀ t, ∀ x ∈ sgSame s2 g, pace (act t x) = pace t := fun t x hx => by
    simp only [act, apply_ite pace, ungrouped_enterSs1 ungrouped_pace _ (hsame s2 x hx), ungrouped_enterAsc ungrouped_pace, pace_putSg,
      ite_self]
  rw [pace_lockOut, foldl_keeps_mem pace hact, hs2]

theorem pace_tmCycle {g : Nat} (hg : g < 2) : pace (tmCycle s g) = pace s := by
  have hshow : ∀ t act t2 dis n, pace (tmShow g act t2 dis n t) = pace t := fun _ _ _ _ _ => rfl
  simp only [tmCycle, apply_ite pace, pace_tmReact _ hg, pace_wrL, pace_produce, hshow, pace_putSg, ite_self]

theorem pace_ascStep (g : Nat) : pace (ascStep s g) = pace s := by
  simp only [ascStep, apply_ite pace, ungrouped_enterStopped ungrouped_pace, pace_lockOut, pace_putSg, ite_self]

end

/-! ### The cycle -/

/-- A cycle up to the output read-back. -/
def cycleHead (pins : Word) (s : State) : State :=
  let s2 := [0, 1].foldl diverseCycle ([0, 1].foldl speedCycle (inputsCycle pins s))
  let s3 := (List.range 4).foldl (fun t k => tgShow k (telegramApply (tgWatch (tgOneSided t k) k) k)) s2
  [0, 1].foldl ascStep ([0, 1].foldl tmCycle ([0, 1].foldl functionStep s3))

/-- A cycle from the output read-back on. -/
def cycleTail (s : State) : State :=
  let s6 := [0, 1].foldl sbcStep s
  [4, 5, 6, 7].foldl telegramSend (outputs ([0, 1].foldl (transition s6) s6))

theorem islandBody_eq (pins bad : Word) (s : State) : islandBody pins bad s = cycleTail (readBack bad (cycleHead pins s)) := rfl

theorem pace_cycleHead (pins : Word) (s : State) : pace (cycleHead pins s) = pace s := by
  have htg : ∀ t k, pace (tgShow k (telegramApply (tgWatch (tgOneSided t k) k) k)) = pace t := fun t k => by
    rw [pace_tgShow, pace_telegramApply, pace_tgWatch, pace_tgOneSided]
  have htm : ∀ t, ∀ g ∈ [0, 1], pace (tmCycle t g) = pace t := fun t g hg => pace_tmCycle t (by
    simp only [List.mem_cons, List.not_mem_nil, or_false] at hg
    omega)
  simp only [cycleHead, foldl_keeps pace pace_ascStep, foldl_keeps_mem pace htm, foldl_keeps pace pace_functionStep, foldl_keeps pace htg,
    foldl_keeps pace pace_diverseCycle, foldl_keeps pace pace_speedCycle, pace_inputsCycle]

theorem ungrouped_telegramSend {α : Type} {part : State → α} (h : Ungrouped part) (htg : ∀ s k x, part (putTg k x s) = part s) (s : State)
    (k : Nat) : part (telegramSend s k) = part s := by
  have hsend : ∀ t c tel, part (sendCopy k c tel t) = part t := fun t c tel => h.congr (account_sendCopy t k c tel)
  simp only [telegramSend, apply_ite part, hsend, htg, ite_self]

/-- After the read-back a cycle changes the states of groups alone, and sends telegrams. -/
theorem ungrouped_cycleTail {α : Type} {part : State → α} (h : Ungrouped part) (htg : ∀ s k x, part (putTg k x s) = part s) (s : State) :
    part (cycleTail s) = part s := by
  have htrans : ∀ j t, ∀ g ∈ [0, 1], part (transition j t g) = part t := fun j t g hg => ungrouped_transition h t j (by
    simp only [List.mem_cons, List.not_mem_nil, or_false] at hg
    omega)
  simp only [cycleTail, foldl_keeps part (ungrouped_telegramSend h htg), ungrouped_outputs h, foldl_keeps_mem part (htrans _),
    foldl_keeps part (fun t g => ungrouped_sbcStep h t g)]

/-! ### The read-back of the outputs (R297) -/

theorem pace_readBack (bad : Word) (s : State) : pace (readBack bad s) = { pace s with outBad := bad &&& 0x3F } := by
  simp only [readBack, apply_ite pace, pace_lockOut, ite_self]
  rfl

/-- Outputs that differed in the last cycle and in this one have latched their cause. -/
theorem cause_readBack {bad : Word} {s : State} (hboth : bad &&& s.isl.outBad &&& 0x3F ≠ 0) :
    (readBack bad s).rdB Safe.LO_CAUSE 20 = true := by
  unfold readBack
  extract_lets both i s1
  split
  · exact (causes_lockOut (c := 5) (by decide) (by decide) s1).2
  · next hold =>
    have hsame : s1.rdB Safe.LO_CAUSE 20 = s.rdB Safe.LO_CAUSE 20 := rfl
    rw [hsame]
    exact eq_true_of_ne_false fun hclear => hold ⟨hboth, congrArg (!·) hclear⟩

/-- Outputs that differ in two cycles in a row latch lock-out with cause 5 in the second. -/
theorem cause_islandBody {pins bad : Word} {s : State} (hboth : bad &&& s.isl.outBad &&& 0x3F ≠ 0) :
    (islandBody pins bad s).rdB Safe.LO_CAUSE 20 = true := by
  have hold : (cycleHead pins s).isl.outBad = s.isl.outBad := congrArg Pace.outBad (pace_cycleHead pins s)
  have htail := ungrouped_cycleTail ungrouped_cause (fun t k x => rfl) (readBack bad (cycleHead pins s))
  exact (congrArg (fun w => bit w 20) htail).trans (cause_readBack (hold ▸ hboth))

theorem pace_islandBody (pins bad : Word) (s : State) : pace (islandBody pins bad s) = { pace s with outBad := bad &&& 0x3F } := by
  rw [islandBody_eq, ungrouped_cycleTail ungrouped_pace (fun _ _ _ => rfl), pace_readBack, pace_cycleHead]

/-- The instant of a cycle has come. -/
def cycleStart (s : State) : State :=
  let s1 := s.reach (s.isl.cycleAt + islCycle)
  { s1 with isl := { s1.isl with cycleAt := s.isl.cycleAt + islCycle } }

theorem islandCycle_eq {pins bad : Word} {s : State} (hrun : s.isl.run = true) (hup : s.isl.restart = none)
    (hfree : s.rdB SecDbg.DBG_HSTAT 3 = false) : islandCycle pins bad s = islandBody pins bad (cycleStart s) := by
  have hgo : (!s.isl.run || s.isl.restart.isSome || s.rdB SecDbg.DBG_HSTAT 3) = false := by simp [hrun, hup, hfree]
  rw [islandCycle, hgo, if_neg Bool.false_ne_true]
  rfl

/-- A cycle of a running island falls 100 µs after the last, and an output that differs in two cycles in a row latches lock-out. -/
theorem gives_islandCycle {pins bad : Word} {s : State} (hrun : s.isl.run = true) (hup : s.isl.restart = none)
    (hfree : s.rdB SecDbg.DBG_HSTAT 3 = false) : Gives (.islandCycle pins bad) s (fun t =>
      t.isl.cycleAt = s.isl.cycleAt + 80000 ∧ t.isl.cycleAt ≤ t.now ∧ (∀ a, t.rdByte a = s.rdByte a) ∧
      (bad &&& s.isl.outBad &&& 0x3F ≠ 0 → t.rdB Safe.LO_CAUSE 20 = true)) := by
  refine ⟨islandCycle pins bad s, rfl, ?_⟩
  rw [islandCycle_eq hrun hup hfree]
  have hpace := pace_islandBody pins bad (cycleStart s)
  have hcycle : (islandBody pins bad (cycleStart s)).isl.cycleAt = s.isl.cycleAt + 80000 := congrArg Pace.cycleAt hpace
  have hnow : (islandBody pins bad (cycleStart s)).now = max s.now (s.isl.cycleAt + 80000) := congrArg Pace.now hpace
  have hmem : (islandBody pins bad (cycleStart s)).mem = s.mem := congrArg Pace.mem hpace
  refine ⟨hcycle, ?_, rdByte_congr hmem, fun hboth => cause_islandBody (s := cycleStart s) hboth⟩
  rw [hcycle, hnow]
  exact Nat.le_max_right ..

end Sys2Proof.Laws.IslandCycle
end

section
/-! PROOFS. The island's timers, checks and telegrams: each acts at its instant, and a detected fault latches lock-out with its cause bit (R295,
R300, R304, R306, R310, R312, R315, R318, R320, R326). -/

namespace Sys2Proof.Laws.IslandTimers
open Sys2Proof.Machine Sys2Proof.Safety Sys2Proof.Laws.Fabric Sys2Proof.Laws.Frames Sys2Proof.Laws.Protection
open Sys2Proof.Laws.IslandAccount Sys2Proof.Laws.IslandGroups Sys2Proof.Laws.IslandCycle

/-! ### What the control page shows (R301, R312, R327, R473) -/

/-- The registers that show the island's conditions. -/
abbrev shownRegs : List Nat := Bup.READY :: irqRegs Safe.page ++ wakeRegs

section
variable {l : List Nat} {s t : State} (h : Frame l s t)
include h

theorem frame_wakeOn (k : Nat) (hl : wakeRegs ⊆ l) : Frame l s (wakeOn k t) := by
  have hmark : Sec.WAKE_STAT ∈ l := hl (by decide)
  have hstate : Sec.PWR_STAT ∈ l := hl (by decide)
  have hirq : irqRegs Sec.page ⊆ l := fun _ ha => hl (List.mem_append_right _ ha)
  have hwoken : Frame l s (t.wrB Sec.WAKE_STAT k true) := frame_putBit h k true hmark
  have hgo : ∀ u, Frame l s u → Frame l s (pwrGo 0 u) := fun u hu => frame_pulse (frame_put hu _ hstate) 3 hirq
  exact frame_ite (frame_ite (frame_pulse (hgo _ hwoken) 0 hirq)
    (frame_ite (frame_ite (frame_put hwoken _ hstate) (hgo _ hwoken)) h)) h

theorem frame_safeShow (hl : shownRegs ⊆ l) : Frame l s (safeShow t) := by
  have hready : Bup.READY ∈ l := hl (List.mem_cons_self ..)
  have hirq : irqRegs Safe.page ⊆ l := fun _ ha => hl (List.mem_cons_of_mem _ (List.mem_append_left _ ha))
  have hwake : wakeRegs ⊆ l := fun _ ha => hl (List.mem_cons_of_mem _ (List.mem_append_right _ ha))
  have hset : ∀ u i b, Frame l s u → Frame l s (setReady i b u) := fun u i b hu => frame_putBit hu i b hready
  have hraw : ∀ u i b, Frame l s u → Frame l s (u.raw Safe.page i b) := fun u i b hu => frame_raw hu i b hirq
  unfold safeShow
  extract_lets en rel s1 s2 s3
  have h1 : Frame l s s1 := hset _ 7 _ (hset _ 6 _ h)
  have h3 : Frame l s s3 := hraw _ 4 _ (hraw _ 3 _ (hraw _ 2 _ (hraw _ 0 _ h1)))
  have hlevels := hraw _ 6 (proofIsDue s3 0 || proofIsDue s3 1) (hraw _ 5 (guardDone s3) h3)
  exact frame_ite (frame_wakeOn hlevels 2 hwake) hlevels

end

/-! ### Detected faults (R295, R320) -/

section
variable {s : State}

theorem mem_lockOut (c : Nat) (s : State) : (lockOut c s).mem = s.mem := congrArg (fun x => x.2.1) (bearing_lockOut c s)

theorem now_lockOut (c : Nat) (s : State) : (lockOut c s).now = s.now := congrArg (fun x => x.1) (bearing_lockOut c s)

/-- STO is removed from a group that is not STOPPED. -/
def removeSto (t : State) (g : Nat) : State := if grpState t g = 0 then t else enterStopped g false t

theorem grpState_removeSto (t : State) {g : Nat} (hg : g < 2) (k : Nat) : grpState (removeSto t g) k = if k = g then 0 else grpState t k := by
  unfold removeSto
  split
  · next hstop =>
    split
    · next hk => rw [hk, hstop]
    · rfl
  · exact grpState_enterStopped t false hg k

/-- The comparator of the island's cores removes STO from both groups (R295). -/
def bothStopped (s : State) : State := [0, 1].foldl removeSto s

theorem grpState_bothStopped (s : State) : grpState (bothStopped s) 0 = 0 ∧ grpState (bothStopped s) 1 = 0 := by
  simp [bothStopped, grpState_removeSto]

theorem mem_bothStopped (s : State) : (bothStopped s).mem = s.mem :=
  congrArg (fun x => x.2.1) (foldl_keeps bearing (fun t g => by
    simp only [removeSto, apply_ite bearing, ungrouped_enterStopped uncaused_bearing.toUngrouped, ite_self]) [0, 1] s)

theorem gives_lockstepMismatch (hrun : s.isl.run = true) : Gives .islandLockstepMismatch s (fun t => inLockout t = true ∧
    t.rdB Safe.LO_CAUSE 18 = true ∧ grpState t 0 = 0 ∧ grpState t 1 = 0 ∧ ∀ a, t.rdByte a = s.rdByte a) := by
  have hop : lockstepMismatch s = lockOut 3 (bothStopped s) := by
    rw [lockstepMismatch, hrun, Bool.not_true, if_neg Bool.false_ne_true]
    rfl
  obtain ⟨hlock, hcause⟩ := causes_lockOut (c := 3) (by decide) (by decide) (bothStopped s)
  obtain ⟨hzero, hone⟩ := grpState_bothStopped s
  refine ⟨_, rfl, ?_⟩
  rw [hop]
  exact ⟨hlock, hcause, grpState_lockOut hzero, grpState_lockOut hone, rdByte_congr ((mem_lockOut 3 _).trans (mem_bothStopped s))⟩

theorem gives_selfTestFailure (hrun : s.isl.run = true) (hgood : s.isl.selfBad = false) : Gives (.islandSelfTest true) s (fun t =>
    inLockout t = true ∧ t.rdB Safe.LO_CAUSE 19 = true ∧ t.isl.selfBad = true ∧ ∀ a, t.rdByte a = s.rdByte a) := by
  have hop : islandSelf true s = lockOut 4 { s with isl := { s.isl with selfBad := true } } := by simp [islandSelf, hrun, hgood]
  obtain ⟨hlock, hcause⟩ := causes_lockOut (c := 4) (by decide) (by decide) { s with isl := { s.isl with selfBad := true } }
  refine ⟨_, rfl, ?_⟩
  rw [hop]
  exact ⟨hlock, hcause, congrArg (fun x => x.2.2.selfBad) (bearing_lockOut 4 _), rdByte_congr (mem_lockOut 4 _)⟩

theorem gives_selfTestPass (hrun : s.isl.run = true) : Gives (.islandSelfTest false) s (fun t => t.isl.selfBad = false ∧ Frame [] s t) := by
  have hop : islandSelf false s = { s with isl := { s.isl with selfBad := false } } := by simp [islandSelf, hrun]
  refine ⟨_, rfl, ?_⟩
  rw [hop]
  exact ⟨rfl, frame_of_regs_mem rfl rfl⟩

theorem gives_cbCrcPass (hrun : s.isl.run = true) (hset : s.isl.setExists = true) (hcrc : cbCrc s s.committed = s.rd (Param.CB_CRC 0)) :
    Gives .cbCrcCheck s (fun t => t.isl.cbBad = false ∧ Frame [] s t) := by
  have hop : cbCheck s = { s with isl := { s.isl with cbBad := false } } := by simp [cbCheck, hrun, hset, hcrc]
  refine ⟨_, rfl, ?_⟩
  rw [hop]
  exact ⟨rfl, frame_of_regs_mem rfl rfl⟩

theorem gives_cbCrcFailure (hrun : s.isl.run = true) (hset : s.isl.setExists = true) (hcrc : cbCrc s s.committed ≠ s.rd (Param.CB_CRC 0))
    (hgood : s.isl.cbBad = false) : Gives .cbCrcCheck s (fun t => inLockout t = true ∧ t.rdB Safe.LO_CAUSE 27 = true ∧
      ∀ a, t.rdByte a = s.rdByte a) := by
  have hop : cbCheck s = lockOut 0xC { s with isl := { s.isl with cbBad := true } } := by simp [cbCheck, hrun, hset, hcrc, hgood]
  obtain ⟨hlock, hcause⟩ := causes_lockOut (c := 0xC) (by decide) (by decide) { s with isl := { s.isl with cbBad := true } }
  refine ⟨_, rfl, ?_⟩
  rw [hop]
  exact ⟨hlock, hcause, rdByte_congr (mem_lockOut 0xC _)⟩

theorem gives_paramCrcPass (hrun : s.isl.run = true) (hset : s.isl.setExists = true) :
    Gives (.paramCrcCheck false) s (fun t => t.isl.paramBad = false ∧ Frame [] s t) := by
  have hop : paramCheck false s = { s with isl := { s.isl with paramBad := false } } := by simp [paramCheck, hrun, hset]
  refine ⟨_, rfl, ?_⟩
  rw [hop]
  exact ⟨rfl, frame_of_regs_mem rfl rfl⟩

theorem gives_paramCrcFailure (hrun : s.isl.run = true) (hset : s.isl.setExists = true) (hgood : s.isl.paramBad = false) :
    Gives (.paramCrcCheck true) s (fun t => inLockout t = true ∧ t.rdB Safe.LO_CAUSE 28 = true ∧ ∀ a, t.rdByte a = s.rdByte a) := by
  have hop : paramCheck true s = lockOut 0xD { s with isl := { s.isl with paramBad := true } } := by simp [paramCheck, hrun, hset, hgood]
  obtain ⟨hlock, hcause⟩ := causes_lockOut (c := 0xD) (by decide) (by decide) { s with isl := { s.isl with paramBad := true } }
  refine ⟨_, rfl, ?_⟩
  rw [hop]
  exact ⟨hlock, hcause, rdByte_congr (mem_lockOut 0xD _)⟩

/-! ### The timers of a group (R300, R304, R306, R318) -/

/-- An instant that has been reached stays reached while time stands. -/
theorem le_now_of_eq {n : Nat} {u v : State} (hdue : n ≤ u.now) (hnow : v.now = u.now) : n ≤ v.now := Nat.le_trans hdue (Nat.le_of_eq hnow.symm)

theorem bearing_enterStopped (g : Nat) (delay : Bool) (s : State) : bearing (enterStopped g delay s) = bearing s :=
  ungrouped_enterStopped uncaused_bearing.toUngrouped s g delay

theorem gives_ss1TimerExpiry {g : Nat} (hg : g < 2) (hss1 : grpState s g = 1) : Gives (.ss1TimerExpiry g) s (fun t => grpState t g = 0 ∧
    (sgOf s g).ss1At + msCycles (par s (Param.SS1_T g) 15 0) ≤ t.now ∧ ∀ a, t.rdByte a = s.rdByte a) := by
  have hbearing := bearing_enterStopped g true (s.reach ((sgOf s g).ss1At + msCycles (par s (Param.SS1_T g) 15 0)))
  refine ⟨ss1Timer g s, rfl, ?_⟩
  rw [ss1Timer, if_pos hss1]
  refine ⟨(grpState_enterStopped _ true hg g).trans (if_pos rfl), ?_, rdByte_congr (congrArg (fun x => x.2.1) hbearing)⟩
  exact le_now_of_eq (Nat.le_max_right ..) (congrArg (fun x => x.1) hbearing)

theorem sgOf_putSg_self (g : Nat) (x : SafeGrp) (s : State) : sgOf (putSg g x s) g = x := KMap.get_set_self _ s.isl.grps g x

theorem gives_sbcDelayExpiry {g x : Nat} (hdue : (sgOf s g).stoDue = some x) : Gives (.sbcDelayExpiry g) s (fun t =>
    (sgOf t g).stoDue = none ∧ x ≤ t.now ∧ ∀ a, t.rdByte a = s.rdByte a) := by
  have hwait : (sgOf (s.reach x) g).stoDue = some x := hdue
  have hpassed : x ≤ (s.reach x).now := Nat.le_max_right ..
  have hop : sbcTimer g s = outputs (putSg g { sgOf (s.reach x) g with stoDue := none } (s.reach x)) := by
    simp only [sbcTimer, hdue, sbcStep, hwait, if_pos hpassed]
  have hacc := account_outputs (putSg g { sgOf (s.reach x) g with stoDue := none } (s.reach x))
  refine ⟨_, rfl, ?_⟩
  rw [hop]
  refine ⟨?_, le_now_of_eq hpassed ((now_of_account hacc).trans rfl), rdByte_congr ((mem_of_account hacc).trans rfl)⟩
  rw [sgOf_of_account hacc, sgOf_putSg_self]

/-- The instant of a confirmation that has not come: lock-out with cause TMON, unless the island is in it (R300, R320). -/
def ascLock (g : Nat) (s : State) : State :=
  let u := s.reach ((sgOf s g).ascAt + 800000)
  if inLockout u then u else lockOut 0xA u

theorem ascLock_effect (g : Nat) (s : State) : inLockout (ascLock g s) = true ∧ (sgOf s g).ascAt + 800000 ≤ (ascLock g s).now ∧
    (ascLock g s).mem = s.mem := by
  unfold ascLock
  extract_lets u
  have hnow : (sgOf s g).ascAt + 800000 ≤ u.now := Nat.le_max_right ..
  split
  · next hlock => exact ⟨hlock, hnow, rfl⟩
  · obtain ⟨hlock, -⟩ := causes_lockOut (c := 0xA) (by decide) (by decide) u
    exact ⟨hlock, le_now_of_eq hnow (now_lockOut 0xA u), mem_lockOut 0xA u⟩

theorem gives_ascConfirmTimeout {g : Nat} (hg : g < 2) (hheld : grpState s g = 3) (hopen : (sgOf s g).ascOk = false) :
    Gives (.ascConfirmTimeout g) s (fun t => grpState t g = 0 ∧ inLockout t = true ∧ (sgOf s g).ascAt + 800000 ≤ t.now ∧
      ∀ a, t.rdByte a = s.rdByte a) := by
  have hop : ascTimer g s = enterStopped g false (ascLock g s) := by
    rw [ascTimer, if_pos ⟨hheld, by simp [hopen]⟩]
    rfl
  obtain ⟨hlock, hnow, hmem⟩ := ascLock_effect g s
  have hbearing := bearing_enterStopped g false (ascLock g s)
  have hcause := ungrouped_enterStopped ungrouped_cause (ascLock g s) g false
  refine ⟨_, rfl, ?_⟩
  rw [hop]
  exact ⟨(grpState_enterStopped _ false hg g).trans (if_pos rfl), (congrArg (fun w => decide (fld w 7 0 ≠ 0)) hcause).trans hlock,
    le_now_of_eq hnow (congrArg (fun x => x.1) hbearing), rdByte_congr ((congrArg (fun x => x.2.1) hbearing).trans hmem)⟩

/-! ### Telegrams (R315) -/

theorem tgOf_putTg_self (k : Nat) (x : TgConn) (s : State) : tgOf (putTg k x s) k = x := KMap.get_set_self _ s.isl.tgs k x

theorem tgOf_of_account {s t : State} (h : account t = account s) (k : Nat) : tgOf t k = tgOf s k :=
  congrArg (fun x : Account => KMap.get (fun _ => ({} : TgConn)) x.isl.tgs k) h

theorem tgOf_incL (s : State) (a k : Nat) : tgOf (s.incL a) k = tgOf s k := rfl

theorem tgWatch_of_late {k : Nat} (hen : parB s (SafeTg.TG_CFG k) 0 = true) (hlive : (tgOf s k).lost = false)
    (hlate : (tgOf s k).agreedAt + msCycles (par s (SafeTg.TG_PERIOD k) 31 16) ≤ s.now) :
    tgWatch s k = safeShow (tgShow k (putTg k { tgOf s k with lost := true } s)) := by
  simp only [tgWatch, hen, hlive, Bool.not_false, Bool.true_and, decide_eq_true hlate, if_true]

theorem tg_reach (s : State) (n k : Nat) : tgOf (s.reach n) k = tgOf s k := rfl

theorem par_reach (s : State) (n a hi lo : Nat) : par (s.reach n) a hi lo = par s a hi lo := rfl

theorem gives_telegramWatchdogExpiry {k : Nat} (hk : k < 4) (hrun : s.isl.run = true) (hen : parB s (SafeTg.TG_CFG k) 0 = true)
    (hlive : (tgOf s k).lost = false) : Gives (.telegramWatchdogExpiry k) s (fun t =>
      (tgOf t k).lost = true ∧ Frame ([SafeTg.TG_STAT k, Bup.READY] ++ irqRegs Safe.page ++ wakeRegs) s t) := by
  generalize hdue : (tgOf s k).agreedAt + msCycles (par s (SafeTg.TG_PERIOD k) 31 16) = due
  have hlate : (tgOf (s.reach due) k).agreedAt + msCycles (par (s.reach due) (SafeTg.TG_PERIOD k) 31 16) ≤ (s.reach due).now := by
    rw [tg_reach, par_reach, hdue]
    exact Nat.le_max_right ..
  have hop : telegramWatchdog k s = safeShow (tgShow k (putTg k { tgOf (s.reach due) k with lost := true } (s.reach due))) := by
    rw [telegramWatchdog, if_pos ⟨hk, hen, by simp [hlive], hrun⟩, hdue]
    exact tgWatch_of_late (s := s.reach due) hen hlive hlate
  refine ⟨_, rfl, ?_⟩
  rw [hop]
  constructor
  · rw [tgOf_of_account (account_safeShow _)]
    exact congrArg TgConn.lost (tgOf_putTg_self k _ (s.reach due))
  · refine frame_safeShow (frame_put (frame_of_regs_mem rfl rfl) _ (List.mem_cons_self ..)) ?_
    exact fun a ha => List.mem_cons_of_mem _ ha

/-- Of single copies that are given up, the connection keeps those that have not waited 5 ms, and nothing but live values moves. -/
theorem tgOneSided_effect (s : State) (k : Nat) :
    (tgOf (tgOneSided s k) k).held = (tgOf s k).held.filter (fun p => decide (s.now < p.at_ + 4000000)) ∧
    (tgOneSided s k).now = s.now ∧ Frame [] s (tgOneSided s k) := by
  have hframe : ∀ (l : List Nat) u, Frame [] s u → Frame [] s (l.foldl (fun t _ => t.incL (SafeTel.TG_ONE_SIDED k)) u) := fun l u hu =>
    frame_foldl hu (fun _ _ _ ht => frame_hidden ht rfl rfl)
  have hheld : ∀ (l : List Nat) u, tgOf (l.foldl (fun t _ => t.incL (SafeTel.TG_ONE_SIDED k)) u) k = tgOf u k := fun l u =>
    foldl_keeps (fun t => tgOf t k) (fun t _ => tgOf_incL t _ k) l u
  have hnow : (tgOneSided s k).now = s.now := congrArg Pace.now (pace_tgOneSided s k)
  refine ⟨?_, hnow, ?_⟩
  · unfold tgOneSided
    extract_lets c late
    split
    · next hnone =>
      have hkeep : ∀ p ∈ c.held, decide (s.now < p.at_ + 4000000) = true := fun p hp => by
        have hnot := (List.filter_eq_nil_iff.mp (List.isEmpty_iff.mp hnone)) p hp
        simpa using hnot
      exact (List.filter_eq_self.mpr hkeep).symm
    · rw [hheld, tgOf_putTg_self]
  · unfold tgOneSided
    extract_lets c late
    exact frame_ite (frame_refl [] s) (hframe _ _ (frame_of_regs_mem rfl rfl))

theorem gives_telegramCopyTimeout {k : Nat} {p : TgCopy} {r : List TgCopy} (hheld : (tgOf s k).held = p :: r) :
    Gives (.telegramCopyTimeout k) s (fun t => p ∉ (tgOf t k).held ∧ p.at_ + 4000000 ≤ t.now ∧ Frame [] s t) := by
  obtain ⟨hkept, hnow, hframe⟩ := tgOneSided_effect (s.reach (p.at_ + 4000000)) k
  have hdue : p.at_ + 4000000 ≤ (s.reach (p.at_ + 4000000)).now := Nat.le_max_right ..
  have hop : telegramCopyTimeout k s = tgOneSided (s.reach (p.at_ + 4000000)) k := by simp only [telegramCopyTimeout, hheld]
  refine ⟨_, rfl, ?_⟩
  rw [hop]
  refine ⟨fun hp => ?_, le_now_of_eq hdue hnow, frame_trans (frame_of_regs_mem rfl rfl) hframe⟩
  rw [hkept] at hp
  have hearly : (s.reach (p.at_ + 4000000)).now < p.at_ + 4000000 := of_decide_eq_true (List.mem_filter.mp hp).2
  exact absurd hdue (Nat.not_le.mpr hearly)

theorem tgOneSided_of_none {k : Nat} (hnone : (tgOf s k).held = []) : tgOneSided s k = s := by simp [tgOneSided, hnone]

theorem gives_goodCopy {k carrier : Nat} {l : List Nat} (hk : k < 4) (hrun : s.isl.run = true) (hen : parB s (SafeTg.TG_CFG k) 0 = true)
    (hnone : (tgOf s k).held = []) (hcar : carrier = par s (SafeTg.TG_CFG k) 6 4) (hok : copyOk s k 0 l = true) :
    Gives (.telegramCopyReceived k carrier l) s (fun t => (∃ p, (tgOf t k).held = [p] ∧ p.seq = (parseCopy l).2.2.seq ∧
      p.data = (parseCopy l).2.2.data ∧ p.at_ = s.now) ∧ Frame [] s t) := by
  have hbit : bit (s.rdC (SafeTg.TG_CFG k)) 0 = true := hen
  have hside : carrier = fld (s.rdC (SafeTg.TG_CFG k)) 6 4 := hcar
  have hop : telegramCopy k carrier l s = putTg k { tgOf s k with held := [{ (parseCopy l).2.2 with at_ := s.now }] } s := by
    simp [telegramCopy, tgOneSided_of_none hnone, hbit, ← hside, hok, hnone, Nat.not_le.mpr hk]
  refine ⟨telegramCopy k carrier l s, congrArg Host.Outcome.next (if_pos hrun), ?_⟩
  rw [hop]
  exact ⟨⟨_, congrArg TgConn.held (tgOf_putTg_self k _ s), rfl, rfl, rfl⟩, frame_of_regs_mem rfl rfl⟩

theorem gives_badCopy {k carrier : Nat} {l : List Nat} (hk : k < 4) (hrun : s.isl.run = true) (hen : parB s (SafeTg.TG_CFG k) 0 = true)
    (hnone : (tgOf s k).held = []) (hcar : carrier = par s (SafeTg.TG_CFG k) 6 4) (hbad : copyOk s k 0 l = false) :
    Gives (.telegramCopyReceived k carrier l) s (fun t => (tgOf t k).held = [] ∧
      (s.rdL (SafeTel.TG_BAD k) ≠ 0xFFFFFFFF → t.rdL (SafeTel.TG_BAD k) = s.rdL (SafeTel.TG_BAD k) + 1) ∧ Frame [] s t) := by
  have hbit : bit (s.rdC (SafeTg.TG_CFG k)) 0 = true := hen
  have hside : carrier = fld (s.rdC (SafeTg.TG_CFG k)) 6 4 := hcar
  have hop : telegramCopy k carrier l s = s.incL (SafeTel.TG_BAD k) := by
    simp [telegramCopy, tgOneSided_of_none hnone, hbit, ← hside, hbad, Nat.not_le.mpr hk]
  refine ⟨telegramCopy k carrier l s, congrArg Host.Outcome.next (if_pos hrun), ?_⟩
  rw [hop]
  refine ⟨hnone, fun hroom => ?_, frame_of_regs_mem rfl rfl⟩
  rw [State.incL, State.rdL_wrL_self, if_neg hroom]

/-! ### Test pulses, the guard test and the proof test (R310, R312, R326) -/

/-- An enabled input begins a new period of test pulses (R310). -/
def inputPeriod (t : State) (k : Nat) : State :=
  let h := siOf t k
  if bit (t.rdC (SafeIn.SI_CFG k)) 0 then
    siShow k (putSi k { h with badLast := h.badNow, badNow := false, tpFault := h.tpFault && h.badNow } t)
  else t

/-- Output 0 goes low and begins a period, before the inputs follow (R310). -/
def pulseStart (s : State) : State :=
  let u := s.reach (s.isl.tpPeriod + msCycles (fld (s.rdC SafeIn.TP_CFG) 15 0))
  { u with isl := { u.isl with tpNext := 1, tpOut := 0, tpTill := u.now + 800 * fld (s.rdC SafeIn.TP_CFG) 25 16, tpPeriod := u.now } }

theorem testPulse_eq {dt : Nat} (hpart : s.part = .sep9640) (hrun : s.isl.run = true) (hnext : s.isl.tpNext = 0) (hfree : tpHeld s = false)
    (hgap : s.isl.tpTill + 800000 ≤ s.isl.tpPeriod + msCycles (par s SafeIn.TP_CFG 15 0)) :
    testPulse dt s = (List.range 16).foldl inputPeriod (pulseStart s) := by
  have hlate : ∀ n, s.isl.tpTill + 800000 * bitN (decide (0 < s.isl.tpTill)) ≤
      max n (s.isl.tpPeriod + msCycles (fld (s.rdC SafeIn.TP_CFG) 15 0)) := fun n => by
    have hone : bitN (decide (0 < s.isl.tpTill)) ≤ 1 := Bool.toNat_le _
    have hpar : par s SafeIn.TP_CFG 15 0 = fld (s.rdC SafeIn.TP_CFG) 15 0 := rfl
    rw [hpar] at hgap
    exact Nat.le_trans (by omega) (Nat.le_max_right ..)
  have hgo : ¬(s.part ≠ .sep9640 ∨ !s.isl.run ∨ tpHeld s ∨ (s.isl.tpNext ≠ 0 ∧
      ((s.reach (s.isl.tpPeriod + msCycles (fld (s.rdC SafeIn.TP_CFG) 15 0))).now < s.isl.tpTill + 800000 ∨
        s.isl.tpPeriod + msCycles (fld (s.rdC SafeIn.TP_CFG) 15 0) ≤
          (s.reach (s.isl.tpPeriod + msCycles (fld (s.rdC SafeIn.TP_CFG) 15 0))).now)) ∨
      (s.reach (s.isl.tpPeriod + msCycles (fld (s.rdC SafeIn.TP_CFG) 15 0))).now <
        s.isl.tpTill + 800000 * bitN (decide (0 < s.isl.tpTill))) := by
    simp only [hpart, hrun, hfree, hnext, ne_eq, not_true_eq_false, Bool.not_true, Bool.false_eq_true, false_and, false_or, Nat.not_lt]
    exact hlate s.now
  unfold testPulse
  simp only [hnext, if_true] at hgo ⊢
  rw [if_neg hgo]
  rfl

/-- Time and the test pulses. -/
def pulseClock (s : State) : Nat × Nat × Nat × Nat × Nat := (s.now, s.isl.tpOut, s.isl.tpNext, s.isl.tpTill, s.isl.tpPeriod)

theorem pulseClock_inputPeriod (t : State) (k : Nat) : pulseClock (inputPeriod t k) = pulseClock t := by
  unfold inputPeriod
  extract_lets h
  split <;> rfl

theorem gives_testPulse {dt : Nat} (hpart : s.part = .sep9640) (hrun : s.isl.run = true) (hnext : s.isl.tpNext = 0) (hfree : tpHeld s = false)
    (hgap : s.isl.tpTill + 800000 ≤ s.isl.tpPeriod + msCycles (par s SafeIn.TP_CFG 15 0)) : Gives (.testPulse dt) s (fun t =>
      t.isl.tpOut = 0 ∧ t.isl.tpNext = 1 ∧ t.isl.tpTill = t.now + 800 * par s SafeIn.TP_CFG 25 16 ∧ t.isl.tpPeriod = t.now ∧
        Frame ((List.range 16).map SafeIn.SI_STAT) s t) := by
  refine ⟨_, rfl, ?_⟩
  rw [testPulse_eq hpart hrun hnext hfree hgap]
  have hkeep := foldl_keeps pulseClock pulseClock_inputPeriod (List.range 16) (pulseStart s)
  obtain ⟨hnow, hout, hnxt, htill, hper⟩ : _ ∧ _ ∧ _ ∧ _ ∧ _ := by simpa only [pulseClock, Prod.mk.injEq] using hkeep
  refine ⟨hout, hnxt, htill.trans ?_, hper.trans hnow.symm, ?_⟩
  · rw [hnow]
    rfl
  · refine frame_foldl (frame_of_regs_mem rfl rfl) (fun k hk t ht => ?_)
    exact frame_ite (frame_put (frame_hidden ht rfl rfl) _ (List.mem_map_of_mem hk)) ht

theorem gives_guardPeriodExpiry {k : Nat} (hk : k < 16) (hper : par s Param.GUARD_PERIOD 15 0 ≠ 0) (htest : s.rdB (SafeIn.SI_STAT k) 5 = true) :
    Gives (.guardPeriodExpiry k) s (fun t => t.rdB (SafeIn.SI_STAT k) 5 = false ∧
      (siOf s k).openAt + par s Param.GUARD_PERIOD 15 0 * 2880000000000 ≤ t.now ∧
      Frame ([SafeIn.SI_STAT k, Bup.READY] ++ irqRegs Safe.page ++ wakeRegs) s t) := by
  generalize hdue : (siOf s k).openAt + par s Param.GUARD_PERIOD 15 0 * 2880000000000 = due
  have hnow : due ≤ (s.reach due).now := Nat.le_max_right ..
  have hop : guardExpiry k s = safeShow ((s.reach due).wrB (SafeIn.SI_STAT k) 5 false) := by
    rw [guardExpiry, if_pos ⟨hper, htest⟩, hdue]
  have hframe : Frame shownRegs ((s.reach due).wrB (SafeIn.SI_STAT k) 5 false) (safeShow ((s.reach due).wrB (SafeIn.SI_STAT k) 5 false)) :=
    frame_safeShow (frame_refl _ _) (List.Subset.refl _)
  have hapart : SafeIn.SI_STAT k ∉ shownRegs := fun hin => by
    have hrange : ∀ a ∈ shownRegs, a < 0x203000 ∨ 0x204000 ≤ a := by decide
    have hlow := hrange _ hin
    simp only [SafeIn.SI_STAT] at hlow
    omega
  obtain ⟨hbit, hrest⟩ := putBit_then_frame hframe hapart (by decide)
  refine ⟨_, rfl, ?_⟩
  rw [hop]
  refine ⟨hbit, le_now_of_eq hnow ((now_of_account (account_safeShow ((s.reach due).wrB (SafeIn.SI_STAT k) 5 false))).trans rfl), ?_⟩
  exact frame_trans (frame_of_regs_mem rfl rfl) hrest

theorem gives_proofDue {g : Nat} (hen : sgEn s g = true) (hint : par s (Param.PROOF_INT g) 15 0 ≠ 0) : Gives (.proofDue g) s (fun t =>
    (sgOf s g).stoppedAt + par s (Param.PROOF_INT g) 15 0 * 2880000000000 ≤ t.now ∧
      Frame (Bup.READY :: irqRegs Safe.page ++ wakeRegs) s t) := by
  generalize hdue : (sgOf s g).stoppedAt + par s (Param.PROOF_INT g) 15 0 * 2880000000000 = due
  have hnow : due ≤ (s.reach due).now := Nat.le_max_right ..
  have hop : proofExpiry g s = safeShow (s.reach due) := by
    rw [proofExpiry, if_pos ⟨hen, hint⟩, hdue]
  refine ⟨_, rfl, ?_⟩
  rw [hop]
  exact ⟨le_now_of_eq hnow (now_of_account (account_safeShow (s.reach due))),
    frame_safeShow (frame_of_regs_mem rfl rfl) (List.Subset.refl _)⟩

end

/-! ### The statement -/

/-- Settles O55, clause by clause: the cycle by its pace, lock-out by the causes it latches, the timers by the group's state or the connection
they move. -/
theorem islandTimersAndChecksStopTheGroups : Obligations.IslandTimersAndChecksStopTheGroups := by
  intro pins bad g k carrier dt l s
  refine ⟨gives_islandCycle, gives_lockstepMismatch, gives_selfTestFailure, gives_selfTestPass, fun hrun hset =>
    ⟨gives_cbCrcPass hrun hset, gives_cbCrcFailure hrun hset, gives_paramCrcPass hrun hset, gives_paramCrcFailure hrun hset⟩,
    gives_ss1TimerExpiry, fun x => gives_sbcDelayExpiry, gives_ascConfirmTimeout, gives_telegramWatchdogExpiry,
    fun p r => gives_telegramCopyTimeout, fun hk hrun hen hnone => ⟨gives_goodCopy hk hrun hen hnone, gives_badCopy hk hrun hen hnone⟩,
    gives_testPulse, gives_guardPeriodExpiry, gives_proofDue⟩

end Sys2Proof.Laws.IslandTimers
end

section
/-! PROOFS. The host's commands to the island: demands, releases, brake requests, the lock-out key, the password and the parameter set (R300, R304,
R321, R323, R324, R462). -/

namespace Sys2Proof.Laws.IslandCommands
open Sys2Proof.Machine Sys2Proof.Safety Sys2Proof.Laws.Fabric Sys2Proof.Laws.Refusals Sys2Proof.Laws.Frames Sys2Proof.Laws.Protection
open Sys2Proof.Laws.IslandAccount Sys2Proof.Laws.IslandTimers

/-! ### An admitted write and the island's hidden state -/

section
variable {i : Instr} {port : Port} {a : Nat} {v : Word} {op : State → Reply} {s t : State} {P : State → Prop}

theorem forward_isl (port : Port) (a : Nat) (v : Word) (s : State) : (forward port a v s).isl = s.isl := by
  unfold forward
  split <;> rfl

theorem touchSession_isl {p : Nat} (s : State) (hp : paramPage p = false) : (touchSession p s).isl = s.isl := by
  rw [touchSession, hp, if_neg Bool.false_ne_true]

theorem debugNote_isl (port : Port) (c : RefCode) (w : Word) (s : State) : (debugNote port c w s).isl = s.isl := by
  unfold debugNote
  split <;> rfl

/-- An accepted write to another page than those of the parameters leaves the island's hidden state as its operation does (R323). -/
theorem gated_isl_of_accept (hadm : Admits s port a) (hop : op s = accept t) (hpage : paramPage (homePage a) = false) :
    (gated port a v op s).1.isl = t.isl := by
  have hcode : gateCode s port a = .none := hadm
  by_cases hl : needsLock a = true <;>
    simp [gated, gate, recorded, accept, hcode, hop, hl, debugNote_isl, forward_isl, touchSession_isl _ hpage, touchLock]

/-- Such a write gives what holds of every state with the operation's registers, windows and hidden state of the island. -/
theorem gives_gated_isl (hexec : exec i s = replied (gated port a v op s)) (hadm : Admits s port a) (hpage : paramPage (homePage a) = false)
    (hop : op s = accept t) (hP : ∀ u : State, u.regs = t.regs → u.mem = t.mem → u.isl = t.isl → P u) : Gives i s P := by
  obtain ⟨hregs, hmem⟩ := gated_of_accept (v := v) hadm hop
  exact ⟨_, hexec, hP _ hregs hmem (gated_isl_of_accept (v := v) hadm hop hpage)⟩

/-- A refusal for another reason than a busy page is recorded on the register's own page (R45). -/
theorem refusalPage_of_mapped {c : RefCode} (hmapped : isMapped a = true) (hc : c ≠ .busy) : refusalPage port a c s = homePage a := by
  simp [refusalPage, hmapped, hc]

/-- An admitted write that its operation refuses, having moved the state to `t`, leaves the record of the refusal beside that (R44, R45). -/
theorem gives_gated_deny {c : RefCode} (hexec : exec i s = replied (gated port a v op s)) (hadm : Admits s port a) (hmapped : isMapped a = true)
    (hop : op s = deny t c) (hc : c ≠ .none) (hfree : c ≠ .busy)
    (hP : ∀ u : State, u.isl = t.isl → u.rdF (hERRINFO (homePage a)) 31 24 = c.num →
      Frame (hERRINFO (homePage a) :: irqRegs (homePage a)) t u → P u) : Gives i s P := by
  have hcode : gateCode s port a = .none := hadm
  have hgated : (gated port a v op s).1 = debugNote port c 0 (t.refuseAt (homePage a) port c (a % 4096)) := by
    have hrecord : recordRefusal port a c t = t.refuseAt (homePage a) port c (a % 4096) := by
      rw [recordRefusal, refusalPage_of_mapped hmapped hfree]
    rw [← hrecord]
    cases c <;> simp_all [gated, gate, recorded, deny]
  obtain ⟨hnum, -⟩ := fields_errinfo_refuseAt t (homePage a) port c (a % 4096)
  refine ⟨_, hexec, ?_⟩
  rw [hgated]
  refine hP _ ?_ ?_ ?_
  · rw [debugNote_isl, State.refuseAt_isl]
  · rw [State.rdF, State.rd_congr (debugNote_regs ..)]
    exact hnum
  · exact frame_trans (frame_refuseAt t _ port c (a % 4096)) (frame_of_regs_mem (debugNote_regs ..) (debugNote_mem ..))

end

section
variable {port : Port} {s : State}

/-! ### Demands, brake requests and releases (R300, R304) -/

theorem gives_hostDemandWrite (v : Word) (hadm : Admits s port Safe.HOST_DEMAND) : Gives (.hostDemandWrite port v) s (fun t =>
    t.rd Safe.HOST_DEMAND = v &&& 0xF ∧ Frame ([Safe.HOST_DEMAND, Bup.READY] ++ irqRegs Safe.page ++ wakeRegs) s t) :=
  gives_gated_put rfl hadm ⟨_, rfl, frame_safeShow (frame_refl shownRegs _) (List.Subset.refl _)⟩ (by decide)

theorem gives_brkReqWrite (v : Word) (hadm : Admits s port Safe.BRK_REQ) : Gives (.brkReqWrite port v) s (fun t =>
    t.rd Safe.BRK_REQ = v &&& 1 ∧ Frame [Safe.BRK_REQ] s t) :=
  gives_gated_put rfl hadm ⟨_, rfl, frame_refl [] _⟩ (List.not_mem_nil)

/-- A release of group `k` is asked for. -/
def asked (k : Nat) (s : State) : Bool := (sgOf s k).relReq

theorem sgOf_putSg (s : State) (g k : Nat) (x : SafeGrp) : sgOf (putSg g x s) k = if k = g then x else sgOf s k :=
  KMap.get_set _ s.isl.grps g k x

/-- Requests put for the groups of `l` stand, with those that stood before. -/
theorem asked_foldl_putSg (l : List Nat) (s : State) {k : Nat} (h : k ∈ l ∨ asked k s = true) :
    asked k (l.foldl (fun t x => putSg x { sgOf t x with relReq := true } t) s) = true := by
  induction l generalizing s with
  | nil => simpa using h
  | cons x l ih =>
    refine ih _ ?_
    rw [asked, sgOf_putSg]
    split
    · exact .inr rfl
    · next hne =>
      rcases h with h | h
      · exact .inl ((List.mem_cons.mp h).resolve_left hne)
      · exact .inr h

theorem asked_askRelease (s : State) {g k : Nat} (hg : g < 2) (h : k = g ∨ asked k s = true) : asked k (askRelease g s) = true := by
  refine asked_foldl_putSg _ s (h.imp_left fun hk => ?_)
  unfold sgSame
  split
  · simp only [List.mem_cons, List.not_mem_nil, or_false]
    omega
  · simp [hk]

theorem frame_askRelease {t : State} (h : Frame [] s t) (g : Nat) : Frame [] s (askRelease g t) :=
  frame_foldl h (fun _ _ _ hu => frame_hidden hu rfl rfl)

/-- Releases asked for group by group all stand. -/
theorem asked_foldl_askRelease (l : List Nat) (hl : ∀ g ∈ l, g < 2) (s : State) {k : Nat} (h : k ∈ l ∨ asked k s = true) :
    asked k (l.foldl (fun t g => askRelease g t) s) = true := by
  induction l generalizing s with
  | nil => simpa using h
  | cons g l ih =>
    have hg : g < 2 := hl g (List.mem_cons_self ..)
    refine ih (fun x hx => hl x (List.mem_cons_of_mem _ hx)) _ ?_
    rcases h with h | h
    · rcases List.mem_cons.mp h with h | h
      · exact .inr (asked_askRelease s hg (.inl h))
      · exact .inl h
    · exact .inr (asked_askRelease s hg (.inr h))

theorem gives_relCmd {v : Word} (hadm : Admits s port Safe.REL_CMD) (hall : ∀ g, g < 2 → bit v g = true →
      grpState s g = 0 ∧ parB s (Param.GCFG g) 2 = true ∧ canRelease s g = true) : Gives (.relCmd port v) s (fun t =>
    (∀ g, g < 2 → bit v g = true → (sgOf t g).relReq = true) ∧ Frame [] s t) := by
  have hnamed : ∀ g, g ∈ [0, 1].filter (bit v) ↔ g < 2 ∧ bit v g = true := fun g => by
    simp only [List.mem_filter, List.mem_cons, List.not_mem_nil, or_false]
    exact and_congr_left fun _ => by omega
  have hready : ([0, 1].filter (bit v)).all (fun g => decide (grpState s g = 0) && parB s (Param.GCFG g) 2 && canRelease s g) = true := by
    refine List.all_eq_true.mpr (fun g hg => ?_)
    obtain ⟨hg2, hbit⟩ := (hnamed g).mp hg
    obtain ⟨hstop, hhost, hcan⟩ := hall g hg2 hbit
    simp [hstop, hhost, hcan]
  have hop : relCmdWrite v s = accept (([0, 1].filter (bit v)).foldl (fun t g => askRelease g t) s) := if_pos hready
  have hframe : Frame [] s (([0, 1].filter (bit v)).foldl (fun t g => askRelease g t) s) :=
    frame_foldl (frame_refl [] s) (fun g _ u hu => frame_askRelease hu g)
  refine gives_gated_isl rfl hadm (by decide) hop (fun u hregs hmem hisl => ⟨fun g hg hbit => ?_, frame_hidden hframe hregs hmem⟩)
  have hask := asked_foldl_askRelease _ (fun x hx => ((hnamed x).mp hx).1) s (.inl ((hnamed g).mpr ⟨hg, hbit⟩))
  rw [sgOf, hisl]
  exact hask

/-! ### The lock-out key (R321) -/

theorem gives_loKey (hadm : Admits s port Safe.LO_KEY) (hlock : inLockout s = true) (hover : islandPersists s = false) :
    Gives (.loKey port 0x4F415448) s (fun t => t.isl.keyAt = some s.now ∧ Frame [] s t) := by
  have hop : loKeyWrite 0x4F415448 s = accept { s with isl := { s.isl with keyAt := some s.now } } := by
    simp [loKeyWrite, hlock, hover]
  refine gives_gated_isl rfl hadm (by decide) hop (fun u hregs hmem hisl => ⟨?_, frame_of_regs_mem hregs hmem⟩)
  rw [hisl]

theorem gives_loKeyTimeout {x : Nat} (hkey : s.isl.keyAt = some x) : Gives .loKeyTimeout s (fun t =>
    t.isl.keyAt = none ∧ x + 1600000000 ≤ t.now ∧ Frame [] s t) := by
  refine ⟨loKeyTimeout s, rfl, ?_⟩
  rw [loKeyTimeout, hkey]
  exact ⟨rfl, Nat.le_max_right .., frame_of_regs_mem rfl rfl⟩

/-! ### The password (R323, R328) -/

/-- The registers of the password's buffer. -/
abbrev bufRegs : List Nat := (List.range 8).map SafePw.PW_BUF0

/-- The fields of a command's word. -/
theorem fields_pwWord {op len : Nat} (user : Nat) (hop : op < 4) (hlen : len ≤ 32) :
    fld (pwWord op len user) 1 0 = op ∧ fld (pwWord op len user) 13 8 = len ∧
    (user < 65536 → fld (pwWord op len user) 31 16 = user) := by
  simp only [fld, pwWord, word, at', BitVec.toNat_ofNat]
  omega

theorem rd_foldl_clear (l : List Nat) (s : State) {j : Nat} (h : j ∈ l ∨ s.rd (SafePw.PW_BUF0 j) = 0) :
    (l.foldl (fun t k => t.wr (SafePw.PW_BUF0 k) 0) s).rd (SafePw.PW_BUF0 j) = 0 := by
  induction l generalizing s with
  | nil => simpa using h
  | cons x l ih =>
    refine ih _ ?_
    rw [State.rd_wr]
    split
    · exact .inr rfl
    · next hne =>
      rcases h with h | h
      · exact .inl ((List.mem_cons.mp h).resolve_left fun hj => hne (congrArg SafePw.PW_BUF0 hj))
      · exact .inr h

/-- A command clears the buffer and nothing else. -/
theorem pwClear_effect (s : State) : (∀ j, j < 8 → (pwClear s).rd (SafePw.PW_BUF0 j) = 0) ∧ (pwClear s).isl = s.isl ∧
    Frame bufRegs s (pwClear s) :=
  ⟨fun _ hj => rd_foldl_clear _ s (.inl (List.mem_range.mpr hj)), foldl_keeps State.isl (fun t _ => State.wr_isl t _ _) _ s,
    frame_foldl (frame_refl bufRegs s) (fun _ hk _ ht => frame_put ht _ (List.mem_map_of_mem hk))⟩

/-- The session opens. -/
def loggedIn (user : Nat) (s : State) : State :=
  { pwClear s with isl := { (pwClear s).isl with pwFails := 0, session := some user, sessAt := s.now } }

/-- A wrong password is counted; the fifth in a row blocks LOGIN for five minutes. -/
def loginFailed (s : State) : State :=
  let n := s.isl.pwFails + 1
  { pwClear s with isl := { (pwClear s).isl with pwFails := n, pwBlock := if n = 5 then some (s.now + 240000000000) else none } }

section
variable {len user : Nat} {h : List Byte}

theorem pwCmdWrite_login (hlen : len ≤ 32) (huser : user < 65536) : pwCmdWrite (pwWord 1 len user) s = pwLogin len user s := by
  obtain ⟨hop, hl, hu⟩ := fields_pwWord (op := 1) user (by decide) hlen
  simp only [pwCmdWrite, hop, hl, hu huser]

theorem pwLogin_right (hhash : s.isl.pwHash = some h) (hfree : s.isl.pwBlock = none) (hlen : len ≤ 32)
    (hpw : pwHashOf s.isl.pwSalt (pwEntered s len) = h) : pwLogin len user s = accept (loggedIn user s) := by
  simp only [pwLogin, hhash, hfree, hlen, hpw, and_self, if_true, loggedIn]

theorem pwLogin_wrong (hhash : s.isl.pwHash = some h) (hfree : s.isl.pwBlock = none)
    (hpw : pwHashOf s.isl.pwSalt (pwEntered s len) ≠ h) :
    pwLogin len user s = deny (wakeOn 2 ((loginFailed s).pulse Safe.page 7)) .keyRequired := by
  simp only [pwLogin, hhash, hfree, hpw, and_false, if_false, loginFailed]

theorem gives_loginRight (hadm : Admits s port SafePw.PW_CMD) (hhash : s.isl.pwHash = some h) (hfree : s.isl.pwBlock = none) (hlen : len ≤ 32)
    (huser : user < 65536) (hpw : pwHashOf s.isl.pwSalt (pwEntered s len) = h) : Gives (.pwLogin port len user) s (fun t =>
      t.isl.session = some user ∧ t.isl.pwFails = 0 ∧ (∀ j, j < 8 → t.rd (SafePw.PW_BUF0 j) = 0) ∧
        Frame ((List.range 8).map SafePw.PW_BUF0) s t) := by
  obtain ⟨hzero, -, hframe⟩ := pwClear_effect s
  refine gives_gated_isl rfl hadm (by decide) ((pwCmdWrite_login hlen huser).trans (pwLogin_right hhash hfree hlen hpw))
    (fun u hregs hmem hisl => ⟨?_, ?_, fun j hj => (State.rd_congr hregs _).trans (hzero j hj), frame_hidden hframe hregs hmem⟩)
  · rw [hisl]
    rfl
  · rw [hisl]
    rfl

theorem wakeOn_isl (k : Nat) (s : State) : (wakeOn k s).isl = s.isl := by
  simp only [wakeOn, wake, pwrGo, apply_ite State.isl, State.pulse_isl, State.wr_isl, State.wrB_isl, ite_self]

/-- The registers that a wrong password moves beside the record of its refusal. -/
abbrev failRegs : List Nat := bufRegs ++ irqRegs Safe.page ++ wakeRegs

theorem frame_loginFailed (s : State) : Frame failRegs s (wakeOn 2 ((loginFailed s).pulse Safe.page 7)) := by
  obtain ⟨-, -, hclear⟩ := pwClear_effect s
  have hfailed : Frame failRegs s (loginFailed s) := frame_hidden (frame_mono hclear (fun _ ha =>
    List.mem_append_left _ (List.mem_append_left _ ha))) rfl rfl
  exact frame_wakeOn (frame_pulse hfailed 7 (fun _ ha => List.mem_append_left _ (List.mem_append_right _ ha))) 2
    (List.subset_append_right ..)

theorem gives_loginWrong (hadm : Admits s port SafePw.PW_CMD) (hhash : s.isl.pwHash = some h) (hfree : s.isl.pwBlock = none) (hlen : len ≤ 32)
    (huser : user < 65536) (hpw : pwHashOf s.isl.pwSalt (pwEntered s len) ≠ h) : Gives (.pwLogin port len user) s (fun t =>
      t.isl.session = s.isl.session ∧ t.isl.pwFails = s.isl.pwFails + 1 ∧
        (s.isl.pwFails = 4 → t.isl.pwBlock = some (s.now + 240000000000)) ∧ fld (t.rd (hERRINFO SafePw.page)) 31 24 = 3 ∧
        Frame ((List.range 8).map SafePw.PW_BUF0 ++ irqRegs Safe.page ++ wakeRegs ++ hERRINFO SafePw.page :: irqRegs SafePw.page) s t) := by
  obtain ⟨-, hclear, -⟩ := pwClear_effect s
  have hhome : homePage SafePw.PW_CMD = SafePw.page := by decide
  refine gives_gated_deny rfl hadm (by decide) ((pwCmdWrite_login hlen huser).trans (pwLogin_wrong hhash hfree hpw)) (by decide) (by decide)
    (fun u hisl hnum hrecord => ?_)
  rw [hhome] at hnum hrecord
  rw [wakeOn_isl, State.pulse_isl] at hisl
  refine ⟨?_, ?_, fun hfour => ?_, hnum, frame_trans (frame_mono (frame_loginFailed s) (List.subset_append_left ..))
    (frame_mono hrecord (List.subset_append_right ..))⟩
  · rw [hisl, loginFailed, hclear]
  · rw [hisl, loginFailed]
  · rw [hisl, loginFailed, hfour]
    rfl

end

theorem gives_logout (hadm : Admits s port SafePw.PW_CMD) : Gives (.pwLogout port) s (fun t => t.isl.session = none ∧
    (∀ j, j < 8 → t.rd (SafePw.PW_BUF0 j) = 0) ∧ Frame ((List.range 8).map SafePw.PW_BUF0) s t) := by
  obtain ⟨hzero, -, hframe⟩ := pwClear_effect s
  have hop : pwCmdWrite (pwWord 2 0 0) s = accept (endSession (pwClear s)) := rfl
  refine gives_gated_isl rfl hadm (by decide) hop (fun u hregs hmem hisl =>
    ⟨?_, fun j hj => (State.rd_congr hregs _).trans (hzero j hj), frame_hidden hframe hregs hmem⟩)
  rw [hisl]
  rfl

/-- SET with an allowed password, in a session or with none set, sets it and writes one entry of the change log. -/
theorem pwSetCmd_effect {len : Nat} (hmay : s.isl.pwHash = none ∨ s.isl.session ≠ none) (hlow : 8 ≤ len) (hhigh : len ≤ 32)
    (hchars : ∀ c ∈ pwEntered s len, 0x21 ≤ c ∧ c ≤ 0x7E) : ∃ t, pwSetCmd len s = accept t ∧ t.isl.pwHash.isSome = true ∧
      t.isl.logSeq = s.isl.logSeq + 1 ∧ t.regs = (pwClear s).regs ∧ t.mem = (pwClear s).mem := by
  obtain ⟨-, hclear, -⟩ := pwClear_effect s
  have hopen : ¬(s.isl.pwHash.isSome = true ∧ s.isl.session.isNone = true) := by
    rintro ⟨hset, hnone⟩
    rcases hmay with h | h
    · simp [h] at hset
    · exact h (Option.isNone_iff_eq_none.mp hnone)
  have hgood : (pwEntered s len).all (fun c => decide (0x21 ≤ c ∧ c ≤ 0x7E)) = true :=
    List.all_eq_true.mpr (fun c hc => decide_eq_true (hchars c hc))
  have hform : ¬(len < 8 ∨ 32 < len ∨ (!(pwEntered s len).all (fun c => decide (0x21 ≤ c ∧ c ≤ 0x7E))) = true) := by
    rw [hgood]
    simp only [Bool.not_true, Bool.false_eq_true, or_false]
    omega
  have hseq : (pwClear s).isl.logSeq + 1 = s.isl.logSeq + 1 := congrArg (fun i : IslandState => i.logSeq + 1) hclear
  exact ⟨_, (if_neg hopen).trans (if_neg hform), rfl, hseq, rfl, rfl⟩

theorem gives_pwSet {len : Nat} (user : Nat) (hadm : Admits s port SafePw.PW_CMD) (hmay : s.isl.pwHash = none ∨ s.isl.session ≠ none)
    (hlow : 8 ≤ len) (hhigh : len ≤ 32) (hchars : ∀ c ∈ pwEntered s len, 0x21 ≤ c ∧ c ≤ 0x7E) : Gives (.pwSet port len user) s (fun t =>
      t.isl.pwHash.isSome = true ∧ t.isl.logSeq = s.isl.logSeq + 1 ∧ Frame ((List.range 8).map SafePw.PW_BUF0) s t) := by
  obtain ⟨-, -, hframe⟩ := pwClear_effect s
  obtain ⟨hcmd, hl, -⟩ := fields_pwWord (op := 3) user (by decide) hhigh
  obtain ⟨t, hset, hhash, hseq, htregs, htmem⟩ := pwSetCmd_effect hmay hlow hhigh hchars
  have hop : pwCmdWrite (pwWord 3 len user) s = accept t := by
    rw [pwCmdWrite, hcmd, hl]
    exact hset
  refine gives_gated_isl rfl hadm (by decide) hop (fun u hregs hmem hisl =>
    ⟨?_, ?_, frame_hidden hframe (hregs.trans htregs) (hmem.trans htmem)⟩)
  · rw [hisl]
    exact hhash
  · rw [hisl]
    exact hseq

theorem gives_sessionTimeout (hopen : s.isl.session ≠ none) : Gives .sessionTimeout s (fun t =>
    t.isl.session = none ∧ s.isl.sessAt + 48000000000 ≤ t.now ∧ Frame [] s t) := by
  refine ⟨sessionTimeout s, rfl, ?_⟩
  rw [sessionTimeout, if_pos (Option.isSome_iff_ne_none.mpr hopen)]
  exact ⟨rfl, Nat.le_max_right .., frame_of_regs_mem rfl rfl⟩

theorem gives_loginBlockExpiry {x : Nat} (hblock : s.isl.pwBlock = some x) : Gives .loginBlockExpiry s (fun t =>
    t.isl.pwBlock = none ∧ t.isl.pwFails = 0 ∧ x ≤ t.now ∧ Frame [] s t) := by
  refine ⟨loginBlockExpiry s, rfl, ?_⟩
  rw [loginBlockExpiry, hblock]
  exact ⟨rfl, rfl, Nat.le_max_right .., frame_of_regs_mem rfl rfl⟩

/-! ### The parameter set (R324, R462) -/

/-- The commit is under way for the user of the session. -/
def committing (u : Nat) (s : State) : State :=
  { s with isl := { s.isl with
    commitAt := some s.now, commitSet := editCopy s, commitCb := cbCrc s (editCopy s), commitUser := u, sessAt := s.now } }

theorem gives_paramCommit {u : Nat} (hadm : Admits s port Safe.PARAM_CMD) (hblank : s.rdF Sec.LC_STATE 1 0 ≠ 0)
    (hreturn : s.rdF Sec.LC_STATE 1 0 ≠ 3) (hsess : s.isl.session = some u) (hidle : s.isl.commitAt = none)
    (hstop : ∀ g, g < 2 → sgEn s g = true → grpState s g = 0) (hset : setOk s (editCopy s) = true) : Gives (.paramCommit port) s (fun t =>
      t.isl.commitAt = some s.now ∧ t.isl.commitSet = editCopy s ∧ t.isl.commitUser = u ∧ Frame [] s t) := by
  have hstopped : [0, 1].any (fun g => sgEn s g && decide (grpState s g ≠ 0)) = false := by
    refine List.any_eq_false.mpr (fun g hg => ?_)
    have hg2 : g < 2 := by
      simp only [List.mem_cons, List.not_mem_nil, or_false] at hg
      omega
    rw [Bool.not_eq_true, Bool.and_eq_false_imp]
    intro hen
    simp [hstop g hg2 hen]
  have hop : paramCmdWrite 1 s = accept (committing u s) := by
    have hcmd : fld (1 : Word) 1 0 = 1 := by decide
    rw [paramCmdWrite, hcmd]
    simp only [commitCmd, hblank, hreturn, or_self, hsess, hidle, Option.isSome_none, hstopped, hset, Bool.not_true, Bool.false_eq_true,
      if_false, committing]
  refine gives_gated_isl rfl hadm (by decide) hop (fun t hregs hmem hisl => ⟨?_, ?_, ?_, frame_of_regs_mem hregs hmem⟩)
  all_goals
    rw [hisl]
    rfl

/-- What the end of a commit decides: the windows, the committed set, whether one exists, whether a commit is under way, and PARAM_CRC. -/
structure Commit where
  mem : List Host.Cell
  committed : List (Nat × Word)
  exists_ : Bool
  at_ : Option Nat
  crc : Word

/-- That part of a state. -/
def commit (s : State) : Commit := ⟨s.mem, s.committed, s.isl.setExists, s.isl.commitAt, s.rd Safe.PARAM_CRC⟩

theorem commit_of_account {s t : State} (h : account t = account s) : commit t = commit s := by
  have hcrc := rd_of_account h (by decide : OnControl Safe.PARAM_CRC)
  have hrest := congrArg (fun x : Account => (x.mem, x.committed, x.isl.setExists, x.isl.commitAt)) h
  obtain ⟨hmem, hset, hexists, hat⟩ : t.mem = s.mem ∧ t.committed = s.committed ∧ t.isl.setExists = s.isl.setExists ∧
      t.isl.commitAt = s.isl.commitAt := by simpa only [account, Prod.mk.injEq] using hrest
  simp only [commit, hcrc, hmem, hset, hexists, hat]

theorem commit_wr (s : State) {a : Nat} (v : Word) (ha : Safe.PARAM_CRC ≠ a) : commit (s.wr a v) = commit s := by
  simp only [commit, State.rd_wr_ne s a _ v ha, State.wr_mem, State.wr_committed, State.wr_isl]

/-- Inputs and connections that start anew are no part of it. -/
theorem commit_restartChanged (changed : List Nat) (s : State) : commit (restartChanged changed s) = commit s := by
  have hstat : ∀ k, Safe.PARAM_CRC ≠ SafeIn.SI_STAT k ∧ Safe.PARAM_CRC ≠ SafeTg.TG_STAT k := fun k => by
    simp only [Safe.PARAM_CRC, SafeIn.SI_STAT, SafeTg.TG_STAT]
    omega
  have hin : ∀ (t : State) k, commit ((putSi k {} t).wr (SafeIn.SI_STAT k) 0) = commit t := fun t k => commit_wr (putSi k {} t) 0 (hstat k).1
  have htg : ∀ (t : State) k, commit ((putTg k { agreedAt := t.now, txAt := t.now } t).wr (SafeTg.TG_STAT k) 0) = commit t := fun t k =>
    commit_wr (putTg k { agreedAt := t.now, txAt := t.now } t) 0 (hstat k).2
  refine (foldl_keeps commit (fun t k => ?_) _ _).trans (foldl_keeps commit (fun t k => ?_) _ s)
  · rw [apply_ite commit, htg, ite_self]
  · rw [apply_ite commit, hin, ite_self]

/-- The addresses whose word a commit changes. -/
def changedAddrs (s : State) : List Nat := paramAddrs.filter (fun a => decide (setWord s.committed a ≠ setWord s.isl.commitSet a))

/-- The change log's entries of a commit: one per changed word and one of the set's checksum. -/
def commitLogged (s : State) : State :=
  logEntry s.isl.commitUser 0xFFFD (s.rd Safe.PARAM_CRC) (paramCrc s.isl.commitSet)
    ((changedAddrs s).foldl (fun u a =>
      logEntry s.isl.commitUser (paramId a) (wordCrc (setWord s.committed a)) (wordCrc (setWord s.isl.commitSet a)) u) s)

/-- The checksums that a commit writes. -/
def commitSummed (s : State) : State :=
  (((commitLogged s).wr Safe.PARAM_CRC (paramCrc s.isl.commitSet)).wr (Param.CB_CRC 0) s.isl.commitCb).wr (Param.CB_CRC 1) s.isl.commitCb

/-- The set under way becomes the committed one. -/
def commitEnd (s : State) : State :=
  { commitSummed s with
    committed := s.isl.commitSet
    isl := { (commitSummed s).isl with setExists := true, commitAt := none, commitSet := [], cbBad := false, paramBad := false } }

theorem commitDone_eq {dt x : Nat} (hat : s.isl.commitAt = some x) : ∃ t,
    commitDone dt s = outputs (restartChanged (changedAddrs t) (commitEnd t)) ∧ t.mem = s.mem ∧ t.isl = s.isl := by
  refine ⟨s.reach (min (s.now + dt) (x + msCycles 200)), ?_, rfl, rfl⟩
  rw [commitDone, hat]
  rfl

theorem commitLogged_mem (s : State) : (commitLogged s).mem = s.mem := by
  have hentry : ∀ (t : State) a, (logEntry s.isl.commitUser (paramId a) (wordCrc (setWord s.committed a))
      (wordCrc (setWord s.isl.commitSet a)) t).mem = t.mem := fun _ _ => rfl
  exact foldl_keeps State.mem hentry (changedAddrs s) s

theorem commit_commitEnd (s : State) : commit (commitEnd s) = ⟨s.mem, s.isl.commitSet, true, none, paramCrc s.isl.commitSet⟩ := by
  have hcb : Safe.PARAM_CRC ≠ Param.CB_CRC 0 ∧ Safe.PARAM_CRC ≠ Param.CB_CRC 1 := by decide
  have hmem : (commitEnd s).mem = s.mem := by
    rw [commitEnd, commitSummed, State.wr_mem, State.wr_mem, State.wr_mem, commitLogged_mem]
  have hcrc : (commitEnd s).rd Safe.PARAM_CRC = paramCrc s.isl.commitSet := by
    have hregs : (commitEnd s).regs = (commitSummed s).regs := by rw [commitEnd]
    rw [State.rd_congr hregs, commitSummed, State.rd_wr_ne _ _ _ _ hcb.2, State.rd_wr_ne _ _ _ _ hcb.1, State.rd_wr_self]
  rw [commit, hmem, hcrc, commitEnd]

theorem gives_paramCommitDone {dt x : Nat} (hat : s.isl.commitAt = some x) : Gives (.paramCommitDone dt) s (fun t =>
    t.committed = s.isl.commitSet ∧ t.isl.setExists = true ∧ t.isl.commitAt = none ∧ t.rd Safe.PARAM_CRC = paramCrc s.isl.commitSet ∧
      ∀ a, t.rdByte a = s.rdByte a) := by
  obtain ⟨t, hend, hmem, hisl⟩ := commitDone_eq (dt := dt) hat
  have hdone : commit (commitDone dt s) = ⟨s.mem, s.isl.commitSet, true, none, paramCrc s.isl.commitSet⟩ := by
    rw [hend, commit_of_account (account_outputs _), commit_restartChanged, commit_commitEnd, hmem, hisl]
  refine ⟨commitDone dt s, rfl, congrArg Commit.committed hdone, congrArg Commit.exists_ hdone, congrArg Commit.at_ hdone,
    congrArg Commit.crc hdone, rdByte_congr (congrArg Commit.mem hdone)⟩

/-- A read after keys that satisfy `p` were filled from another map. -/
theorem get_copyWhere {α : Type} [DecidableEq α] (d : Nat → α) (p : Nat → Bool) (src m : List (Nat × α)) (a : Nat) :
    KMap.get d (KMap.copyWhere p src m) a = if p a then KMap.get d src a else KMap.get d m a := by
  have hinsert : ∀ (l : List (Nat × α)) b v, KMap.get d (KMap.insert l b v) a = if b = a then v else KMap.get d l a := by
    intro l b v
    by_cases hb : b = a
    · subst hb
      rw [if_pos rfl]
      induction l with
      | nil => simp [KMap.insert, KMap.get]
      | cons e l ih =>
        obtain ⟨c, w⟩ := e
        by_cases hc : c < b
        · simp only [KMap.insert, hc, if_true, KMap.get, if_neg (Nat.ne_of_lt hc), ih]
        · simp only [KMap.insert, hc, if_false, KMap.get, if_true]
    · rw [if_neg hb, KMap.get_insert_ne d l b a v (Ne.symm hb)]
  have hfill : ∀ (l base : List (Nat × α)), KMap.get d base a = d a ∨ p a = false →
      (∀ e ∈ l, p e.1 = true) → KMap.get d (l.foldr (fun e acc => KMap.insert acc e.1 e.2) base) a =
        if p a then KMap.get d l a else KMap.get d base a := by
    intro l base hbase
    induction l with
    | nil =>
      intro _
      rcases hbase with h | h <;> simp [KMap.get, h]
    | cons e l ih =>
      intro hl
      obtain ⟨b, w⟩ := e
      rw [List.foldr_cons, hinsert, ih (fun x hx => hl x (List.mem_cons_of_mem _ hx))]
      by_cases hb : b = a
      · subst hb
        have hpb : p b = true := hl (b, w) (List.mem_cons_self ..)
        simp [hpb, KMap.get]
      · simp [hb, KMap.get]
  have hkept := Resets.get_filter d (fun k => !p k) m a
  have hsrc := Resets.get_filter d p src a
  rw [KMap.copyWhere, hfill _ _ ?base (fun e he => (List.mem_filter.mp he).2), hkept, hsrc]
  case base =>
    rw [hkept]
    cases p a <;> simp
  cases p a <;> simp

theorem gives_paramDiscard (hadm : Admits s port Safe.PARAM_CMD) (hidle : s.isl.commitAt = none) : Gives (.paramDiscard port) s (fun t =>
    (∀ a, paramReg a = true → t.rd a = s.rdC a) ∧ (∀ a, paramReg a = false → t.rd a = s.rd a) ∧ ∀ a, t.rdByte a = s.rdByte a) := by
  have hop : paramCmdWrite 2 s = accept { s with regs := KMap.copyWhere paramReg s.committed s.regs } := by
    have hcmd : fld (2 : Word) 1 0 = 2 := by decide
    rw [paramCmdWrite, hcmd]
    simp only [discardCmd, hidle, Option.isSome_none, Bool.false_eq_true, if_false]
  refine gives_gated_isl rfl hadm (by decide) hop (fun t hregs hmem _ => ?_)
  have hread : ∀ a, t.rd a = if paramReg a then s.rdC a else s.rd a := fun a => by
    rw [State.rd, hregs]
    exact get_copyWhere rst paramReg s.committed s.regs a
  refine ⟨fun a ha => ?_, fun a ha => ?_, rdByte_congr hmem⟩
  · rw [hread, if_pos ha]
  · rw [hread, ha, if_neg Bool.false_ne_true]

end

/-! ### The statement -/

/-- Settles O56, clause by clause: each command by the operation that the fabric admits, or by the instant its timer reaches. -/
theorem islandHostCommandsAndPassword : Obligations.IslandHostCommandsAndPassword := by
  intro port len user dt v s
  exact ⟨gives_hostDemandWrite v, gives_relCmd, gives_brkReqWrite v, gives_loKey, fun x => gives_loKeyTimeout,
    fun h hadm hhash hfree hlen huser => ⟨gives_loginRight hadm hhash hfree hlen huser, gives_loginWrong hadm hhash hfree hlen huser⟩,
    gives_logout, gives_pwSet user, gives_sessionTimeout, fun x => gives_loginBlockExpiry, fun u => gives_paramCommit,
    fun x hat _ => gives_paramCommitDone hat, gives_paramDiscard⟩

end Sys2Proof.Laws.IslandCommands
end

section
/-! PROOFS. What is the thermal manager's own: time, the memory windows, its hidden state, its registers above the header and the live values
behind them. What the rest of the device does when the manager forces states, sends an alarm or ends a round leaves it alone (R335-R350). -/

namespace Sys2Proof.Laws.ThermalOwn
open Sys2Proof.Machine Sys2Proof.Laws.Protection Sys2Proof.Laws.Reactions Sys2Proof.Laws.ProtDisplay

/-- The address is that of a register of the control page or the channel page, above its header (R349, R350). -/
abbrev OnThermal (a : Nat) : Prop := 0x1A0000 ≤ a ∧ a < 0x1A2000 ∧ 0x40 ≤ a % 4096

/-- What only the thermal manager itself moves. -/
structure Own where
  now : Nat
  mem : List Host.Cell
  therm : ThermState
  reg : Nat → Word
  value : Nat → Word

/-- That part of a state. -/
def own (s : State) : Own :=
  ⟨s.now, s.mem, s.therm, fun a => if OnThermal a then s.rd a else 0, fun a => if OnThermal a then s.rdL a else 0⟩

/-- The same without the live values. -/
def unread (s : State) : Own := { own s with value := fun _ => 0 }

section
variable {s t : State} (h : own t = own s)
include h

theorem now_of_own : t.now = s.now := congrArg Own.now h

theorem mem_of_own : t.mem = s.mem := congrArg Own.mem h

theorem therm_of_own : t.therm = s.therm := congrArg Own.therm h

theorem rd_of_own {a : Nat} (ha : OnThermal a) : t.rd a = s.rd a := by
  have hreg := congrFun (congrArg Own.reg h) a
  simpa only [own, if_pos ha] using hreg

theorem rdL_of_own {a : Nat} (ha : OnThermal a) : t.rdL a = s.rdL a := by
  have hvalue := congrFun (congrArg Own.value h) a
  simpa only [own, if_pos ha] using hvalue

end

theorem own_of_unread {s t : State} (h : unread t = unread s) (hvalue : ∀ a, OnThermal a → t.rdL a = s.rdL a) : own t = own s := by
  have hvalues : (own t).value = (own s).value := by
    funext a
    simp only [own]
    split
    · next ha => exact hvalue a ha
    · rfl
  calc own t = { unread t with value := (own t).value } := rfl
    _ = { unread s with value := (own s).value } := by rw [h, hvalues]
    _ = own s := rfl

/-! ### State operations -/

section
variable (s : State)

theorem unread_wr {a : Nat} (v : Word) (ha : ¬OnThermal a) : unread (s.wr a v) = unread s := by
  have hregs : (fun b => if OnThermal b then (s.wr a v).rd b else 0) = fun b => if OnThermal b then s.rd b else 0 := by
    funext b
    split
    · next hb => exact State.rd_wr_ne s a b v (fun hab => ha (hab ▸ hb))
    · rfl
  simp only [unread, own, hregs, State.wr_now, State.wr_mem, State.wr_therm]

theorem own_wr {a : Nat} (v : Word) (ha : ¬OnThermal a) : own (s.wr a v) = own s :=
  own_of_unread (unread_wr s v ha) (fun b _ => State.rdL_wr s a b v)

theorem own_wrB {a : Nat} (i : Nat) (b : Bool) (ha : ¬OnThermal a) : own (s.wrB a i b) = own s := own_wr s _ ha

theorem own_wrL {a : Nat} (v : Word) (ha : ¬OnThermal a) : own (s.wrL a v) = own s := by
  refine own_of_unread rfl (fun b hb => ?_)
  rw [State.rdL_wrL, if_neg (fun hab : b = a => ha (hab ▸ hb))]

theorem own_incL {a : Nat} (ha : ¬OnThermal a) : own (s.incL a) = own s := own_wrL s _ ha

theorem own_raw (p i : Nat) (b : Bool) : own (s.raw p i b) = own s :=
  (own_wr _ _ (by simp only [hIRQ_PEND]; omega)).trans (own_wr s _ (by simp only [hIRQ_RAW]; omega))

/-! ### The modulator and protection (R28-R30, R290-R293) -/

theorem resolved_unread : Resolved unread where
  chan t a v ha := unread_wr t v (by
    have hpage : pageOf a = 0x141 ∨ pageOf a = 0x142 := by simpa [Ch.page, Grp.page] using ha
    simp only [pageOf] at hpage
    omega)
  wrL _ _ _ := rfl
  setPwm _ _ := rfl

theorem live_setLevel (c : Nat) (b : Bool) (t8 : Int) : (setLevel c b t8 s).live = s.live := by
  have hput : ∀ t x, (putCh c x t).live = t.live := fun _ _ => rfl
  simp only [setLevel, apply_ite State.live, hput, State.wrB_live, ite_self]

theorem live_requestOn (c : Nat) (t8 : Int) : (requestOn c t8 s).live = s.live := by
  have hput : ∀ t x, (putCh c x t).live = t.live := fun _ _ => rfl
  simp only [requestOn, apply_ite State.live, live_setLevel, hput, State.wrB_live, ite_self]

/-- A leg's passage counts in a live value of the modulators alone (R233). -/
theorem rdL_passLeg {g a : Nat} (t8 : Int) (x : Nat) (hg : g < 6) (ha : OnThermal a) : (passLeg t8 s g x).rdL a = s.rdL a := by
  have hcount : ∀ t, (State.incL t (PwmTel.NP_PASS g)).rdL a = t.rdL a := fun t => by
    rw [State.incL, State.rdL_wrL, if_neg (by simp only [PwmTel.NP_PASS]; omega)]
  have hput : ∀ t l, (putLeg g x l t).rdL a = t.rdL a := fun _ _ => rfl
  have hshow : ∀ t b, (showPassage g x b t).rdL a = t.rdL a := fun _ _ => rfl
  unfold passLeg
  dsimp only
  split
  · rfl
  · split <;> simp only [apply_ite (State.rdL · a), hcount, hshow, hput, ite_self]

theorem rdL_resolveNow {a : Nat} (ha : OnThermal a) : (resolveNow s).rdL a = s.rdL a := by
  have hgov : ∀ t c, (putCh c (govern t false c) t).rdL a = t.rdL a := fun _ _ => rfl
  have hrank : ∀ t c, (showRank c t).rdL a = t.rdL a := fun _ _ => rfl
  have hleg : ∀ u t, ∀ e ∈ allChans.filterMap (legHead u), (passLeg (8 * s.now) t e.1 e.2).rdL a = t.rdL a := by
    intro u t e he
    obtain ⟨c, -, hc⟩ := List.mem_filterMap.mp he
    exact rdL_passLeg t _ _ (group_of_legHead u hc) ha
  have hoff : ∀ t c, (if wants t c then t else setLevel c false (8 * s.now) t).rdL a = t.rdL a := fun t c => by
    simp only [apply_ite (State.rdL · a), State.rdL_congr (live_setLevel t ..), ite_self]
  have hon : ∀ t c, (if wants t c then requestOn c (8 * s.now) t else t).rdL a = t.rdL a := fun t c => by
    simp only [apply_ite (State.rdL · a), State.rdL_congr (live_requestOn t ..), ite_self]
  simp only [resolveNow, resolve, foldl_keeps (State.rdL · a) hon, foldl_keeps (State.rdL · a) hoff,
    foldl_keeps_mem (State.rdL · a) (hleg _), foldl_keeps (State.rdL · a) hrank, foldl_keeps (State.rdL · a) hgov]

theorem own_resolveNow : own (resolveNow s) = own s :=
  own_of_unread (resolved_resolveNow resolved_unread s) (fun _ => rdL_resolveNow s)

theorem own_addForce (f : Force) : own (addForce f s) = own s := own_resolveNow _

theorem own_dropForce (tag : ForceTag) (id : Nat) : own (dropForce tag id s) = own s := own_resolveNow _

theorem shown_own : Shown own where
  wr t a v ha := own_wr t v ((by decide : ∀ b ∈ shownRegs, ¬OnThermal b) a ha)
  status t w _ := own_wr t w (by decide)
  setProt _ _ _ := rfl

theorem own_protShow : own (protShow s) = own s := shown_protShow shown_own s

theorem own_ascStart (m : Nat) : own (ascStart m s) = own s := by
  unfold ascStart
  split <;> rfl

theorem own_protAsc (tag : ForceTag) (m : Nat) : own (protAsc tag m s) = own s := by
  have hpulse : ∀ t, own (State.pulse t Prot.page 9) = own t := fun t => shown_pulse shown_own t 9 (by decide) (by decide)
  have hevent : ∀ t c p k o, own (emitPage c p k o t) = own t := fun _ _ _ _ _ => rfl
  have hprot : ∀ (t : State) x, own { t with prot := x } = own t := fun _ _ => rfl
  simp only [protAsc, apply_ite own, own_protShow, own_addForce, hpulse, hevent, hprot, own_ascStart, ite_self]

/-! ### The conditions, events and alarm frames of the manager (R344, R349, R399) -/

theorem own_thermLevels : own (thermLevels s) = own s := by
  simp only [thermLevels, shown_wakeRisen shown_own, own_raw]

theorem own_thermEvent (cls : EvClass) (code obj : Nat) : own (thermEvent cls code obj s) = own s := rfl

theorem own_putBytes {a : Nat} (l : List Nat) (ha : 0x1A2000 ≤ a) : own (putBytes a l s) = own s :=
  foldl_keeps own (fun t _ => own_wr t _ (by omega)) _ s

theorem own_canDevice (ch o : Nat) (replace : Bool) (l : List Nat) : own (canDevice ch o replace l s).1 = own s := by
  have hobj : ∀ k, ¬OnThermal (Obj.OBJ_STAT k) ∧ ¬OnThermal (Obj.OBJ_DLC k) ∧ 0x1A2000 ≤ Obj.OBJ_DATA0 k 0 := fun k => by
    simp only [Obj.OBJ_STAT, Obj.OBJ_DLC, Obj.OBJ_DATA0]
    omega
  obtain ⟨hstat, hdlc, hdata⟩ := hobj (objOf ch o)
  have hcan : ∀ t x, own (putCan ch x t) = own t := fun _ _ => rfl
  simp only [canDevice, objQueue, canKick, apply_ite Prod.fst, apply_ite own, hcan, own_wr _ _ hstat, own_wr _ _ hdlc,
    own_putBytes _ _ hdata, ite_self]

theorem own_sendAlarm (n k p at_ : Nat) (ws : List Word) : own (sendAlarm false n k p at_ ws s) = own s := by
  have hover : ∀ t, own (State.incL t (Can.OVERFLOWS n)) = own t := fun t => own_incL t (by simp only [Can.OVERFLOWS]; omega)
  have hsent : ∀ (t : State) x, own { t with bus := x } = own t := fun _ _ => rfl
  unfold sendAlarm trySendAlarm
  extract_lets key seq l
  have hsend : own (devSend false n k false l s).1 = own s := own_canDevice s n k false l
  split
  · next t hdev => exact (hsent t _).trans (by rw [hdev] at hsend; exact hsend)
  · next t hdev => exact (hsent t _).trans (by rw [hdev] at hsend; exact hsend)
  · next t x _ _ hdev => exact (hover t).trans (by rw [hdev] at hsend; exact hsend)

theorem own_thermAlarm (code idx : Nat) (v : Word) : own (thermAlarm code idx v s) = own s := by
  simp only [thermAlarm, apply_ite own, own_sendAlarm, ite_self]

/-! ### The check of the references (R88) -/

theorem own_measLevels (x : Nat) : own (measLevels x s) = own s := by
  simp only [measLevels, own_raw]

theorem own_setReady (i : Nat) (b : Bool) : own (setReady i b s) = own s := own_wrB s i b (by decide)

theorem own_refRound (bad : List Nat) : own (refRound bad s) = own s := by
  have hput : ∀ t x c h, own (putChan x c h t) = own t := fun _ _ _ _ => rfl
  have hmeas : ∀ (t : State) x, own { t with meas := x } = own t := fun _ _ => rfl
  have hchan : ∀ t, ∀ x < 2, ∀ c < 16, ∀ b : Bool, own (if refLost t x c then updRef x (t.wrB (MeasCh.CH_STATUS x c) 0 false)
      else if b then startSettle x c true t else t) = own t := by
    intro t x hx c hc b
    have hstat : ¬OnThermal (MeasCh.CH_STATUS x c) := by
      simp only [MeasCh.CH_STATUS]
      omega
    simp only [startSettle, updRef, apply_ite own, own_setReady, own_wrB _ _ _ hstat, hput, ite_self]
  unfold refRound
  refine (foldl_keeps_mem own (fun t x hx => ?_) _).trans (hmeas s _)
  rw [own_measLevels]
  exact foldl_keeps_mem own (fun u c hc => hchan u x (List.mem_range.mp hx) c (List.mem_range.mp hc) _) t

end

end Sys2Proof.Laws.ThermalOwn
end

section
/-! PROOFS. What the thermal manager shows of a round and of one channel: the course of its slots, ROUND_OK, and the channel's VALID and value.
Throttling, cold blocks, shutdowns and the moves of the limits leave it alone (R336-R346). -/

namespace Sys2Proof.Laws.ThermalDisplay
open Sys2Proof.Machine Sys2Proof.Laws.Fields Sys2Proof.Laws.Frames Sys2Proof.Laws.Protection Sys2Proof.Laws.Reactions
open Sys2Proof.Laws.ProtDisplay Sys2Proof.Laws.ThermalOwn

/-- The course of the round: of the hidden state all but the counts of the channels and of shutdowns, the references found bad and the grace
timers. -/
def course (x : ThermState) : ThermState := { x with chans := [], refBad := [], grace := [], sdSeq := 0 }

/-- What the end of a slot or of a round alone decides, with the VALID bit and the value of one channel. -/
structure Display where
  now : Nat
  mem : List Host.Cell
  round : ThermState
  roundOk : Bool
  valid : Bool
  value : Word

/-- That part of a state, with channel `c`. -/
def display (c : Nat) (s : State) : Display :=
  ⟨s.now, s.mem, course s.therm, thrBit s 14, s.rdB (ThermCh.HK_STAT c) 5, s.rdL (Therm.HK_VAL c)⟩

section
variable {c : Nat} (hc : c < 96) (s : State)

theorem display_congr {s t : State} (hnow : t.now = s.now) (hmem : t.mem = s.mem) (hround : course t.therm = course s.therm)
    (hok : thrBit t 14 = thrBit s 14) (hvalid : t.rdB (ThermCh.HK_STAT c) 5 = s.rdB (ThermCh.HK_STAT c) 5)
    (hvalue : t.rdL (Therm.HK_VAL c) = s.rdL (Therm.HK_VAL c)) : display c t = display c s := by
  simp only [display, hnow, hmem, hround, hok, hvalid, hvalue]

/-! ### The manager's own writes -/

theorem display_wr {a : Nat} (v : Word) (hthr : Therm.THR_STAT ≠ a) (hstat : ThermCh.HK_STAT c ≠ a) :
    display c (s.wr a v) = display c s :=
  display_congr (State.wr_now ..) (State.wr_mem ..) (congrArg course (State.wr_therm ..)) (rdB_wr_ne s v 14 hthr)
    (rdB_wr_ne s v 5 hstat) (State.rdL_wr ..)

omit s in
theorem hkStat_ne_thrStat (k : Nat) : ThermCh.HK_STAT k ≠ Therm.THR_STAT := by
  simp only [ThermCh.HK_STAT, Therm.THR_STAT]
  omega

/-- A bit of THR_STAT below ROUND_OK. -/
theorem display_wrB_thrStat {i : Nat} (b : Bool) (hi : i < 14) : display c (s.wrB Therm.THR_STAT i b) = display c s :=
  display_congr (State.wrB_now ..) (State.wrB_mem ..) (congrArg course (State.wrB_therm ..)) (rdB_wrB_ne s _ b (by omega) (by omega))
    (rdB_wr_ne s _ 5 (hkStat_ne_thrStat c)) (State.rdL_wr ..)

/-- ROUND_OK. -/
theorem display_wrB_roundOk (b : Bool) : display c (s.wrB Therm.THR_STAT 14 b) = { display c s with roundOk := b } := by
  have hok : thrBit (s.wrB Therm.THR_STAT 14 b) 14 = b := rdB_wrB_self s _ (by decide) b
  have hvalid : (s.wrB Therm.THR_STAT 14 b).rdB (ThermCh.HK_STAT c) 5 = s.rdB (ThermCh.HK_STAT c) 5 :=
    rdB_wr_ne s _ 5 (hkStat_ne_thrStat c)
  have hvalue : (s.wrB Therm.THR_STAT 14 b).rdL (Therm.HK_VAL c) = s.rdL (Therm.HK_VAL c) := State.rdL_wr ..
  simp only [display, hok, hvalid, hvalue, State.wrB_now, State.wrB_mem, State.wrB_therm]

/-- A status word of a channel that keeps VALID. -/
theorem display_wr_hkStat {k : Nat} {w : Word} (hw : bit w 5 = s.rdB (ThermCh.HK_STAT k) 5) :
    display c (s.wr (ThermCh.HK_STAT k) w) = display c s := by
  refine display_congr (State.wr_now ..) (State.wr_mem ..) (congrArg course (State.wr_therm ..))
    (rdB_wr_ne s w 14 (hkStat_ne_thrStat k).symm) ?_ (State.rdL_wr ..)
  by_cases hk : ThermCh.HK_STAT c = ThermCh.HK_STAT k
  · rw [hk, State.rdB, State.rd_wr_self, hw]
  · exact rdB_wr_ne s w 5 hk

/-- A bit of a channel's status beside VALID. -/
theorem display_wrB_hkStat (k : Nat) {i : Nat} (b : Bool) (hi : i < 32) (hne : i ≠ 5) :
    display c (s.wrB (ThermCh.HK_STAT k) i b) = display c s :=
  display_wr_hkStat s (bit_setBit_ne _ b hi (Ne.symm hne))

/-- The hidden state beside the course of the round. -/
theorem display_setTherm {x : ThermState} (hx : course x = course s.therm) : display c { s with therm := x } = display c s :=
  display_congr rfl rfl hx rfl rfl rfl

theorem display_putHk (k : Nat) (h : HkHid) : display c (putHk k h s) = display c s := display_setTherm s rfl

/-- VALID. -/
theorem display_wrB_valid (b : Bool) : display c (s.wrB (ThermCh.HK_STAT c) 5 b) = { display c s with valid := b } := by
  have hok : thrBit (s.wrB (ThermCh.HK_STAT c) 5 b) 14 = thrBit s 14 := rdB_wr_ne s _ 14 (hkStat_ne_thrStat c).symm
  have hvalid : (s.wrB (ThermCh.HK_STAT c) 5 b).rdB (ThermCh.HK_STAT c) 5 = b := rdB_wrB_self s _ (by decide) b
  have hvalue : (s.wrB (ThermCh.HK_STAT c) 5 b).rdL (Therm.HK_VAL c) = s.rdL (Therm.HK_VAL c) := State.rdL_wr ..
  simp only [display, hok, hvalid, hvalue, State.wrB_now, State.wrB_mem, State.wrB_therm]

/-- A value that the channel produces. -/
theorem display_produce_hkVal (v : Word) : display c (s.produce (Therm.HK_VAL c) v) = { display c s with value := v } := by
  have hvalue : (s.produce (Therm.HK_VAL c) v).rdL (Therm.HK_VAL c) = v := State.rdL_wrL_self s _ v
  rw [display, hvalue]
  rfl

include hc

/-- The limits of the machines stand behind the values of the channels (R349). -/
theorem display_produce_drLim (m : Nat) (v : Word) : display c (s.produce (Therm.DR_LIM m) v) = display c s := by
  refine display_congr rfl rfl rfl rfl rfl ?_
  have hne : Therm.HK_VAL c ≠ Therm.DR_LIM m := by
    simp only [Therm.HK_VAL, Therm.DR_LIM]
    omega
  calc (s.produce (Therm.DR_LIM m) v).rdL (Therm.HK_VAL c) = (s.wrL (Therm.DR_LIM m) v).rdL (Therm.HK_VAL c) := rfl
    _ = s.rdL (Therm.HK_VAL c) := by rw [State.rdL_wrL, if_neg hne]

theorem display_of_own {s t : State} (h : own t = own s) : display c t = display c s := by
  have hstat : t.rd (ThermCh.HK_STAT c) = s.rd (ThermCh.HK_STAT c) := rd_of_own h (by simp only [ThermCh.HK_STAT]; omega)
  have hvalue : t.rdL (Therm.HK_VAL c) = s.rdL (Therm.HK_VAL c) := rdL_of_own h (by simp only [Therm.HK_VAL]; omega)
  refine display_congr (now_of_own h) (mem_of_own h) (congrArg course (therm_of_own h)) ?_ ?_ hvalue
  · rw [thrBit, thrBit, State.rdB, State.rdB, rd_of_own h (by decide)]
  · rw [State.rdB, State.rdB, hstat]

theorem display_thermLevels : display c (thermLevels s) = display c s := display_of_own hc (own_thermLevels s)

theorem display_thermAlarm (code idx : Nat) (v : Word) : display c (thermAlarm code idx v s) = display c s :=
  display_of_own hc (own_thermAlarm s code idx v)

theorem display_thermEvent (cls : EvClass) (code obj : Nat) : display c (thermEvent cls code obj s) = display c s :=
  display_of_own hc (own_thermEvent s cls code obj)

/-! ### Throttling and cold blocks (R341-R343) -/

theorem display_requestStep {m : Nat} (hm : m < 4) : display c (requestStep s m) = display c s := by
  unfold requestStep
  dsimp only
  split
  · rw [display_thermAlarm hc, display_thermEvent hc, display_thermLevels hc]
    exact (display_setTherm (s.wrB Therm.THR_STAT m true) rfl).trans (display_wrB_thrStat s true (by omega))
  · split
    · rw [display_thermAlarm hc, display_thermLevels hc]
      exact (display_setTherm ((s.wrB Therm.THR_STAT m false).wrB Therm.THR_STAT (4 + m) false) rfl).trans
        ((display_wrB_thrStat _ false (by omega)).trans (display_wrB_thrStat s false (by omega)))
    · rfl

theorem display_enforceStep {m : Nat} (hm : m < 4) : display c (enforceStep s m) = display c s := by
  unfold enforceStep
  split
  · rfl
  · split
    · rfl
    · dsimp only
      rw [display_thermAlarm hc, display_thermLevels hc]
      exact (display_setTherm (s.wrB Therm.THR_STAT (4 + m) true) rfl).trans (display_wrB_thrStat s true (by omega))

theorem display_graceCheck : display c (graceCheck s) = display c s :=
  foldl_keeps_mem (display c) (fun t _ hm => display_enforceStep hc t (List.mem_range.mp hm)) s

theorem display_coldStep {m : Nat} (hm : m < 4) : display c (coldStep s m) = display c s := by
  have hbit : ∀ b, display c (s.wrB Therm.THR_STAT (8 + m) b) = display c s := fun b => display_wrB_thrStat s b (by omega)
  have hshow : ∀ t, display c (protShow (resolveNow t)) = display c t := fun t =>
    display_of_own hc ((own_protShow _).trans (own_resolveNow t))
  have hadd : ∀ t f, display c (addForce f t) = display c t := fun t f => display_of_own hc (own_addForce t f)
  have hdrop : ∀ t tag id, display c (dropForce tag id t) = display c t := fun t tag id => display_of_own hc (own_dropForce t tag id)
  simp only [coldStep, apply_ite (display c), display_thermLevels hc, hshow, hadd, hdrop, hbit, ite_self]

/-! ### Thermal shutdown (R345, R346) -/

theorem display_shutdownForces : display c (shutdownForces s) = display c s := by
  have hmach : ∀ t m, own (if stopAsc t m then protAsc .thermal m t else addForce (blockForce t 3 2 .thermal m) t) = own t := by
    simp only [apply_ite own, own_protAsc, own_addForce, ite_self, implies_true]
  exact display_of_own hc (((own_protShow _).trans (own_resolveNow _)).trans (foldl_keeps own hmach _ s))

omit hc in
/-- The record of a shutdown stands on the control page, beside THR_STAT (R346). -/
theorem display_shutdownRecord (k : Nat) (die : Bool) : display c (shutdownRecord k die s) = display c s := by
  have hput : ∀ t {a} v, 0x1A0070 ≤ a ∧ a < 0x1A1000 → display c (State.wr t a v) = display c t := fun t a v ha =>
    display_wr t v (by simp only [Therm.THR_STAT]; omega) (by simp only [ThermCh.HK_STAT]; omega)
  have hseq : ∀ x, course x = course s.therm → display c { s with therm := x } = display c s := fun x => display_setTherm s
  have hflag : ∀ t, display c (State.wrB t Therm.THR_STAT 13 true) = display c t := fun t => display_wrB_thrStat t true (by decide)
  unfold shutdownRecord
  dsimp only
  rw [apply_ite (display c), hflag, State.incSat, State.wrF]
  simp (disch := decide) only [hput, ite_self]
  exact hseq _ rfl

theorem display_thermalShutdown (k : Nat) (die : Bool) : display c (thermalShutdown k die s) = display c s := by
  have hsrcs : ∀ (t : State) x, display c { t with srcs := x } = display c t := fun _ _ => rfl
  have hlimit : ∀ (t : State) (m : Nat), display c { t.produce (Therm.DR_LIM m) 0 with
      srcs := KMap.set (fun _ => {}) (t.produce (Therm.DR_LIM m) 0).srcs (0x600 + m)
        { srcStored t (0x600 + m) with value := 0, count := (srcStored t (0x600 + m)).count + 1 } } = display c t := fun t m =>
    (hsrcs _ _).trans (display_produce_drLim hc t m 0)
  unfold thermalShutdown
  dsimp only
  split
  · rfl
  · rw [display_thermAlarm hc, display_thermEvent hc, display_thermLevels hc, display_shutdownForces hc,
      foldl_keeps (display c) hlimit, display_shutdownRecord]
    exact display_wrB_thrStat s true (by decide)

/-! ### The evaluation of a channel (R338, R340) -/

omit hc s in
/-- The word of levels that the evaluation puts together keeps VALID. -/
theorem bit_levelWord (new : Nat → Bool) (w : Word) (n : Nat) :
    bit (setFld ((List.range 5).foldl (fun a i => setBit a i (new i)) w) 11 9 n) 5 = bit w 5 := by
  have hlevels : bit ((List.range 5).foldl (fun a i => setBit a i (new i)) w) 5 = bit w 5 :=
    List.foldlRecOn _ _ (motive := fun a => bit a 5 = bit w 5) rfl (fun a ha i hi => by
      have hi5 := List.mem_range.mp hi
      rw [bit_setBit_ne a (new i) (by omega) (by omega), ha])
  rw [bit, getLsbD_setFld _ (by decide) (by decide), if_neg (by decide)]
  exact hlevels

/-- The levels that a channel holds, with their events and effects. -/
theorem display_hkLevels (k : Nat) (v : Word) : display c (hkLevels k v s) = display c s := by
  unfold hkLevels
  extract_lets cfg new rise w n _ s1 ev s2 s3 s4
  have hs1 : display c s1 = display c s := (display_putHk _ k _).trans (display_wr_hkStat s (bit_levelWord new _ _))
  have hev : ∀ b cls code t, display c (ev b cls code t) = display c t := fun b cls code t => by
    cases b <;> rfl
  have hs2 : display c s2 = display c s := by simp only [s2, hev, hs1]
  have hs3 : display c s3 = display c s :=
    (foldl_keeps_mem (display c) (fun t _ hm => display_coldStep hc t (List.mem_range.mp hm)) _).trans
      ((display_thermLevels hc s2).trans hs2)
  have hs4 : display c s4 = display c s :=
    (foldl_keeps_mem (display c) (fun t _ hm => display_requestStep hc t (List.mem_range.mp hm)) s3).trans hs3
  simp only [apply_ite (display c), display_thermalShutdown hc, hs4, ite_self]

/-- What the evaluation of the channel at the end of its slot decides: where it is enabled, VALID and the value. -/
theorem display_hkEvaluate (v : Word) (ok : Bool) : display c (hkEvaluate c v ok s) =
    if hkEn s c then { display c s with valid := ok, value := if ok then v else F.qnan } else display c s := by
  cases hen : hkEn s c with
  | false =>
    rw [hkEvaluate, hen]
    rfl
  | true =>
    rw [hkEvaluate, hen, if_neg (by decide : ¬(!true) = true), if_pos rfl]
    extract_lets n fault _ s1 s2 s3 act s4
    have hs2 : display c s2 = { display c s with valid := ok, value := if ok then v else F.qnan } := by
      rw [display_wrB_hkStat _ c fault (by decide) (by decide), display_wrB_valid, display_putHk, display_produce_hkVal]
    have hs3 : display c s3 = display c s2 := by
      simp only [s3]
      split <;> rfl
    have hs4 : display c s4 = display c s2 := (display_thermLevels hc s3).trans hs3
    refine Eq.trans ?_ hs2
    simp only [apply_ite (display c), display_hkLevels hc, hs4, ite_self]

/-! ### The limits (R343) -/

theorem display_limStep (m : Nat) : display c (limStep s m) = display c s :=
  display_produce_drLim hc s m _

end
end Sys2Proof.Laws.ThermalDisplay
end

section
/-! PROOFS. The Breeze round: the end of a slot, the closing slot and the end of a grace timer (R336, R339, R342). -/

namespace Sys2Proof.Laws.ThermalRounds
open Sys2Proof.Machine Sys2Proof.Safety Sys2Proof.Laws.Fabric Sys2Proof.Laws.Frames Sys2Proof.Laws.Protection
open Sys2Proof.Laws.ThermalOwn Sys2Proof.Laws.ThermalDisplay

section
variable {s : State}

/-! ### What a conversion depends on (R337, R338) -/

theorem hkValue_congr {t : State} (h : t.regs = s.regs) (c code code2 : Nat) (val : Word) :
    hkValue t c code code2 val = hkValue s c code code2 val := by
  simp only [hkValue, State.rd_congr h]

theorem hkValid_congr {t : State} (h : t.regs = s.regs) (c code code2 : Nat) (v : Word) :
    hkValid t c code code2 v = hkValid s c code code2 v := by
  have hmode : t.rdF (ThermTs.TS_CFG c) 1 0 = s.rdF (ThermTs.TS_CFG c) 1 0 := by rw [State.rdF, State.rdF, State.rd_congr h]
  rw [hkValid, hmode, hkValid]

theorem hkEn_congr {t : State} (h : t.regs = s.regs) (c : Nat) : hkEn t c = hkEn s c := by
  simp only [hkEn, State.rdB, State.rd_congr h]

/-! ### The end of a slot (R336) -/

/-- The slot is over: the next one begins. -/
def slotOver (s : State) : State :=
  { s.reach (s.therm.slotAt + 16384) with
    therm := { s.therm with slot := s.therm.slot + 1, slotAt := s.therm.slotAt + 16384 } }

/-- No grace timer runs, and none runs out. -/
theorem graceCheck_of_none (hgrace : s.therm.grace = []) : graceCheck s = s := by
  have hstep : ∀ m, enforceStep s m = s := fun m => by rw [enforceStep, hgrace]; rfl
  simp [graceCheck, List.range, List.range.loop, hstep]

theorem hkSlotEnd_of_halted (code code2 : Nat) (val : Word) (hrun : s.therm.run = true) (hslot : s.therm.slot < 96)
    (hhalt : s.therm.halted = true) : hkSlotEnd code code2 val s = graceCheck (slotOver s) := by
  simp [hkSlotEnd, slotOver, hrun, hhalt, Nat.not_le.mpr hslot]

/-- The reference that a channel measures is noted where it lies outside its range (R88). -/
def checkRef (c : Nat) (v : Word) (s : State) : State :=
  if (c = 25 ∨ c = 26) ∧ !(F.le 0x4019999A v && F.le v 0x40933333) then
    { s with therm := { s.therm with refBad := s.therm.refBad ++ [c - 24] } } else s

/-- The fixed limit of the die (R345). -/
def checkDie (c : Nat) (v : Word) (ok : Bool) (s : State) : State :=
  if 16 ≤ c ∧ c ≤ 19 ∧ ok ∧ F.le 0x43250000 v then thermalShutdown c true s else s

theorem hkSlotEnd_of_running (code code2 : Nat) (val : Word) (hrun : s.therm.run = true) (hslot : s.therm.slot < 96)
    (hhalt : s.therm.halted = false) {c : Nat} {v : Word} {ok : Bool} (hc : s.therm.slot = c) (hv : hkValue s c code code2 val = v)
    (hok : hkValid s c code code2 v = ok) :
    hkSlotEnd code code2 val s = graceCheck (checkDie c v ok (hkEvaluate c v ok (checkRef c v (slotOver s)))) := by
  have hgo : ¬(!s.therm.run || decide (96 ≤ s.therm.slot)) = true := by simp [hrun, Nat.not_le.mpr hslot]
  subst hc
  rw [← hkValue_congr (s := s) (t := slotOver s) rfl] at hv
  rw [← hkValid_congr (s := s) (t := slotOver s) rfl] at hok
  subst hv hok
  exact (if_neg hgo).trans (if_neg (Bool.eq_false_iff.mp hhalt))

theorem display_checkRef (c k : Nat) (v : Word) (s : State) : display c (checkRef k v s) = display c s := by
  unfold checkRef
  split
  · exact display_setTherm s rfl
  · rfl

theorem display_checkDie {c : Nat} (hc : c < 96) (k : Nat) (v : Word) (ok : Bool) (s : State) : display c (checkDie k v ok s) = display c s := by
  simp only [checkDie, apply_ite (display c), display_thermalShutdown hc, ite_self]

/-- What the end of a slot of a round that is not halted shows. -/
theorem display_hkSlotEnd (code code2 : Nat) (val : Word) (hrun : s.therm.run = true) (hslot : s.therm.slot < 96)
    (hhalt : s.therm.halted = false) {v : Word} {ok : Bool} (hv : hkValue s s.therm.slot code code2 val = v)
    (hok : hkValid s s.therm.slot code code2 v = ok) : display s.therm.slot (hkSlotEnd code code2 val s) =
      if hkEn s s.therm.slot then { display s.therm.slot (slotOver s) with valid := ok, value := if ok then v else F.qnan }
      else display s.therm.slot (slotOver s) := by
  have hen : hkEn (checkRef s.therm.slot v (slotOver s)) s.therm.slot = hkEn s s.therm.slot := hkEn_congr (by
    unfold checkRef
    split <;> rfl) _
  rw [hkSlotEnd_of_running code code2 val hrun hslot hhalt rfl hv hok, display_graceCheck hslot, display_checkDie hslot,
    display_hkEvaluate hslot, display_checkRef, hen]

/-- The course of the slots where a slot is over, whatever the channel shows of its value (R336). -/
theorem slot_of_display {c : Nat} {s t : State} {ok : Bool} {w : Word}
    (h : display c t = { display c (slotOver s) with valid := ok, value := w }) : t.therm.slot = s.therm.slot + 1 ∧
      t.therm.slotAt = s.therm.slotAt + 16384 ∧ t.therm.slotAt ≤ t.now ∧ ∀ a, t.rdByte a = s.rdByte a := by
  have hnow : t.now = max s.now (s.therm.slotAt + 16384) := congrArg Display.now h
  have hmem : t.mem = s.mem := congrArg Display.mem h
  have hslot : t.therm.slot = s.therm.slot + 1 := congrArg (fun d : Display => d.round.slot) h
  have hat : t.therm.slotAt = s.therm.slotAt + 16384 := congrArg (fun d : Display => d.round.slotAt) h
  refine ⟨hslot, hat, ?_, rdByte_congr hmem⟩
  rw [hat, hnow]
  exact Nat.le_max_right ..

theorem gives_hkSlotEnd (code code2 : Nat) (val : Word) (hrun : s.therm.run = true) (hslot : s.therm.slot < 96) :
    Gives (.hkSlotEnd code code2 val) s (fun t => t.therm.slot = s.therm.slot + 1 ∧
      t.therm.slotAt = s.therm.slotAt + 16384 ∧ t.therm.slotAt ≤ t.now ∧ (∀ a, t.rdByte a = s.rdByte a) ∧
      (s.therm.halted = true → s.therm.grace = [] → Frame [] s t) ∧
      (s.therm.halted = false → hkEn s s.therm.slot = true →
        t.rdB (ThermCh.HK_STAT s.therm.slot) 5 = hkValid s s.therm.slot code code2 (hkValue s s.therm.slot code code2 val) ∧
        (hkValid s s.therm.slot code code2 (hkValue s s.therm.slot code code2 val) = true →
          t.rdL (Therm.HK_VAL s.therm.slot) = hkValue s s.therm.slot code code2 val))) := by
  refine ⟨hkSlotEnd code code2 val s, rfl, ?_⟩
  cases hhalt : s.therm.halted with
  | true =>
    rw [hkSlotEnd_of_halted code code2 val hrun hslot hhalt]
    obtain ⟨hnext, hat, hle, hmem⟩ := slot_of_display (display_graceCheck hslot (slotOver s))
    refine ⟨hnext, hat, hle, hmem, fun _ hgrace => ?_, fun h => absurd h (by decide)⟩
    rw [graceCheck_of_none (s := slotOver s) hgrace]
    exact frame_of_regs_mem rfl rfl
  | false =>
    have hend := display_hkSlotEnd code code2 val hrun hslot hhalt rfl rfl
    cases hen : hkEn s s.therm.slot with
    | false =>
      rw [hen, if_neg Bool.false_ne_true] at hend
      obtain ⟨hnext, hat, hle, hmem⟩ := slot_of_display hend
      exact ⟨hnext, hat, hle, hmem, fun h => absurd h (by decide), fun _ h => absurd h (by decide)⟩
    | true =>
      rw [hen, if_pos rfl] at hend
      obtain ⟨hnext, hat, hle, hmem⟩ := slot_of_display hend
      exact ⟨hnext, hat, hle, hmem, fun h => absurd h (by decide), fun _ _ =>
        ⟨congrArg Display.valid hend, fun hok => (congrArg Display.value hend).trans (if_pos hok)⟩⟩

/-! ### The closing slot (R339) -/

/-- The closing slot is over, with the reference within its range or not: the first slot of the next round begins. -/
def roundOver (pass : Bool) (s : State) : State :=
  { s.reach (s.therm.slotAt + 65536) with
    therm := { s.therm with slot := 0, slotAt := s.therm.slotAt + 65536, halted := !pass, refBad := [] } }

/-- ROUND_OK shows the check, and grace timers that have run out take effect. -/
def roundJudged (pass : Bool) (s : State) : State := graceCheck ((roundOver pass s).wrB Therm.THR_STAT 14 pass)

/-- A round that was not halted completes: its references, the limits of the machines and the count of qualifying rounds (R88, R343, R347). -/
def roundComplete (bad : List Nat) (s : State) : State :=
  let t := (List.range 4).foldl limStep (refRound bad (setReady 4 true (s.inc Therm.ROUND_CNT)))
  t.wr Therm.REARM_STAT (rearmWord (if roundQualifies t then t.rdF Therm.REARM_STAT 15 0 + 1 else 0))

theorem closingSlot_of_run {code : Nat} {pass : Bool} (hrun : s.therm.run = true) (hslot : s.therm.slot = 96)
    (hpass : decide (1980 ≤ code ∧ code ≤ 2020) = pass) : closingSlot code s =
      if !pass then
        if s.therm.halted then (roundJudged pass s).wr Therm.REARM_STAT 0
        else thermEvent .fault 0xFF 0 ((roundJudged pass s).wr Therm.REARM_STAT 0)
      else if s.therm.halted then roundJudged pass s
      else roundComplete s.therm.refBad (roundJudged pass s) := by
  have hgo : ¬(!s.therm.run || decide (s.therm.slot ≠ 96)) = true := by simp [hrun, hslot]
  subst hpass
  exact if_neg hgo

theorem display_roundJudged (pass : Bool) : display 0 (roundJudged pass s) = { display 0 (roundOver pass s) with roundOk := pass } := by
  rw [roundJudged, display_graceCheck (by decide), display_wrB_roundOk]

theorem display_roundComplete (bad : List Nat) : display 0 (roundComplete bad s) = display 0 s := by
  have hput : ∀ t {a} v, 0x1A0044 ≤ a ∧ a < 0x1A1000 → display 0 (State.wr t a v) = display 0 t := fun t a v ha =>
    display_wr t v (by simp only [Therm.THR_STAT]; omega) (by simp only [ThermCh.HK_STAT]; omega)
  have hready : ∀ t, display 0 (setReady 4 true t) = display 0 t := fun t => display_of_own (by decide) (own_setReady t 4 true)
  have href : ∀ t, display 0 (refRound bad t) = display 0 t := fun t => display_of_own (by decide) (own_refRound t bad)
  rw [roundComplete, hput _ _ (by decide), foldl_keeps (display 0) (fun t m => display_limStep (by decide) t m), href, hready]
  exact hput s _ (by decide)

/-- What the closing slot shows: the check of the reference and the course of the slots. -/
theorem display_closingSlot {code : Nat} (hrun : s.therm.run = true) (hslot : s.therm.slot = 96) : display 0 (closingSlot code s) =
    { display 0 (roundOver (decide (1980 ≤ code ∧ code ≤ 2020)) s) with roundOk := decide (1980 ≤ code ∧ code ≤ 2020) } := by
  have hevent : ∀ t, display 0 (thermEvent .fault 0xFF 0 t) = display 0 t := fun _ => rfl
  have hrounds : ∀ t v, display 0 (State.wr t Therm.REARM_STAT v) = display 0 t := fun t v => display_wr t v (by decide) (by decide)
  rw [closingSlot_of_run hrun hslot rfl]
  simp only [apply_ite (display 0), hevent, hrounds, display_roundComplete, ite_self, display_roundJudged]

/-- A failed check ends the count of rounds (R347). -/
theorem rearmStat_of_fail {code : Nat} (hrun : s.therm.run = true) (hslot : s.therm.slot = 96) (hfail : ¬(1980 ≤ code ∧ code ≤ 2020)) :
    (closingSlot code s).rd Therm.REARM_STAT = 0 := by
  rw [closingSlot_of_run hrun hslot (decide_eq_false hfail), if_pos (by decide), thermEvent, apply_ite (State.rd · Therm.REARM_STAT),
    State.rd_emit, State.rd_wr_self, ite_self]

theorem gives_closingSlot {code : Nat} (hrun : s.therm.run = true) (hslot : s.therm.slot = 96) : Gives (.closingSlot code) s (fun t =>
    t.therm.slot = 0 ∧ t.therm.slotAt = s.therm.slotAt + 65536 ∧ t.therm.slotAt ≤ t.now ∧
      t.therm.halted = !decide (1980 ≤ code ∧ code ≤ 2020) ∧ t.rdB Therm.THR_STAT 14 = decide (1980 ≤ code ∧ code ≤ 2020) ∧
      (¬(1980 ≤ code ∧ code ≤ 2020) → t.rd Therm.REARM_STAT = 0) ∧ ∀ a, t.rdByte a = s.rdByte a) := by
  refine ⟨closingSlot code s, rfl, ?_⟩
  have hend := display_closingSlot (code := code) hrun hslot
  have hnow : (closingSlot code s).now = max s.now (s.therm.slotAt + 65536) := congrArg Display.now hend
  have hmem : (closingSlot code s).mem = s.mem := congrArg Display.mem hend
  have hat : (closingSlot code s).therm.slotAt = s.therm.slotAt + 65536 := congrArg (fun d : Display => d.round.slotAt) hend
  refine ⟨congrArg (fun d : Display => d.round.slot) hend, hat, ?_, congrArg (fun d : Display => d.round.halted) hend,
    congrArg Display.roundOk hend, rearmStat_of_fail hrun hslot, rdByte_congr hmem⟩
  rw [hat, hnow]
  exact Nat.le_max_right ..

/-! ### The end of a grace timer (R342) -/

/-- The machine's enforcement bit is set and its timer is gone. -/
def enforced (m : Nat) (s : State) : State :=
  { s.wrB Therm.THR_STAT (4 + m) true with
    therm := { s.therm with grace := s.therm.grace.filter (fun x => decide (x.1 ≠ m)) } }

theorem enforceStep_of_due {m : Nat} {e : Nat × Nat} (hfind : s.therm.grace.find? (fun e => decide (e.1 = m)) = some e)
    (hdue : e.2 ≤ s.now) (hreq : thrBit s m = true) : own (enforceStep s m) = own (enforced m s) := by
  have hgo : ¬(s.now < e.2 ∨ (!thrBit s m) = true) := by
    rw [hreq]
    simp only [Bool.not_true, Bool.false_eq_true, or_false]
    omega
  rw [enforceStep, hfind]
  dsimp only
  rw [if_neg hgo, own_thermAlarm, own_thermLevels, enforced]

theorem gives_graceExpiry {m : Nat} (e : Nat × Nat) (hm : m < 4) (hfind : s.therm.grace.find? (fun e => decide (e.1 = m)) = some e)
    (hrun : s.therm.run = false) (hreq : thrBit s m = true) : Gives (.graceExpiry m) s (fun t =>
      t.rdB Therm.THR_STAT (4 + m) = true ∧ e.2 ≤ t.now ∧ (∀ x ∈ t.therm.grace, x.1 ≠ m) ∧ ∀ a, t.rdByte a = s.rdByte a) := by
  have hend : own (graceExpiry m s) = own (enforced m (s.reach e.2)) := by
    rw [graceExpiry, hfind]
    dsimp only
    rw [if_neg (by rw [State.reach_therm, hrun]; decide)]
    exact enforceStep_of_due hfind (Nat.le_max_right ..) hreq
  have hmem : (graceExpiry m s).mem = s.mem := congrArg Own.mem hend
  refine ⟨graceExpiry m s, rfl, ?_, ?_, ?_, rdByte_congr hmem⟩
  · rw [State.rdB, rd_of_own hend (by decide)]
    exact rdB_wrB_self (s.reach e.2) Therm.THR_STAT (by omega) true
  · rw [now_of_own hend]
    exact Nat.le_max_right ..
  · intro x hx
    rw [therm_of_own hend] at hx
    exact of_decide_eq_true (List.mem_filter.mp hx).2

end
end Sys2Proof.Laws.ThermalRounds
end

section
/-! PROOFS. Re-arm and the acknowledgement of a shutdown record (R347, R348). -/

namespace Sys2Proof.Laws.ThermalCommands
open Sys2Proof.Machine Sys2Proof.Safety Sys2Proof.Laws.Fabric Sys2Proof.Laws.Frames Sys2Proof.Laws.Protection Sys2Proof.Laws.ProtDisplay
open Sys2Proof.Laws.IslandTimers Sys2Proof.Laws.IslandCommands Sys2Proof.Laws.ThermalOwn Sys2Proof.Laws.ThermalRounds

section
variable {port : Port} {v : Word} {s : State}

/-! ### Re-arm (R347) -/

/-- The shutdown is over and its forced states are released. -/
def rearmed (s : State) : State := (List.range 4).foldl (fun t m => dropForce .thermal m t) (s.wrB Therm.THR_STAT 12 false)

theorem rearmWrite_of_qualified (hlock : lockOpen s Therm.page = true) (hdown : thrBit s 12 = true)
    (hqual : s.rdB Therm.REARM_STAT 16 = true) : ∃ t, rearmWrite 0x5448524D s = accept t ∧ own t = own (s.wrB Therm.THR_STAT 12 false) := by
  refine ⟨thermAlarm 5 0 ((rearmed s).rdL (Therm.HK_VAL 16)) (thermLevels (protShow (resolveNow (rearmed s)))), ?_, ?_⟩
  · simp only [rearmWrite, hlock, hdown, hqual, rearmed, ne_eq, not_true_eq_false, Bool.not_true, Bool.false_eq_true, if_false]
  · rw [own_thermAlarm, own_thermLevels, own_protShow, own_resolveNow]
    exact foldl_keeps own (fun t m => own_dropForce t .thermal m) _ _

theorem gives_rearm (hadm : Admits s port Therm.REARM) (hlock : lockOpen s Therm.page = true) (hdown : thrBit s 12 = true)
    (hqual : s.rdB Therm.REARM_STAT 16 = true) :
    Gives (.rearm port 0x5448524D) s (fun t => thrBit t 12 = false ∧ ∀ a, t.rdByte a = s.rdByte a) := by
  obtain ⟨t, hop, hown⟩ := rearmWrite_of_qualified hlock hdown hqual
  have hmem : t.mem = s.mem := (mem_of_own hown).trans (State.wrB_mem ..)
  refine gives_gated rfl hadm hop (fun u hregs humem _ => ⟨?_, rdByte_congr (humem.trans hmem)⟩)
  rw [thrBit, State.rdB, State.rd_congr hregs, rd_of_own hown (by decide)]
  exact rdB_wrB_self s _ (by decide) false

/-! ### The acknowledgement (R348) -/

/-- The registers of the shutdown record (R346). -/
abbrev recordRegs : List Nat := (List.range 7).map (fun j => Therm.SD_SEQ + 4 * j)

/-- The record and its flag are cleared. -/
def recordCleared (s : State) : State := (List.range 7).foldl (fun t j => t.wr (Therm.SD_SEQ + 4 * j) 0) (s.wrB Therm.THR_STAT 13 false)

theorem frame_wakeRisen {l : List Nat} {t : State} (h : Frame l s t) (k p : Nat) (mask : Word) (old : State) (hl : wakeRegs ⊆ l) :
    Frame l s (wakeRisen k p mask old t) := frame_ite (frame_wakeOn h k hl) h

theorem frame_thermLevels (s : State) : Frame (irqRegs Therm.page ++ wakeRegs) s (thermLevels s) := by
  have hraw : ∀ {t} i b, Frame (irqRegs Therm.page ++ wakeRegs) s t → Frame (irqRegs Therm.page ++ wakeRegs) s (t.raw Therm.page i b) :=
    fun i b h => frame_raw h i b (List.subset_append_left ..)
  refine frame_wakeRisen ?_ 3 Therm.page 0x34 s (List.subset_append_right ..)
  exact hraw 7 _ (hraw 6 _ (hraw 5 _ (hraw 4 _ (hraw 3 _ (hraw 2 _ (hraw 1 _ (hraw 0 _ (frame_refl _ s))))))))

/-- Registers that are cleared one after another all read zero. -/
theorem rd_foldl_zero (f : Nat → Nat) (l : List Nat) (s : State) {j : Nat} (h : j ∈ l ∨ s.rd (f j) = 0) :
    (l.foldl (fun t k => t.wr (f k) 0) s).rd (f j) = 0 := by
  induction l generalizing s with
  | nil => simpa using h
  | cons k l ih =>
    refine ih (s.wr (f k) 0) ?_
    by_cases hk : f j = f k
    · exact .inr (by rw [hk, State.rd_wr_self])
    · rw [State.rd_wr_ne s _ _ _ hk]
      exact h.imp_left (fun hj => (List.mem_cons.mp hj).resolve_left (fun hjk => hk (congrArg f hjk)))

theorem recordCleared_effect (s : State) : thrBit (recordCleared s) 13 = false ∧
    (∀ j, j < 7 → (recordCleared s).rd (Therm.SD_SEQ + 4 * j) = 0) ∧ Frame (Therm.THR_STAT :: recordRegs) s (recordCleared s) := by
  have hframe : Frame recordRegs (s.wrB Therm.THR_STAT 13 false) (recordCleared s) :=
    frame_foldl (frame_refl recordRegs _) (fun j hj _ hu => frame_put hu 0 (List.mem_map_of_mem hj))
  obtain ⟨hflag, hrest⟩ := putBit_then_frame hframe (by decide) (by decide)
  exact ⟨hflag, fun j hj => rd_foldl_zero (fun j => Therm.SD_SEQ + 4 * j) _ _ (.inl (List.mem_range.mpr hj)), hrest⟩

theorem gives_sdAck_of_record (hadm : Admits s port Therm.SD_ACK) (hvalid : thrBit s 13 = true) (hseq : v = s.rd Therm.SD_SEQ) :
    Gives (.sdAck port v) s (fun t => thrBit t 13 = false ∧ (∀ j, j < 7 → t.rd (Therm.SD_SEQ + 4 * j) = 0) ∧
      Frame (Therm.THR_STAT :: recordRegs ++ irqRegs Therm.page ++ wakeRegs) s t) := by
  have hop : sdAckWrite v s = accept (thermLevels (recordCleared s)) := if_pos ⟨hvalid, hseq⟩
  obtain ⟨hflag, hzero, hcleared⟩ := recordCleared_effect s
  have hlevels := frame_thermLevels (recordCleared s)
  have hkept : ∀ {a}, OnThermal a → (thermLevels (recordCleared s)).rd a = (recordCleared s).rd a := fun ha =>
    rd_of_own (own_thermLevels _) ha
  have hframe : Frame (Therm.THR_STAT :: recordRegs ++ irqRegs Therm.page ++ wakeRegs) s (thermLevels (recordCleared s)) := by
    rw [List.append_assoc]
    exact frame_trans (frame_mono hcleared (List.subset_append_left ..)) (frame_mono hlevels (List.subset_append_right ..))
  refine gives_gated rfl hadm hop (fun u hregs hmem _ => ⟨?_, fun j hj => ?_, frame_hidden hframe hregs hmem⟩)
  · rw [thrBit, State.rdB, State.rd_congr hregs, hkept (by decide)]
    exact hflag
  · rw [State.rd_congr hregs, hkept (by simp only [Therm.SD_SEQ]; omega)]
    exact hzero j hj

theorem gives_sdAck_of_other (hadm : Admits s port Therm.SD_ACK) (hother : thrBit s 13 = false ∨ v ≠ s.rd Therm.SD_SEQ) :
    Gives (.sdAck port v) s (fun t => fld (t.rd (hERRINFO Therm.page)) 31 24 = 3 ∧ Frame (hERRINFO Therm.page :: irqRegs Therm.page) s t) := by
  have hbar : ¬(thrBit s 13 = true ∧ v = s.rd Therm.SD_SEQ) := fun ⟨hvalid, hseq⟩ =>
    hother.elim (fun h => Bool.false_ne_true (h.symm.trans hvalid)) (fun h => h hseq)
  have hop : sdAckWrite v s = deny s .keyRequired := if_neg hbar
  exact gives_gated_deny rfl hadm (by decide) hop (by decide) (by decide) (fun _ _ hcode hframe => ⟨hcode, hframe⟩)

end

/-! ### The statement -/

/-- Settles O57, clause by clause: a slot and the closing slot by what they show of the round and the channel, a grace timer by the instant it
reaches, re-arm and acknowledgement by the operation that the fabric admits. -/
theorem thermalRoundsRearmAndAcknowledge : Obligations.ThermalRoundsRearmAndAcknowledge := by
  intro port code code2 m val v s
  exact ⟨gives_hkSlotEnd code code2 val, gives_closingSlot, gives_graceExpiry, gives_rearm, gives_sdAck_of_record, gives_sdAck_of_other⟩

end Sys2Proof.Laws.ThermalCommands
end

section
/-! PROOFS. The queue of commands: what one step of the block does (log entries 1 and 2). -/

namespace Sys2Proof.Laws.Stepping
open Sys2Proof.Machine

/-- Settles O1: by the definition of a step. -/
theorem stepRunsTheCommandInFront : Obligations.StepRunsTheCommandInFront := fun _ _ _ => rfl

/-- Settles O2: with an empty queue a step is the idle step, which moves time alone. -/
theorem emptyQueueIdlesOneCycle : Obligations.EmptyQueueIdlesOneCycle := by
  intro s hempty
  simp only [step, hempty, State.tick]

end Sys2Proof.Laws.Stepping
end

section
/-! PROOFS. A write that the fabric admits, on a page that the pair does not forward: beside its operation it moves the LOCK's and the session's
second and the debug port's access register, and nothing else (R42, R44, R323). -/

namespace Sys2Proof.Laws.Admitted
open Sys2Proof.Machine Sys2Proof.Safety Sys2Proof.Laws.Fabric Sys2Proof.Laws.Frames Sys2Proof.Laws.Refusals Sys2Proof.Laws.IslandCommands

/-! ### What the fabric adds to an operation -/

/-- The state `t` with other seconds of LOCKs and session, and another access register of the debug port. -/
def beside (f : FabState) (x : IslandState) (c : RefCode) (w : Word) (t : State) : State :=
  { t with fab := f, isl := x, sec := { t.sec with dbgCode := c, dbgData := w } }

/-- The fabric forwards no write of the register at `a` to the twin (R27, R363). -/
def Unforwarded (a : Nat) : Prop := mirroredPage (pageOf a) = false ∧ a ≠ Cle.CTRL

theorem forward_of_unforwarded {a : Nat} (h : Unforwarded a) (port : Port) (v : Word) (s : State) : forward port a v s = s := by
  obtain ⟨hpage, hctrl⟩ := h
  simp [forward, hpage, hctrl]

theorem unforwarded_of_page {a : Nat} (h : 0x200000 ≤ a) : Unforwarded a := by
  refine ⟨?_, by simp only [Cle.CTRL]; omega⟩
  simp only [mirroredPage, pageOf]
  exact decide_eq_false (by omega)

section
variable {i : Instr} {port : Port} {a : Nat} {v : Word} {op : State → Reply} {s t : State} {P : State → Prop}

/-- The debug port finds the code and the word of its access; an access of another port leaves its register. -/
def Noted (port : Port) (c : RefCode) (t : State) (c' : RefCode) (w' : Word) : Prop :=
  if port = .debug then c' = c else c' = t.sec.dbgCode ∧ w' = t.sec.dbgData

theorem debugNote_eq_beside (port : Port) (c : RefCode) (w : Word) (t : State) :
    ∃ c' w', debugNote port c w t = beside t.fab t.isl c' w' t ∧ Noted port c t c' w' := by
  by_cases hport : port = .debug
  · exact ⟨c, w, by simp only [debugNote, if_pos hport, beside], by simp only [Noted, if_pos hport]⟩
  · exact ⟨t.sec.dbgCode, t.sec.dbgData, by simp only [debugNote, if_neg hport, beside], by simp only [Noted, if_neg hport, and_self]⟩

theorem touched_eq (p : Nat) (t : State) : ∃ f x, touchSession p (touchLock p t) = { t with fab := f, isl := x } := by
  unfold touchSession
  split
  · exact ⟨_, _, rfl⟩
  · exact ⟨_, t.isl, rfl⟩

/-- An admitted write whose operation accepts ends in the operation's state, but for the fabric's own bookkeeping. -/
theorem gated_eq_beside (hadm : Admits s port a) (hfwd : Unforwarded a) (hop : op s = accept t) :
    ∃ f x c w, gated port a v op s = (beside f x c w t, .none) := by
  have hcode : gateCode s port a = .none := hadm
  obtain ⟨f, x, hgate⟩ : ∃ f x, gate port a v op s = ({ t with fab := f, isl := x }, .none) := by
    by_cases hlock : needsLock a = true
    · obtain ⟨f, x, htouch⟩ := touched_eq (homePage a) t
      exact ⟨f, x, by simp only [gate, hcode, hop, accept, hlock, forward_of_unforwarded hfwd, if_true, htouch]⟩
    · exact ⟨t.fab, t.isl, by simp only [gate, hcode, hop, accept, if_neg hlock, forward_of_unforwarded hfwd]⟩
  obtain ⟨c, w, hnote, -⟩ := debugNote_eq_beside port .none 0 ({ t with fab := f, isl := x } : State)
  exact ⟨f, x, c, w, by rw [gated, hgate, recorded, hnote]; rfl⟩

/-- Such a command gives what holds of the operation's state with any bookkeeping of the fabric. -/
theorem gives_of_accept (hexec : exec i s = replied (gated port a v op s)) (hadm : Admits s port a) (hfwd : Unforwarded a)
    (hop : op s = accept t) (hP : ∀ f x c w, P (beside f x c w t)) : Gives i s P := by
  obtain ⟨f, x, c, w, hgated⟩ := gated_eq_beside (v := v) hadm hfwd hop
  exact ⟨_, hexec, hgated ▸ hP f x c w⟩

/-- A command that the fabric admits and its operation refuses leaves the record of the refusal, and its code with the debug port. -/
theorem gives_of_deny {c : RefCode} (hexec : exec i s = replied (gated port a v op s)) (hadm : Admits s port a) (hmapped : isMapped a = true)
    (hop : op s = deny s c) (hc : c ≠ .none) (hfree : c ≠ .busy)
    (hP : ∀ c' w, Noted port c s c' w → P (beside s.fab s.isl c' w (s.refuseAt (homePage a) port c (a % 4096)))) : Gives i s P := by
  have hrecord : recordRefusal port a c s = s.refuseAt (homePage a) port c (a % 4096) := by
    rw [recordRefusal, refusalPage_of_mapped hmapped hfree]
  obtain ⟨c', w, hnote, hdebug⟩ := debugNote_eq_beside port c 0 (s.refuseAt (homePage a) port c (a % 4096))
  refine ⟨_, hexec, ?_⟩
  rw [gated_of_deny hadm hop hc, hrecord]
  change P (debugNote port c 0 (s.refuseAt (homePage a) port c (a % 4096)))
  rw [hnote, State.refuseAt_fab, State.refuseAt_isl]
  refine hP c' w ?_
  rwa [Noted, State.refuseAt_sec] at hdebug

end

/-! ### What a read gives beside the bookkeeping -/

section
variable (f : FabState) (x : IslandState) (c : RefCode) (w : Word) (s t : State)

@[simp] theorem rd_beside (a : Nat) : (beside f x c w t).rd a = t.rd a := rfl
@[simp] theorem rdB_beside (a j : Nat) : (beside f x c w t).rdB a j = t.rdB a j := rfl
@[simp] theorem rdF_beside (a hi lo : Nat) : (beside f x c w t).rdF a hi lo = t.rdF a hi lo := rfl
@[simp] theorem rdByte_beside (a : Nat) : (beside f x c w t).rdByte a = t.rdByte a := rfl
@[simp] theorem now_beside : (beside f x c w t).now = t.now := rfl

variable {f x c w s t}

theorem frame_beside {l : List Nat} (h : Frame l s t) : Frame l s (beside f x c w t) := frame_hidden h rfl rfl

end

end Sys2Proof.Laws.Admitted
end

section
/-! PROOFS. The registers and window bytes that an update leaves alone, for any set of registers: the frames by lists and by pages are two
cases of it. -/

namespace Sys2Proof.Laws.Leaving
open Sys2Proof.Machine Sys2Proof.Safety Sys2Proof.Laws.Fabric Sys2Proof.Laws.Frames

/-- From `s` to `t` every visible register in `q` reads as before, and so does every byte of the event ring and the staging window. -/
def Leaves (q : Nat → Prop) (s t : State) : Prop := (∀ a, q a → t.rd a = s.rd a) ∧ ∀ a, t.rdByte a = s.rdByte a

theorem frame_iff_leaves {l : List Nat} {s t : State} : Frame l s t ↔ Leaves (· ∉ l) s t := Iff.rfl

theorem pageFrame_iff_leaves {ps : List Nat} {s t : State} : PageFrame ps s t ↔ Leaves (pageOf · ∉ ps) s t := Iff.rfl

variable {q : Nat → Prop} {s t u : State}

theorem leaves_refl (q : Nat → Prop) (s : State) : Leaves q s s := ⟨fun _ _ => rfl, fun _ => rfl⟩

theorem leaves_trans (h : Leaves q s t) (h' : Leaves q t u) : Leaves q s u :=
  ⟨fun a ha => (h'.1 a ha).trans (h.1 a ha), fun a => (h'.2 a).trans (h.2 a)⟩

theorem leaves_mono {r : Nat → Prop} (h : Leaves q s t) (hrq : ∀ a, r a → q a) : Leaves r s t := ⟨fun a ha => h.1 a (hrq a ha), h.2⟩

/-- What stays in a list of registers leaves every set that the list does not meet. -/
theorem leaves_of_frame {l : List Nat} (h : Frame l s t) (hl : ∀ a ∈ l, ¬ q a) : Leaves q s t :=
  leaves_mono h (fun a ha hmem => hl a hmem ha)

section
variable (h : Leaves q s t)
include h

theorem leaves_hidden (hr : u.regs = t.regs) (hm : u.mem = t.mem) : Leaves q s u :=
  leaves_trans h ⟨fun a _ => State.rd_congr hr a, rdByte_congr hm⟩

theorem leaves_put {a : Nat} (v : Word) (ha : ¬ q a) : Leaves q s (t.wr a v) :=
  leaves_trans h ⟨fun b hb => State.rd_wr_ne t a b v (fun hba => ha (hba ▸ hb)), rdByte_congr (State.wr_mem t a v)⟩

theorem leaves_pulse {p : Nat} (i : Nat) (hraw : ¬ q (hIRQ_RAW p)) (hpend : ¬ q (hIRQ_PEND p)) : Leaves q s (t.pulse p i) :=
  leaves_trans h ⟨fun a ha => State.rd_pulse_ne t p i a (fun he => hraw (he ▸ ha)) (fun he => hpend (he ▸ ha)),
    rdByte_congr (State.pulse_mem t p i)⟩

theorem leaves_foldl {α : Type} {f : State → α → State} {xs : List α} (hf : ∀ k ∈ xs, ∀ u, Leaves q s u → Leaves q s (f u k)) :
    Leaves q s (xs.foldl f t) :=
  List.foldlRecOn xs f (motive := Leaves q s) h (fun u hu k hk => hf k hk u hu)

theorem leaves_wakeOn (k : Nat) (hq : ∀ a ∈ wakeRegs, ¬ q a) : Leaves q s (wakeOn k t) :=
  leaves_trans h (leaves_of_frame (IslandTimers.frame_wakeOn (frame_refl wakeRegs t) k (List.Subset.refl _)) hq)

end

theorem leaves_ite {c : Prop} [Decidable c] (ht : Leaves q s t) (hu : Leaves q s u) : Leaves q s (if c then t else u) := by
  split
  · exact ht
  · exact hu

end Sys2Proof.Laws.Leaving
end

section
/-! PROOFS. The PTP clock and the publisher: a step of the clock, the latch of the seconds, and a publication whose record is skipped (R393,
R395, R397). -/

namespace Sys2Proof.Laws.PtpAndPublisher
open Sys2Proof.Machine Sys2Proof.Safety Sys2Proof.Laws.Frames Sys2Proof.Laws.Fields Sys2Proof.Laws.Admitted

/-! ### The clock (R393, R395) -/

section
variable (s : State)

/-- The clock reads the value just put, modulo its span. -/
theorem ptpNow_putPtp (t : Nat) : ptpNow (putPtp t s) = t % ptpSpan := by
  have hcyc : (putPtp t s).bus.ptp.cyc = ethCycle (putPtp t s).now := rfl
  simp only [ptpNow, ptpAt, hcyc, Nat.sub_self, Nat.zero_mul, Nat.add_zero]
  rfl

theorem toNat_emod_span_lt (d : Int) : (d % (ptpSpan : Int)).toNat < ptpSpan := by
  have hpos : (0 : Int) < (ptpSpan : Int) := by decide
  have hlt := Int.emod_lt_of_pos d hpos
  have hnn := Int.emod_nonneg d hpos.ne'
  omega

theorem gives_ptpStepS {port : Port} (v : Word) (hadm : Admits s port Ptp.PTP_STEP_S) : Gives (.ptpStepS port v) s (fun t =>
    ptpNow t = (((ptpNow s : Int) + (signed32 v * 1000000000 + signed32 s.bus.ptp.stepNs) * 2 ^ 24) % (ptpSpan : Int)).toNat ∧ Frame [] s t) := by
  refine gives_of_accept rfl hadm (unforwarded_of_page (by decide)) rfl (fun f x c w => ⟨?_, frame_hidden (frame_refl [] s) rfl rfl⟩)
  exact (ptpNow_putPtp s _).trans (Nat.mod_eq_of_lt (toNat_emod_span_lt _))

theorem gives_ptpNsRead (hbusy : busyPage s Ptp.page = false) : Gives .ptpNsRead s (fun t =>
    t.bus.ptp.latched = ptpSec (ptpNow s) ∧ ptpNow t = ptpNow s ∧ Frame [] s t) := by
  refine ⟨(ptpNsRead s).2, ?_, rfl, rfl, frame_hidden (frame_refl [] s) rfl rfl⟩
  simp only [exec, execPtpNsRead, hbusy, Bool.false_eq_true, if_false]

/-! ### The publisher (R397) -/

theorem pubOf_putPub (e : Nat) (h : PubHid) : pubOf (putPub e h s) e = h := KMap.get_set_self _ s.bus.pubs e h

theorem pubOf_incSat (e a hi lo : Nat) : pubOf (s.incSat a hi lo) e = pubOf s e := by simp only [pubOf, State.incSat_bus]

/-- A counting field takes one more, up to its largest value. -/
theorem rdF_incSat (a : Nat) {hi lo : Nat} (hhi : hi < 32) (hlo : lo ≤ hi) :
    (s.incSat a hi lo).rdF a hi lo = min (s.rdF a hi lo + 1) (2 ^ (hi + 1 - lo) - 1) := by
  have hpos : 0 < 2 ^ (hi + 1 - lo) := Nat.two_pow_pos _
  rw [State.rdF, State.incSat, State.rd_wrF, if_pos rfl, fld_setFld_self _ hhi hlo (by omega)]

variable {e moved : Nat} {s}

/-- A publication that read its group more than three times apart is skipped and counted. -/
theorem publish_of_skipped (hmoved : 3 < (pubOf s e).moved) :
    publish e s = (putPub e { pubOf s e with waiting := false } s).incSat (Pub.PUB_CNT e) 7 0 := by
  simp only [publish, pubOf_putPub, if_pos hmoved]

theorem gives_publicationDue_of_skipped (hon : s.rdB (Pub.PUB_CFG e) 0 = true) (htake : s.rdB (Pub.PUB_CFG e) 1 = false) (hmoved : 3 < moved) :
    Gives (.publicationDue e moved) s (fun t =>
      (pubOf t e).since = (pubOf s e).since + msCycles (s.rdF (Pub.PUB_CFG e) 31 16) ∧ (pubOf t e).since ≤ t.now ∧
      t.rdF (Pub.PUB_CNT e) 7 0 = min (s.rdF (Pub.PUB_CNT e) 7 0 + 1) 255 ∧ Frame [Pub.PUB_CNT e] s t) := by
  have hon' : bit (s.rd (Pub.PUB_CFG e)) 0 = true := hon
  have htake' : bit (s.rd (Pub.PUB_CFG e)) 1 = false := htake
  generalize hdue : (pubOf s e).since + msCycles (s.rdF (Pub.PUB_CFG e) 31 16) = due
  generalize hr : s.reach due = r
  have hpub : publicationDue e moved s = (putPub e { since := due, waiting := false, moved := moved, sent := (pubOf r e).sent }
      (putPub e { pubOf r e with since := due, waiting := false, moved := moved } r)).incSat (Pub.PUB_CNT e) 7 0 := by
    have hdue' : (pubOf s e).since + msCycles (fld (s.rd (Pub.PUB_CFG e)) 31 16) = due := hdue
    simp only [publicationDue, hon', htake', hdue', hr, Bool.not_true, Bool.false_eq_true, if_false]
    rw [publish_of_skipped (by rw [pubOf_putPub]; exact hmoved), pubOf_putPub]
  subst hr
  have hsince : (pubOf (publicationDue e moved s) e).since = due := by
    rw [hpub]
    rw [pubOf_incSat, pubOf_putPub]
  refine ⟨publicationDue e moved s, rfl, hsince, ?_, ?_, ?_⟩
  · rw [hsince, hpub]
    exact Nat.le_max_right s.now due
  · rw [hpub]
    exact rdF_incSat _ _ (by decide) (by decide)
  · rw [hpub]
    exact frame_put (frame_hidden (frame_refl _ s) rfl rfl) _ (List.mem_cons_self ..)

theorem gives_publicationDue_of_off (hoff : s.rdB (Pub.PUB_CFG e) 0 = false) : Gives (.publicationDue e moved) s (fun t => Frame [] s t) := by
  have hoff' : bit (s.rd (Pub.PUB_CFG e)) 0 = false := hoff
  refine ⟨s, ?_, frame_refl [] s⟩
  simp only [exec, execPublicationDue, publicationDue, hoff', Bool.not_false, if_true]

end

/-- Settles O17: the clock by the value it takes, the latch by what the read stores, a due publication by its skip. -/
theorem ptpClockStepsAndPublicationsFallDue : Obligations.PtpClockStepsAndPublicationsFallDue := by
  intro port v e moved s _
  exact ⟨gives_ptpStepS s v, gives_ptpNsRead s, gives_publicationDue_of_skipped, gives_publicationDue_of_off⟩

end Sys2Proof.Laws.PtpAndPublisher
end

section
/-! PROOFS. The Ethernet MACs: reception into the ring of slots, the end of a transmission, the slot commands and MDIO (R390-R394). -/

namespace Sys2Proof.Laws.Ethernet
open Sys2Proof.Machine Sys2Proof.Safety Sys2Proof.Laws.Frames Sys2Proof.Laws.Fields Sys2Proof.Laws.ProtDisplay Sys2Proof.Laws.Admitted
open Sys2Proof.Laws.Leaving

/-! ### Bits beside a field -/

theorem bit_setFld_apart (w : Word) {hi lo v i : Nat} (hi32 : hi < 32) (hlo : lo ≤ hi) (hapart : i < lo ∨ hi < i) :
    bit (setFld w hi lo v) i = bit w i := by
  rw [bit, getLsbD_setFld w hi32 hlo, if_neg (by omega), bit]

theorem fld_setBit_apart (w : Word) {hi lo i : Nat} (b : Bool) (hi32 : i < 32) (hapart : hi < i ∨ i < lo) :
    fld (setBit w i b) hi lo = fld w hi lo := fld_setFld_apart w hi32 (Nat.le_refl i) hapart

/-- A field takes a value modulo its width. -/
theorem fld_setFld_mod (w : Word) {hi lo : Nat} (v : Nat) (hi32 : hi < 32) (hlo : lo ≤ hi) :
    fld (setFld w hi lo v) hi lo = v % 2 ^ (hi + 1 - lo) := by
  have hmod : setFld w hi lo v = setFld w hi lo (v % 2 ^ (hi + 1 - lo)) := by simp only [setFld, Nat.mod_mod]
  rw [hmod, fld_setFld_self w hi32 hlo (Nat.mod_lt _ (Nat.two_pow_pos _))]

theorem bit_setBit_same (w : Word) {i : Nat} (b : Bool) (hi : i < 32) : bit (setBit w i b) i = b := by
  cases b with
  | true => exact Resets.bit_setBit_self w hi
  | false => exact bit_setBit_false w hi

/-! ### Registers and pages -/

/-- A register of a page in the list is none of those that a frame by pages speaks of. -/
theorem on_page {a p : Nat} {ps : List Nat} (hp : p ∈ ps) (ha : a / 4096 = p) : ¬ (pageOf a ∉ ps) := by
  rw [pageOf, ha]
  exact not_not_intro hp

/-- The status of a transmit slot is no interrupt register of a MAC. -/
theorem slotStat_notin_irqRegs (m m' i : Nat) : EthTx.SLOT_STAT m i ∉ irqRegs (Mac.page m') :=
  not_mem_irqRegs _ (by simp only [EthTx.SLOT_STAT]; omega)

theorem irqRegs_eq {a p : Nat} (h : a ∈ irqRegs p) : a = p * 4096 + 0x14 ∨ a = p * 4096 + 0x1C := by
  simpa [irqRegs, hIRQ_RAW, hIRQ_PEND] using h

theorem wakeRegs_ge : ∀ a ∈ wakeRegs, 0x380000 ≤ a ∧ a < 0x381000 := by decide

section
variable {m i : Nat} {s : State}

theorem macOf_putMac (m : Nat) (h : MacHid) (s : State) : macOf (putMac m h s) m = h := KMap.get_set_self _ s.bus.macs m h

/-! ### The end of a transmission (R394) -/

/-- SLOT_STAT of a transmission that ends with result `res`: PENDING clear, RESULT in place; OWN follows where the slot is not AUTO. -/
def endedStat (w : Word) (res : Nat) : Word := setFld (setBit w 1 false) 4 2 res

theorem bit_endedStat_pending (w : Word) (res : Nat) : bit (endedStat w res) 1 = false := by
  rw [endedStat, bit_setFld_apart _ (by decide) (by decide) (by decide), bit_setBit_false _ (by decide)]

theorem fld_endedStat_result (w : Word) {res : Nat} (hres : res < 8) : fld (endedStat w res) 4 2 = res :=
  fld_setFld_self _ (by decide) (by decide) hres

theorem rd_slotFinish (m i res : Nat) (s : State) : (slotFinish m i res s).rd (EthTx.SLOT_STAT m i) =
    if s.rdB (EthTx.SLOT_CFG m i) 0 then endedStat (s.rd (EthTx.SLOT_STAT m i)) res
    else setBit (endedStat (s.rd (EthTx.SLOT_STAT m i)) res) 0 true := by
  obtain ⟨hraw, hpend⟩ : EthTx.SLOT_STAT m i ≠ hIRQ_RAW (Mac.page m) ∧ EthTx.SLOT_STAT m i ≠ hIRQ_PEND (Mac.page m) := by
    simpa [irqRegs] using slotStat_notin_irqRegs m m i
  unfold slotFinish
  split
  · exact State.rd_wr_self s _ _
  · rw [State.rd_pulse_ne _ _ _ _ hraw hpend, State.rd_wr_self, endedStat]

/-- A transmission that ends: PENDING 0, RESULT, and OWN 1 of a slot that is not AUTO. -/
theorem slotFinish_stat {res : Nat} (hres : res < 8) (s : State) : (slotFinish m i res s).rdB (EthTx.SLOT_STAT m i) 1 = false ∧
    (slotFinish m i res s).rdF (EthTx.SLOT_STAT m i) 4 2 = res ∧
    (s.rdB (EthTx.SLOT_CFG m i) 0 = false → (slotFinish m i res s).rdB (EthTx.SLOT_STAT m i) 0 = true) := by
  cases hauto : s.rdB (EthTx.SLOT_CFG m i) 0 with
  | true =>
    have hrd := (rd_slotFinish m i res s).trans (if_pos hauto)
    refine ⟨?_, ?_, fun h => absurd h (by decide)⟩
    · rw [State.rdB, hrd, bit_endedStat_pending]
    · rw [State.rdF, hrd, fld_endedStat_result _ hres]
  | false =>
    have hrd := (rd_slotFinish m i res s).trans (if_neg (by simp [hauto]))
    refine ⟨?_, ?_, fun _ => ?_⟩
    · rw [State.rdB, hrd, bit_setBit_ne _ true (by decide) (by decide), bit_endedStat_pending]
    · rw [State.rdF, hrd, fld_setBit_apart _ true (by decide) (by decide), fld_endedStat_result _ hres]
    · rw [State.rdB, hrd, bit_setBit_same _ true (by decide)]

theorem frame_slotFinish (m i res : Nat) (s : State) : Frame (EthTx.SLOT_STAT m i :: irqRegs (Mac.page m)) s (slotFinish m i res s) := by
  have hput : ∀ w, Frame (EthTx.SLOT_STAT m i :: irqRegs (Mac.page m)) s (s.wr (EthTx.SLOT_STAT m i) w) := fun w =>
    frame_put (frame_refl _ s) w (List.mem_cons_self ..)
  exact frame_ite (hput _) (frame_pulse (hput _) 1 (List.subset_cons_self ..))

/-- The state of a transmission that ends, before its result is shown: its time stamp, the frame sent, the count. -/
def txStamped (m i sfd : Nat) (s : State) : State :=
  let t := ptpCapture s (ethCycle (s.now - sfd))
  if ptpEvent (getBytes s (EthTx.FRAME m i 0) 15) then
    ((s.wr (EthTx.TS_NS m i) (word (ptpNs t))).wr (EthTx.TS_S_LO m i) (word (ptpSec t % 2 ^ 32))).wr (EthTx.TS_S_HI m i) (word (ptpSec t / 2 ^ 32))
  else s

theorem leaves_txStamped {q : Nat → Prop} (hq : ∀ o, 0x54 ≤ o → o ≤ 0x5C → ¬ q (EthTx.page m i * 4096 + o)) (sfd : Nat) (s : State) :
    Leaves q s (txStamped m i sfd s) := by
  have hreg : ∀ {a} o, 0x54 ≤ o → o ≤ 0x5C → a = EthTx.page m i * 4096 + o → ¬ q a := fun o h h' ha => ha ▸ hq o h h'
  refine leaves_ite ?_ (leaves_refl q s)
  refine leaves_put (leaves_put (leaves_put (leaves_refl q s) _ ?_) _ ?_) _ ?_
  · exact hreg 0x54 (by decide) (by decide) (by simp only [EthTx.TS_NS, EthTx.page]; omega)
  · exact hreg 0x58 (by decide) (by decide) (by simp only [EthTx.TS_S_LO, EthTx.page]; omega)
  · exact hreg 0x5C (by decide) (by decide) (by simp only [EthTx.TS_S_HI, EthTx.page]; omega)

theorem gives_macTxDone (hon : s.rdB (Mac.CTRL m) 0 = true) (sfd : Nat) (hpend : s.rdB (EthTx.SLOT_STAT m i) 1 = true) :
    Gives (.macTxDone m i sfd) s (fun t => t.rdB (EthTx.SLOT_STAT m i) 1 = false ∧
      t.rdF (EthTx.SLOT_STAT m i) 4 2 = 1 ∧ (s.rdB (EthTx.SLOT_CFG m i) 0 = false → t.rdB (EthTx.SLOT_STAT m i) 0 = true) ∧
      PageFrame [Mac.page m, EthTx.page m i] s t) := by
  generalize hu : (putMac m { macOf (txStamped m i sfd s) m with sent := txFrame s m i } (txStamped m i sfd s)).wrB (EthTx.SLOT_STAT m i) 5
    (ptpEvent (getBytes s (EthTx.FRAME m i 0) 15)) = u
  have hend : macTxEnd m i sfd s = slotFinish m i 1 (u.incL (Mac.TX_FRAMES m)) := by
    subst hu
    simp only [macTxEnd, hon, hpend, Bool.not_true, Bool.or_self, Bool.false_eq_true, if_false]
    rfl
  have hleaves : ∀ {q : Nat → Prop}, (∀ o, 0x48 ≤ o → o ≤ 0x5C → ¬ q (EthTx.page m i * 4096 + o)) → Leaves q s u := fun {q} hq => by
    subst hu
    refine leaves_put (leaves_hidden (leaves_txStamped (fun o h h' => hq o (by omega) h') sfd s) rfl rfl) _ ?_
    have hstat : EthTx.SLOT_STAT m i = EthTx.page m i * 4096 + 0x48 := by simp only [EthTx.SLOT_STAT, EthTx.page]; omega
    exact hstat ▸ hq 0x48 (by decide) (by decide)
  have hcfg : (u.incL (Mac.TX_FRAMES m)).rdB (EthTx.SLOT_CFG m i) 0 = s.rdB (EthTx.SLOT_CFG m i) 0 := by
    have hsame := (hleaves (q := (· = EthTx.SLOT_CFG m i)) (fun o h _ => by simp only [EthTx.SLOT_CFG, EthTx.page]; omega)).1 _ rfl
    rw [State.rdB, State.rd_incL, hsame, State.rdB]
  obtain ⟨hp, hr, ho⟩ := slotFinish_stat (m := m) (i := i) (res := 1) (by decide) (u.incL (Mac.TX_FRAMES m))
  refine ⟨macTxEnd m i sfd s, rfl, ?_⟩
  rw [hend]
  refine ⟨hp, hr, fun h => ho (hcfg.trans h), ?_⟩
  refine leaves_trans (leaves_hidden (hleaves (fun o _ _ => on_page (p := EthTx.page m i) (by simp) (by omega))) rfl rfl)
    (leaves_of_frame (frame_slotFinish m i 1 _) (fun a ha => ?_))
  simp only [irqRegs, List.mem_cons, List.not_mem_nil, or_false] at ha
  rcases ha with rfl | rfl | rfl
  · exact on_page (p := EthTx.page m i) (by simp) (by simp only [EthTx.SLOT_STAT, EthTx.page]; omega)
  · exact on_page (p := Mac.page m) (by simp) (by simp only [hIRQ_RAW, Mac.page]; omega)
  · exact on_page (p := Mac.page m) (by simp) (by simp only [hIRQ_PEND, Mac.page]; omega)


/-! ### Reception (R391, R392) -/

/-- A frame too damaged for its checks is counted. -/
theorem gives_macFrameReceived_of_bad (hon : s.rdB (Mac.CTRL m) 0 = true) (l : List Nat) (sfd : Nat) :
    Gives (.macFrameReceived m l false sfd) s (fun t => t.rdL (Mac.RX_BAD m) =
      (if s.rdL (Mac.RX_BAD m) = 0xFFFFFFFF then 0xFFFFFFFF else s.rdL (Mac.RX_BAD m) + 1) ∧ Frame [] s t) := by
  refine ⟨s.incL (Mac.RX_BAD m), ?_, State.rdL_wrL_self s _ _, frame_hidden (frame_refl [] s) (State.incL_regs ..) (State.incL_mem ..)⟩
  simp [exec, execMacFrameReceived, macReceive, hon]

/-- The words of a frame in its receive slot, with its length. -/
def rxFilled (m i : Nat) (l : List Nat) (s : State) : State := (putBytes (EthRx.FRAME m i 0) l s).wr (EthRx.SLOT_LEN m i) (word l.length)

/-- What a stored frame shows beside its bytes and length: its tag, the time stamp of an event message, and its status. -/
def rxShown (m i : Nat) (l : List Nat) (tag : Option Nat) (flt t : Nat) (s : State) : State :=
  let s2 := s.wr (EthRx.SLOT_TAG m i) (word (tag.getD 0))
  let s3 := if ptpEvent l then ((s2.wr (EthRx.TS_NS m i) (word (ptpNs t))).wr (EthRx.TS_S_LO m i) (word (ptpSec t % 2 ^ 32))).wr (EthRx.TS_S_HI m i)
      (word (ptpSec t / 2 ^ 32)) else s2
  s3.wr (EthRx.SLOT_STAT m i) (word (1 + at' (bitN (ptpEvent l)) 5 + at' (bitN tag.isSome) 6 + at' flt 8))

/-- The reception ends: the count, the next slot of the ring, the interrupt and the wake. -/
def rxEnded (m i : Nat) (s : State) : State :=
  wakeOn 1 ((putMac m { macOf s m with rxNext := (i + 1) % 8 } (s.incL (Mac.RX_FRAMES m))).pulse (Mac.page m) 0)

theorem slotStore_of_free {l : List Nat} {tag : Option Nat} {flt sfd : Nat} (hnext : (macOf s m).rxNext % 8 = i)
    (hfree : s.rdB (EthRx.SLOT_STAT m i) 0 = false) : slotStore m l tag flt sfd s =
      rxEnded m i (rxShown m i l tag flt (ptpCapture s (ethCycle (s.now - sfd))) (rxFilled m i l s)) := by
  simp only [slotStore, hnext, hfree, Bool.false_eq_true, if_false]
  rfl

/-- A register of a receive slot's page. -/
theorem rxReg_eq (m i o : Nat) : 0x298000 + o + 0x10000 * m + 0x1000 * i = EthRx.page m i * 4096 + o := by
  simp only [EthRx.page]
  omega

variable {q : Nat → Prop}

theorem leaves_rxFilled {l : List Nat} (hlen : l.length ≤ 1536) (hq : ∀ o, o = 0x4C ∨ 0x100 ≤ o ∧ o < 0x700 → ¬ q (EthRx.page m i * 4096 + o))
    (s : State) : Leaves q s (rxFilled m i l s) := by
  refine leaves_put (leaves_foldl (leaves_refl q s) (fun j hj u hu => leaves_put hu _ ?_)) _ ?_
  · have hj := List.mem_range.mp hj
    have haddr : EthRx.FRAME m i 0 + 4 * j = EthRx.page m i * 4096 + (0x100 + 4 * j) := by simp only [EthRx.FRAME, EthRx.page]; omega
    exact haddr ▸ hq _ (by omega)
  · have hreg : EthRx.SLOT_LEN m i = EthRx.page m i * 4096 + 0x4C := rxReg_eq m i 0x4C
    exact hreg ▸ hq 0x4C (by decide)

theorem leaves_rxShown (hq : ∀ o, 0x48 ≤ o ∧ o ≤ 0x5C ∧ o ≠ 0x4C → ¬ q (EthRx.page m i * 4096 + o)) (l : List Nat) (tag : Option Nat)
    (flt t : Nat) (s : State) : Leaves q s (rxShown m i l tag flt t s) := by
  have hreg : ∀ {a} o, a = 0x298000 + o + 0x10000 * m + 0x1000 * i → 0x48 ≤ o ∧ o ≤ 0x5C ∧ o ≠ 0x4C → ¬ q a := fun o ha ho =>
    (ha.trans (rxReg_eq m i o)) ▸ hq o ho
  have htag : Leaves q s (s.wr (EthRx.SLOT_TAG m i) (word (tag.getD 0))) := leaves_put (leaves_refl q s) _ (hreg 0x50 rfl (by decide))
  have hns := hreg (a := EthRx.TS_NS m i) 0x54 rfl (by decide)
  have hlo := hreg (a := EthRx.TS_S_LO m i) 0x58 rfl (by decide)
  have hhi := hreg (a := EthRx.TS_S_HI m i) 0x5C rfl (by decide)
  exact leaves_put (leaves_ite (leaves_put (leaves_put (leaves_put htag _ hns) _ hlo) _ hhi) htag) _ (hreg 0x48 rfl (by decide))

theorem leaves_rxEnded (hirq : ∀ a ∈ irqRegs (Mac.page m), ¬ q a) (hwake : ∀ a ∈ wakeRegs, ¬ q a) (s : State) : Leaves q s (rxEnded m i s) := by
  have hcount : Leaves q s (putMac m { macOf s m with rxNext := (i + 1) % 8 } (s.incL (Mac.RX_FRAMES m))) :=
    leaves_hidden (leaves_refl q s) (State.incL_regs s (Mac.RX_FRAMES m)) (State.incL_mem s (Mac.RX_FRAMES m))
  exact leaves_wakeOn (leaves_pulse hcount 0 (hirq _ (by simp [irqRegs])) (hirq _ (by simp [irqRegs]))) 1 hwake

theorem wakeOn_bus (k : Nat) (s : State) : (wakeOn k s).bus = s.bus := by
  simp only [wakeOn, wake, pwrGo, apply_ite State.bus, State.pulse_bus, State.wr_bus, State.wrB_bus, ite_self]

theorem rxNext_rxEnded (m i : Nat) (s : State) : (macOf (rxEnded m i s) m).rxNext = (i + 1) % 8 := by
  have hbus : (rxEnded m i s).bus = (putMac m { macOf s m with rxNext := (i + 1) % 8 } (s.incL (Mac.RX_FRAMES m))).bus := by
    rw [rxEnded, wakeOn_bus, State.pulse_bus]
  rw [macOf, hbus]
  exact congrArg MacHid.rxNext (macOf_putMac m _ _)

theorem bit_rxStat (x y : Bool) (flt : Nat) : bit (word (1 + at' (bitN x) 5 + at' (bitN y) 6 + at' flt 8)) 0 = true := by
  have hodd : (1 + at' (bitN x) 5 + at' (bitN y) 6 + at' flt 8) % 2 = 1 := by
    simp only [at']
    omega
  rw [bit, word, BitVec.getLsbD_ofNat, Nat.testBit_zero, hodd]
  rfl

theorem gives_macFrameReceived (hon : s.rdB (Mac.CTRL m) 0 = true) {l : List Nat} {sfd : Nat} (hmin : 60 ≤ l.length) (hmax : l.length ≤ 1514)
    (huntagged : (l.drop 12).take 2 ≠ [0x81, 0x00]) (hpause : bytesNat ((l.drop 12).take 2) ≠ 0x8808)
    (hrecord : bytesNat ((l.drop 12).take 2) ≠ 0x88B5) (haddr : addrOk s m l = true)
    (hfilter : (filterOf s m (bytesNat ((l.drop 12).take 2)) none).isSome = true)
    (hm : m < 2) (hnext : (macOf s m).rxNext % 8 = i) (hfree : s.rdB (EthRx.SLOT_STAT m i) 0 = false) :
    Gives (.macFrameReceived m l true sfd) s (fun t =>
      t.rdB (EthRx.SLOT_STAT m i) 0 = true ∧ t.rd (EthRx.SLOT_LEN m i) = word l.length ∧ (macOf t m).rxNext = (i + 1) % 8 ∧
      PageFrame [Mac.page m, EthRx.page m i, Sec.page] s t) := by
  obtain ⟨j, hj⟩ := Option.isSome_iff_exists.mp hfilter
  have hlen : ¬ (l.length + 4 < 64 ∨ 1522 < l.length + 4) := by omega
  have hrecv : macReceive m l true sfd s = slotStore m l none j sfd s := by
    simp [macReceive, hon, hlen, huntagged, hpause, hrecord, haddr, hj]
  rw [slotStore_of_free hnext hfree] at hrecv
  refine ⟨macReceive m l true sfd s, rfl, ?_⟩
  rw [hrecv]
  generalize hshown : rxShown m i l none j (ptpCapture s (ethCycle (s.now - sfd))) (rxFilled m i l s) = u
  have hrx : ∀ {a o}, a = EthRx.page m i * 4096 + o → o < 4096 → (rxEnded m i u).rd a = u.rd a := fun {a o} ha ho => by
    refine (leaves_rxEnded (q := (· = a)) (fun b hb => ?_) (fun b hb => ?_) u).1 a rfl
    · have hb := irqRegs_eq hb
      simp only [Mac.page, EthRx.page] at *
      omega
    · have hb := wakeRegs_ge b hb
      simp only [EthRx.page] at *
      omega
  have hlenReg : EthRx.SLOT_LEN m i = EthRx.page m i * 4096 + 0x4C := rxReg_eq m i 0x4C
  have hstatReg : EthRx.SLOT_STAT m i = EthRx.page m i * 4096 + 0x48 := rxReg_eq m i 0x48
  refine ⟨?_, ?_, rxNext_rxEnded m i u, ?_⟩
  · rw [State.rdB, hrx hstatReg (by decide), ← hshown, rxShown, State.rd_wr_self, bit_rxStat]
  · rw [hrx hlenReg (by decide), ← hshown]
    refine ((leaves_rxShown (q := (· = EthRx.SLOT_LEN m i)) (fun o ho => ?_) l none j _ _).1 _ rfl).trans (State.rd_wr_self _ _ _)
    omega
  · have hpage : ∀ o, o < 4096 → ¬ (pageOf (EthRx.page m i * 4096 + o) ∉ [Mac.page m, EthRx.page m i, Sec.page]) := fun o ho =>
      on_page (p := EthRx.page m i) (by simp) (by omega)
    have hstored : Leaves (pageOf · ∉ [Mac.page m, EthRx.page m i, Sec.page]) s u := by
      rw [← hshown]
      exact leaves_trans (leaves_rxFilled (by omega) (fun o ho => hpage o (by omega)) s)
        (leaves_rxShown (fun o ho => hpage o (by omega)) l none j _ _)
    refine leaves_trans hstored (leaves_rxEnded (fun a ha => ?_) (fun a ha => ?_) u)
    · exact on_page (p := Mac.page m) (by simp) (by have := irqRegs_eq ha; omega)
    · exact on_page (p := Sec.page) (by simp) (by have := wakeRegs_ge a ha; simp only [Sec.page]; omega)

/-! ### Slot commands (R394) -/

/-- The command of a transmit slot, by its number. -/
def txCommand (m i : Nat) (c : Nat) (s : State) : Reply :=
  match c with
  | 0 => accept s
  | 1 => slotAck m i s
  | 2 => slotSend m i s
  | 4 => slotAbort m i s
  | 8 => slotClaim m i s
  | _ => deny s .outOfRange

theorem txSlotWrite_cmd (hm : m < 2) (hi : i < 8) (v : Word) (s : State) :
    txSlotWrite (EthTx.SLOT_CMD m i) v s = txCommand m i (fld v 3 0) s := by
  have hmac : (pageOf (EthTx.SLOT_CMD m i) - 0x290) / 16 = m := by simp only [pageOf, EthTx.SLOT_CMD]; omega
  have hslot : (pageOf (EthTx.SLOT_CMD m i) - 0x290) % 16 = i := by simp only [pageOf, EthTx.SLOT_CMD]; omega
  have hcfg : EthTx.SLOT_CMD m i ≠ EthTx.SLOT_CFG m i := by simp only [EthTx.SLOT_CMD, EthTx.SLOT_CFG]; omega
  simp only [txSlotWrite, hmac, hslot, if_neg hcfg, if_true]
  rfl

theorem rxSlotWrite_ack (hm : m < 2) (hi : i < 8) (s : State) :
    rxSlotWrite (EthRx.SLOT_CMD m i) 1 s = accept (s.wrB (EthRx.SLOT_STAT m i) 0 false) := by
  have hmac : (pageOf (EthRx.SLOT_CMD m i) - 0x298) / 16 = m := by simp only [pageOf, EthRx.SLOT_CMD]; omega
  have hslot : (pageOf (EthRx.SLOT_CMD m i) - 0x298) % 16 = i := by simp only [pageOf, EthRx.SLOT_CMD]; omega
  have hcmd : fld 1 3 0 = 1 := by decide
  simp only [rxSlotWrite, hmac, hslot, if_true, hcmd]

theorem unforwarded_txCmd (m i : Nat) : Unforwarded (EthTx.SLOT_CMD m i) := unforwarded_of_page (by simp only [EthTx.SLOT_CMD]; omega)

theorem unforwarded_rxCmd (m i : Nat) : Unforwarded (EthRx.SLOT_CMD m i) := unforwarded_of_page (by simp only [EthRx.SLOT_CMD]; omega)

/-- A bit put into one register: it reads so, and no other register moves. -/
theorem putBit_beside {f : FabState} {x : IslandState} {c : RefCode} {w : Word} {a j : Nat} {b : Bool} (hj : j < 32) :
    (beside f x c w (s.wrB a j b)).rdB a j = b ∧ Frame [a] s (beside f x c w (s.wrB a j b)) :=
  ⟨rdB_wrB_self s a hj b, frame_beside (frame_putBit (frame_refl _ s) _ _ (List.mem_cons_self ..))⟩

section
variable {port : Port}

theorem gives_slotAck_rx (hm : m < 2) (hi : i < 8) (hadm : Admits s port (EthRx.SLOT_CMD m i)) : Gives (.slotAck port m i true) s (fun t =>
    t.rdB (EthRx.SLOT_STAT m i) 0 = false ∧ Frame [EthRx.SLOT_STAT m i] s t) :=
  gives_of_accept rfl hadm (unforwarded_rxCmd m i) (rxSlotWrite_ack hm hi s) (fun _ _ _ _ => putBit_beside (by decide))

section
variable (hm : m < 2) (hi : i < 8) (hadm : Admits s port (EthTx.SLOT_CMD m i))
include hm hi hadm

/-- A command of a transmit slot that is accepted. -/
theorem gives_txCommand {c : Instr} {v : Word} {t : State} {P : State → Prop}
    (hexec : exec c s = replied (gated port (EthTx.SLOT_CMD m i) v (txSlotWrite (EthTx.SLOT_CMD m i) v) s))
    (hop : txCommand m i (fld v 3 0) s = accept t) (hP : ∀ f x d w, P (beside f x d w t)) : Gives c s P :=
  gives_of_accept hexec hadm (unforwarded_txCmd m i) ((txSlotWrite_cmd hm hi v s).trans hop) hP

theorem gives_slotAck_tx (hauto : s.rdB (EthTx.SLOT_CFG m i) 0 = true) : Gives (.slotAck port m i false) s (fun t =>
    t.rdB (EthTx.SLOT_STAT m i) 0 = false ∧ Frame [EthTx.SLOT_STAT m i] s t) :=
  gives_txCommand hm hi hadm rfl (if_pos hauto : slotAck m i s = _) (fun _ _ _ _ => putBit_beside (by decide))

theorem gives_slotSendCmd (hauto : s.rdB (EthTx.SLOT_CFG m i) 0 = false) (hown : s.rdB (EthTx.SLOT_STAT m i) 0 = true) :
    Gives (.slotSendCmd port m i false) s (fun t => t.rd (EthTx.SLOT_STAT m i) = 2 ∧ Frame [EthTx.SLOT_STAT m i] s t) := by
  have hop : slotSend m i s = accept (s.wr (EthTx.SLOT_STAT m i) 2) := if_pos ⟨hown, by simp [hauto]⟩
  exact gives_txCommand hm hi hadm rfl hop (fun _ _ _ _ =>
    ⟨State.rd_wr_self s _ _, frame_beside (frame_put (frame_refl _ s) _ (List.mem_cons_self ..))⟩)

theorem gives_slotAbort (hpend : s.rdB (EthTx.SLOT_STAT m i) 1 = true) : Gives (.slotAbort port m i false) s (fun t =>
    t.rdB (EthTx.SLOT_STAT m i) 1 = false ∧ t.rdF (EthTx.SLOT_STAT m i) 4 2 = 4 ∧ Frame (EthTx.SLOT_STAT m i :: irqRegs (Mac.page m)) s t) := by
  have hop : slotAbort m i s = accept (slotFinish m i 4 s) := by rw [slotAbort, if_pos hpend]
  obtain ⟨hp, hr, -⟩ := slotFinish_stat (m := m) (i := i) (res := 4) (by decide) s
  exact gives_txCommand hm hi hadm rfl hop (fun _ _ _ _ => ⟨hp, hr, frame_beside (frame_slotFinish m i 4 s)⟩)

theorem gives_slotClaim (hauto : s.rdB (EthTx.SLOT_CFG m i) 0 = true) (hidle : s.rdB (EthTx.SLOT_STAT m i) 1 = false) :
    Gives (.slotClaim port m i false) s (fun t => t.rdB (EthTx.SLOT_STAT m i) 0 = true ∧ Frame [EthTx.SLOT_STAT m i] s t) := by
  have hop : slotClaim m i s = accept (s.wrB (EthTx.SLOT_STAT m i) 0 true) := by simp [slotClaim, hauto, hidle]
  exact gives_txCommand hm hi hadm rfl hop (fun _ _ _ _ => putBit_beside (by decide))

end

/-! ### Management transfers (R394) -/

theorem macOf_wrB (m a j : Nat) (b : Bool) (s : State) : macOf (s.wrB a j b) m = macOf s m := by simp only [macOf, State.wrB_bus]

theorem macOf_beside (m : Nat) (f : FabState) (x : IslandState) (c : RefCode) (w : Word) (t : State) :
    macOf (beside f x c w t) m = macOf t m := rfl

theorem gives_mdioCmd (hm : m < 2) (v : Word) (hadm : Admits s port (Mac.MDIO_CMD m)) (hidle : s.rdB (Mac.MDIO_STAT m) 0 = false) :
    Gives (.mdioCmd port m v) s (fun t => t.rdB (Mac.MDIO_STAT m) 0 = true ∧ (macOf t m).mdioRead = bit v 10 ∧ Frame [Mac.MDIO_STAT m] s t) := by
  have hmac : pageOf (Mac.MDIO_CMD m) - 0x280 = m := by simp only [pageOf, Mac.MDIO_CMD]; omega
  have hctrl : Mac.MDIO_CMD m ≠ Mac.CTRL m := by simp only [Mac.MDIO_CMD, Mac.CTRL]; omega
  have htg : Mac.MDIO_CMD m ≠ Mac.TG_SLOT m := by simp only [Mac.MDIO_CMD, Mac.TG_SLOT]; omega
  have hop : macWrite (Mac.MDIO_CMD m) v s =
      accept ((putMac m { macOf s m with mdioRead := bit v 10 } s).wrB (Mac.MDIO_STAT m) 0 true) := by
    simp only [macWrite, hmac, if_neg hctrl, if_neg htg, if_true, hidle, Bool.false_eq_true, if_false]
  refine gives_of_accept rfl hadm (unforwarded_of_page (by simp only [Mac.MDIO_CMD]; omega)) hop (fun f x c w => ?_)
  obtain ⟨hbit, hframe⟩ := putBit_then_frame (a := Mac.MDIO_STAT m) (i := 0) (b := true) (m := []) (s := putMac m { macOf s m with mdioRead := bit v 10 } s)
    (frame_beside (f := f) (x := x) (c := c) (w := w) (frame_refl [] _)) (List.not_mem_nil) (by decide)
  refine ⟨hbit, ?_, Fabric.frame_trans (frame_hidden (frame_refl _ s) rfl rfl) hframe⟩
  rw [macOf_beside, macOf_wrB, macOf_putMac]

theorem gives_mdioDone (m : Nat) (data : Nat) (hbusy : s.rdB (Mac.MDIO_STAT m) 0 = true) : Gives (.mdioDone m data) s (fun t =>
    t.rdB (Mac.MDIO_STAT m) 0 = false ∧ ((macOf s m).mdioRead = true → t.rdF (Mac.MDIO_STAT m) 31 16 = data % 65536) ∧
      Frame (Mac.MDIO_STAT m :: irqRegs (Mac.page m)) s t) := by
  generalize hw : (if (macOf s m).mdioRead then setFld (s.rd (Mac.MDIO_STAT m)) 31 16 data else s.rd (Mac.MDIO_STAT m)) = w
  have hdone : mdioDone m data s = (s.wr (Mac.MDIO_STAT m) (setBit w 0 false)).pulse (Mac.page m) 3 := by
    simp only [mdioDone, hbusy, Bool.not_true, Bool.false_eq_true, if_false, hw]
  have hrd : (mdioDone m data s).rd (Mac.MDIO_STAT m) = setBit w 0 false := by
    rw [hdone, State.rd_pulse_ne _ _ _ _ (by simp only [Mac.MDIO_STAT, Mac.page, hIRQ_RAW]; omega)
      (by simp only [Mac.MDIO_STAT, Mac.page, hIRQ_PEND]; omega), State.rd_wr_self]
  refine ⟨mdioDone m data s, rfl, ?_, fun hread => ?_, ?_⟩
  · rw [State.rdB, hrd, bit_setBit_same _ false (by decide)]
  · rw [if_pos hread] at hw
    rw [State.rdF, hrd, fld_setBit_apart _ false (by decide) (by decide), ← hw, fld_setFld_mod _ _ (by decide) (by decide)]
    rfl
  · rw [hdone]
    exact frame_pulse (frame_put (frame_refl _ s) _ (List.mem_cons_self ..)) 3 (List.subset_cons_self ..)

end

end

/-- Settles O16: reception by the slot that it fills, the end of a transmission and an ABORT by `slotFinish`, the other commands by the word they
put, MDIO by its status. -/
theorem ethernetSlotsFillAndEmpty : Obligations.EthernetSlotsFillAndEmpty := by
  intro port m i sfd data l v s hm hi
  exact ⟨fun hon => ⟨gives_macFrameReceived_of_bad hon l sfd, fun hmin hmax huntagged hpause hrecord haddr hfilter hnext hfree =>
      gives_macFrameReceived hon hmin hmax huntagged hpause hrecord haddr hfilter hm hnext hfree, gives_macTxDone hon sfd⟩,
    gives_slotAck_rx hm hi, fun hadm => ⟨gives_slotAck_tx hm hi hadm, gives_slotSendCmd hm hi hadm, gives_slotAbort hm hi hadm,
      gives_slotClaim hm hi hadm⟩, gives_mdioCmd hm v, gives_mdioDone m data⟩

end Sys2Proof.Laws.Ethernet
end

section
/-! PROOFS. The CAN channels: error counters, objects, reception and transmission (R381-R389). -/

namespace Sys2Proof.Laws.CanBus
open Sys2Proof.Machine Sys2Proof.Safety Sys2Proof.Laws.Fabric Sys2Proof.Laws.Frames Sys2Proof.Laws.Fields Sys2Proof.Laws.ProtDisplay
open Sys2Proof.Laws.Admitted Sys2Proof.Laws.Leaving Sys2Proof.Laws.Ethernet

/-! ### Registers of a channel and of its objects -/

section
variable {ch o : Nat}

theorem objStat_eq (ch o : Nat) : Obj.OBJ_STAT (objOf ch o) = 0x400000 + 0x80 * objOf ch o + 0x10 := by
  simp only [Obj.OBJ_STAT]
  omega

/-- The registers of a channel's own page lie below the message RAM. -/
theorem canPage_lt (hch : ch < 4) {off : Nat} (hoff : off < 4096) : Can.page ch * 4096 + off < 0x400000 := by
  simp only [Can.page]
  omega

theorem irqRegs_lt (hch : ch < 4) : ∀ a ∈ irqRegs (Can.page ch), a < 0x400000 := fun a ha => by
  rcases irqRegs_eq ha with rfl | rfl <;> exact canPage_lt hch (by decide)

theorem ecr_eq (ch : Nat) : Can.ECR ch = Can.page ch * 4096 + 0x4C := by
  simp only [Can.ECR, Can.page]
  omega

theorem ecr_notin_irqRegs (ch : Nat) : Can.ECR ch ∉ irqRegs (Can.page ch) := not_mem_irqRegs _ (by simp only [Can.ECR]; omega)

theorem canOf_putCan (ch : Nat) (h : CanHid) (s : State) : canOf (putCan ch h s) ch = h := KMap.get_set_self _ s.bus.cans ch h

/-! ### Arbitration (R385) -/

section
variable (ch) (s : State)

theorem canKick_regs : (canKick ch s).regs = s.regs := by
  unfold canKick
  split <;> rfl

theorem canKick_mem : (canKick ch s).mem = s.mem := by
  unfold canKick
  split <;> rfl

theorem canNext_regs : (canNext ch s).regs = s.regs := canKick_regs ch _

theorem canNext_mem : (canNext ch s).mem = s.mem := canKick_mem ch _

/-- A channel that goes on, and may send, attempts the winner of the arbitration. -/
theorem onBus_canNext (hsends : canSends s ch = true) : (canOf (canNext ch s) ch).onBus = arbWinner s ch := by
  have hidle : (canOf (putCan ch { canOf s ch with onBus := none, abort := false } s) ch).onBus.isNone = true := by
    rw [canOf_putCan]
    rfl
  have hcan : canSends (putCan ch { canOf s ch with onBus := none, abort := false } s) ch = true := hsends
  rw [canNext, canKick, hcan, hidle, Bool.and_self, if_pos rfl, canOf_putCan]
  rfl

theorem recover_canKick : (canOf (canKick ch s) ch).recover = (canOf s ch).recover := by
  unfold canKick
  split
  · rw [canOf_putCan]
  · rfl

end

/-! ### The error counters (R381, R386) -/

section
variable (s : State) (tec rec' : Nat)

/-- ECR with new counters and a new state. -/
def countedEcr (w : Word) (tec rec' st : Nat) : Word := setFld (setFld (setFld w 7 0 (min tec 255)) 15 8 (min rec' 255)) 17 16 st

/-- New counters are put into ECR; beside that the channel may leave the error-active state, or the bus, with the interrupt that tells it. -/
theorem putCounts_cases (tec rec' : Nat) (t : State) : ∃ st h w, w = t.wr (Can.ECR ch) (countedEcr (t.rd (Can.ECR ch)) tec rec' st) ∧
    (putCounts ch tec rec' t = w ∨ putCounts ch tec rec' t = w.pulse (Can.page ch) 5 ∨
      putCounts ch tec rec' t = emitPage .fault (Can.page ch) 6 0 ((putCan ch h w).pulse (Can.page ch) 6)) := by
  unfold putCounts
  dsimp only
  generalize (if t.rdF (Can.ECR ch) 17 16 = 2 ∨ 255 < tec then 2 else if 127 < tec ∨ 127 < rec' then 1 else 0) = st
  refine ⟨st, { canOf (t.wr (Can.ECR ch) (countedEcr (t.rd (Can.ECR ch)) tec rec' st)) ch with onBus := none, recover := false }, _, rfl, ?_⟩
  split
  · exact .inr (.inr rfl)
  · split
    · exact .inr (.inl rfl)
    · exact .inl rfl

theorem frame_putCounts {l : List Nat} {t : State} (h : Frame l s t) (hecr : Can.ECR ch ∈ l) (hirq : irqRegs (Can.page ch) ⊆ l) :
    Frame l s (putCounts ch tec rec' t) := by
  obtain ⟨st, x, w, hw, hcase⟩ := putCounts_cases (ch := ch) tec rec' t
  have hput : Frame l s w := hw ▸ frame_put h _ hecr
  have hhid : Frame l s (putCan ch x w) := frame_hidden hput rfl rfl
  rcases hcase with hcase | hcase | hcase <;> rw [hcase]
  · exact hput
  · exact frame_pulse hput 5 hirq
  · exact frame_hidden (frame_pulse hhid 6 hirq) rfl rfl

theorem rd_pulse_ecr (t : State) (j : Nat) : (t.pulse (Can.page ch) j).rd (Can.ECR ch) = t.rd (Can.ECR ch) :=
  State.rd_pulse_ne _ _ _ _ (by simp only [Can.ECR, Can.page, hIRQ_RAW]; omega) (by simp only [Can.ECR, Can.page, hIRQ_PEND]; omega)

theorem rd_putCounts : ∃ st, (putCounts ch tec rec' s).rd (Can.ECR ch) = countedEcr (s.rd (Can.ECR ch)) tec rec' st := by
  obtain ⟨st, x, w, rfl, hcase⟩ := putCounts_cases (ch := ch) tec rec' s
  have hput := State.rd_wr_self s (Can.ECR ch) (countedEcr (s.rd (Can.ECR ch)) tec rec' st)
  refine ⟨st, ?_⟩
  rcases hcase with hcase | hcase | hcase <;> rw [hcase]
  · exact hput
  · exact (rd_pulse_ecr _ 5).trans hput
  · exact (rd_pulse_ecr _ 6).trans hput

theorem tec_putCounts : (putCounts ch tec rec' s).rdF (Can.ECR ch) 7 0 = min tec 255 := by
  obtain ⟨st, hrd⟩ := rd_putCounts (ch := ch) s tec rec'
  rw [State.rdF, hrd, countedEcr, fld_setFld_apart _ (by decide) (by decide) (by decide),
    fld_setFld_apart _ (by decide) (by decide) (by decide), fld_setFld_self _ (by decide) (by decide) (by omega)]

theorem lec_putCounts : (putCounts ch tec rec' s).rdF (Can.ECR ch) 22 20 = s.rdF (Can.ECR ch) 22 20 := by
  obtain ⟨st, hrd⟩ := rd_putCounts (ch := ch) s tec rec'
  rw [State.rdF, hrd, countedEcr, fld_setFld_apart _ (by decide) (by decide) (by decide),
    fld_setFld_apart _ (by decide) (by decide) (by decide), fld_setFld_apart _ (by decide) (by decide) (by decide), State.rdF]

theorem engine_putCounts : (putCounts ch tec rec' s).engine = s.engine := by
  have hpart : (putCounts ch tec rec' s).now = s.now ∧ (putCounts ch tec rec' s).bu = s.bu := by
    obtain ⟨st, x, w, hw, hcase⟩ := putCounts_cases (ch := ch) tec rec' s
    have hnow : w.now = s.now := hw ▸ State.wr_now ..
    have hbu : w.bu = s.bu := hw ▸ State.wr_bu ..
    rcases hcase with hcase | hcase | hcase <;> rw [hcase]
    · exact ⟨hnow, hbu⟩
    · exact ⟨(State.pulse_now ..).trans hnow, (State.pulse_bu ..).trans hbu⟩
    · exact ⟨(State.pulse_now (putCan ch x w) _ _).trans hnow, (State.pulse_bu (putCan ch x w) _ _).trans hbu⟩
  rw [State.engine, State.engine, hpart.1, hpart.2]

end

/-! ### The end of a transmission (R384, R386) -/

section
variable (ch o) (res : Nat) (s : State)

theorem frame_objFinish : Frame (Obj.OBJ_STAT (objOf ch o) :: irqRegs (Can.page ch)) s (objFinish ch o res s) := by
  have hput : ∀ w, Frame (Obj.OBJ_STAT (objOf ch o) :: irqRegs (Can.page ch)) s (s.wr (Obj.OBJ_STAT (objOf ch o)) w) := fun w =>
    frame_put (frame_refl _ s) w (List.mem_cons_self ..)
  exact frame_ite (frame_pulse (hput _) 1 (List.subset_cons_self ..)) (hput _)

theorem rd_pulse_obj (hch : ch < 4) {a : Nat} (ha : 0x400000 ≤ a) (t : State) (j : Nat) : (t.pulse (Can.page ch) j).rd a = t.rd a := by
  have hlt : ∀ b ∈ irqRegs (Can.page ch), a ≠ b := fun b hb => by have := irqRegs_lt hch b hb; omega
  exact State.rd_pulse_ne _ _ _ _ (hlt _ (by simp [irqRegs])) (hlt _ (by simp [irqRegs]))

theorem rd_objFinish (hch : ch < 4) : (objFinish ch o res s).rd (Obj.OBJ_STAT (objOf ch o)) =
    if objMode s ch o = 2 then setBit (endedStat (s.rd (Obj.OBJ_STAT (objOf ch o))) res) 0 true
    else endedStat (s.rd (Obj.OBJ_STAT (objOf ch o))) res := by
  by_cases htx : objMode s ch o = 2
  · simp only [objFinish, htx, decide_true, if_true]
    rw [rd_pulse_obj ch hch (by simp only [Obj.OBJ_STAT]; omega), State.rd_wr_self, endedStat]
  · simp only [objFinish, htx, decide_false, Bool.false_eq_true, if_false]
    rw [State.rd_wr_self, endedStat]

variable {ch o res s}

/-- A transmission that ends: PENDING 0, RESULT, and OWN 1 of a TX object. -/
theorem objFinish_stat (hch : ch < 4) (hres : res < 8) : objPending (objFinish ch o res s) ch o = false ∧
    (objFinish ch o res s).rdF (Obj.OBJ_STAT (objOf ch o)) 4 2 = res ∧ (objMode s ch o = 2 → objOwn (objFinish ch o res s) ch o = true) := by
  have hrd := rd_objFinish ch o res s hch
  by_cases htx : objMode s ch o = 2
  · rw [if_pos htx] at hrd
    refine ⟨?_, ?_, fun _ => ?_⟩
    · rw [objPending, State.rdB, hrd, bit_setBit_ne _ true (by decide) (by decide), bit_endedStat_pending]
    · rw [State.rdF, hrd, fld_setBit_apart _ true (by decide) (by decide), fld_endedStat_result _ hres]
    · rw [objOwn, State.rdB, hrd, bit_setBit_same _ true (by decide)]
  · rw [if_neg htx] at hrd
    refine ⟨?_, ?_, fun h => absurd h htx⟩
    · rw [objPending, State.rdB, hrd, bit_endedStat_pending]
    · rw [State.rdF, hrd, fld_endedStat_result _ hres]

/-- The end of one object's transmission leaves the other objects pending or not. -/
theorem objPending_objFinish_ne (hch : ch < 4) {x : Nat} (hx : x ≠ o) : objPending (objFinish ch o res s) ch x = objPending s ch x := by
  have hkeep := (frame_objFinish ch o res s).1 (Obj.OBJ_STAT (objOf ch x)) (fun hmem => by
    rcases List.mem_cons.mp hmem with h | h
    · simp only [Obj.OBJ_STAT, objOf] at h
      omega
    · have := irqRegs_lt hch _ h
      simp only [Obj.OBJ_STAT] at this
      omega)
  rw [objPending, State.rdB, hkeep, objPending, State.rdB]

end

/-! ### Attempts on the bus (R386) -/

section
variable {s : State}

theorem rd_countTry_ne {a : Nat} (ha : a ≠ Obj.OBJ_STAT (objOf ch o)) (s : State) : (countTry ch o s).rd a = s.rd a := by
  rw [countTry, State.wrF, State.rd_wr_ne _ _ _ _ ha]
  rfl

theorem frame_countTry {l : List Nat} {t : State} (h : Frame l s t) (ho : Obj.OBJ_STAT (objOf ch o) ∈ l) : Frame l s (countTry ch o t) :=
  frame_put (frame_hidden (u := putCan ch _ t) h rfl rfl) _ ho

theorem objReg_notin_channel (hch : ch < 4) {a : Nat} (ha : 0x400000 ≤ a) : a ∉ Can.ECR ch :: irqRegs (Can.page ch) := fun hmem => by
  rcases List.mem_cons.mp hmem with h | h
  · have := canPage_lt hch (off := 0x4C) (by decide)
    have := ecr_eq ch
    omega
  · have := irqRegs_lt hch a h
    omega

/-- The registers that the end of an attempt of object `o` may move. -/
def attemptRegs (ch o : Nat) : List Nat := [Obj.OBJ_STAT (objOf ch o), Obj.OBJ_TS (objOf ch o), Can.ECR ch] ++ irqRegs (Can.page ch)

theorem attemptRegs_channel : Can.ECR ch :: irqRegs (Can.page ch) ⊆ attemptRegs ch o :=
  fun _ ha => List.mem_cons_of_mem _ (List.mem_cons_of_mem _ ha)

theorem attemptRegs_stat : Obj.OBJ_STAT (objOf ch o) :: irqRegs (Can.page ch) ⊆ attemptRegs ch o := fun a ha => by
  rcases List.mem_cons.mp ha with rfl | ha
  · exact List.mem_cons_self ..
  · exact attemptRegs_channel (List.mem_cons_of_mem _ ha)

theorem objMode_congr {s t : State} (h : t.rd (Obj.OBJ_CFG (objOf ch o)) = s.rd (Obj.OBJ_CFG (objOf ch o))) : objMode t ch o = objMode s ch o := by
  rw [objMode, State.rdF, h, objMode, State.rdF]

/-- The state of a good attempt before its result is shown: the frame sent, the tries, the time stamp, the count. -/
def txSent (ch o sof : Nat) (s : State) : State :=
  ((countTry ch o (putCan ch { canOf s ch with sent := some (objFrame s ch o) } s)).wr (Obj.OBJ_TS (objOf ch o)) (word (s.engine - sof))).incL
    (Can.TX_FRAMES ch)

theorem rd_txSent_ne {a sof : Nat} (hstat : a ≠ Obj.OBJ_STAT (objOf ch o)) (hts : a ≠ Obj.OBJ_TS (objOf ch o)) :
    (txSent ch o sof s).rd a = s.rd a := by
  rw [txSent, State.rd_incL, State.rd_wr_ne _ _ _ _ hts, rd_countTry_ne hstat]
  rfl

theorem gives_canTxAttemptEnd_ok (hch : ch < 4) (hbus : (canOf s ch).onBus = some o) (htx : objMode s ch o = 2) (sof : Nat) :
    Gives (.canTxAttemptEnd ch .ok sof) s (fun t => objPending t ch o = false ∧ objOwn t ch o = true ∧
      t.rdF (Obj.OBJ_STAT (objOf ch o)) 4 2 = 1 ∧ t.rd (Obj.OBJ_TS (objOf ch o)) = word (s.engine - sof) ∧
      t.rdF (Can.ECR ch) 7 0 = s.rdF (Can.ECR ch) 7 0 - 1 ∧
      Frame ([Obj.OBJ_STAT (objOf ch o), Obj.OBJ_TS (objOf ch o), Can.ECR ch] ++ irqRegs (Can.page ch)) s t) := by
  generalize hu : objFinish ch o 1 (txSent ch o sof s) = u
  have hend : canTxEnd ch .ok sof s = canNext ch (putCounts ch (s.rdF (Can.ECR ch) 7 0 - 1) (s.rdF (Can.ECR ch) 15 8) u) := by
    rw [← hu]
    simp only [canTxEnd, hbus, txSent]
  have hcounts : Frame (Can.ECR ch :: irqRegs (Can.page ch)) u (canTxEnd ch .ok sof s) := by
    rw [hend]
    exact frame_hidden (frame_putCounts _ _ _ (frame_refl _ u) (List.mem_cons_self ..) (List.subset_cons_self ..)) (canNext_regs ..) (canNext_mem ..)
  have hobj : ∀ {a}, 0x400000 ≤ a → (canTxEnd ch .ok sof s).rd a = u.rd a := fun ha => hcounts.1 _ (objReg_notin_channel hch ha)
  have hmode : objMode (txSent ch o sof s) ch o = 2 :=
    (objMode_congr (rd_txSent_ne (by simp only [Obj.OBJ_CFG, Obj.OBJ_STAT]; omega) (by simp only [Obj.OBJ_CFG, Obj.OBJ_TS]; omega))).trans htx
  obtain ⟨hpend, hres, hown⟩ := objFinish_stat (ch := ch) (o := o) (res := 1) (s := txSent ch o sof s) hch (by decide)
  rw [hu] at hpend hres hown
  have hstat := hobj (a := Obj.OBJ_STAT (objOf ch o)) (by simp only [Obj.OBJ_STAT]; omega)
  refine ⟨canTxEnd ch .ok sof s, rfl, ?_, ?_, ?_, ?_, ?_, ?_⟩
  · rw [objPending, State.rdB, hstat]
    exact hpend
  · rw [objOwn, State.rdB, hstat]
    exact hown hmode
  · rw [State.rdF, hstat]
    exact hres
  · have hts : u.rd (Obj.OBJ_TS (objOf ch o)) = (txSent ch o sof s).rd (Obj.OBJ_TS (objOf ch o)) := by
      rw [← hu]
      refine (frame_objFinish ch o 1 _).1 _ (fun hmem => ?_)
      rcases List.mem_cons.mp hmem with h | h
      · simp only [Obj.OBJ_TS, Obj.OBJ_STAT] at h
        omega
      · exact objReg_notin_channel hch (by simp only [Obj.OBJ_TS]; omega) (List.mem_cons_of_mem _ h)
    rw [hobj (by simp only [Obj.OBJ_TS]; omega), hts, txSent, State.rd_incL, State.rd_wr_self]
  · rw [hend, State.rdF, State.rd_congr (canNext_regs ..)]
    refine (tec_putCounts _ _ _).trans (Nat.min_eq_left ?_)
    have : s.rdF (Can.ECR ch) 7 0 < 256 := Nat.mod_lt _ (by decide)
    omega
  · have hsent : Frame (attemptRegs ch o) s (txSent ch o sof s) :=
      frame_hidden (frame_put (frame_countTry (frame_hidden (u := putCan ch _ s) (frame_refl _ s) rfl rfl) (by simp [attemptRegs])) _
        (by simp [attemptRegs])) (State.incL_regs ..) (State.incL_mem ..)
    refine frame_trans (frame_trans hsent ?_) (frame_mono hcounts attemptRegs_channel)
    rw [← hu]
    exact frame_mono (frame_objFinish ch o 1 _) attemptRegs_stat

theorem gives_canTxAttemptEnd_lost (hbus : (canOf s ch).onBus = some o) (habort : (canOf s ch).abort = false) (sof : Nat) :
    Gives (.canTxAttemptEnd ch .lost sof) s (fun t => (canSends s ch = true → (canOf t ch).onBus = arbWinner s ch) ∧ Frame [] s t) := by
  have hend : canTxEnd ch .lost sof s = canNext ch s := by
    simp only [canTxEnd, hbus, habort, Bool.false_eq_true, if_false]
  refine ⟨canTxEnd ch .lost sof s, rfl, ?_⟩
  rw [hend]
  exact ⟨onBus_canNext ch s, frame_hidden (frame_refl [] s) (canNext_regs ..) (canNext_mem ..)⟩

/-- The state of a failed attempt before the object gives up or tries again: the tries, LEC, the loss behind a won arbitration, the counters. -/
def txFailed (ch o lec : Nat) (won : Bool) (s : State) : State :=
  let s2 := ((countTry ch o (s.incL (Can.ERR_FRAMES ch))).wrF (Obj.OBJ_STAT (objOf ch o)) 7 5 lec).wrF (Can.ECR ch) 22 20 lec
  putCounts ch (s.rdF (Can.ECR ch) 7 0 + 8) (s.rdF (Can.ECR ch) 15 8) (if (lec = 4 ∨ lec = 5) ∧ won then s2.pulse (Can.page ch) 7 else s2)

/-- What becomes of an object whose attempt failed: it is aborted, gives up after its tries, or stays pending. -/
def txOutcome (ch o lec : Nat) (cfg : Word) (abort : Bool) (s : State) : State :=
  let n := KMap.get (fun _ => 0) (canOf s ch).tries o
  if abort then objFinish ch o 4 s
  else if !bit cfg 16 ∧ 1 + fld cfg 15 8 ≤ n then
    (if lec = 3 then (objFinish ch o 2 s).pulse (Can.page ch) 2 else (objFinish ch o 3 s).pulse (Can.page ch) 3)
  else s

theorem frame_txOutcome (lec : Nat) (cfg : Word) (abort : Bool) (s : State) :
    Frame (Obj.OBJ_STAT (objOf ch o) :: irqRegs (Can.page ch)) s (txOutcome ch o lec cfg abort s) := by
  have hfin := fun res => frame_objFinish ch o res s
  have hirq : irqRegs (Can.page ch) ⊆ Obj.OBJ_STAT (objOf ch o) :: irqRegs (Can.page ch) := List.subset_cons_self ..
  exact frame_ite (hfin 4) (frame_ite (frame_ite (frame_pulse (hfin 2) 2 hirq) (frame_pulse (hfin 3) 3 hirq)) (frame_refl _ s))

/-- The registers that the end of a failed attempt of object `o` may move. -/
def failRegs (ch o : Nat) : List Nat := [Obj.OBJ_STAT (objOf ch o), Can.ECR ch] ++ irqRegs (Can.page ch)

theorem failRegs_stat : Obj.OBJ_STAT (objOf ch o) :: irqRegs (Can.page ch) ⊆ failRegs ch o := fun a ha => by
  rcases List.mem_cons.mp ha with rfl | ha
  · exact List.mem_cons_self ..
  · exact List.mem_cons_of_mem _ (List.mem_cons_of_mem _ ha)

theorem failRegs_irq : irqRegs (Can.page ch) ⊆ failRegs ch o := fun _ ha => failRegs_stat (List.mem_cons_of_mem _ ha)

theorem frame_txFailed (lec : Nat) (won : Bool) (s : State) : Frame (failRegs ch o) s (txFailed ch o lec won s) := by
  unfold txFailed
  have hcount : Frame (failRegs ch o) s (s.incL (Can.ERR_FRAMES ch)) := frame_hidden (frame_refl _ s) (State.incL_regs ..) (State.incL_mem ..)
  have htry : Frame (failRegs ch o) s (countTry ch o (s.incL (Can.ERR_FRAMES ch))) := frame_countTry hcount (by simp [failRegs])
  generalize countTry ch o (s.incL (Can.ERR_FRAMES ch)) = u at htry
  have hlec : Frame (failRegs ch o) s ((u.wrF (Obj.OBJ_STAT (objOf ch o)) 7 5 lec).wrF (Can.ECR ch) 22 20 lec) :=
    frame_put (frame_put htry _ (by simp [failRegs])) _ (by simp [failRegs])
  exact frame_putCounts _ _ _ (frame_ite (frame_pulse hlec 7 failRegs_irq) hlec) (by simp [failRegs]) failRegs_irq

theorem lec_txFailed (lec : Nat) (won : Bool) (s : State) : (txFailed ch o lec won s).rdF (Can.ECR ch) 22 20 = lec % 8 := by
  generalize hu : (countTry ch o (s.incL (Can.ERR_FRAMES ch))).wrF (Obj.OBJ_STAT (objOf ch o)) 7 5 lec = u
  have hput : (u.wrF (Can.ECR ch) 22 20 lec).rdF (Can.ECR ch) 22 20 = lec % 8 := by
    rw [State.rdF, State.rd_wrF, if_pos rfl, fld_setFld_mod _ _ (by decide) (by decide)]
    rfl
  rw [txFailed, hu, lec_putCounts]
  split
  · rw [State.rdF, rd_pulse_ecr, ← State.rdF, hput]
  · exact hput

theorem gives_canTxAttemptEnd_error (hch : ch < 4) (hbus : (canOf s ch).onBus = some o) {lec : Nat} (won : Bool) (sof : Nat)
    (htec : s.rdF (Can.ECR ch) 7 0 + 8 ≤ 255) (hcounted : lec ≠ 3 ∨ s.rdF (Can.ECR ch) 17 16 ≠ 1) :
    Gives (.canTxAttemptEnd ch (.error lec won) sof) s (fun t =>
      t.rdF (Can.ECR ch) 7 0 = s.rdF (Can.ECR ch) 7 0 + 8 ∧ t.rdF (Can.ECR ch) 22 20 = lec % 8 ∧
      ((canOf s ch).abort = true → objPending t ch o = false ∧ t.rdF (Obj.OBJ_STAT (objOf ch o)) 4 2 = 4) ∧
      Frame ([Obj.OBJ_STAT (objOf ch o), Can.ECR ch] ++ irqRegs (Can.page ch)) s t) := by
  have hactive : ¬ (lec = 3 ∧ s.rdF (Can.ECR ch) 17 16 = 1) := by tauto
  have hend : canTxEnd ch (.error lec won) sof s =
      canNext ch (txOutcome ch o lec (s.rd (Obj.OBJ_CFG (objOf ch o))) (canOf s ch).abort (txFailed ch o lec won s)) := by
    rw [txFailed, txOutcome]
    simp only [canTxEnd, hbus, decide_eq_true_eq, if_neg hactive]
  have hout := frame_txOutcome (ch := ch) (o := o) lec (s.rd (Obj.OBJ_CFG (objOf ch o))) (canOf s ch).abort (txFailed ch o lec won s)
  have hecr : (canTxEnd ch (.error lec won) sof s).rd (Can.ECR ch) = (txFailed ch o lec won s).rd (Can.ECR ch) := by
    rw [hend, State.rd_congr (canNext_regs ..)]
    refine hout.1 _ (fun hmem => ?_)
    rcases List.mem_cons.mp hmem with h | h
    · simp only [Can.ECR, Obj.OBJ_STAT] at h
      omega
    · exact ecr_notin_irqRegs ch h
  refine ⟨canTxEnd ch (.error lec won) sof s, rfl, ?_, ?_, fun habort => ?_, ?_⟩
  · rw [State.rdF, hecr]
    exact (tec_putCounts _ _ _).trans (Nat.min_eq_left htec)
  · rw [State.rdF, hecr]
    exact lec_txFailed lec won s
  · have hfin : canTxEnd ch (.error lec won) sof s = canNext ch (objFinish ch o 4 (txFailed ch o lec won s)) := by
      rw [hend, txOutcome, habort, if_pos rfl]
    obtain ⟨hpend, hres, -⟩ := objFinish_stat (ch := ch) (o := o) (res := 4) (s := txFailed ch o lec won s) hch (by decide)
    rw [hfin, objPending, State.rdB, State.rdF, State.rd_congr (canNext_regs ..)]
    exact ⟨hpend, hres⟩
  · rw [hend]
    exact frame_hidden (frame_trans (frame_txFailed lec won s) (frame_mono hout failRegs_stat)) (canNext_regs ..) (canNext_mem ..)

end

/-! ### Object commands (R384) -/

section
variable {s : State} {port : Port}

theorem unforwarded_objCmd (c : Nat) : Unforwarded (Obj.OBJ_CMD c) := unforwarded_of_page (by simp only [Obj.OBJ_CMD]; omega)

theorem gives_objAck (hadm : Admits s port (Obj.OBJ_CMD (objOf ch o))) (hmode : objMode s ch o = 1 ∨ objMode s ch o = 3) :
    Gives (.objAck port ch o) s (fun t => objOwn t ch o = false ∧ Frame [Obj.OBJ_STAT (objOf ch o)] s t) := by
  have hput : ∀ w f x d e, objOwn (beside f x d e (s.wr (Obj.OBJ_STAT (objOf ch o)) (setBit w 0 false))) ch o = false ∧
      Frame [Obj.OBJ_STAT (objOf ch o)] s (beside f x d e (s.wr (Obj.OBJ_STAT (objOf ch o)) (setBit w 0 false))) := fun w f x d e => by
    refine ⟨?_, frame_beside (frame_put (frame_refl _ s) _ (List.mem_cons_self ..))⟩
    rw [objOwn, rdB_beside, State.rdB, State.rd_wr_self, bit_setBit_same _ false (by decide)]
  rcases hmode with hmode | hmode
  · have hop : objAck ch o s = accept (s.wr (Obj.OBJ_STAT (objOf ch o)) (setBit (setFld (s.rd (Obj.OBJ_STAT (objOf ch o))) 31 16 0) 0 false)) := by
      simp only [objAck, hmode, if_true]
    exact gives_of_accept rfl hadm (unforwarded_objCmd _) hop (hput _)
  · have hop : objAck ch o s = accept (s.wr (Obj.OBJ_STAT (objOf ch o)) (setBit (s.rd (Obj.OBJ_STAT (objOf ch o))) 0 false)) := by
      simp only [objAck, hmode, if_true]
      rfl
    exact gives_of_accept rfl hadm (unforwarded_objCmd _) hop (hput _)

theorem gives_objSend (hadm : Admits s port (Obj.OBJ_CMD (objOf ch o))) (hmode : objMode s ch o = 2) (hown : objOwn s ch o = true) :
    Gives (.objSend port ch o) s (fun t =>
      t.rd (Obj.OBJ_STAT (objOf ch o)) = ((s.rd (Obj.OBJ_STAT (objOf ch o)) &&& 0xFFFF0000) ||| 2) ∧ Frame [Obj.OBJ_STAT (objOf ch o)] s t) := by
  have hop : objSend ch o s = accept (objQueue ch o s) := if_pos ⟨hmode, hown⟩
  refine gives_of_accept rfl hadm (unforwarded_objCmd _) hop (fun f x d e => ⟨?_, frame_beside ?_⟩)
  · rw [rd_beside, objQueue, State.rd_congr (canKick_regs ..), State.rd_wr_self]
    rfl
  · have hhid : Frame [Obj.OBJ_STAT (objOf ch o)] s
        (putCan ch { canOf s ch with tries := KMap.set (fun _ => 0) (canOf s ch).tries o 0 } s) := frame_hidden (frame_refl _ s) rfl rfl
    exact frame_hidden (frame_put hhid _ (List.mem_cons_self ..)) (canKick_regs ..) (canKick_mem ..)

theorem gives_objAbort_waiting (hch : ch < 4) (hadm : Admits s port (Obj.OBJ_CMD (objOf ch o))) (hpend : objPending s ch o = true)
    (hoff : (canOf s ch).onBus ≠ some o) : Gives (.objAbort port ch o) s (fun t => objPending t ch o = false ∧
      t.rdF (Obj.OBJ_STAT (objOf ch o)) 4 2 = 4 ∧ Frame (Obj.OBJ_STAT (objOf ch o) :: irqRegs (Can.page ch)) s t) := by
  have hop : objAbort ch o s = accept (objFinish ch o 4 s) := by
    simp only [objAbort, hpend, Bool.not_true, Bool.false_eq_true, if_false, if_neg hoff]
  obtain ⟨hdone, hres, -⟩ := objFinish_stat (ch := ch) (o := o) (res := 4) (s := s) hch (by decide)
  exact gives_of_accept rfl hadm (unforwarded_objCmd _) hop (fun f x d e => ⟨hdone, hres, frame_beside (frame_objFinish ch o 4 s)⟩)

theorem gives_objAbort_sending (hadm : Admits s port (Obj.OBJ_CMD (objOf ch o))) (hpend : objPending s ch o = true)
    (hon : (canOf s ch).onBus = some o) : Gives (.objAbort port ch o) s (fun t => (canOf t ch).abort = true ∧ Frame [] s t) := by
  have hop : objAbort ch o s = accept (putCan ch { canOf s ch with abort := true } s) := by
    simp only [objAbort, hpend, Bool.not_true, Bool.false_eq_true, if_false, if_pos hon]
  refine gives_of_accept rfl hadm (unforwarded_objCmd _) hop (fun f x d e => ⟨?_, frame_hidden (frame_refl [] s) rfl rfl⟩)
  change (canOf (putCan ch { canOf s ch with abort := true } s) ch).abort = true
  rw [canOf_putCan]

theorem gives_objClaim (hadm : Admits s port (Obj.OBJ_CMD (objOf ch o))) (hmode : objMode s ch o = 3) (hidle : objPending s ch o = false) :
    Gives (.objClaim port ch o) s (fun t => objOwn t ch o = true ∧ Frame [Obj.OBJ_STAT (objOf ch o)] s t) := by
  have hop : objClaim ch o s = accept (s.wrB (Obj.OBJ_STAT (objOf ch o)) 0 true) := by simp [objClaim, hmode, hidle]
  exact gives_of_accept rfl hadm (unforwarded_objCmd _) hop (fun _ _ _ _ => putBit_beside (by decide))

/-! ### The disabling of a channel (R389) -/

/-- Transmissions that end one after the other leave none of the listed objects pending, and no object that was not. -/
theorem objPending_foldl_objFinish (hch : ch < 4) (l : List Nat) (s : State) {x : Nat} (h : x ∈ l ∨ objPending s ch x = false) :
    objPending (l.foldl (fun t o => objFinish ch o 4 t) s) ch x = false := by
  induction l generalizing s with
  | nil => simpa using h
  | cons o l ih =>
    refine ih _ ?_
    by_cases hx : x = o
    · exact .inr (hx ▸ (objFinish_stat hch (by decide)).1)
    · rcases h with h | h
      · exact .inl ((List.mem_cons.mp h).resolve_left hx)
      · exact .inr ((objPending_objFinish_ne hch hx).trans h)

/-- They leave every register but the interrupt registers and the objects' status words. -/
theorem leaves_foldl_objFinish {q : Nat → Prop} (hirq : ∀ a ∈ irqRegs (Can.page ch), ¬ q a) {l : List Nat}
    (hl : ∀ x ∈ l, ¬ q (Obj.OBJ_STAT (objOf ch x))) (s : State) : Leaves q s (l.foldl (fun t o => objFinish ch o 4 t) s) :=
  leaves_foldl (leaves_refl q s) (fun x hx u hu => leaves_trans hu (leaves_of_frame (frame_objFinish ch x 4 u) (fun a ha => by
    rcases List.mem_cons.mp ha with rfl | ha
    · exact hl x hx
    · exact hirq a ha)))

theorem gives_canDisable (hch : ch < 4) {v : Word} (hadm : Admits s port (Can.CTRL ch)) (hon : s.rdB (Can.CTRL ch) 0 = true)
    (hfd : bit v 2 = s.rdB (Can.CTRL ch) 2) (hrate : bit v 2 = true → 320 ≤ nomCycles (s.rd (Can.NBT ch))) :
    Gives (.canDisable port ch v) s (fun t =>
      t.rd (Can.CTRL ch) = (setBit v 0 false &&& 0xF) ∧ (∀ x < 128, objPending t ch x = false) ∧ (canOf t ch).onBus = none ∧
      (∀ a, a ∉ Can.CTRL ch :: irqRegs (Can.page ch) → (∀ x < 128, a ≠ Obj.OBJ_STAT (objOf ch x)) → t.rd a = s.rd a) ∧
      ∀ a, t.rdByte a = s.rdByte a) := by
  have hfd' : bit (setBit v 0 false) 2 = bit v 2 := bit_setBit_ne v false (by decide) (by decide)
  have hoff : bit (setBit v 0 false) 0 = false := bit_setBit_same v false (by decide)
  generalize hw : setBit v 0 false = w at hfd' hoff
  generalize hs1 : s.wr (Can.CTRL ch) (w &&& 0xF) = s1
  generalize hs2 : (pendingObjs s1 ch).foldl (fun t o => objFinish ch o 4 t) s1 = s2
  have hbar : ¬ (s.rdB (Can.CTRL ch) 2 = true ∧ nomCycles (s.rd (Can.NBT ch)) < 320) := fun ⟨hbit, hlt⟩ => by
    have := hrate (hfd.trans hbit)
    omega
  have hop : canCtrlWrite ch w s = accept (putCan ch { canOf s2 ch with onBus := none, abort := false, lastBit := s2.now } s2) := by
    simp only [canCtrlWrite, hfd'.trans hfd, if_neg hbar, hon, ne_eq, not_true_eq_false, and_false, if_false, hs1, hs2, hoff, Bool.not_false,
      Bool.and_self, if_true]
  have hexec : exec (.canDisable port ch v) s = replied (gated port (Can.CTRL ch) w (canCtrlWrite ch w) s) := by rw [← hw]; rfl
  have hlisted : ∀ x ∈ pendingObjs s1 ch, x < 128 := fun x hx => List.mem_range.mp (List.mem_filter.mp hx).1
  refine gives_of_accept hexec hadm (unforwarded_of_page (by simp only [Can.CTRL]; omega)) hop (fun f x c e => ⟨?_, fun x hx => ?_, ?_, ?_⟩)
  · have hctrl := (leaves_foldl_objFinish (q := (· = Can.CTRL ch)) (ch := ch) (l := pendingObjs s1 ch)
      (fun a ha => by have := irqRegs_eq ha; simp only [Can.page, Can.CTRL] at *; omega)
      (fun x _ => by simp only [Obj.OBJ_STAT, Can.CTRL]; omega) s1).1 _ rfl
    rw [hs2, ← hs1, State.rd_wr_self] at hctrl
    exact hctrl
  · refine hs2 ▸ objPending_foldl_objFinish hch _ s1 ?_
    cases hp : objPending s1 ch x with
    | true => exact .inl (List.mem_filter.mpr ⟨List.mem_range.mpr hx, hp⟩)
    | false => exact .inr rfl
  · change (canOf (putCan ch { canOf s2 ch with onBus := none, abort := false, lastBit := s2.now } s2) ch).onBus = none
    rw [canOf_putCan]
  · have hleaves : Leaves (fun a => a ∉ Can.CTRL ch :: irqRegs (Can.page ch) ∧ ∀ x < 128, a ≠ Obj.OBJ_STAT (objOf ch x)) s s2 := by
      rw [← hs2]
      refine leaves_trans (hs1 ▸ leaves_put (leaves_refl _ s) _ (fun h => h.1 (List.mem_cons_self ..)))
        (leaves_foldl_objFinish (fun a ha h => h.1 (List.mem_cons_of_mem _ ha)) (fun x hx h => h.2 x (hlisted x hx) rfl) s1)
    exact ⟨fun a ha hobj => hleaves.1 a ⟨ha, hobj⟩, hleaves.2⟩

end

end

/-! ### Reception (R384, R385) -/

section
variable {ch : Nat} {f : CanFrame} {sof : Nat} {s : State}

/-- Whether a head takes a frame depends on the message RAM alone. -/
theorem headTakes_congr {t : State} (hram : ∀ a, 0x400000 ≤ a → t.rd a = s.rd a) (o : Nat) : headTakes t ch o f = headTakes s ch o f := by
  have hcfg := hram (Obj.OBJ_CFG (objOf ch o)) (by simp only [Obj.OBJ_CFG]; omega)
  have hid := hram (Obj.OBJ_ID (objOf ch o)) (by simp only [Obj.OBJ_ID]; omega)
  have hmask := hram (Obj.OBJ_MASK (objOf ch o)) (by simp only [Obj.OBJ_MASK]; omega)
  unfold headTakes objMode State.rdF State.rdB
  dsimp only
  rw [hcfg, hid, hmask]

/-- The state at the reception of a good frame: REC one lower. -/
def rxCounted (ch : Nat) (s : State) : State := putCounts ch (s.rdF (Can.ECR ch) 7 0) (s.rdF (Can.ECR ch) 15 8 - 1) s

theorem frame_rxCounted (ch : Nat) (s : State) : Frame (Can.ECR ch :: irqRegs (Can.page ch)) s (rxCounted ch s) :=
  frame_putCounts _ _ _ (frame_refl _ s) (List.mem_cons_self ..) (List.subset_cons_self ..)

theorem ram_rxCounted (hch : ch < 4) {a : Nat} (ha : 0x400000 ≤ a) : (rxCounted ch s).rd a = s.rd a :=
  (frame_rxCounted ch s).1 a (objReg_notin_channel hch ha)

theorem rdL_putCounts (tec rec' a : Nat) (s : State) : (putCounts ch tec rec' s).rdL a = s.rdL a := by
  refine State.rdL_congr ?_ a
  obtain ⟨st, x, w, hw, hcase⟩ := putCounts_cases (ch := ch) tec rec' s
  have hlive : w.live = s.live := hw ▸ State.wr_live ..
  rcases hcase with hcase | hcase | hcase <;> rw [hcase]
  · exact hlive
  · exact (State.pulse_live ..).trans hlive
  · exact (State.pulse_live (putCan ch x w) _ _).trans hlive

theorem gives_canFrameReceived_of_off (hoff : s.rdB (Can.CTRL ch) 0 = false ∨ s.rdF (Can.ECR ch) 17 16 = 2) :
    Gives (.canFrameReceived ch f.id f.xtd f.rtr f.fdf f.brs f.esi f.dlc f.data sof) s (fun t => Frame [] s t) := by
  refine ⟨s, ?_, frame_refl [] s⟩
  rcases hoff with hoff | hoff <;> simp [exec, execCanFrameReceived, canReceive, hoff]

section
variable (hch : ch < 4) (hon : s.rdB (Can.CTRL ch) 0 = true) (hbus : s.rdF (Can.ECR ch) 17 16 ≠ 2)
include hch hon hbus

theorem gives_canFrameReceived_of_none (hnone : ∀ o < 128, headTakes s ch o f = false) :
    Gives (.canFrameReceived ch f.id f.xtd f.rtr f.fdf f.brs f.esi f.dlc f.data sof) s (fun t =>
      t.rdL (Can.DROPPED ch) = (if s.rdL (Can.DROPPED ch) = 0xFFFFFFFF then 0xFFFFFFFF else s.rdL (Can.DROPPED ch) + 1) ∧
      Frame (Can.ECR ch :: irqRegs (Can.page ch)) s t) := by
  have hfind : (List.range 128).find? (fun o => headTakes (rxCounted ch s) ch o f) = none := by
    rw [List.find?_eq_none]
    intro o ho
    rw [headTakes_congr (fun a ha => ram_rxCounted hch ha) o, hnone o (List.mem_range.mp ho)]
    exact Bool.false_ne_true
  have hrecv : canReceive ch f sof s = (rxCounted ch s).incL (Can.DROPPED ch) := by
    rw [rxCounted] at hfind
    simp only [canReceive, hon, hbus, Bool.not_true, decide_false, Bool.or_self, Bool.false_eq_true, if_false, hfind, rxCounted]
  refine ⟨canReceive ch f sof s, rfl, ?_⟩
  rw [hrecv]
  refine ⟨?_, frame_hidden (frame_rxCounted ch s) (State.incL_regs ..) (State.incL_mem ..)⟩
  rw [State.incL, State.rdL_wrL_self, rxCounted, rdL_putCounts]

end

/-! ### A frame stored in its object (R383, R385) -/

/-- A frame stored in a receive object, before OWN goes to software: identifier and DLC. -/
def rxNamed (ch o : Nat) (f : CanFrame) (s : State) : State :=
  let b (x : Bool) (i : Nat) : Nat := at' (bitN x) i
  (s.wr (Obj.OBJ_RXID (objOf ch o)) (word ((idPlace f.xtd f.id).toNat + b f.xtd 29 + b f.fdf 30 + b f.brs 31))).wr (Obj.OBJ_DLC (objOf ch o))
    (word (f.dlc % 16 + b f.esi 7 + b f.rtr 8))

/-- Then its data and time stamp, the count and the wake. -/
def rxStored (ch o : Nat) (f : CanFrame) (sof : Nat) (s : State) : State :=
  wakeOn 0 (((putBytes (Obj.OBJ_DATA0 (objOf ch o) 0) (f.data.take 64) (rxNamed ch o f s)).wr (Obj.OBJ_TS (objOf ch o))
    (word (s.engine - sof))).incL (Can.RX_FRAMES ch))

/-- At last OWN and the interrupt. -/
def rxOwned (ch o : Nat) (s : State) : State := (s.wrB (Obj.OBJ_STAT (objOf ch o)) 0 true).pulse (Can.page ch) 0

variable {q : Nat → Prop} {o : Nat}

/-- The registers of an object beside its configuration, identifier, mask and command. -/
theorem leaves_rxNamed (hq : ∀ x, 0x10 ≤ x → x < 0x80 → ¬ q (Obj.OBJ_CFG (objOf ch o) + x)) (s : State) : Leaves q s (rxNamed ch o f s) := by
  have hrxid : Obj.OBJ_RXID (objOf ch o) = Obj.OBJ_CFG (objOf ch o) + 0x14 := by simp only [Obj.OBJ_RXID, Obj.OBJ_CFG]; omega
  have hdlc : Obj.OBJ_DLC (objOf ch o) = Obj.OBJ_CFG (objOf ch o) + 0x18 := by simp only [Obj.OBJ_DLC, Obj.OBJ_CFG]; omega
  exact leaves_put (leaves_put (leaves_refl q s) _ (hrxid ▸ hq _ (by decide) (by decide))) _ (hdlc ▸ hq _ (by decide) (by decide))

/-- Storing data and time stamp writes the object's registers from OBJ_TS on. -/
theorem leaves_rxStored (hq : ∀ x, 0x1C ≤ x → x < 0x80 → ¬ q (Obj.OBJ_CFG (objOf ch o) + x)) (hwake : ∀ a ∈ wakeRegs, ¬ q a) (s : State) :
    Leaves q (rxNamed ch o f s) (rxStored ch o f sof s) := by
  have hts : Obj.OBJ_TS (objOf ch o) = Obj.OBJ_CFG (objOf ch o) + 0x1C := by simp only [Obj.OBJ_TS, Obj.OBJ_CFG]; omega
  have hdata : Leaves q (rxNamed ch o f s) (putBytes (Obj.OBJ_DATA0 (objOf ch o) 0) (f.data.take 64) (rxNamed ch o f s)) := by
    refine leaves_foldl (leaves_refl q _) (fun j hj u hu => leaves_put hu _ ?_)
    have hj := List.mem_range.mp hj
    rw [List.length_take] at hj
    have haddr : Obj.OBJ_DATA0 (objOf ch o) 0 + 4 * j = Obj.OBJ_CFG (objOf ch o) + (0x40 + 4 * j) := by simp only [Obj.OBJ_DATA0, Obj.OBJ_CFG]; omega
    exact haddr ▸ hq _ (by omega) (by omega)
  have hstamp := leaves_put hdata (word (s.engine - sof)) (hts ▸ hq 0x1C (by decide) (by decide))
  exact leaves_wakeOn (leaves_hidden hstamp (State.incL_regs _ (Can.RX_FRAMES ch)) (State.incL_mem _ (Can.RX_FRAMES ch))) 0 hwake

theorem wakeRegs_lt : ∀ a ∈ wakeRegs, a < 0x400000 := fun a ha => Nat.lt_trans (wakeRegs_ge a ha).2 (by decide)

theorem rd_wakeOn_ram {a : Nat} (ha : 0x400000 ≤ a) (k : Nat) (s : State) : (wakeOn k s).rd a = s.rd a :=
  (leaves_wakeOn (q := (· = a)) (leaves_refl _ s) k (fun b hb => by have := wakeRegs_lt b hb; omega)).1 a rfl

theorem ts_rxStored (s : State) : (rxStored ch o f sof s).rd (Obj.OBJ_TS (objOf ch o)) = word (s.engine - sof) := by
  rw [rxStored, rd_wakeOn_ram (by simp only [Obj.OBJ_TS]; omega), State.rd_incL, State.rd_wr_self]

theorem dlc_rxNamed (s : State) : (rxNamed ch o f s).rdF (Obj.OBJ_DLC (objOf ch o)) 3 0 = f.dlc % 16 := by
  rw [State.rdF, rxNamed, State.rd_wr_self]
  have he : bitN f.esi < 2 := by cases f.esi <;> decide
  have hr : bitN f.rtr < 2 := by cases f.rtr <;> decide
  simp only [fld, word, at', BitVec.toNat_ofNat]
  omega

theorem canReceive_eq (hch : ch < 4) (hon : s.rdB (Can.CTRL ch) 0 = true) (hbus : s.rdF (Can.ECR ch) 17 16 ≠ 2) (ho : o < 128)
    (htakes : headTakes s ch o f = true) (hfirst : ∀ x < o, headTakes s ch x f = false) (hlen : s.rdF (Obj.OBJ_CFG (objOf ch o)) 30 24 = 1)
    (hmode : objMode s ch o = 1) (hown : objOwn s ch o = false) :
    ∃ x, canReceive ch f sof s = rxOwned ch o (rxStored ch o f sof (putCan ch x (rxCounted ch s))) := by
  have hcfg := ram_rxCounted (s := s) hch (a := Obj.OBJ_CFG (objOf ch o)) (by simp only [Obj.OBJ_CFG]; omega)
  have hstat := ram_rxCounted (s := s) hch (a := Obj.OBJ_STAT (objOf ch o)) (by simp only [Obj.OBJ_STAT]; omega)
  have hfind : (List.range 128).find? (fun o => headTakes (rxCounted ch s) ch o f) = some o := by
    rw [List.find?_range_eq_some]
    refine ⟨?_, List.mem_range.mpr ho, fun x hx => ?_⟩
    · rw [headTakes_congr (fun a ha => ram_rxCounted hch ha), htakes]
    · rw [headTakes_congr (fun a ha => ram_rxCounted hch ha), hfirst x hx]
      rfl
  have hlen' : min ((rxCounted ch s).rdF (Obj.OBJ_CFG (objOf ch o)) 30 24) (128 - o) = 1 := by
    rw [State.rdF, hcfg, ← State.rdF, hlen]
    omega
  have hown' : objOwn (rxCounted ch s) ch o = false := by rw [objOwn, State.rdB, hstat]; exact hown
  have hmode' : ∀ x, objMode (putCan ch x (rxCounted ch s)) ch o = 1 := fun x => (objMode_congr hcfg).trans hmode
  generalize hu : rxCounted ch s = u at hfind hlen' hown' hmode'
  rw [rxCounted] at hu
  refine ⟨{ canOf u ch with next := KMap.set (fun _ => 0) (canOf u ch).next o ((0 + 1) % 1) }, ?_⟩
  simp only [canReceive, hon, hbus, Bool.not_true, decide_false, Bool.or_self, Bool.false_eq_true, if_false, hu, hfind, hlen', Nat.mod_one,
    Nat.add_zero, hown', ne_eq, not_true_eq_false, or_self, objStore, hmode', if_true]
  rfl

theorem gives_canFrameReceived (hch : ch < 4) (hon : s.rdB (Can.CTRL ch) 0 = true) (hbus : s.rdF (Can.ECR ch) 17 16 ≠ 2) (ho : o < 128)
    (htakes : headTakes s ch o f = true) (hfirst : ∀ x < o, headTakes s ch x f = false) (hlen : s.rdF (Obj.OBJ_CFG (objOf ch o)) 30 24 = 1)
    (hmode : objMode s ch o = 1) (hown : objOwn s ch o = false) :
    Gives (.canFrameReceived ch f.id f.xtd f.rtr f.fdf f.brs f.esi f.dlc f.data sof) s (fun t => objOwn t ch o = true ∧
      t.rdF (Obj.OBJ_DLC (objOf ch o)) 3 0 = f.dlc % 16 ∧ t.rd (Obj.OBJ_TS (objOf ch o)) = word (s.engine - sof) ∧
      (∀ a, a ∉ Can.ECR ch :: irqRegs (Can.page ch) ++ wakeRegs → (a < Obj.OBJ_CFG (objOf ch o) ∨ Obj.OBJ_CFG (objOf ch o) + 0x80 ≤ a) →
        t.rd a = s.rd a) ∧ ∀ a, t.rdByte a = s.rdByte a) := by
  obtain ⟨x, hrecv⟩ := canReceive_eq (sof := sof) hch hon hbus ho htakes hfirst hlen hmode hown
  generalize hu : putCan ch x (rxCounted ch s) = u at hrecv
  have hcount : Frame (Can.ECR ch :: irqRegs (Can.page ch)) s u := hu ▸ frame_hidden (frame_rxCounted ch s) rfl rfl
  have hengine : u.engine = s.engine := hu ▸ engine_putCounts s _ _
  have hram : ∀ {a}, 0x400000 ≤ a → a ≠ Obj.OBJ_STAT (objOf ch o) → (rxOwned ch o (rxStored ch o f sof u)).rd a = (rxStored ch o f sof u).rd a :=
    fun ha hne => (rd_pulse_obj ch hch ha _ 0).trans (State.rd_wr_ne _ _ _ _ hne)
  refine ⟨canReceive ch f sof s, rfl, ?_⟩
  rw [hrecv]
  refine ⟨?_, ?_, ?_, ?_⟩
  · rw [objOwn, State.rdB, rxOwned, rd_pulse_obj ch hch (by simp only [Obj.OBJ_STAT]; omega), ← State.rdB, rdB_wrB_self _ _ (by decide)]
  · have hkeep := (leaves_rxStored (q := (· = Obj.OBJ_DLC (objOf ch o))) (ch := ch) (o := o) (f := f) (sof := sof)
      (fun x _ _ => by simp only [Obj.OBJ_CFG, Obj.OBJ_DLC]; omega)
      (fun a ha => by have := wakeRegs_lt a ha; simp only [Obj.OBJ_DLC]; omega) u).1 _ rfl
    rw [State.rdF, hram (by simp only [Obj.OBJ_DLC]; omega) (by simp only [Obj.OBJ_DLC, Obj.OBJ_STAT]; omega), hkeep]
    exact dlc_rxNamed u
  · rw [hram (by simp only [Obj.OBJ_TS]; omega) (by simp only [Obj.OBJ_TS, Obj.OBJ_STAT]; omega), ts_rxStored, hengine]
  · have hq : ∀ y, y < 0x80 → ¬ (Obj.OBJ_CFG (objOf ch o) + y < Obj.OBJ_CFG (objOf ch o) ∨
        Obj.OBJ_CFG (objOf ch o) + 0x80 ≤ Obj.OBJ_CFG (objOf ch o) + y) := fun y hy => by omega
    have hstat : Obj.OBJ_STAT (objOf ch o) = Obj.OBJ_CFG (objOf ch o) + 0x10 := by simp only [Obj.OBJ_STAT, Obj.OBJ_CFG]; omega
    have hleaves : Leaves (fun a => a ∉ Can.ECR ch :: irqRegs (Can.page ch) ++ wakeRegs ∧
        (a < Obj.OBJ_CFG (objOf ch o) ∨ Obj.OBJ_CFG (objOf ch o) + 0x80 ≤ a)) s (rxOwned ch o (rxStored ch o f sof u)) := by
      refine leaves_trans (leaves_of_frame hcount (fun a ha h => h.1 (List.mem_append_left _ ha))) ?_
      refine leaves_trans (leaves_rxNamed (f := f) (fun y _ hy h => hq y hy h.2) u) ?_
      refine leaves_pulse (leaves_put (leaves_rxStored (fun y _ hy h => hq y hy h.2) (fun a ha h => h.1 (List.mem_append_right _ ha)) u) _
        (fun h => ?_)) 0 (fun h => h.1 ?_) (fun h => h.1 ?_)
      · exact hq 0x10 (by decide) (hstat ▸ h.2)
      · simp [irqRegs]
      · simp [irqRegs]
    exact ⟨fun a ha hout => hleaves.1 a ⟨ha, hout⟩, hleaves.2⟩

/-! ### Bus-off (R381) -/

theorem gives_canRecover {port : Port} (hadm : Admits s port (Can.RECOVER ch)) (hoff : s.rdF (Can.ECR ch) 17 16 = 2) :
    Gives (.canRecover port ch) s (fun t => (canOf t ch).recover = true ∧ Frame [] s t) := by
  have hop : canRecoverWrite ch 1 s = accept (putCan ch { canOf s ch with recover := true } s) := if_pos ⟨by decide, hoff⟩
  refine gives_of_accept rfl hadm (unforwarded_of_page (by simp only [Can.RECOVER]; omega)) hop
    (fun _ _ _ _ => ⟨?_, frame_hidden (frame_refl [] s) rfl rfl⟩)
  change (canOf (putCan ch { canOf s ch with recover := true } s) ch).recover = true
  rw [canOf_putCan]

theorem gives_busOffRecoveryDone (hoff : s.rdF (Can.ECR ch) 17 16 = 2) (hrec : (canOf s ch).recover = true ∨ s.rdB (Can.CTRL ch) 3 = true) :
    Gives (.busOffRecoveryDone ch) s (fun t => t.rdF (Can.ECR ch) 17 0 = 0 ∧ (canOf t ch).recover = false ∧ Frame [Can.ECR ch] s t) := by
  generalize hu : (putCan ch { canOf s ch with recover := false } s).wrF (Can.ECR ch) 17 0 0 = u
  have hdone : busOffDone ch s = canKick ch u := by rw [busOffDone, if_pos ⟨hoff, hrec⟩, hu]
  have hhid : Frame [Can.ECR ch] s (putCan ch { canOf s ch with recover := false } s) := frame_hidden (frame_refl _ s) rfl rfl
  refine ⟨busOffDone ch s, rfl, ?_⟩
  rw [hdone]
  refine ⟨?_, ?_, frame_hidden (hu ▸ frame_put hhid _ (List.mem_cons_self ..)) (canKick_regs ..) (canKick_mem ..)⟩
  · rw [State.rdF, State.rd_congr (canKick_regs ..), ← hu, State.rd_wrF, if_pos rfl, fld_setFld_mod _ _ (by decide) (by decide), Nat.zero_mod]
  · have hcan : canOf u ch = canOf (putCan ch { canOf s ch with recover := false } s) ch := by rw [← hu, canOf, State.wrF_bus]; rfl
    rw [recover_canKick, hcan, canOf_putCan]

end

/-- Settles O14: reception by the head that takes the frame, RECOVER by its note, the end of bus-off by ECR. -/
theorem canFramesLandInTheirObjects : Obligations.CanFramesLandInTheirObjects := by
  intro port ch f sof s hch
  exact ⟨gives_canFrameReceived_of_off, fun hon hbus => ⟨gives_canFrameReceived_of_none hch hon hbus,
      fun h hh htakes hfirst hlen hmode hown => gives_canFrameReceived hch hon hbus hh htakes hfirst hlen hmode hown⟩,
    gives_canRecover, gives_busOffRecoveryDone⟩

/-- Settles O15: the end of an attempt by its three results, each with the frame of what it writes, the object commands by `objCmdWrite`, the
disabling by the transmissions that it ends. -/
theorem canTransmissionsEndWithTheirResult : Obligations.CanTransmissionsEndWithTheirResult := by
  intro port ch o v sof lec won s hch _
  exact ⟨fun hbus => ⟨fun htx => gives_canTxAttemptEnd_ok hch hbus htx sof, fun habort => gives_canTxAttemptEnd_lost hbus habort sof,
      fun htec hcounted => gives_canTxAttemptEnd_error hch hbus won sof htec hcounted⟩,
    fun hadm => ⟨gives_objAck hadm, gives_objSend hadm, gives_objAbort_waiting hch hadm, gives_objAbort_sending hadm, gives_objClaim hadm⟩,
    gives_canDisable hch⟩

end Sys2Proof.Laws.CanBus
end

section
/-! PROOFS. Debug access: the challenge, the authentication and its end, the commands of a grant and the halts (R467-R470). -/

namespace Sys2Proof.Laws.DebugAccess
open Sys2Proof.Machine Sys2Proof.Safety Sys2Proof.Laws.Fabric Sys2Proof.Laws.Frames Sys2Proof.Laws.Refusals Sys2Proof.Laws.Resets
open Sys2Proof.Laws.Admitted Sys2Proof.Laws.Leaving

/-! ### DBG_CMD -/

section
variable {port : Port} {s : State}

theorem unforwarded_dbgCmd : Unforwarded SecDbg.DBG_CMD := unforwarded_of_page (by decide)

/-- A refusal on the debug page leaves the state of bring-up. -/
theorem phase_refuseAt (c : RefCode) (off : Nat) : (s.refuseAt SecDbg.page port c off).phase = s.phase := by
  rw [State.phase, State.phase, State.rdF, State.rdF, (frame_refuseAt s SecDbg.page port c off).1 Bup.STATE (by decide)]

theorem phase_beside (f : FabState) (x : IslandState) (c : RefCode) (w : Word) : (beside f x c w s).phase = s.phase := by
  rw [State.phase, State.phase, rdF_beside]

/-- A command of another port than the debug port is denied. -/
theorem gives_dbgCommand_of_other {i : Instr} {nonce : List Word} {v : Word} (hport : port ≠ .debug) (hadm : Admits s port SecDbg.DBG_CMD)
    (hexec : exec i s = dbgCommand port nonce v s) : Gives i s (fun t => t.sec = s.sec ∧ t.phase = s.phase) := by
  have hop : dbgCmdWrite port nonce v s = deny s .denied := if_pos hport
  refine gives_of_deny hexec hadm (by decide) hop (by decide) (by decide) (fun c' w hnote => ?_)
  rw [Noted, if_neg hport] at hnote
  obtain ⟨rfl, rfl⟩ := hnote
  refine ⟨?_, ?_⟩
  · simp only [beside, State.refuseAt_sec]
  · rw [phase_beside]
    exact phase_refuseAt _ _

theorem gives_debug_of_other {nonce : List Word} {level : Nat} (hport : port ≠ .debug) (hadm : Admits s port SecDbg.DBG_CMD) :
    ∀ i ∈ [Instr.dbgChal port nonce, Instr.dbgAuth port level, Instr.closeGrant port, Instr.sysrst port],
      Gives i s (fun t => t.sec = s.sec ∧ t.phase = s.phase) := by
  simp only [List.forall_mem_cons]
  exact ⟨gives_dbgCommand_of_other hport hadm rfl, gives_dbgCommand_of_other hport hadm rfl, gives_dbgCommand_of_other hport hadm rfl,
    gives_dbgCommand_of_other hport hadm rfl, List.forall_mem_nil _⟩

end

section
variable {s : State} (hadm : Admits s .debug SecDbg.DBG_CMD)

/-- The commands of the debug port, by their number. -/
theorem dbgCmdWrite_debug (nonce : List Word) (v : Word) (s : State) : dbgCmdWrite .debug nonce v s =
    if fld v 2 0 = 1 then dbgChalCmd nonce s
    else if fld v 2 0 = 2 then dbgAuthCmd (fld v 10 8) s
    else if fld v 2 0 = 3 then accept (endGrant s)
    else if fld v 2 0 = 4 then (if dbgLevel s < 2 then deny s .denied else accept (sysReset [11] s))
    else deny s .outOfRange := by
  rw [dbgCmdWrite, if_neg (by decide)]
  generalize fld v 2 0 = n
  split <;> simp_all

/-! ### CHAL (R468) -/

/-- Words written to distinct registers one after the other. -/
theorem rd_foldl_wr {addr : Nat → Nat} (hinj : Function.Injective addr) (val : Nat → Word) (n : Nat) (s : State) {j : Nat} (hj : j < n) :
    ((List.range n).foldl (fun t k => t.wr (addr k) (val k)) s).rd (addr j) = val j := by
  induction n with
  | zero => exact absurd hj (Nat.not_lt_zero j)
  | succ n ih =>
    rw [List.range_succ, List.foldl_append, List.foldl_cons, List.foldl_nil]
    rcases Nat.lt_succ_iff_lt_or_eq.mp hj with hlt | rfl
    · rw [State.rd_wr_ne _ _ _ _ (fun h => Nat.ne_of_lt hlt (hinj h))]
      exact ih hlt
    · exact State.rd_wr_self ..

theorem leaves_foldl_wr {addr : Nat → Nat} (val : Nat → Word) {n : Nat} (s : State) :
    Leaves (fun a => ∀ j < n, a ≠ addr j) s ((List.range n).foldl (fun t k => t.wr (addr k) (val k)) s) :=
  leaves_foldl (leaves_refl _ s) (fun k hk _ hu => leaves_put hu _ (fun h => h k (List.mem_range.mp hk) rfl))

theorem chal_injective : Function.Injective SecDbg.DBG_CHAL0 := fun i j h => by
  simp only [SecDbg.DBG_CHAL0] at h
  omega

include hadm in
theorem gives_dbgChal (nonce : List Word) (hopen : s.sec.blockAt = none) : Gives (.dbgChal .debug nonce) s (fun t =>
    (∀ j < 8, t.rd (SecDbg.DBG_CHAL0 j) = nonce.getD j 0) ∧
    t.sec.nonceAt = some s.now ∧ (∀ x, (∀ j < 8, x ≠ SecDbg.DBG_CHAL0 j) → t.rd x = s.rd x) ∧ ∀ x, t.rdByte x = s.rdByte x) := by
  have hread := fun j (hj : j < 8) => rd_foldl_wr chal_injective (fun j => nonce.getD j 0) 8 s hj
  have hleaves := leaves_foldl_wr (addr := SecDbg.DBG_CHAL0) (fun j => nonce.getD j 0) (n := 8) s
  generalize hu : (List.range 8).foldl (fun t j => t.wr (SecDbg.DBG_CHAL0 j) (nonce.getD j 0)) s = u at hread hleaves
  have hop : dbgCmdWrite .debug nonce 1 s = accept { u with sec := { u.sec with nonceAt := some s.now } } := by
    rw [dbgCmdWrite_debug, if_pos (by decide), dbgChalCmd, hopen, ← hu]
    rfl
  refine gives_of_accept rfl hadm unforwarded_dbgCmd hop (fun f x c w => ⟨fun j hj => ?_, rfl, ?_⟩)
  · rw [rd_beside]
    exact (hread j hj : u.rd _ = _)
  · exact leaves_hidden (leaves_hidden hleaves rfl rfl) rfl rfl

/-! ### AUTH (R468) -/

include hadm in
theorem gives_dbgAuth {level a : Nat} (hlevel : level = 1 ∨ level = 2 ∨ level = 4) (hnonce : s.sec.nonceAt = some a)
    (hfresh : s.now ≤ a + 8000000000) : Gives (.dbgAuth .debug level) s (fun t =>
      t.sec.nonceAt = none ∧ t.sec.authAt = some (level, s.now) ∧ Frame [] s t) := by
  have hnum : fld (word (2 + at' (level % 8) 8)) 2 0 = 2 ∧ fld (word (2 + at' (level % 8) 8)) 10 8 = level := by
    rcases hlevel with rfl | rfl | rfl <;> decide
  have hok : ¬ (level ≠ 1 ∧ level ≠ 2 ∧ level ≠ 4) := by tauto
  have hop : dbgCmdWrite .debug [] (word (2 + at' (level % 8) 8)) s =
      accept { s with sec := { s.sec with nonceAt := none, authAt := some (level, s.now) } } := by
    simp only [dbgCmdWrite_debug, hnum, dbgAuthCmd, if_neg hok, hnonce, hfresh, decide_true, Bool.not_true, Bool.false_eq_true, if_false,
      if_true, Nat.reduceEqDiff]
  exact gives_of_accept rfl hadm unforwarded_dbgCmd hop (fun _ _ _ _ => ⟨rfl, rfl, frame_hidden (frame_refl [] s) rfl rfl⟩)

/-- The verdict on the response that waits: the signature of the challenge under the debug key. -/
def responseGood (s : State) (level : Nat) : Bool :=
  s.rdB SecKey.KEY_STAT 10 && keyUsable s (s.rdF SecKey.KEY_STAT 9 8) && keyVerifies s (s.rdF SecKey.KEY_STAT 9 8) (grantDigest s level)
    (bytesNat (wordsBytes ((List.range 8).map (fun j => s.rd (SecDbg.DBG_RESP0 (0 + j))))))
    (bytesNat (wordsBytes ((List.range 8).map (fun j => s.rd (SecDbg.DBG_RESP0 (8 + j))))))

/-- The security state after a response that is good, and after one that is not at the instant `n`. -/
def granted (level : Nat) (x : SecState) : SecState :=
  { x with authAt := none, fails := 0, grant := min level 2, returnOk := decide (level = 4) }

def failed (n : Nat) (x : SecState) : SecState :=
  { x with authAt := none, fails := x.fails + 1, blockAt := if 5 ≤ x.fails + 1 then some n else none }

/-- The end of AUTH at the instant reached. -/
def authEnded (s1 : State) (x : SecState) : State := { s1 with sec := x }

theorem authDone_eq {level a : Nat} (dt : Nat) (hauth : s.sec.authAt = some (level, a)) : authDone dt s =
    if responseGood s level then
      (authEnded (s.reach (min (s.now + dt) (a + 48000000))) (granted level s.sec)).pulse Sec.page 1
    else emitPage .safety Sec.page 2 0 ((authEnded (s.reach (min (s.now + dt) (a + 48000000)))
      (failed (max s.now (min (s.now + dt) (a + 48000000))) s.sec)).pulse Sec.page 2) := by
  simp only [authDone, hauth]
  rfl

theorem frame_authEnded {q : List Nat} (n : Nat) (x : SecState) : Frame q s (authEnded (s.reach n) x) :=
  frame_hidden (frame_refl q s) rfl rfl

theorem gives_authDone {level a k : Nat} (dt : Nat) (hauth : s.sec.authAt = some (level, a)) (hk : k = s.rdF SecKey.KEY_STAT 9 8) :
    Gives (.authDone dt) s (fun t => t.sec.authAt = none ∧
      t.now ≤ max s.now (a + 48000000) ∧ Frame (irqRegs Sec.page) s t ∧
      (if s.rdB SecKey.KEY_STAT 10 && keyUsable s k && keyVerifies s k (grantDigest s level)
          (bytesNat (wordsBytes ((List.range 8).map (fun j => s.rd (SecDbg.DBG_RESP0 j)))))
          (bytesNat (wordsBytes ((List.range 8).map (fun j => s.rd (SecDbg.DBG_RESP0 (8 + j))))))
        then t.sec.grant = min level 2 ∧ t.sec.fails = 0 ∧ t.sec.returnOk = decide (level = 4)
        else t.sec.grant = s.sec.grant ∧ t.sec.fails = s.sec.fails + 1 ∧
          t.sec.blockAt = if 5 ≤ s.sec.fails + 1 then some t.now else none)) := by
  subst hk
  have hverdict : (s.rdB SecKey.KEY_STAT 10 && keyUsable s (s.rdF SecKey.KEY_STAT 9 8) &&
      keyVerifies s (s.rdF SecKey.KEY_STAT 9 8) (grantDigest s level)
        (bytesNat (wordsBytes ((List.range 8).map (fun j => s.rd (SecDbg.DBG_RESP0 j)))))
        (bytesNat (wordsBytes ((List.range 8).map (fun j => s.rd (SecDbg.DBG_RESP0 (8 + j))))))) = responseGood s level := by
    simp only [responseGood, Nat.zero_add]
  have hlate : max s.now (min (s.now + dt) (a + 48000000)) ≤ max s.now (a + 48000000) := by omega
  have hirq : irqRegs Sec.page ⊆ irqRegs Sec.page := List.Subset.refl _
  refine ⟨authDone dt s, rfl, ?_⟩
  rw [authDone_eq dt hauth, hverdict]
  cases responseGood s level with
  | true =>
    rw [if_pos rfl, if_pos rfl, State.pulse_sec, State.pulse_now]
    exact ⟨rfl, hlate, frame_pulse (frame_authEnded _ _) 1 hirq, rfl, rfl, rfl⟩
  | false =>
    rw [if_neg Bool.false_ne_true, if_neg Bool.false_ne_true, emitPage, State.emit_sec, State.emit_now, State.pulse_sec, State.pulse_now]
    exact ⟨rfl, hlate, frame_hidden (frame_pulse (frame_authEnded _ _) 2 hirq) rfl rfl, rfl, rfl, rfl⟩

/-! ### CLOSE and SYSRST (R469, R470) -/

include hadm in
theorem gives_closeGrant : Gives (.closeGrant .debug) s (fun t => t.sec.grant = 0 ∧ t.sec.returnOk = false ∧ t.rd SecDbg.DBG_HALT = 0 ∧
    t.rd SecDbg.DBG_HSTAT = 0 ∧ Frame [SecDbg.DBG_HALT, SecDbg.DBG_HSTAT] s t) := by
  have hop : dbgCmdWrite .debug [] 3 s = accept (endGrant s) := by
    rw [dbgCmdWrite_debug, if_neg (by decide), if_neg (by decide), if_pos (by decide)]
  have hhid : Frame [SecDbg.DBG_HALT, SecDbg.DBG_HSTAT] s { s with sec := { s.sec with grant := 0, returnOk := false } } :=
    frame_hidden (frame_refl _ s) rfl rfl
  refine gives_of_accept rfl hadm unforwarded_dbgCmd hop (fun f x c w => ⟨?_, ?_, ?_, ?_, ?_⟩)
  · simp only [beside, endGrant, State.wr_sec]
  · simp only [beside, endGrant, State.wr_sec]
  · rw [rd_beside, endGrant, State.rd_wr_ne _ _ _ _ (by decide), State.rd_wr_self]
  · rw [rd_beside, endGrant, State.rd_wr_self]
  · exact frame_beside (frame_put (frame_put hhid 0 (by simp)) 0 (by simp))

include hadm in
theorem gives_sysrst (hlevel : 2 ≤ dbgLevel s) : Gives (.sysrst .debug) s (fun t =>
    t.rdB Bup.RST_CAUSE 11 = true ∧ t.phase = 1 ∧ ∀ x, t.rdByte x = 0) := by
  have hop : dbgCmdWrite .debug [] 4 s = accept (sysReset [11] s) := by
    rw [dbgCmdWrite_debug, if_neg (by decide), if_neg (by decide), if_neg (by decide), if_pos (by decide), if_neg (by omega)]
  refine gives_of_accept rfl hadm unforwarded_dbgCmd hop (fun f x c w => ⟨cause_sysReset s (by decide), phase_sysReset s [11], fun a => ?_⟩)
  rw [rdByte_beside, State.rdByte, mem_sysReset]
  rfl

include hadm in
theorem gives_sysrst_of_low (hlevel : dbgLevel s < 2) : Gives (.sysrst .debug) s (fun t =>
    t.sec.dbgCode = .denied ∧ t.sec.grant = s.sec.grant ∧ t.phase = s.phase ∧ ∀ a, t.rdByte a = s.rdByte a) := by
  have hop : dbgCmdWrite .debug [] 4 s = deny s .denied := by
    rw [dbgCmdWrite_debug, if_neg (by decide), if_neg (by decide), if_neg (by decide), if_pos (by decide), if_pos hlevel]
  refine gives_of_deny rfl hadm (by decide) hop (by decide) (by decide) (fun c' w hnote => ⟨?_, ?_, ?_, fun x => ?_⟩)
  · rw [Noted, if_pos rfl] at hnote
    exact hnote
  · simp only [beside, State.refuseAt_sec]
  · rw [phase_beside]
    exact phase_refuseAt _ _
  · rw [rdByte_beside]
    exact (frame_refuseAt s SecDbg.page .debug .denied (SecDbg.DBG_CMD % 4096)).2 x

/-! ### The ends of a nonce and of a block (R468) -/

theorem gives_nonceExpiry {a : Nat} (hnonce : s.sec.nonceAt = some a) : Gives .nonceExpiry s (fun t =>
    t.sec.nonceAt = none ∧ a + 8000000000 ≤ t.now ∧ Frame [] s t) := by
  refine ⟨nonceExpiry s, rfl, ?_⟩
  simp only [nonceExpiry, hnonce]
  exact ⟨trivial, Nat.le_max_right _ _, frame_hidden (frame_refl [] s) rfl rfl⟩

theorem gives_debugBlockExpiry {a : Nat} (hblock : s.sec.blockAt = some a) : Gives .debugBlockExpiry s (fun t =>
    t.sec.blockAt = none ∧ t.sec.fails = 0 ∧ a + 240000000000 ≤ t.now ∧ Frame [] s t) := by
  refine ⟨debugBlockExpiry s, rfl, ?_⟩
  simp only [debugBlockExpiry, hblock]
  exact ⟨trivial, trivial, Nat.le_max_right _ _, frame_hidden (frame_refl [] s) rfl rfl⟩

/-! ### DBG_HALT (R470) -/

omit hadm in
theorem dbgHaltWrite_of_allowed {v : Word}
    (hok : (v &&& 0xF &&& ~~~(s.rd SecDbg.DBG_HALT) = 0) ∨ (dbgLevel s = 3 ∧ lcState s = 0 ∧ pwrState s ≠ 2 ∧ anyTbRun s = false)) :
    dbgHaltWrite v s = accept ((s.wr SecDbg.DBG_HALT (v &&& 0xF)).wr SecDbg.DBG_HSTAT (v &&& 0xF)) := by
  rcases hok with hnone | ⟨hlevel, hblank, hawake, hidle⟩
  · have hnew : ∀ k, bit (v &&& 0xF &&& ~~~(s.rd SecDbg.DBG_HALT)) k = false := fun k => by rw [hnone]; exact BitVec.getLsbD_zero
    simp only [dbgHaltWrite, hnew, Bool.or_self, Bool.false_eq_true, false_and, or_self, if_false]
  · simp [dbgHaltWrite, hlevel, hblank, hawake, hidle]

theorem gives_dbgHaltWrite {port : Port} {v : Word} (hadm : Admits s port SecDbg.DBG_HALT)
    (hok : (v &&& 0xF &&& ~~~(s.rd SecDbg.DBG_HALT) = 0) ∨ (dbgLevel s = 3 ∧ lcState s = 0 ∧ pwrState s ≠ 2 ∧ anyTbRun s = false)) :
    Gives (.dbgHaltWrite port v) s (fun t => t.rd SecDbg.DBG_HALT = (v &&& 0xF) ∧ t.rd SecDbg.DBG_HSTAT = (v &&& 0xF) ∧
      Frame [SecDbg.DBG_HALT, SecDbg.DBG_HSTAT] s t) := by
  refine gives_of_accept rfl hadm (unforwarded_of_page (by decide)) (dbgHaltWrite_of_allowed hok) (fun f x c w => ⟨?_, ?_, ?_⟩)
  · rw [rd_beside, State.rd_wr_ne _ _ _ _ (by decide), State.rd_wr_self]
  · rw [rd_beside, State.rd_wr_self]
  · exact frame_beside (frame_put (frame_put (frame_refl _ s) _ (by simp)) _ (by simp))

end

/-- Settles O26: the commands of DBG_CMD by their numbers, the end of AUTH by its verdict, DBG_HALT by what it may hold. -/
theorem debugGrantsOpenAndEnd : Obligations.DebugGrantsOpenAndEnd := by
  intro port nonce level dt a k v s
  exact ⟨gives_debug_of_other, fun hadm => ⟨gives_dbgChal hadm nonce, gives_dbgAuth hadm, gives_closeGrant hadm, gives_sysrst hadm,
      gives_sysrst_of_low hadm⟩, gives_authDone dt, gives_nonceExpiry, gives_debugBlockExpiry, gives_dbgHaltWrite⟩

end Sys2Proof.Laws.DebugAccess
end

section
/-! PROOFS. A DMA run that fails after the second of an open LOCK is over (R42, R411). -/

namespace Sys2Proof.Laws.DmaFailure
open Sys2Proof.Machine Sys2Proof.Safety

/-- A copy of one word into the PWM page whose read has waited since shortly before the LOCK's second ends. -/
def waitingRun : DmaRun := { slot := 0, desc := [0xA, 0x400000, 0x140100, 0, 0, 0, 0, 0], at_ := 799960000 }

/-- That run on channel 0, and the LOCK of the PWM page open since 10 µs after power-up. -/
def waitingUnderLock : State :=
  putDma 0 (some waitingRun) ((openLock Tb.page (((State.reset.wr Bup.STATE 9).wr (DmaCh.CH_STAT 0) 2).reach 8000)).reach 799960000)

/-- What the time-out of its access leads to. -/
def failedUnderLock : State := dmaTimeout 0 waitingUnderLock

theorem exec_dmaAccessTimeout_waitingUnderLock : exec (.dmaAccessTimeout 0) waitingUnderLock = .next failedUnderLock := rfl

/-- The run has ended, and with it the LOCK, whose second was over. -/
theorem lockOpen_failedUnderLock : lockOpen waitingUnderLock Tb.page = true ∧ lockOpen failedUnderLock Tb.page = false := by decide +kernel

/-- Refutes O18: the access of a run gets no answer in 100 µs, and meanwhile the second of an open LOCK has passed. The end of the run closes
that LOCK (R42), so `hLOCK Tb.page`, which is no register the clause of DMA_ACCESS_TIMEOUT names, moves from 1 to 0. -/
theorem not_dmaRunsStartMoveAndEnd : ¬ Obligations.DmaRunsStartMoveAndEnd := by
  unfold Obligations.DmaRunsStartMoveAndEnd
  intro hall
  obtain ⟨-, -, htimeout⟩ := hall .host 0 0 false {} [] waitingRun waitingUnderLock (by decide)
  obtain ⟨t, hexec, -, -, -, -, -, hregs, -⟩ := htimeout (by decide +kernel)
  obtain rfl : failedUnderLock = t := Host.Outcome.next.inj (exec_dmaAccessTimeout_waitingUnderLock.symm.trans hexec)
  have hsame : lockOpen failedUnderLock Tb.page = lockOpen waitingUnderLock Tb.page := by
    rw [lockOpen, State.rdB, hregs (hLOCK Tb.page) (by decide)]
    rfl
  rw [lockOpen_failedUnderLock.1, lockOpen_failedUnderLock.2] at hsame
  exact absurd hsame (by decide)

end Sys2Proof.Laws.DmaFailure
end

section
/-! PROOFS. What a lock-out of the island leaves alone of the rest of the device: the registers of the pages that neither its outputs nor the
reactions to them show on, and the state of self-test (R320). -/

namespace Sys2Proof.Laws.LockOutReach
open Sys2Proof.Machine Sys2Proof.Safety Sys2Proof.Laws.Fabric Sys2Proof.Laws.Frames Sys2Proof.Laws.Protection Sys2Proof.Laws.Reactions
open Sys2Proof.Laws.LinkProtection Sys2Proof.Laws.ProtDisplay Sys2Proof.Laws.GateLinks Sys2Proof.Laws.GateReports
open Sys2Proof.Laws.Asides Sys2Proof.Laws.IslandAccount Sys2Proof.Laws.IslandGroups

/-- The pages on which the island's outputs and the reactions to them show. -/
abbrev outputPages : List Nat := linkPages ++ [Gl.page, GlPos.page, Safe.page, Bup.page]

section
variable {s t : State} (h : PageFrame outputPages s t)
include h

theorem pageFrame_then {l : List Nat} {u : State} (hu : Frame l t u) (hl : ∀ a ∈ l, pageOf a ∈ outputPages) : PageFrame outputPages s u :=
  pageFrame_trans h (pageFrame_of_frame hu hl)

theorem pageFrame_steady {u : State} (hu : elsewhere outputPages u = elsewhere outputPages t) : PageFrame outputPages s u :=
  pageFrame_trans h (pageFrame_of_elsewhere hu)

end

theorem steady_outputPages : Steady (elsewhere outputPages) := steady_elsewhere (by decide)

theorem pageFrame_allOffFrame {n : Nat} (soft : Bool) (s : State) (hn : n < 36) : PageFrame outputPages s (allOffFrame n soft s) := by
  have hpage : ∀ a ∈ GlPos.GL_STAT n :: linkLevels, pageOf a ∈ outputPages := fun a ha =>
    (by decide : ∀ p ∈ [Gl.page, GlPos.page], p ∈ outputPages) _ (page_setGl hn a ha)
  exact pageFrame_of_frame (allOffFrame_effect n soft s).1 hpage

theorem pageFrame_outputs (s : State) : PageFrame outputPages s (outputs s) := by
  unfold outputs
  extract_lets n0 n1 chg ps i s1
  have hs1 : PageFrame outputPages s s1 := pageFrame_of_frame (frame_hidden (l := []) (frame_refl _ s) rfl rfl) (by simp)
  have hps : ∀ n ∈ ps, n < 36 := by
    intro n hn
    rcases List.mem_append.mp hn with h | h <;> split at h
    · exact stoPositions_lt s h
    · cases h
    · exact stoPositions_lt s h
    · cases h
  have hwoken : PageFrame outputPages s (wakeOn 2 (s1.pulse Safe.page 1)) :=
    pageFrame_then (pageFrame_then hs1 (frame_pulse (frame_refl _ s1) 1 (List.Subset.refl (irqRegs Safe.page))) (by decide))
      (IslandTimers.frame_wakeOn (frame_refl wakeRegs _) 2 (List.Subset.refl _)) (by decide)
  have hreact : PageFrame outputPages s (protShow (resolveNow (wakeOn 2 (s1.pulse Safe.page 1)))) :=
    pageFrame_steady hwoken ((steady_protShow steady_outputPages _).trans (resolved_resolveNow steady_outputPages.toResolved _))
  have hframes : PageFrame outputPages s (allOffFrames ps false (protShow (resolveNow (wakeOn 2 (s1.pulse Safe.page 1))))) :=
    List.foldlRecOn ps _ (motive := PageFrame outputPages s) hreact
      (fun u hu n hn => pageFrame_trans hu (pageFrame_allOffFrame false u (hps n hn)))
  have hshow : ∀ t, PageFrame outputPages t (safeShow t) := fun t =>
    pageFrame_of_frame (IslandTimers.frame_safeShow (frame_refl IslandTimers.shownRegs t) (List.Subset.refl _)) (by decide)
  split
  · exact pageFrame_trans hframes (hshow _)
  · exact pageFrame_trans hs1 (hshow _)

theorem pageFrame_enterStopped (g : Nat) (delay : Bool) (s : State) : PageFrame outputPages s (enterStopped g delay s) := by
  have hput : PageFrame outputPages s (putGrp g 0 s) :=
    pageFrame_of_frame (frame_put (l := [Safe.GRP_STATE]) (frame_refl _ s) _ (List.mem_cons_self ..)) (by decide)
  unfold enterStopped
  extract_lets d due h s1 m
  have hs1 : PageFrame outputPages s s1 := pageFrame_congr hput rfl rfl
  refine pageFrame_trans ?_ (pageFrame_outputs _)
  split
  · exact pageFrame_steady hs1 ((resolved_resolveNow steady_outputPages.toResolved _).trans (steady_dropForce steady_outputPages s1 .island m))
  · exact hs1

theorem pageFrame_lockOut (c : Nat) (s : State) : PageFrame outputPages s (lockOut c s) := by
  have hcause : Frame [Safe.LO_CAUSE] s (safeEvent (0x20 + c) 0 (latchCause c s)) :=
    frame_hidden (frame_putBit (frame_ite (frame_refl _ s) (frame_put (frame_refl _ s) _ (List.mem_cons_self ..))) _ true
      (List.mem_cons_self ..)) rfl rfl
  rw [lockOut_eq]
  refine pageFrame_trans ?_ (pageFrame_outputs _)
  refine List.foldlRecOn _ _ (motive := PageFrame outputPages s) (pageFrame_of_frame hcause (by decide)) (fun u hu g _ => ?_)
  split
  · exact pageFrame_trans hu (pageFrame_enterStopped g false u)
  · exact hu

/-! ### The state of self-test -/

theorem aside_bist : Aside State.bist where
  wr s a v _ := State.wr_bist s a v
  wrL _ _ _ := rfl
  setPwm _ _ := rfl
  flag s _ _ _ _ := State.wr_bist s _ _
  emit _ _ _ _ _ _ := rfl
  stampNow _ _ := rfl
  setProt _ _ := rfl
  setGl _ _ := rfl
  setCle _ _ := rfl
  setTwin _ _ := rfl
  setSrcs _ _ := rfl
  setInputs _ _ := rfl
  putMach _ _ _ _ := rfl

section
variable (s : State)

theorem bist_wakeOn (k : Nat) : (wakeOn k s).bist = s.bist := by
  simp only [wakeOn, wake, pwrGo, apply_ite State.bist, State.pulse_bist, State.wr_bist, State.wrB_bist, ite_self]

theorem bist_safeShow : (safeShow s).bist = s.bist := by
  simp only [safeShow, aside_wakeRisen aside_bist, State.raw_bist, setReady, State.wrB_bist]

theorem bist_allOffFrames (ps : List Nat) (soft : Bool) : (allOffFrames ps soft s).bist = s.bist :=
  foldl_keeps State.bist (fun t n => by
    simp only [allOffFrame, apply_ite State.bist, aside_glFail aside_bist, aside_putPos aside_bist, ite_self]) ps s

theorem bist_outputs : (outputs s).bist = s.bist := by
  simp only [outputs, bist_safeShow, apply_ite State.bist, bist_allOffFrames, aside_protShow aside_bist, aside_resolveNow aside_bist, bist_wakeOn,
    State.pulse_bist, ite_self]

theorem bist_enterStopped (g : Nat) (delay : Bool) : (enterStopped g delay s).bist = s.bist := by
  unfold enterStopped
  extract_lets d due h s1 m
  have hs1 : s1.bist = s.bist := State.wrF_bist s Safe.GRP_STATE (4 * g + 3) (4 * g) 0
  rw [bist_outputs]
  split
  · rw [aside_resolveNow aside_bist, aside_dropForce aside_bist, hs1]
  · exact hs1

theorem bist_lockOut (c : Nat) : (lockOut c s).bist = s.bist := by
  have hstop : ∀ t g, (if lockStops t g then enterStopped g false t else t).bist = t.bist := by
    simp only [apply_ite State.bist, bist_enterStopped, ite_self, implies_true]
  rw [lockOut_eq, bist_outputs, foldl_keeps State.bist hstop]
  simp only [safeEvent, emitPage, State.emit_bist, latchCause, State.wrB_bist, apply_ite State.bist, State.wr_bist, ite_self]

end

end Sys2Proof.Laws.LockOutReach
end

section
/-! PROOFS. Tests that the host asks for, and the repair of fuses (R427, R429). -/

namespace Sys2Proof.Laws.HostTests
open Sys2Proof.Machine Sys2Proof.Safety Sys2Proof.Laws.Fabric Sys2Proof.Laws.Frames Sys2Proof.Laws.Fields Sys2Proof.Laws.ProtDisplay
open Sys2Proof.Laws.Admitted Sys2Proof.Laws.Leaving Sys2Proof.Laws.Ethernet Sys2Proof.Laws.LockOutReach Sys2Proof.Laws.IslandGroups

section
variable {port : Port} {s : State}

/-! ### BIST_CMD (R427) -/

/-- The state in which a test of portion `p` waits. -/
def testQueued (p : Nat) (s : State) : State :=
  (({ s with bist := { s.bist with host := some (p, s.now) } } : State).wr Bist.HOST_STAT (word (1 + at' p 8))).wrB (hSTATUS Bist.page) 3 true

theorem bistCmdWrite_of_idle {v : Word} (hidle : s.bist.host = none)
    (hp : fld v 7 0 < 8 ∨ (0x10 ≤ fld v 7 0 ∧ fld v 7 0 < 0x18) ∨ fld v 7 0 = 0x20 ∨ fld v 7 0 = 0x21) (hpassive : activeControl s (fld v 7 0) = false) :
    bistCmdWrite v s = accept (testQueued (fld v 7 0) s) := by
  simp only [bistCmdWrite, hp, decide_true, Bool.not_true, Bool.false_eq_true, if_false, hidle, Option.isSome_none, hpassive, testQueued]

/-- The word of HOST_STAT: the state of a test and its portion. -/
theorem fields_hostStat {st p : Nat} (hst : st < 256) (hp : p < 256) : fld (word (st + at' p 8)) 7 0 = st ∧ fld (word (st + at' p 8)) 15 8 = p := by
  have hw : (word (st + at' p 8)).toNat = st + 256 * p := by
    rw [word, at', BitVec.toNat_ofNat]
    omega
  constructor <;> rw [fld, hw] <;> omega

theorem gives_bistCmd {v : Word} {p : Nat} (hadm : Admits s port Bist.BIST_CMD) (hidle : s.bist.host = none) (hv : p = fld v 7 0)
    (hp : p < 8 ∨ (0x10 ≤ p ∧ p < 0x18) ∨ p = 0x20 ∨ p = 0x21) (hpassive : activeControl s p = false) :
    Gives (.bistCmd port v) s (fun t => t.bist.host = some (p, s.now) ∧ t.rdF Bist.HOST_STAT 7 0 = 1 ∧
      t.rdF Bist.HOST_STAT 15 8 = p ∧ t.rdB (hSTATUS Bist.page) 3 = true ∧ Frame [Bist.HOST_STAT, hSTATUS Bist.page] s t) := by
  subst hv
  obtain ⟨hstate, hportion⟩ := fields_hostStat (st := 1) (p := fld v 7 0) (by decide) (by omega)
  have hhid : Frame [Bist.HOST_STAT, hSTATUS Bist.page] s { s with bist := { s.bist with host := some (fld v 7 0, s.now) } } :=
    frame_hidden (frame_refl _ s) rfl rfl
  have hword : (testQueued (fld v 7 0) s).rd Bist.HOST_STAT = word (1 + at' (fld v 7 0) 8) := by
    rw [testQueued, State.rd_wrB, if_neg (by decide), State.rd_wr_self]
  refine gives_of_accept rfl hadm (unforwarded_of_page (by decide)) (bistCmdWrite_of_idle hidle hp hpassive) (fun f x c w => ⟨?_, ?_, ?_, ?_, ?_⟩)
  · simp only [beside, testQueued, State.wrB_bist, State.wr_bist]
  · rw [rdF_beside, State.rdF, hword, hstate]
  · rw [rdF_beside, State.rdF, hword, hportion]
  · rw [rdB_beside, testQueued]
    exact rdB_wrB_self _ _ (by decide) _
  · exact frame_beside (frame_putBit (frame_put hhid _ (by simp)) _ _ (by simp))

end

/-! ### The end of a host test (R424, R427) -/

section
variable {s : State} {p at_ : Nat}

/-- The state at the end of a test of portion `p` before a fault is reported. -/
def testEnded (p n : Nat) (ok : Bool) (s : State) : State :=
  ((({ s.reach n with bist := { s.bist with host := none } } : State).wr Bist.HOST_STAT (word ((if ok then 2 else 3) + at' p 8))).wrB
    (hSTATUS Bist.page) 3 false).pulse Bist.page 2

theorem bist_testEnded (n : Nat) (ok : Bool) : (testEnded p n ok s).bist.host = none := by
  simp only [testEnded, State.pulse_bist, State.wrB_bist, State.wr_bist]

theorem rd_testEnded (n : Nat) (ok : Bool) : (testEnded p n ok s).rd Bist.HOST_STAT = word ((if ok then 2 else 3) + at' p 8) := by
  rw [testEnded, State.rd_pulse_ne _ _ _ _ (by decide) (by decide), State.rd_wrB, if_neg (by decide), State.rd_wr_self]

theorem frame_testEnded (n : Nat) (ok : Bool) : Frame ([Bist.HOST_STAT, hSTATUS Bist.page] ++ irqRegs Bist.page) s (testEnded p n ok s) := by
  have hhid : Frame ([Bist.HOST_STAT, hSTATUS Bist.page] ++ irqRegs Bist.page) s { s.reach n with bist := { s.bist with host := none } } :=
    frame_hidden (frame_refl _ s) rfl rfl
  exact frame_pulse (frame_putBit (frame_put hhid _ (by simp)) _ _ (by simp)) 2 (List.subset_append_right ..)

/-- The end of the test of a logic or memory portion, by its signature. -/
theorem hostDone_eq (test : List (BitVec 64)) (steps : Nat) (hhost : s.bist.host = some (p, at_)) (hp : p < 0x20) :
    ∃ n, hostDone (test, steps) [] [] s =
      if signatureOf p 0xFF test steps = Config.signature p 0xFF then testEnded p n true s
      else deviceFault p 0xFF (some (signatureOf p 0xFF test steps)) (testEnded p n false s) := by
  refine ⟨s.ofTick (hostStart s ((at_ : Int) - s.bu.tick0).toNat + 40000), ?_⟩
  simp only [hostDone, hhost, if_pos hp]
  by_cases h : signatureOf p 0xFF test steps = Config.signature p 0xFF
  · rw [if_pos h, if_pos (decide_eq_true h), decide_eq_true h]
    rfl
  · rw [if_neg h, if_neg (by simpa using h), decide_eq_false h]
    rfl

/-! ### A fault that self-test reports (R425) -/

/-- The state in which the island hears of the fault. -/
def faultShown (p slice : Nat) (w : Word × Word) (s : State) : State :=
  let n := min (s.rdF Bist.LAST_FAIL 31 16 + 1) 0xFFFF
  let s1 := ((s.wr Bist.LAST_FAIL (word (p + at' slice 8 + at' n 16))).wr Bist.SIG_HI w.1).wr Bist.SIG_LO w.2
  declareFault ((emitPage .safety Bist.page 0 p ((retire p s1).pulse Bist.page 0)).incL BistTel.MISMATCHES)

theorem deviceFault_eq (slice : Nat) (w : Word × Word) (s : State) : deviceFault p slice (some w) s = lockOut 0xB (faultShown p slice w s) := rfl

/-- The registers in which self-test shows a fault. -/
abbrev faultRegs : List Nat := [Bist.LAST_FAIL, Bist.SIG_HI, Bist.SIG_LO, Bist.RETIRED, hSTATUS Bist.page] ++ irqRegs Bist.page

theorem frame_retire (p : Nat) {l : List Nat} {t : State} (h : Frame l s t) (hl : faultRegs ⊆ l) : Frame l s (retire p t) := by
  have hret : Bist.RETIRED ∈ l := hl (by decide)
  have hstat : hSTATUS Bist.page ∈ l := hl (by decide)
  have hmark : Frame l s (if p < 8 then t.wrB Bist.RETIRED p true else if 0x10 ≤ p ∧ p < 0x18 then t.wrB Bist.RETIRED (p - 8) true else t) :=
    frame_ite (frame_putBit h _ _ hret) (frame_ite (frame_putBit h _ _ hret) h)
  exact frame_putBit (frame_putBit hmark _ _ hstat) _ _ hstat

theorem bist_retire (p : Nat) (s : State) : (retire p s).bist = s.bist := by
  simp only [retire, State.wrB_bist, apply_ite State.bist, ite_self]

theorem frame_declareFault {l : List Nat} {t : State} (h : Frame l s t) : Frame l s (declareFault t) :=
  frame_ite (frame_hidden h rfl rfl) h

theorem frame_faultShown (slice : Nat) (w : Word × Word) (s : State) : Frame faultRegs s (faultShown p slice w s) := by
  have hput : ∀ x, Frame faultRegs s (((s.wr Bist.LAST_FAIL x).wr Bist.SIG_HI w.1).wr Bist.SIG_LO w.2) := fun x =>
    frame_put (frame_put (frame_put (frame_refl _ s) x (by decide)) _ (by decide)) _ (by decide)
  refine frame_declareFault (frame_hidden (frame_pulse (frame_retire p (hput _) (List.Subset.refl _)) 0 ?_) rfl rfl)
  exact List.subset_append_right ..

theorem bist_faultShown (slice : Nat) (w : Word × Word) (s : State) : (faultShown p slice w s).bist = s.bist := by
  have hdecl : ∀ t, (declareFault t).bist = t.bist := fun t => by simp only [declareFault, apply_ite State.bist, ite_self]
  have hinc : ∀ t : State, (t.incL BistTel.MISMATCHES).bist = t.bist := fun _ => rfl
  simp only [faultShown, hdecl, hinc, emitPage, State.emit_bist, State.pulse_bist, bist_retire, State.wr_bist]

/-- A reported fault locks the island out and leaves the state of a host test alone. -/
theorem deviceFault_effect (slice : Nat) (w : Word × Word) (s : State) : (deviceFault p slice (some w) s).bist = s.bist ∧
    (deviceFault p slice (some w) s).rd Bist.HOST_STAT = s.rd Bist.HOST_STAT ∧ inLockout (deviceFault p slice (some w) s) = true ∧
    ∀ a, (deviceFault p slice (some w) s).rdByte a = s.rdByte a := by
  rw [deviceFault_eq]
  have hpages := pageFrame_lockOut 0xB (faultShown p slice w s)
  have hregs := frame_faultShown (p := p) slice w s
  refine ⟨(bist_lockOut ..).trans (bist_faultShown ..), ?_, (causes_lockOut (by decide) (by decide) _).1, fun a => ?_⟩
  · exact (hpages.1 _ (by decide)).trans (hregs.1 _ (by decide))
  · exact (hpages.2 a).trans (hregs.2 a)

variable {test : List (BitVec 64)} {steps : Nat} (hhost : s.bist.host = some (p, at_)) (hp : p < 0x20)
include hhost hp

theorem gives_hostTestDone_of_right (hsig : signatureOf p 0xFF test steps = Config.signature p 0xFF) : Gives (.hostTestDone test steps [] []) s
    (fun t => t.bist.host = none ∧ t.rd Bist.HOST_STAT = word (2 + 256 * p) ∧ Frame ([Bist.HOST_STAT, hSTATUS Bist.page] ++ irqRegs Bist.page) s t) := by
  obtain ⟨n, hdone⟩ := hostDone_eq test steps hhost hp
  refine ⟨testEnded p n true s, congrArg Host.Outcome.next (hdone.trans (if_pos hsig)), bist_testEnded n true, ?_, frame_testEnded n true⟩
  rw [rd_testEnded, at', Nat.mul_comm p]
  rfl

theorem gives_hostTestDone_of_wrong (hsig : signatureOf p 0xFF test steps ≠ Config.signature p 0xFF) : Gives (.hostTestDone test steps [] []) s
    (fun t => t.bist.host = none ∧ t.rd Bist.HOST_STAT = word (3 + 256 * p) ∧ inLockout t = true ∧ ∀ a, t.rdByte a = s.rdByte a) := by
  obtain ⟨n, hdone⟩ := hostDone_eq test steps hhost hp
  obtain ⟨hbist, hstat, hlock, hmem⟩ := deviceFault_effect (p := p) 0xFF (signatureOf p 0xFF test steps) (testEnded p n false s)
  refine ⟨_, congrArg Host.Outcome.next (hdone.trans (if_neg hsig)), hbist ▸ bist_testEnded n false, ?_, hlock,
    fun a => (hmem a).trans ((frame_testEnded n false).2 a)⟩
  rw [hstat, rd_testEnded, at', Nat.mul_comm p]
  rfl

end

/-! ### FUSE_CMD and its end (R429) -/

section
variable {port : Port} {s : State}

theorem fuseCmdWrite_of_key {v : Word} (hlock : lockOpen s Bist.page = true) (hkey : v = 0x46555345) (hfield : lcState s ≠ 2)
    (hfit : s.rdF Bist.REPAIR_STAT 7 0 + s.rdF Bist.REPAIR_STAT 15 8 ≤ 64) :
    fuseCmdWrite v s = if anyTbRun s then deny s .notInState else accept { s with bist := { s.bist with fuseAt := some s.now } } := by
  have hlc : s.rdF Sec.LC_STATE 1 0 ≠ 2 := hfield
  simp only [fuseCmdWrite, hlock, Bool.not_true, Bool.false_eq_true, if_false, hkey, ne_eq, not_true_eq_false, hlc, Nat.not_lt.mpr hfit]

variable (hadm : Admits s port Bist.FUSE_CMD) {v : Word} (hlock : lockOpen s Bist.page = true) (hkey : v = 0x46555345) (hfield : lcState s ≠ 2)
  (hfit : s.rdF Bist.REPAIR_STAT 7 0 + s.rdF Bist.REPAIR_STAT 15 8 ≤ 64)
include hadm hlock hkey hfield hfit

theorem gives_fuseCmd (hstill : anyTbRun s = false) : Gives (.fuseCmd port v) s (fun t => t.bist.fuseAt = some s.now ∧ Frame [] s t) := by
  have hop : fuseCmdWrite v s = accept { s with bist := { s.bist with fuseAt := some s.now } } := by
    rw [fuseCmdWrite_of_key hlock hkey hfield hfit, hstill, if_neg Bool.false_ne_true]
  exact gives_of_accept rfl hadm (unforwarded_of_page (by decide)) hop (fun _ _ _ _ => ⟨rfl, frame_hidden (frame_refl [] s) rfl rfl⟩)

theorem gives_fuseCmd_of_running (hrun : anyTbRun s = true) : Gives (.fuseCmd port v) s (fun t => t.bist.fuseAt = s.bist.fuseAt) := by
  have hop : fuseCmdWrite v s = deny s .notInState := by
    rw [fuseCmdWrite_of_key hlock hkey hfield hfit, hrun, if_pos rfl]
  refine gives_of_deny rfl hadm (by decide) hop (by decide) (by decide) (fun c' w _ => ?_)
  simp only [beside, State.refuseAt_bist]

end

theorem gives_fuseProgramDone {s : State} {at_ : Nat} (dt : Nat) (ok : Bool) (hfuse : s.bist.fuseAt = some at_) :
    Gives (.fuseProgramDone dt ok) s (fun t => t.bist.fuseAt = none ∧ t.rdB Bist.REPAIR_STAT 24 = !ok ∧
      t.rdF Bist.REPAIR_STAT 15 8 = (s.rdF Bist.REPAIR_STAT 15 8 + (if ok then s.rdF Bist.REPAIR_STAT 7 0 else 0)) % 256 ∧
      t.now ≤ max s.now (at_ + 40000000) ∧ Frame [Bist.REPAIR_STAT] s t) := by
  have hhid : Frame [Bist.REPAIR_STAT] s { s.reach (min (s.now + dt) (at_ + 40000000)) with bist := { s.bist with fuseAt := none } } :=
    frame_hidden (frame_refl _ s) rfl rfl
  have hlate : max s.now (min (s.now + dt) (at_ + 40000000)) ≤ max s.now (at_ + 40000000) := by omega
  refine ⟨fuseDone dt ok s, rfl, ?_⟩
  simp only [fuseDone, hfuse]
  refine ⟨?_, rdB_wrB_self _ _ (by decide) _, ?_, ?_, frame_putBit (frame_put hhid _ (by simp)) _ _ (by simp)⟩
  · simp only [State.wrB_bist, State.wrF_bist]
  · rw [State.rdF, State.rd_wrB, if_pos rfl, fld_setBit_apart _ _ (by decide) (by decide), State.rd_wrF, if_pos rfl, fld_setFld_mod _ _ (by decide) (by decide)]
    rfl
  · rw [State.wrB_now, State.wrF_now]
    exact hlate

/-- Settles O20: the command queues the test, its end shows the verdict of the signature, and the fuses are programmed where no timebase runs. -/
theorem hostTestsAndFuseRepair : Obligations.HostTestsAndFuseRepair := by
  intro port v p at_ dt test steps ok s
  exact ⟨gives_bistCmd, fun hhost hp => ⟨gives_hostTestDone_of_right hhost hp, gives_hostTestDone_of_wrong hhost hp⟩,
    fun hadm hlock hkey hfield hfit => ⟨gives_fuseCmd hadm hlock hkey hfield hfit, gives_fuseCmd_of_running hadm hlock hkey hfield hfit⟩,
    gives_fuseProgramDone dt ok⟩

end Sys2Proof.Laws.HostTests
end

section
/-! PROOFS. Firmware images: verification, the handover with its trial, and the fall-back (R449, R450, R453-R456). -/

namespace Sys2Proof.Laws.Images
open Sys2Proof.Machine Sys2Proof.Safety Sys2Proof.Laws.Fabric Sys2Proof.Laws.Frames Sys2Proof.Laws.Fields Sys2Proof.Laws.ProtDisplay
open Sys2Proof.Laws.Admitted Sys2Proof.Laws.Leaving Sys2Proof.Laws.Resets Sys2Proof.Laws.DebugAccess

/-! ### Slots and the boot record (R445, R451) -/

section
variable (s : State)

/-- The image store but for the states of the slots and the copies of the boot record. -/
def slotless : FwState := { s.fw with st0 := 0, st1 := 0, boot0 := [], boot1 := [], bootLast := 0, bootOld := [], bootAt := none }

theorem slotless_bootWrite : slotless (bootWrite s) = slotless s := by
  unfold bootWrite
  dsimp only
  split <;> rfl

theorem slotState_bootWrite (n : Nat) : slotState (bootWrite s) n = slotState s n := by
  unfold bootWrite
  dsimp only
  split <;> rfl

theorem now_bootWrite : (bootWrite s).now = s.now := by
  unfold bootWrite
  dsimp only
  split <;> rfl

theorem frame_bootWrite {l : List Nat} {t : State} (h : Frame l s t) : Frame l s (bootWrite t) := by
  unfold bootWrite
  dsimp only
  exact frame_ite (frame_hidden h rfl rfl) (frame_hidden h rfl rfl)

theorem slotless_putSlot (n st : Nat) : slotless (putSlot n st s) = slotless s := by
  unfold putSlot
  split <;> rfl

theorem now_putSlot (n st : Nat) : (putSlot n st s).now = s.now := by
  unfold putSlot
  split <;> rfl

theorem frame_putSlot (n st : Nat) {l : List Nat} {t : State} (h : Frame l s t) : Frame l s (putSlot n st t) :=
  frame_ite (frame_hidden h rfl rfl) (frame_hidden h rfl rfl)

theorem slotState_putSlot_self (n st : Nat) : slotState (putSlot n st s) n = st := by
  unfold slotState putSlot
  split <;> rfl

/-- The other slot of the two. -/
theorem slotState_putSlot_other {n : Nat} (st : Nat) (hn : n < 2) : slotState (putSlot n st s) (1 - n) = slotState s (1 - n) := by
  obtain rfl | rfl : n = 0 ∨ n = 1 := by omega
  · rfl
  · rfl

theorem slotState_putSlot_of_other {n : Nat} (st : Nat) (hn : n < 2) : slotState (putSlot (1 - n) st s) n = slotState s n := by
  obtain rfl | rfl : n = 0 ∨ n = 1 := by omega
  · rfl
  · rfl

theorem inactiveSlot_lt : inactiveSlot s < 2 := by
  unfold inactiveSlot
  split <;> decide

end

section
variable {s : State} {n m : Nat}

theorem slotIn_spec {st : Nat} (h : slotIn s st = some m) : m < 2 ∧ slotState s m = st := by
  have hmem : m ∈ [0, 1] := List.mem_of_find?_eq_some h
  simp only [List.mem_cons, List.not_mem_nil, or_false] at hmem
  have hstate := List.find?_some (p := fun n => decide (slotState s n = st)) h
  exact ⟨by omega, of_decide_eq_true hstate⟩

/-- An inactive slot that is loaded stays the inactive one whatever state below TRIAL it takes. -/
theorem inactiveSlot_putSlot_loaded : inactiveSlot (putSlot (inactiveSlot s) 3 s) = inactiveSlot s := by
  by_cases h : s.fw.st0 = 4 ∨ s.fw.st0 = 5
  · simp only [inactiveSlot, if_pos h, putSlot, if_neg Nat.one_ne_zero]
  · simp only [inactiveSlot, if_neg h, putSlot, if_true]
    decide

theorem inactiveSlot_bootWrite (s : State) : inactiveSlot (bootWrite s) = inactiveSlot s := by
  have hstate : (bootWrite s).fw.st0 = s.fw.st0 := slotState_bootWrite s 0
  rw [inactiveSlot, inactiveSlot, hstate]

/-! ### FW_CMD -/

section
variable {port : Port} (hheld : fwHeld s port = false)
include hheld

theorem fwCmdWrite_verify : fwCmdWrite port (fwWord 4 0) s = fwVerifyCmd s := by
  have hop : fld (fwWord 4 0) 3 0 = 4 := by decide
  simp [fwCmdWrite, hop, hheld]

theorem fwCmdWrite_confirm : fwCmdWrite port (fwWord 6 0) s = fwConfirmCmd port s := by
  have hop : fld (fwWord 6 0) 3 0 = 6 := by decide
  simp [fwCmdWrite, hop, hheld]

theorem fwCmdWrite_activate (hlock : lockOpen s Fwim.page = true) : fwCmdWrite port (fwWord 5 0) s = fwActivateCmd s := by
  have hop : fld (fwWord 5 0) 3 0 = 5 := by decide
  simp [fwCmdWrite, hop, hheld, hlock]

theorem fwCmdWrite_reject (hlock : lockOpen s Fwim.page = true) : fwCmdWrite port (fwWord 7 0) s = fwRejectCmd s := by
  have hop : fld (fwWord 7 0) 3 0 = 7 := by decide
  simp [fwCmdWrite, hop, hheld, hlock]

end

theorem unforwarded_fwCmd : Unforwarded Fwim.FW_CMD := unforwarded_of_page (by decide)

/-! ### PHASE and LAST_FAIL -/

theorem fwPhase_beside (f : FabState) (x : IslandState) (c : RefCode) (w : Word) (t : State) : fwPhase (beside f x c w t) = fwPhase t :=
  rdF_beside ..

/-- PHASE after a write of it. -/
theorem fwPhase_wrF {ph : Nat} (hph : ph < 8) (t : State) : fwPhase (t.wrF Fwim.FW_STAT 26 24 ph) = ph := by
  rw [fwPhase, State.rdF, State.rd_wrF, if_pos rfl]
  exact fld_setFld_self _ (by decide) (by decide) (by omega)

theorem rdF_lastFail {code : Nat} (hcode : code < 256) (n : Nat) (t : State) : (lastFail code n t).rdF Fwim.LAST_FAIL 7 0 = code := by
  rw [lastFail, State.rdF, State.rd_wr_self, fld, word, at', BitVec.toNat_ofNat]
  omega

theorem fwPhase_pulse (i : Nat) (t : State) : fwPhase (t.pulse Fwim.page i) = fwPhase t := by
  rw [fwPhase, fwPhase, State.rdF, State.rdF, State.rd_pulse_ne _ _ _ _ (by decide) (by decide)]

theorem fwPhase_lastFail (code n : Nat) (t : State) : fwPhase (lastFail code n t) = fwPhase t := by
  rw [fwPhase, fwPhase, State.rdF, State.rdF, lastFail, State.rd_wr_ne _ _ _ _ (by decide)]

theorem rdF_fwEvent (c : EvClass) (code a hi lo : Nat) (t : State) : (fwEvent c code t).rdF a hi lo = t.rdF a hi lo := by
  rw [State.rdF, State.rdF, fwEvent, emitPage, State.rd_emit]

theorem slotState_congr {t u : State} (h : t.fw = u.fw) (k : Nat) : slotState t k = slotState u k := by rw [slotState, slotState, h]

/-! ### VERIFY and its end (R449) -/

section
variable {port : Port}

theorem gives_fwVerify (hadm : Admits s port Fwim.FW_CMD) (hheld : fwHeld s port = false)
    (hstate : slotState s (inactiveSlot s) = 1 ∨ slotState s (inactiveSlot s) = 2) (hidle : s.fw.verifyAt = none) :
    Gives (.fwVerify port) s (fun t => t.fw.verifyAt = some s.now ∧ Frame [] s t) := by
  have hloaded : ¬(slotState s (inactiveSlot s) ≠ 1 ∧ slotState s (inactiveSlot s) ≠ 2) := by tauto
  have hop : fwCmdWrite port (fwWord 4 0) s = accept { s with fw := { s.fw with verifyAt := some s.now } } := by
    simp only [fwCmdWrite_verify hheld, fwVerifyCmd, if_neg hloaded, hidle, Option.isSome_none, Bool.false_eq_true, if_false]
  exact gives_of_accept rfl hadm unforwarded_fwCmd hop (fun _ _ _ _ => ⟨rfl, frame_hidden (frame_refl [] s) rfl rfl⟩)

end

/-- The state in which VERIFY is judged. -/
def judgedAt (k : Nat) (s : State) : State := { s.reach k with fw := { s.fw with verifyAt := none } }

theorem verifyCode_judgedAt (k n : Nat) (s : State) : verifyCode (judgedAt k s) n = verifyCode s n := rfl

theorem verifyDone_eq {a : Nat} (dt : Nat) (hverify : s.fw.verifyAt = some a) : verifyDone dt s =
    let s1 := judgedAt (min (s.now + dt) (a + 48000000)) s
    if verifyCode s (inactiveSlot s) = 0 then (endFwSession (bootWrite (putSlot (inactiveSlot s) 3 s1))).pulse Fwim.page 1
    else fwEvent .warn (0x20 + verifyCode s (inactiveSlot s)) (lastFail (verifyCode s (inactiveSlot s)) (inactiveSlot s)
      (if slotState s1 (inactiveSlot s) = 2 then s1 else bootWrite (putSlot (inactiveSlot s) 2 s1))) := by
  simp only [verifyDone, hverify]
  rfl

theorem verifyCode_lt (s : State) (n : Nat) : verifyCode s n < 256 := by
  simp only [verifyCode, bootCheck, apply_ite (· < 256)]
  simp

/-- The end of a session whose slot is no longer LOADING. -/
def sessionEnded (u : State) : State := { u.wrF Fwim.FW_STAT 15 12 0 with fw := { u.fw with holder := none } }

/-- The session ends with the slot just verified as it is. -/
theorem endFwSession_verified (s1 : State) :
    endFwSession (bootWrite (putSlot (inactiveSlot s1) 3 s1)) = sessionEnded (bootWrite (putSlot (inactiveSlot s1) 3 s1)) := by
  have hslot : inactiveSlot (bootWrite (putSlot (inactiveSlot s1) 3 s1)) = inactiveSlot s1 :=
    (inactiveSlot_bootWrite _).trans inactiveSlot_putSlot_loaded
  have hstate : slotState (bootWrite (putSlot (inactiveSlot s1) 3 s1)) (inactiveSlot s1) = 3 :=
    (slotState_bootWrite ..).trans (slotState_putSlot_self ..)
  unfold endFwSession
  rw [hslot]
  exact if_neg (fun h => absurd (hstate.symm.trans h) (by decide))

theorem gives_verifyDone_of_right {a : Nat} (dt : Nat) (hverify : s.fw.verifyAt = some a) (hcode : verifyCode s (inactiveSlot s) = 0) :
    Gives (.verifyDone dt) s (fun t => t.fw.verifyAt = none ∧ slotState t (inactiveSlot s) = 3 ∧ t.fw.holder = none ∧
      t.now ≤ max s.now (a + 48000000) ∧ Frame (Fwim.FW_STAT :: irqRegs Fwim.page) s t) := by
  have hlate : max s.now (min (s.now + dt) (a + 48000000)) ≤ max s.now (a + 48000000) := by omega
  refine ⟨verifyDone dt s, rfl, ?_⟩
  rw [verifyDone_eq dt hverify, if_pos hcode]
  generalize hs1 : judgedAt (min (s.now + dt) (a + 48000000)) s = s1
  have hslot : inactiveSlot s1 = inactiveSlot s := hs1 ▸ rfl
  have hnone : s1.fw.verifyAt = none := hs1 ▸ rfl
  have hnow : s1.now ≤ max s.now (a + 48000000) := hs1 ▸ hlate
  have hframe : Frame (Fwim.FW_STAT :: irqRegs Fwim.page) s s1 := hs1 ▸ frame_hidden (frame_refl _ s) rfl rfl
  rw [← hslot, endFwSession_verified]
  generalize hu : bootWrite (putSlot (inactiveSlot s1) 3 s1) = u
  have hrest : slotless u = slotless s1 := hu ▸ (slotless_bootWrite _).trans (slotless_putSlot ..)
  have hstate : slotState u (inactiveSlot s1) = 3 := hu ▸ (slotState_bootWrite ..).trans (slotState_putSlot_self ..)
  have hunow : u.now = s1.now := hu ▸ (now_bootWrite _).trans (now_putSlot ..)
  have huframe : Frame (Fwim.FW_STAT :: irqRegs Fwim.page) s u := hu ▸ frame_bootWrite s (frame_putSlot s _ _ hframe)
  have hverified : u.fw.verifyAt = none := (congrArg FwState.verifyAt hrest).trans hnone
  have hput : Frame (Fwim.FW_STAT :: irqRegs Fwim.page) s (u.wrF Fwim.FW_STAT 15 12 0) := frame_put huframe _ (List.mem_cons_self ..)
  have hend : Frame (Fwim.FW_STAT :: irqRegs Fwim.page) s (sessionEnded u) := frame_hidden hput rfl rfl
  rw [State.pulse_fw, State.pulse_now, slotState_congr (State.pulse_fw ..)]
  exact ⟨hverified, hstate, rfl, hunow.trans_le hnow, frame_pulse hend 1 (List.subset_cons_self ..)⟩

theorem gives_verifyDone_of_wrong {a : Nat} (dt : Nat) (hverify : s.fw.verifyAt = some a) (hcode : verifyCode s (inactiveSlot s) ≠ 0) :
    Gives (.verifyDone dt) s (fun t => t.fw.verifyAt = none ∧ slotState t (inactiveSlot s) = 2 ∧
      t.rdF Fwim.LAST_FAIL 7 0 = verifyCode s (inactiveSlot s) ∧ Frame [Fwim.LAST_FAIL] s t) := by
  refine ⟨verifyDone dt s, rfl, ?_⟩
  rw [verifyDone_eq dt hverify, if_neg hcode]
  generalize hs1 : judgedAt (min (s.now + dt) (a + 48000000)) s = s1
  have hnone : s1.fw.verifyAt = none := hs1 ▸ rfl
  have hframe : Frame [Fwim.LAST_FAIL] s s1 := hs1 ▸ frame_hidden (frame_refl _ s) rfl rfl
  generalize hu : (if slotState s1 (inactiveSlot s) = 2 then s1 else bootWrite (putSlot (inactiveSlot s) 2 s1)) = u
  have hrest : slotless u = slotless s1 := by
    rw [← hu]
    split
    · rfl
    · exact (slotless_bootWrite _).trans (slotless_putSlot ..)
  have hstate : slotState u (inactiveSlot s) = 2 := by
    rw [← hu]
    split
    · next h => exact h
    · exact (slotState_bootWrite ..).trans (slotState_putSlot_self ..)
  have huframe : Frame [Fwim.LAST_FAIL] s u := by
    rw [← hu]
    exact frame_ite hframe (frame_bootWrite s (frame_putSlot s _ _ hframe))
  have hverified : u.fw.verifyAt = none := (congrArg FwState.verifyAt hrest).trans hnone
  have hfw : (fwEvent .warn (0x20 + verifyCode s (inactiveSlot s)) (lastFail (verifyCode s (inactiveSlot s)) (inactiveSlot s) u)).fw = u.fw := by
    rw [fwEvent, emitPage, State.emit_fw, lastFail, State.wr_fw]
  have hput : Frame [Fwim.LAST_FAIL] s (lastFail (verifyCode s (inactiveSlot s)) (inactiveSlot s) u) :=
    frame_put huframe _ (List.mem_cons_self ..)
  rw [hfw, slotState_congr hfw, rdF_fwEvent]
  exact ⟨hverified, hstate, rdF_lastFail (verifyCode_lt ..) .., frame_hidden hput rfl rfl⟩

/-! ### ACTIVATE (R453, R454) -/

section
variable {port : Port}

/-- The handover under way, over a state `u` in which the slots have changed. -/
theorem handoverBegin_effect (back : Bool) (u : State) : fwPhase (handoverBegin back u) = 1 ∧ (handoverBegin back u).fw.actAt = u.now ∧
    (handoverBegin back u).fw.back = back ∧ (∀ k, slotState (handoverBegin back u) k = slotState u k) ∧
    slotless (handoverBegin back u) = { slotless u with actAt := u.now, back := back, retryTick := none } ∧
    ∀ l, Fwim.FW_STAT ∈ l → Frame l u (handoverBegin back u) := by
  refine ⟨fwPhase_wrF (by decide) u, rfl, rfl, fun _ => rfl, rfl, fun l hl => ?_⟩
  have hput : Frame l u (u.wrF Fwim.FW_STAT 26 24 1) := frame_put (frame_refl _ u) _ hl
  exact frame_hidden hput rfl rfl

/-- The slots as ACTIVATE leaves them, with the boot record written. -/
def activated (n : Nat) (s : State) : State :=
  bootWrite { putSlot n 4 (putSlot (1 - n) 6 s) with fw := { (putSlot n 4 (putSlot (1 - n) 6 s)).fw with active := n } }

theorem activated_effect (s : State) {n : Nat} (hn : n < 2) : slotState (activated n s) n = 4 ∧ slotState (activated n s) (1 - n) = 6 ∧
    slotless (activated n s) = { slotless s with active := n } ∧ (activated n s).now = s.now ∧ ∀ l, Frame l s (activated n s) := by
  have hslots : slotless (putSlot n 4 (putSlot (1 - n) 6 s)) = slotless s := (slotless_putSlot ..).trans (slotless_putSlot ..)
  refine ⟨?_, ?_, ?_, ?_, fun l => ?_⟩
  · exact (slotState_bootWrite ..).trans (slotState_putSlot_self ..)
  · exact (slotState_bootWrite ..).trans ((slotState_putSlot_other _ 4 hn).trans (slotState_putSlot_self ..))
  · exact (slotless_bootWrite _).trans (congrArg (fun x : FwState => { x with active := n }) hslots)
  · exact (now_bootWrite _).trans ((now_putSlot ..).trans (now_putSlot ..))
  · have hput : Frame l s (putSlot n 4 (putSlot (1 - n) 6 s)) := frame_putSlot s _ _ (frame_putSlot s _ _ (frame_refl _ s))
    exact frame_bootWrite s (frame_hidden hput rfl rfl)

theorem gives_fwActivate (hadm : Admits s port Fwim.FW_CMD) (hheld : fwHeld s port = false) (hn : n = inactiveSlot s)
    (hlock : lockOpen s Fwim.page = true) (hphase : s.phase ≠ 10) (hstate : slotState s n = 3) (hother : slotState s (1 - n) = 5)
    (hfree : s.fw.holder = none) (hpair : supPair s = 0) (hidle : fwPhase s = 0)
    (hmin : fld (slotWord s n 6) 15 8 ≤ s.rdF Fwim.RUN_FMT 7 0) (hmax : s.rdF Fwim.RUN_FMT 7 0 ≤ fld (slotWord s n 6) 7 0)
    (harb : s.fw.arb ≤ slotArb s n) : Gives (.fwActivate port) s (fun t => slotState t n = 4 ∧ slotState t (1 - n) = 6 ∧ t.fw.active = n ∧
      fwPhase t = 1 ∧ t.fw.actAt = s.now ∧ t.fw.back = false ∧ Frame [Fwim.FW_STAT] s t) := by
  have hop : fwCmdWrite port (fwWord 5 0) s = accept (handoverBegin false (activated n s)) := by
    simp only [fwCmdWrite_activate hheld hlock, fwActivateCmd, if_neg hphase, ← hn, hstate, hother, hfree, hpair, hidle, Option.isSome_none,
      ne_eq, not_true_eq_false, Bool.false_eq_true, or_self, if_false, Nat.not_lt.mpr hmin, Nat.not_lt.mpr hmax, Nat.not_lt.mpr harb]
    rfl
  obtain ⟨htrial, hprev, hrest, hnow, hframe⟩ := activated_effect s (hn ▸ inactiveSlot_lt s)
  obtain ⟨hph, hact, hback, hslots, hstore, hbegin⟩ := handoverBegin_effect false (activated n s)
  have hactive : (handoverBegin false (activated n s)).fw.active = n :=
    (congrArg FwState.active hstore).trans (congrArg FwState.active hrest)
  refine gives_of_accept rfl hadm unforwarded_fwCmd hop (fun f x c w => ⟨(hslots _).trans htrial, (hslots _).trans hprev, hactive, ?_,
    hact.trans hnow, hback, frame_beside (frame_trans (hframe _) (hbegin _ (List.mem_cons_self ..)))⟩)
  rw [fwPhase_beside, hph]

theorem gives_fwActivate_of_recovery (hadm : Admits s port Fwim.FW_CMD) (hheld : fwHeld s port = false) (hlock : lockOpen s Fwim.page = true)
    (hphase : s.phase = 10) (hstate : slotState s 0 = 3) (harb : s.fw.arb ≤ slotArb s 0) : Gives (.fwActivate port) s (fun t =>
      t.rdB Bup.RST_CAUSE 5 = true ∧ t.phase = 1 ∧ ∀ x, t.rdByte x = 0) := by
  generalize hr : ({ bootWrite (makeGood 0 s) with fw := { (bootWrite (makeGood 0 s)).fw with bootAt := none } } : State) = r
  have hop : fwCmdWrite port (fwWord 5 0) s = accept (sysReset [5] r) := by
    simp only [fwCmdWrite_activate hheld hlock, fwActivateCmd, if_pos hphase, hstate, ne_eq, not_true_eq_false, if_false, Nat.not_lt.mpr harb, ← hr]
  refine gives_of_accept rfl hadm unforwarded_fwCmd hop (fun f x c w => ⟨?_, ?_, fun a => ?_⟩)
  · rw [rdB_beside, cause_sysReset r (by decide)]
  · rw [phase_beside, phase_sysReset]
  · rw [rdByte_beside, State.rdByte, mem_sysReset]
    rfl

/-! ### CONFIRM and REJECT (R455, R456) -/

/-- The image confirmed, with the boot record written and the counter against roll-back raised. -/
def confirmed (m : Nat) (s : State) : State :=
  let u := raiseArb m (bootWrite (putSlot m 5 s))
  ({ u with fw := { u.fw with trialAt := none } } : State).pulse Fwim.page 3

theorem confirmed_effect (m : Nat) (s : State) : slotState (confirmed m s) m = 5 ∧ (confirmed m s).fw.arb = max s.fw.arb (slotArb s m) ∧
    (confirmed m s).fw.trialAt = none ∧ Frame (Fwim.FW_STAT :: irqRegs Fwim.page) s (confirmed m s) := by
  have hrest : slotless (bootWrite (putSlot m 5 s)) = slotless s := (slotless_bootWrite _).trans (slotless_putSlot ..)
  have hstate : slotState (bootWrite (putSlot m 5 s)) m = 5 := (slotState_bootWrite ..).trans (slotState_putSlot_self ..)
  have hframe : Frame (Fwim.FW_STAT :: irqRegs Fwim.page) s (bootWrite (putSlot m 5 s)) :=
    frame_bootWrite s (frame_putSlot s _ _ (frame_refl _ s))
  have himg : (bootWrite (putSlot m 5 s)).fw.img = s.fw.img := by simpa only [slotless] using congrArg FwState.img hrest
  have hcounter : (bootWrite (putSlot m 5 s)).fw.arb = s.fw.arb := by simpa only [slotless] using congrArg FwState.arb hrest
  have harb : slotArb (bootWrite (putSlot m 5 s)) m = slotArb s m := by rw [slotArb, slotArb, slotWord, slotWord, himg]
  unfold confirmed
  generalize bootWrite (putSlot m 5 s) = u at *
  have hraised : Frame (Fwim.FW_STAT :: irqRegs Fwim.page) s { raiseArb m u with fw := { (raiseArb m u).fw with trialAt := none } } :=
    frame_hidden hframe rfl rfl
  refine ⟨?_, ?_, ?_, frame_pulse hraised 3 (List.subset_cons_self ..)⟩
  · rw [slotState_congr (State.pulse_fw ..)]
    exact hstate
  · rw [State.pulse_fw]
    change max u.fw.arb (slotArb u m) = _
    rw [hcounter, harb]
  · rw [State.pulse_fw]

theorem gives_fwConfirm (hadm : Admits s port Fwim.FW_CMD) (hheld : fwHeld s port = false) (htrial : slotIn s 4 = some m)
    (hport : port = .tykor1) (hpair : supPair s = 1) (hidle : fwPhase s = 0) : Gives (.fwConfirm port) s (fun t => slotState t m = 5 ∧
      t.fw.arb = max s.fw.arb (slotArb s m) ∧ t.fw.trialAt = none ∧ fwPhase t = 1 ∧ t.fw.back = true ∧
      Frame (Fwim.FW_STAT :: irqRegs Fwim.page) s t) := by
  subst hport
  have hop : fwCmdWrite .tykor1 (fwWord 6 0) s = accept (handoverBegin true (confirmed m s)) := by
    simp only [fwCmdWrite_confirm hheld, fwConfirmCmd, htrial, hpair, hidle, ne_eq, not_true_eq_false, or_self, if_false]
    rfl
  obtain ⟨hstate, harb, hnone, hframe⟩ := confirmed_effect m s
  obtain ⟨hph, -, hback, hslots, hstore, hbegin⟩ := handoverBegin_effect true (confirmed m s)
  have hcounter := (congrArg FwState.arb hstore).trans harb
  have htimer := (congrArg FwState.trialAt hstore).trans hnone
  refine gives_of_accept rfl hadm unforwarded_fwCmd hop (fun f x c w => ⟨(hslots m).trans hstate, hcounter, htimer, ?_, hback,
    frame_beside (frame_trans hframe (hbegin _ (List.mem_cons_self ..)))⟩)
  rw [fwPhase_beside, hph]

theorem gives_fwConfirm_of_other (hadm : Admits s port Fwim.FW_CMD) (hheld : fwHeld s port = false) (htrial : slotIn s 4 = some m)
    (hport : port ≠ .tykor1) : Gives (.fwConfirm port) s (fun t => t.fw = s.fw) := by
  have hop : fwCmdWrite port (fwWord 6 0) s = deny s .denied := by
    simp only [fwCmdWrite_confirm hheld, fwConfirmCmd, htrial, ne_eq, hport, not_false_eq_true, if_true]
  refine gives_of_deny rfl hadm (by decide) hop (by decide) (by decide) (fun c' w _ => ?_)
  simp only [beside, State.refuseAt_fw]

/-- A failed slot falls back to the other where that is the PREVIOUS one. -/
def fallen (m : Nat) (s : State) : State :=
  bootWrite (if slotState (putSlot m 7 s) (1 - m) = 6 then makeGood (1 - m) (putSlot m 7 s) else putSlot m 7 s)

theorem fallen_effect (s : State) (hm : m < 2) : slotState (fallen m s) m = 7 ∧
    (slotState s (1 - m) = 6 → slotState (fallen m s) (1 - m) = 5 ∧ (fallen m s).fw.active = 1 - m) ∧ (fallen m s).now = s.now ∧
    ∀ l, Frame l s (fallen m s) := by
  have hself : slotState (putSlot m 7 s) m = 7 := slotState_putSlot_self ..
  have hput : ∀ l, Frame l s (putSlot m 7 s) := fun l => frame_putSlot s _ _ (frame_refl _ s)
  have hgood : slotState (makeGood (1 - m) (putSlot m 7 s)) m = 7 := (slotState_putSlot_of_other _ 5 hm).trans hself
  refine ⟨?_, fun hprev => ?_, ?_, fun l => frame_bootWrite s ?_⟩
  · refine (slotState_bootWrite ..).trans ?_
    split
    · exact hgood
    · exact hself
  · have hcond : slotState (putSlot m 7 s) (1 - m) = 6 := (slotState_putSlot_other _ 7 hm).trans hprev
    rw [fallen, if_pos hcond]
    exact ⟨(slotState_bootWrite ..).trans (slotState_putSlot_self ..), congrArg FwState.active (slotless_bootWrite _)⟩
  · refine (now_bootWrite _).trans ?_
    split
    · exact (now_putSlot ..).trans (now_putSlot ..)
    · exact now_putSlot ..
  · have hmade : Frame l s (makeGood (1 - m) (putSlot m 7 s)) := frame_hidden (frame_putSlot s _ _ (hput l)) rfl rfl
    exact frame_ite hmade (hput l)

/-- The state of a trial that has failed, with the previous image active again and the trial over. -/
def trialLost (m : Nat) (s : State) : State :=
  { (fallen m s).wrF Fwim.FW_STAT 26 24 0 with
    fw := { (fallen m s).fw with trialAt := none, back := false, resume := decide (supPair (fallen m s) = 1) } }

theorem fallBack_eq (code : Nat) (htrial : slotIn s 4 = some m) :
    fallBack code s = fwEvent .fault (0x20 + code) ((lastFail code m (trialLost m s)).pulse Fwim.page 4) := by
  simp only [fallBack, htrial]
  rfl

theorem fallBack_effect {code : Nat} (hcode : code < 256) (htrial : slotIn s 4 = some m) : slotState (fallBack code s) m = 7 ∧
    fwPhase (fallBack code s) = 0 ∧ (fallBack code s).fw.trialAt = none ∧ (fallBack code s).rdF Fwim.LAST_FAIL 7 0 = code ∧
    (fallBack code s).now = s.now ∧ Frame ([Fwim.FW_STAT, Fwim.LAST_FAIL] ++ irqRegs Fwim.page) s (fallBack code s) := by
  obtain ⟨hstate, -, hnow, hframe⟩ := fallen_effect s (slotIn_spec htrial).1
  rw [fallBack_eq code htrial]
  have hput : Frame ([Fwim.FW_STAT, Fwim.LAST_FAIL] ++ irqRegs Fwim.page) s ((fallen m s).wrF Fwim.FW_STAT 26 24 0) :=
    frame_put (hframe _) _ (by simp)
  have hend : Frame ([Fwim.FW_STAT, Fwim.LAST_FAIL] ++ irqRegs Fwim.page) s (trialLost m s) := frame_hidden hput rfl rfl
  have hph : fwPhase (trialLost m s) = 0 := fwPhase_wrF (by decide) (fallen m s)
  have hlostNow : (trialLost m s).now = s.now := (State.wrF_now (fallen m s) Fwim.FW_STAT 26 24 0).trans hnow
  have hlostState : slotState (trialLost m s) m = 7 := hstate
  have hlostTrial : (trialLost m s).fw.trialAt = none := rfl
  generalize trialLost m s = u at *
  have hfw : (fwEvent .fault (0x20 + code) ((lastFail code m u).pulse Fwim.page 4)).fw = u.fw := by
    rw [fwEvent, emitPage, State.emit_fw, State.pulse_fw, lastFail, State.wr_fw]
  have hfail : Frame ([Fwim.FW_STAT, Fwim.LAST_FAIL] ++ irqRegs Fwim.page) s ((lastFail code m u).pulse Fwim.page 4) :=
    frame_pulse (frame_put hend _ (by simp)) 4 (List.subset_append_right ..)
  refine ⟨(slotState_congr hfw m).trans hlostState, ?_, (congrArg FwState.trialAt hfw).trans hlostTrial, ?_, ?_, frame_hidden hfail rfl rfl⟩
  · rw [fwPhase, rdF_fwEvent, ← fwPhase, fwPhase_pulse, fwPhase_lastFail, hph]
  · rw [rdF_fwEvent, State.rdF, State.rd_pulse_ne _ _ _ _ (by decide) (by decide), ← State.rdF, rdF_lastFail hcode]
  · rw [fwEvent, emitPage, State.emit_now, State.pulse_now, lastFail, State.wr_now, hlostNow]

theorem gives_fwReject (hadm : Admits s port Fwim.FW_CMD) (hheld : fwHeld s port = false) (htrial : slotIn s 4 = some m)
    (hlock : lockOpen s Fwim.page = true) : Gives (.fwReject port) s (fun t => slotState t m = 7 ∧ fwPhase t = 0 ∧ t.fw.trialAt = none ∧
      t.rdF Fwim.LAST_FAIL 7 0 = 0xB ∧ Frame ([Fwim.FW_STAT, Fwim.LAST_FAIL] ++ irqRegs Fwim.page) s t) := by
  have hop : fwCmdWrite port (fwWord 7 0) s = accept (fallBack 0x0B s) := by
    simp only [fwCmdWrite_reject hheld hlock, fwRejectCmd, htrial, Option.isNone_some, Bool.false_eq_true, if_false]
  obtain ⟨hstate, hph, htimer, hfail, -, hframe⟩ := fallBack_effect (code := 0x0B) (by decide) htrial
  generalize fallBack 0x0B s = u at *
  refine gives_of_accept rfl hadm unforwarded_fwCmd hop (fun f x c w => ⟨hstate, ?_, htimer, ?_, frame_beside hframe⟩)
  · rw [fwPhase_beside, hph]
  · rw [rdF_beside, hfail]

end

theorem gives_trialTimeout {a : Nat} (hstart : s.fw.trialAt = some a) (htrial : slotIn s 4 = some m) : Gives .trialTimeout s (fun t =>
    slotState t m = 7 ∧ t.fw.trialAt = none ∧ t.rdF Fwim.LAST_FAIL 7 0 = 0xA ∧ a + 24000000000 ≤ t.now ∧
    Frame ([Fwim.FW_STAT, Fwim.LAST_FAIL] ++ irqRegs Fwim.page) s t) := by
  have htrial' : slotIn (s.reach (a + 24000000000)) 4 = some m := htrial
  obtain ⟨hstate, -, htimer, hfail, hnow, hframe⟩ := fallBack_effect (code := 0x0A) (by decide) htrial'
  refine ⟨trialTimeout s, rfl, ?_⟩
  simp only [trialTimeout, hstart]
  have hlate : a + 24000000000 ≤ (s.reach (a + 24000000000)).now := Nat.le_max_right ..
  have hreach : Frame ([Fwim.FW_STAT, Fwim.LAST_FAIL] ++ irqRegs Fwim.page) s (s.reach (a + 24000000000)) :=
    frame_hidden (frame_refl _ s) rfl rfl
  exact ⟨hstate, htimer, hfail, hnow ▸ hlate, frame_trans hreach hframe⟩

/-! ### READY, HANDOFF and the return of supervision (R453, R455) -/

theorem gives_pairReady (dt : Nat) (hphase : fwPhase s = 1) : Gives (.pairReady dt) s (fun t => fwPhase t = 3 ∧
    t.now ≤ max s.now (s.fw.actAt + 160000000) ∧ Frame (Fwim.FW_STAT :: irqRegs Fwim.page) s t) := by
  refine ⟨pairReady dt s, rfl, ?_⟩
  rw [pairReady, if_pos hphase]
  have hreach : Frame (Fwim.FW_STAT :: irqRegs Fwim.page) s (s.reach (min (s.now + dt) (s.fw.actAt + 160000000))) :=
    frame_hidden (frame_refl _ s) rfl rfl
  have hlate : (s.reach (min (s.now + dt) (s.fw.actAt + 160000000))).now ≤ max s.now (s.fw.actAt + 160000000) := by
    change max s.now (min (s.now + dt) (s.fw.actAt + 160000000)) ≤ _
    omega
  refine ⟨?_, ?_, frame_pulse (frame_put hreach _ (List.mem_cons_self ..)) 6 (List.subset_cons_self ..)⟩
  · rw [fwPhase_pulse, fwPhase_wrF (by decide)]
  · rw [State.pulse_now, State.wrF_now]
    exact hlate

/-- The handover is over at its time limit. -/
def handoverOver (s : State) : State := (s.reach (s.fw.actAt + 160000000)).wrF Fwim.FW_STAT 26 24 0

theorem handoverOver_effect (s : State) : fwPhase (handoverOver s) = 0 ∧ (handoverOver s).fw = s.fw ∧
    s.fw.actAt + 160000000 ≤ (handoverOver s).now ∧ ∀ l, Fwim.FW_STAT ∈ l → Frame l s (handoverOver s) := by
  refine ⟨fwPhase_wrF (by decide) _, State.wrF_fw .., ?_, fun l hl => ?_⟩
  · rw [handoverOver, State.wrF_now]
    exact Nat.le_max_right ..
  · have hreach : Frame l s (s.reach (s.fw.actAt + 160000000)) := frame_hidden (frame_refl _ s) rfl rfl
    exact frame_put hreach _ hl

theorem gives_readyTimeout_of_return (hphase : fwPhase s = 1) (hback : s.fw.back = true) : Gives .readyTimeout s (fun t => fwPhase t = 0 ∧
    t.fw.retryTick = some ((t.engine / 800000000 + 1) * 800000000) ∧ s.fw.actAt + 160000000 ≤ t.now ∧ Frame [Fwim.FW_STAT] s t) := by
  obtain ⟨hph, -, hnow, hframe⟩ := handoverOver_effect s
  have hop : readyTimeout s = fwEvent .fault 0xFF { handoverOver s with
      fw := { (handoverOver s).fw with retryTick := some (((handoverOver s).engine / 800000000 + 1) * 800000000) } } := by
    rw [readyTimeout, if_neg (not_not.mpr hphase)]
    exact if_pos hback
  refine ⟨readyTimeout s, rfl, ?_⟩
  rw [hop]
  have hover := hframe [Fwim.FW_STAT] (List.mem_cons_self ..)
  generalize handoverOver s = u at *
  exact ⟨hph, rfl, hnow, frame_hidden hover rfl rfl⟩

theorem gives_readyTimeout_of_trial (hphase : fwPhase s = 1) (hback : s.fw.back = false) (htrial : slotIn s 4 = some m)
    (hprev : slotState s (1 - m) = 6) : Gives .readyTimeout s (fun t => fwPhase t = 0 ∧ slotState t m = 7 ∧ slotState t (1 - m) = 5 ∧
      t.fw.active = 1 - m ∧ t.rdF Fwim.LAST_FAIL 7 0 = 9 ∧ Frame [Fwim.FW_STAT, Fwim.LAST_FAIL] s t) := by
  obtain ⟨hph, hfw, -, hframe⟩ := handoverOver_effect s
  have htrial' : slotIn (handoverOver s) 4 = some m := by
    rw [← htrial, slotIn, slotIn]
    exact congrArg (fun x : FwState => [0, 1].find? (fun n => decide ((if n = 0 then x.st0 else x.st1) = 4))) hfw
  have hop : readyTimeout s = fwEvent .fault 0x29 (lastFail 9 m (fallen m (handoverOver s))) := by
    rw [readyTimeout, if_neg (not_not.mpr hphase), hback, if_neg Bool.false_ne_true]
    change (match slotIn (handoverOver s) 4 with | some n => _ | none => _) = _
    rw [htrial']
    rfl
  obtain ⟨hstate, hgood, -, hfall⟩ := fallen_effect (handoverOver s) (slotIn_spec htrial).1
  obtain ⟨hother, hactive⟩ := hgood ((slotState_congr hfw _).trans hprev)
  have hover := frame_trans (hframe [Fwim.FW_STAT, Fwim.LAST_FAIL] (List.mem_cons_self ..)) (hfall _)
  have hph' : fwPhase (fallen m (handoverOver s)) = 0 := by
    rw [← hph, fwPhase, fwPhase, State.rdF, State.rdF, (hfall []).1 _ (List.not_mem_nil)]
  refine ⟨readyTimeout s, rfl, ?_⟩
  rw [hop]
  generalize fallen m (handoverOver s) = u at *
  have hfw' : (fwEvent .fault 0x29 (lastFail 9 m u)).fw = u.fw := by rw [fwEvent, emitPage, State.emit_fw, lastFail, State.wr_fw]
  have hput : Frame [Fwim.FW_STAT, Fwim.LAST_FAIL] s (lastFail 9 m u) := frame_put hover _ (by simp)
  refine ⟨?_, (slotState_congr hfw' m).trans hstate, (slotState_congr hfw' _).trans hother, (congrArg FwState.active hfw').trans hactive, ?_,
    frame_hidden hput rfl rfl⟩
  · rw [fwPhase, rdF_fwEvent, ← fwPhase, fwPhase_lastFail, hph']
  · rw [rdF_fwEvent, rdF_lastFail (by decide)]

theorem gives_handoff (hphase : fwPhase s = 3) : Gives .handoff s (fun t => fwPhase t = 4 ∧ Frame [Fwim.FW_STAT] s t) := by
  refine ⟨handoffCmd s, rfl, ?_⟩
  rw [handoffCmd, if_pos hphase]
  exact ⟨fwPhase_wrF (by decide) s, frame_put (frame_refl _ s) _ (List.mem_cons_self ..)⟩

theorem gives_supervisionReturnRetry {a : Nat} (hretry : s.fw.retryTick = some a) : Gives .supervisionReturnRetry s (fun t => fwPhase t = 1 ∧
    t.fw.back = true ∧ t.fw.retryTick = none ∧ s.ofTick a ≤ t.now ∧ t.fw.actAt = t.now ∧ Frame [Fwim.FW_STAT] s t) := by
  obtain ⟨hph, hact, hback, -, hstore, hbegin⟩ := handoverBegin_effect true (s.reach (s.ofTick a))
  have hnow : (handoverBegin true (s.reach (s.ofTick a))).now = max s.now (s.ofTick a) :=
    State.wrF_now (s.reach (s.ofTick a)) Fwim.FW_STAT 26 24 1
  have hreach : Frame [Fwim.FW_STAT] s (s.reach (s.ofTick a)) := frame_hidden (frame_refl _ s) rfl rfl
  refine ⟨returnRetry s, rfl, ?_⟩
  simp only [returnRetry, hretry]
  exact ⟨hph, hback, rfl, hnow ▸ Nat.le_max_right .., hact.trans hnow.symm, frame_trans hreach (hbegin _ (List.mem_cons_self ..))⟩

end

/-- Settles O24: each operation by what it does to the two slots, to PHASE and to the session. -/
theorem imagesAreVerifiedHandedOverAndTried : Obligations.ImagesAreVerifiedHandedOverAndTried := by
  intro port n m a dt s hn
  refine ⟨fun hadm hheld => ⟨?verify, ?activate, gives_fwActivate_of_recovery hadm hheld, fun htrial => ⟨?confirm, ?other, ?reject⟩⟩, ?done, ?wait,
    gives_handoff, fun hstart htrial => gives_trialTimeout hstart htrial, gives_supervisionReturnRetry⟩
  case verify => exact fun hstate hidle => gives_fwVerify hadm hheld (hn ▸ hstate) hidle
  case activate => exact fun hlock hphase => gives_fwActivate hadm hheld hn hlock hphase
  case confirm => exact gives_fwConfirm hadm hheld htrial
  case other => exact gives_fwConfirm_of_other hadm hheld htrial
  case reject => exact gives_fwReject hadm hheld htrial
  case done =>
    subst hn
    exact fun hverify => ⟨gives_verifyDone_of_right dt hverify, gives_verifyDone_of_wrong dt hverify⟩
  case wait =>
    exact fun hphase => ⟨gives_pairReady dt hphase, gives_readyTimeout_of_return hphase, gives_readyTimeout_of_trial hphase⟩

end Sys2Proof.Laws.Images
end

section
/-! PROOFS. The eligibility that a standby shows, and the messages that reach registers with their answers (R356, R360, R364, R372). -/

namespace Sys2Proof.Laws.LinkMessages
open Sys2Proof.Machine Sys2Proof.Safety Sys2Proof.Laws.Fabric Sys2Proof.Laws.Frames Sys2Proof.Laws.ProtDisplay Sys2Proof.Laws.Ethernet

/-! ### Eligibility (R364) -/

section
variable (s : State)

theorem twin_updEligible : (updEligible s).twin = s.twin := by
  simp only [updEligible, twinEvent, emitPage, apply_ite State.twin, State.emit_twin, State.pulse_twin, State.wrB_twin, ite_self]

theorem now_updEligible : (updEligible s).now = s.now := by
  simp only [updEligible, twinEvent, emitPage, apply_ite State.now, State.emit_now, State.pulse_now, State.wrB_now, ite_self]

theorem frame_updEligible {l : List Nat} {t : State} (h : Frame l s t) (hl : Twin.STATE :: irqRegs Twin.page ⊆ l) : Frame l s (updEligible t) := by
  have hput : ∀ e, Frame l s (t.wrB Twin.STATE 17 e) := fun e => frame_putBit h 17 e (hl (List.mem_cons_self ..))
  have hirq : irqRegs Twin.page ⊆ l := fun a ha => hl (List.mem_cons_of_mem _ ha)
  unfold updEligible
  exact frame_ite (frame_hidden (frame_pulse (hput _) 5 hirq) rfl rfl) (hput _)

/-- Eligibility shows in bit 17 of STATE alone. -/
theorem rd_state_updEligible : (updEligible s).rd Twin.STATE = setBit (s.rd Twin.STATE) 17 (eligible s) := by
  have hput : (s.wrB Twin.STATE 17 (eligible s)).rd Twin.STATE = setBit (s.rd Twin.STATE) 17 (eligible s) := by
    rw [State.rd_wrB, if_pos rfl]
  unfold updEligible
  dsimp only
  split
  · rw [twinEvent, emitPage, State.rd_emit, State.rd_pulse_ne _ _ _ _ (by decide) (by decide), hput]
  · exact hput

theorem twinState_updEligible : twinState (updEligible s) = twinState s := by
  rw [twinState, State.rdF, rd_state_updEligible, fld_setBit_apart _ _ (by decide) (by decide)]
  rfl

end

/-! ### Messages taken once (R356) -/

section
variable {s : State} {q : Nat}

theorem answered_answerMsg (m : TwinMsg) (s : State) : answered (answerMsg q m s) q = some m := by
  simp [answered, answerMsg, twinSend]

theorem answered_congr {t : State} (h : t.twin = s.twin) (q : Nat) : answered t q = answered s q := by rw [answered, answered, h]

theorem gives_twinWrite_of_new {body : List Nat} (env : WriteEnv) (copy : Bool) (hserve : linkServes s = true)
    (hnew : answered s (bytesNat (body.take 2)) = none) : Gives (.twinWrite body env copy) s (fun t => ∃ m,
      m.kind = 8 ∧ m.bulk = body.take 2 ++ [(takeEntries copy env ((List.range (body.getD 2 0)).map (writeEntry body)) s).2.num] ∧
      t.twin.queue.getLast? = some m ∧ answered t (bytesNat (body.take 2)) = some m) := by
  refine ⟨twinWriteTake copy env body s, rfl, ?_⟩
  generalize hr : takeEntries copy env ((List.range (body.getD 2 0)).map (writeEntry body)) s = r
  obtain ⟨u, hu⟩ : ∃ u, twinWriteTake copy env body s =
      updEligible (answerMsg (bytesNat (body.take 2)) { kind := 8, bulk := body.take 2 ++ [r.2.num] } u) := by
    simp only [twinWriteTake, hserve, Bool.not_true, Bool.false_eq_true, if_false, hnew, hr]
    exact ⟨_, rfl⟩
  refine ⟨{ kind := 8, bulk := body.take 2 ++ [r.2.num] }, rfl, rfl, ?_, ?_⟩
  · rw [hu, twin_updEligible]
    exact List.getLast?_concat
  · rw [hu, answered_congr (twin_updEligible _), answered_answerMsg]

theorem gives_twinWrite_of_empty {body : List Nat} (env : WriteEnv) (copy : Bool) (hserve : linkServes s = true)
    (hnew : answered s (bytesNat (body.take 2)) = none) (hnone : body.getD 2 0 = 0) :
    Gives (.twinWrite body env copy) s (fun t => Frame (Twin.STATE :: irqRegs Twin.page) s t) := by
  refine ⟨twinWriteTake copy env body s, rfl, ?_⟩
  have hop : twinWriteTake copy env body s =
      updEligible (answerMsg (bytesNat (body.take 2)) { kind := 8, bulk := body.take 2 ++ [RefCode.none.num] } s) := by
    have htaken : takeEntries copy env ((List.range (body.getD 2 0)).map (writeEntry body)) s = (s, .none) := by
      rw [hnone]
      rfl
    simp only [twinWriteTake, hserve, Bool.not_true, Bool.false_eq_true, if_false, hnew, htaken, ne_eq, not_true_eq_false, false_and]
  have hsent : ∀ m, Frame (Twin.STATE :: irqRegs Twin.page) s (answerMsg (bytesNat (body.take 2)) m s) := fun m =>
    frame_hidden (frame_refl _ s) rfl rfl
  rw [hop]
  exact frame_updEligible s (hsent _) (List.Subset.refl _)

/-- A number already answered: the kept answer goes out again. -/
theorem gives_again {body : List Nat} (env : WriteEnv) (copy : Bool) {m : TwinMsg} (hserve : linkServes s = true)
    (hdone : answered s (bytesNat (body.take 2)) = some m) :
    Gives (.twinWrite body env copy) s (fun t => t.twin.queue = s.twin.queue ++ [m] ∧ Frame [] s t) ∧
    Gives (.twinReadReq body) s (fun t => t.twin.queue = s.twin.queue ++ [m] ∧ Frame [] s t) := by
  have hwrite : twinWriteTake copy env body s = twinSend m s := by
    simp only [twinWriteTake, hserve, Bool.not_true, Bool.false_eq_true, if_false, hdone]
  have hread : readReqTake body s = twinSend m s := by
    simp only [readReqTake, hserve, Bool.not_true, Bool.false_eq_true, if_false, hdone]
  have hframe : Frame [] s (twinSend m s) := frame_hidden (frame_refl _ s) rfl rfl
  exact ⟨⟨_, congrArg Host.Outcome.next hwrite, rfl, hframe⟩, ⟨_, congrArg Host.Outcome.next hread, rfl, hframe⟩⟩

/-! ### READ_REQ (R372) -/

theorem mem_readWord (r : Reader) (a : Nat) (s : State) : (readWord r a s).2.mem = s.mem := by
  unfold readWord
  split
  · split
    · simp only [readSnapGen]
      split <;> rfl
    · split
      · exact State.wr_mem ..
      · split <;> rfl
  · rfl

theorem mem_readWords (r : Reader) (n a : Nat) (s : State) : (readWords r n a s).2.mem = s.mem := by
  induction n generalizing a s with
  | zero => rfl
  | succ n ih =>
    have hword := mem_readWord r a s
    rw [readWords]
    split
    · next heq =>
      rw [heq] at hword
      exact (ih ..).trans hword
    · next heq =>
      rw [heq] at hword
      exact hword

theorem gives_twinReadReq {body : List Nat} (hserve : linkServes s = true) (hnew : answered s (bytesNat (body.take 2)) = none) :
    Gives (.twinReadReq body) s (fun t => (∃ m l, t.twin.queue.getLast? = some m ∧ m.kind = 7 ∧
      m.bulk = body.take 2 ++ l ∧ answered t (bytesNat (body.take 2)) = some m) ∧ ∀ a, t.rdByte a = s.rdByte a) := by
  refine ⟨readReqTake body s, rfl, ?_⟩
  have hmem := mem_readWords (.port .twin) (body.getD 5 0) (wordAddr (bytesNat ((body.drop 2).take 3))) s
  simp only [readReqTake, hserve, Bool.not_true, Bool.false_eq_true, if_false, hnew]
  generalize readWords (.port .twin) (body.getD 5 0) (wordAddr (bytesNat ((body.drop 2).take 3))) s = r at hmem ⊢
  exact ⟨⟨_, [r.1.2.num, body.getD 5 0] ++ wordsBytes r.1.1, List.getLast?_concat, rfl, List.append_assoc .., answered_answerMsg ..⟩,
    rdByte_congr hmem⟩

/-! ### Answers (R372) -/

theorem waitsFor_dropAsked {kind : Nat} (hkind : kind = 5 ∨ kind = 6) (q : Nat) (s : State) : waitsFor (dropAsked q s) kind q = none := by
  rw [waitsFor, List.find?_eq_none]
  intro m hm hwait
  obtain ⟨-, hkeep⟩ := List.mem_filter.mp hm
  obtain ⟨rfl, rfl⟩ := of_decide_eq_true hwait
  simp [hkind] at hkeep

theorem waitsFor_congr {t : State} (h : t.twin.asked = s.twin.asked) (kind q : Nat) : waitsFor t kind q = waitsFor s kind q := by
  rw [waitsFor, waitsFor, h]

theorem frame_dropAsked (q : Nat) (s : State) : Frame [] s (dropAsked q s) := frame_hidden (frame_refl _ s) rfl rfl

theorem frame_dmaAnswer (k code : Nat) (ws : List Word) (s : State) : Frame [] s (dmaAnswer k code ws s) := by
  unfold dmaAnswer
  split
  · exact frame_ite (frame_hidden (frame_refl _ s) rfl rfl) (frame_refl _ s)
  · exact frame_refl _ s

theorem dmaAnswer_of_asked {k : Nat} {r : DmaRun} (code : Nat) (ws : List Word) (hrun : dmaRunOf s k = some r) (hasked : r.asked = true) :
    dmaAnswer k code ws s = putDma k (some { r with answer := some (code, ws) }) s := by
  rw [dmaAnswer, hrun]
  exact if_pos hasked

theorem asked_dmaAnswer (k code : Nat) (ws : List Word) (s : State) : (dmaAnswer k code ws s).twin.asked = s.twin.asked := by
  unfold dmaAnswer
  split
  · split <;> rfl
  · rfl

theorem frame_endRemote (c : RefCode) (s : State) : Frame [] s (endRemote c s) := by
  unfold endRemote
  extract_lets s1 s2
  have hs1 : s1.regs = s.regs ∧ s1.mem = s.mem := by
    simp only [s1]
    split <;> exact ⟨rfl, rfl⟩
  have hs2 : s2.regs = s.regs ∧ s2.mem = s.mem := by
    simp only [s2]
    split <;> exact hs1
  exact frame_hidden (frame_refl _ s) hs2.1 hs2.2

theorem asked_endRemote (c : RefCode) (s : State) : (endRemote c s).twin.asked = s.twin.asked := by
  unfold endRemote
  dsimp only
  split <;> split <;> rfl

/-- The host's read of the twin's space as far as it has come. -/
def readSoFar (r : RemoteRead) (s : State) : State := { s with twin := { s.twin with read := some r } }

/-- The read with more words, or with the zeros that follow a refusal. -/
def readNext (code : Nat) (ws : List Word) (r : RemoteRead) : RemoteRead :=
  { r with got := r.got ++ (if r.code = 0 then ws else ws.map (fun _ => 0)), code := if r.code = 0 then code else r.code }

theorem hostWords_of_read {r : RemoteRead} (code : Nat) (ws : List Word) (hread : s.twin.read = some r) : hostWords code ws s =
    if (readNext code ws r).words ≤ (readNext code ws r).got.length then endRemote (codeOf (readNext code ws r).code) (readSoFar (readNext code ws r) s)
    else readSoFar (readNext code ws r) s := by
  simp only [hostWords, hread]
  rfl

theorem hostWords_effect (code : Nat) (ws : List Word) (s : State) :
    (hostWords code ws s).twin.asked = s.twin.asked ∧ Frame [] s (hostWords code ws s) := by
  have hread : ∀ r, Frame [] s (readSoFar r s) := fun _ => frame_hidden (frame_refl _ s) rfl rfl
  cases hhost : s.twin.read with
  | none =>
    have hidle : hostWords code ws s = s := by simp only [hostWords, hhost]
    rw [hidle]
    exact ⟨rfl, frame_refl _ s⟩
  | some r =>
    rw [hostWords_of_read code ws hhost]
    split
    · exact ⟨asked_endRemote .., frame_trans (hread _) (frame_endRemote ..)⟩
    · exact ⟨rfl, hread _⟩

theorem gives_twinReadRsp {body : List Nat} {m : TwinMsg} (hwait : waitsFor s 6 (bytesNat (body.take 2)) = some m) :
    Gives (.twinReadRsp body) s (fun t => waitsFor t 6 (bytesNat (body.take 2)) = none ∧ Frame [] s t) := by
  refine ⟨readRspTake body s, rfl, ?_⟩
  have hdrop := waitsFor_dropAsked (.inr rfl : 6 = 5 ∨ 6 = 6) (bytesNat (body.take 2)) s
  have hframe := frame_dropAsked (bytesNat (body.take 2)) s
  simp only [readRspTake, hwait]
  generalize dropAsked (bytesNat (body.take 2)) s = u at *
  split
  · exact ⟨(waitsFor_congr (asked_dmaAnswer ..) ..).trans hdrop, frame_trans hframe (frame_dmaAnswer ..)⟩
  · exact ⟨(waitsFor_congr (hostWords_effect ..).1 ..).trans hdrop, frame_trans hframe (hostWords_effect ..).2⟩
  · exact ⟨hdrop, hframe⟩

/-- An acknowledged write that was forwarded outside a copy moves nothing. -/
theorem gives_twinAck_of_forwarded {body : List Nat} {m : TwinMsg} (hwait : waitsFor s 5 (bytesNat (body.take 2)) = some m) (hfwd : m.fwd = true)
    (hcopy : m.copy = false) (hcode : body.getD 2 0 = 0) :
    Gives (.twinAck body) s (fun t => waitsFor t 5 (bytesNat (body.take 2)) = none ∧ Frame [] s t) := by
  refine ⟨ackTake body s, rfl, ?_⟩
  have hop : ackTake body s = dropAsked (bytesNat (body.take 2)) s := by
    simp only [ackTake, hwait, hfwd, if_true, hcode, attachAck, hcopy, Bool.not_false, true_or, profileRefused, ne_eq, not_true_eq_false, and_false,
      if_false, OfNat.zero_ne_ofNat]
  rw [hop]
  exact ⟨waitsFor_dropAsked (.inl rfl) .., frame_dropAsked ..⟩

theorem gives_twinAck_of_dma {body : List Nat} {m : TwinMsg} {k : Nat} (hwait : waitsFor s 5 (bytesNat (body.take 2)) = some m)
    (hfwd : m.fwd = false) (hdma : m.dma = some k) : Gives (.twinAck body) s (fun t => waitsFor t 5 (bytesNat (body.take 2)) = none ∧
      (∀ r, dmaRunOf s k = some r → r.asked = true → ∃ u, dmaRunOf t k = some u ∧ u.answer = some (body.getD 2 0, [])) ∧ Frame [] s t) := by
  refine ⟨ackTake body s, rfl, ?_⟩
  have hop : ackTake body s = dmaAnswer k (body.getD 2 0) [] (dropAsked (bytesNat (body.take 2)) s) := by
    simp [ackTake, hwait, hfwd, hdma]
  rw [hop]
  refine ⟨(waitsFor_congr (asked_dmaAnswer ..) ..).trans (waitsFor_dropAsked (.inl rfl) ..), fun r hrun hasked => ?_,
    frame_trans (frame_dropAsked ..) (frame_dmaAnswer ..)⟩
  have hrun' : dmaRunOf (dropAsked (bytesNat (body.take 2)) s) k = some r := hrun
  refine ⟨{ r with answer := some (body.getD 2 0, []) }, ?_, rfl⟩
  rw [dmaAnswer_of_asked (body.getD 2 0) [] hrun' hasked, dmaRunOf, putDma, KMap.get_set_self]

theorem gives_messageRetransmit {m : TwinMsg} (hasked : s.twin.asked.find? (fun m => decide (m.mseq = q)) = some m)
    (hout : ∀ x ∈ s.twin.queue, x.mseq = q → x.kind ≠ 5 ∧ x.kind ≠ 6) : Gives (.messageRetransmit q) s (fun t =>
      t.twin.queue = s.twin.queue ++ [{ m with again := true }] ∧ m.sentAt + 800 ≤ t.now ∧ Frame [] s t) := by
  have hnone : s.twin.queue.any (fun x => decide (x.mseq = q ∧ (x.kind = 5 ∨ x.kind = 6))) = false := by
    rw [List.any_eq_false]
    intro x hx hsame
    obtain ⟨hq, hkind⟩ := of_decide_eq_true hsame
    obtain ⟨h5, h6⟩ := hout x hx hq
    exact hkind.elim h5 h6
  have hop : retransmit q s = (twinSend { m with again := true } (s.reach (m.sentAt + 800))).incL TwinTel.RETRIES := by
    simp only [retransmit, hasked, hnone, Bool.false_eq_true, if_false]
  have hframe : Frame [] s ((twinSend { m with again := true } (s.reach (m.sentAt + 800))).incL TwinTel.RETRIES) :=
    frame_hidden (frame_refl _ s) rfl rfl
  exact ⟨_, congrArg Host.Outcome.next hop, rfl, Nat.le_max_right .., hframe⟩

end

/-- Settles O59: each message by whether its number has been answered, each answer by the message that waits for it. -/
theorem linkMessagesAreAppliedOnceAndAnswered : Obligations.LinkMessagesAreAppliedOnceAndAnswered := by
  intro body env copy q s hq
  subst hq
  exact ⟨gives_twinWrite_of_new env copy, gives_twinWrite_of_empty env copy, fun _ => gives_again env copy, gives_twinReadReq,
    fun _ => gives_twinReadRsp, fun _ => gives_twinAck_of_forwarded, fun _ _ => gives_twinAck_of_dma, fun _ => gives_messageRetransmit⟩

end Sys2Proof.Laws.LinkMessages
end

section
/-! PROOFS. What the operations of field control, contexts and protection leave alone far from their own registers: the state of the twin link,
and whether a timebase runs. -/

namespace Sys2Proof.Laws.Bystanders
open Sys2Proof.Machine Sys2Proof.Laws.Protection Sys2Proof.Laws.ProtDisplay Sys2Proof.Laws.Reactions

/-- TB_STAT of no timebase stands at this address. -/
abbrev Apart (a : Nat) : Prop := a < 0x140054 ∨ 0x140134 < a ∨ a % 32 ≠ 20

/-- Neither STATE of the twin link nor TB_STAT of a timebase stands at this address. -/
abbrev Clear (a : Nat) : Prop := a ≠ 0x2C0048 ∧ Apart a

theorem ne_state_of_clear {a : Nat} (ha : Clear a) : a ≠ Twin.STATE := ha.1

theorem ne_tbStat_of_apart {a t : Nat} (ha : Apart a) (ht : t < 8) : a ≠ Tb.TB_STAT t := by
  simp only [Tb.TB_STAT]
  omega

/-- A part of the state that such a register, a live value, an event, the time stamps and the hidden state of protection, the gate links, the
contexts, the machines and their inputs leave alone, and that the authorities over the switches leave alone as well. -/
structure Bystander {α : Type} (part : State → α) : Prop where
  wr : ∀ s {a} v, Clear a → part (s.wr a v) = part s
  wrL : ∀ s a v, part (s.wrL a v) = part s
  emit : ∀ s c p k o d, part (s.emit c p k o d) = part s
  stampNow : ∀ s a, part (s.stampNow a) = part s
  setProt : ∀ s x, part { s with prot := x } = part s
  setGl : ∀ s x, part { s with gl := x } = part s
  setCle : ∀ s x, part { s with cle := x } = part s
  setFoc : ∀ s x, part { s with foc := x } = part s
  setSrcs : ∀ s x, part { s with srcs := x } = part s
  setInputs : ∀ s x, part { s with inputs := x } = part s
  setForces : ∀ s x, part { s with pwm := { s.pwm with forces := x } } = part s
  resolveNow : ∀ s, part (resolveNow s) = part s

section
variable {α : Type} {part : State → α} (h : Bystander part) (s : State)
include h

/-! ### State operations -/

theorem wrF_of_bystander {a : Nat} (hi lo v : Nat) (ha : Clear a) : part (s.wrF a hi lo v) = part s := h.wr s _ ha

theorem wrB_of_bystander {a : Nat} (i : Nat) (b : Bool) (ha : Clear a) : part (s.wrB a i b) = part s := h.wr s _ ha

theorem incSat_of_bystander {a : Nat} (hi lo : Nat) (ha : Clear a) : part (s.incSat a hi lo) = part s := h.wr s _ ha

theorem incL_of_bystander (a : Nat) : part (s.incL a) = part s := h.wrL ..

theorem produce_of_bystander (a : Nat) (v : Word) : part (s.produce a v) = part s := (h.stampNow ..).trans (h.wrL ..)

theorem emitPage_of_bystander (c : EvClass) (p k o : Nat) : part (emitPage c p k o s) = part s := h.emit ..

omit h in
theorem clear_header {p o : Nat} (ho : o < 0x40) (hp : p * 4096 + o ≠ 0x2C0048) : Clear (p * 4096 + o) := by
  refine ⟨hp, ?_⟩
  omega

theorem raw_of_bystander (p i : Nat) (b : Bool) : part (s.raw p i b) = part s :=
  (h.wr _ _ (clear_header (by decide) (by omega))).trans (h.wr s _ (clear_header (by decide) (by omega)))

theorem pulse_of_bystander (p i : Nat) : part (s.pulse p i) = part s := by
  have hraw : Clear (hIRQ_RAW p) := clear_header (by decide) (by omega)
  simp only [State.pulse, apply_ite part, h.wr _ _ hraw, raw_of_bystander h, ite_self]

theorem putMach_of_bystander (m : Nat) (x : MachHid) : part (putMach m x s) = part s := h.setFoc ..

theorem putCtx_of_bystander (n : Nat) (x : CtxHid) : part (putCtx n x s) = part s := h.setCle ..

theorem putPos_of_bystander (n : Nat) (x : GlHid) : part (putPos n x s) = part s := h.setGl ..

/-! ### Protection and the forces it puts on the switches (R28-R30, R265-R293) -/

theorem shown_of_bystander : Shown part where
  wr s a v ha := h.wr s v ((by decide : ∀ b ∈ ProtDisplay.shownRegs, Clear b) a ha)
  status s w _ := h.wr s w (by decide)
  setProt s x _ := h.setProt s x

theorem protShow_of_bystander : part (protShow s) = part s := shown_protShow (shown_of_bystander h) s

theorem addForce_of_bystander (f : Force) : part (addForce f s) = part s := (h.resolveNow _).trans (h.setForces ..)

theorem dropForce_of_bystander (tag : ForceTag) (id : Nat) : part (dropForce tag id s) = part s := (h.resolveNow _).trans (h.setForces ..)

theorem disMethod_of_bystander (method : Nat) : part (disMethod method s) = part s := by
  simp (disch := decide) only [disMethod, protShow_of_bystander h, apply_ite part, dropForce_of_bystander h, addForce_of_bystander h, h.wr, ite_self]

theorem disEnd_of_bystander (code : Nat) : part (disEnd code s) = part s := by
  simp (disch := decide) only [disEnd, apply_ite part, emitPage_of_bystander h, protShow_of_bystander h, dropForce_of_bystander h, h.wr, ite_self]

theorem protLockout_of_bystander : part (protLockout s) = part s := by
  simp (disch := decide) only [protLockout, protBit, apply_ite part, emitPage_of_bystander h, protShow_of_bystander h, wrB_of_bystander h, ite_self]

theorem ascStart_of_bystander (m : Nat) : part (ascStart m s) = part s := by
  have hput : ∀ p x, part { s with prot := p, foc := x } = part s := fun p x => (h.setFoc { s with prot := p } x).trans (h.setProt s p)
  unfold ascStart
  split
  · rfl
  · exact hput ..

theorem ascMove_of_bystander (m : Nat) : part (ascMove m s) = part s := by
  refine foldl_keeps part (fun t f => ?_) _ s
  simp only [apply_ite part, addForce_of_bystander h, ite_self]

/-! ### Gate links (R237-R256) -/

omit h in
theorem clear_glStat {n : Nat} (hn : n < 36) : Clear (GlPos.GL_STAT n) := by
  simp only [Clear, GlPos.GL_STAT]
  omega

theorem setGl_of_bystander {n : Nat} (st : Nat) (hn : n < 36) : part (setGl n st s) = part s := by
  simp (disch := decide) only [setGl, glLevels, glMasks, updCarry, raw_of_bystander h, h.wr, wrF_of_bystander h _ _ _ _ (clear_glStat hn),
    putPos_of_bystander h, apply_ite part, h.stampNow, ite_self]

theorem allOffFrame_of_bystander {n : Nat} (soft : Bool) (hn : n < 36) : part (allOffFrame n soft s) = part s := by
  simp only [allOffFrame, glFail, apply_ite part, h.emit, pulse_of_bystander h, setGl_of_bystander h _ _ hn, putPos_of_bystander h,
    wrF_of_bystander h _ _ _ _ (clear_glStat hn), ite_self]

theorem allOffFrames_of_bystander {ps : List Nat} (soft : Bool) (hps : ∀ n ∈ ps, n < 36) : part (allOffFrames ps soft s) = part s :=
  foldl_keeps_mem part (fun t n hn => allOffFrame_of_bystander h t soft (hps n hn)) s

theorem latchFrames_of_bystander (wasOff : List Nat) : part (latchFrames wasOff s) = part s := by
  refine foldl_keeps_mem part (fun t n hn => ?_) s
  have hpos : n < 36 := List.mem_range.mp (List.mem_filter.mp hn).1
  simp only [apply_ite part, allOffFrame_of_bystander h _ _ hpos, ite_self]

/-! ### Speculations and latching (R142, R153, R265-R277) -/

theorem squashCtx_of_bystander (c n : Nat) : part (squashCtx c n s) = part s := by
  have hpre : ∀ t, part (startPre n t) = part t := fun t => h.setCle t _
  have hmark : ∀ t, part (markCause n c t) = part t := fun t => (h.wrL ..).trans (h.wrL ..)
  unfold squashCtx
  dsimp only
  split <;> simp only [putRun, apply_ite part, h.setCle, hpre, hmark, putCtx_of_bystander h, incL_of_bystander h, ite_self]

theorem squashAll_of_bystander (c : Nat) : part (squashAll c s) = part s :=
  foldl_keeps part (fun t (e : Nat × CtxHid) => squashCtx_of_bystander h t c e.1) _ s

theorem latchSource_of_bystander (n obj : Nat) (own : List Nat) : part (latchSource n obj own s) = part s := by
  have hcancel : ∀ t, part (cancelAsc t) = part t := fun t => h.setForces t _
  unfold latchSource
  dsimp only
  split
  · rfl
  · split <;> simp only [squallEvent, hcancel, apply_ite part, h.emit, protLockout_of_bystander h, squashAll_of_bystander h,
      latchFrames_of_bystander h, protShow_of_bystander h, h.resolveNow, incL_of_bystander h, h.setProt, ite_self]

/-! ### Groups of contexts and the transitions of a context (R123-R135, R174) -/

omit h in
theorem clear_mstate (m : Nat) : Clear (Foc.MSTATE m) := by
  simp only [Clear, Foc.MSTATE]
  omega

omit h in
theorem clear_hwStat {g : Nat} (hg : g < 64) : Clear (Hw.HW_STAT g) := by
  simp only [Clear, Hw.HW_STAT]
  omega

omit h in
theorem clear_record (n : Nat) : Clear (Ctx.STATE n) ∧ Clear (Ctx.COUNTS n) ∧ Clear (Ctx.CFG_CRC n) := by
  simp only [Clear, Ctx.STATE, Ctx.COUNTS, Ctx.CFG_CRC]
  omega

theorem putInput_of_bystander (d : Nat) (v : Word) : part (putInput d v s) = part s := by
  simp only [putInput, apply_ite part, wrB_of_bystander h _ _ _ (clear_mstate _), h.setInputs, ite_self]

theorem hwShow_of_bystander {g : Nat} (hg : g < 64) : part (hwShow g s) = part s := by
  simp (disch := decide) only [hwShow, apply_ite part, wrB_of_bystander h, raw_of_bystander h, h.wr _ _ (clear_hwStat hg), h.stampNow, ite_self]

theorem hwOutput_of_bystander (g : Nat) (y : Word) : part (hwOutput g y s) = part s := by
  have hsrc : ∀ t v ok, part (setSrc (0x300 + g) v ok t) = part t := fun t _ _ => h.setSrcs t _
  simp only [hwOutput, apply_ite part, putInput_of_bystander h, hsrc, produce_of_bystander h, ite_self]

theorem hwFollow_of_bystander {g : Nat} (hg : g < 64) : part (hwFollow g s) = part s := by
  simp only [hwFollow, apply_ite part, hwOutput_of_bystander h, hwShow_of_bystander h _ hg, ite_self]

theorem showLimited_of_bystander (n : Nat) (b : Bool) (tgt : Int) : part (showLimited n b tgt s) = part s := by
  unfold showLimited
  dsimp only
  split
  · rfl
  · split <;> simp only [apply_ite part, putMach_of_bystander h, incL_of_bystander h, pulse_of_bystander h,
      wrB_of_bystander h _ _ _ (clear_mstate _), putCtx_of_bystander h, ite_self]

theorem cleShow_of_bystander : part (cleShow s) = part s := by
  simp (disch := decide) only [cleShow, cleLevels, wrB_of_bystander h, raw_of_bystander h]

omit h in
/-- A context belongs to one of the 64 groups. -/
theorem group_lt {n g : Nat} (hg : ctxMember s n = some g) : g < 64 := by
  unfold ctxMember at hg
  split at hg
  · obtain rfl := Option.some.inj hg
    exact Nat.mod_lt _ (by decide)
  · cases hg

theorem ctxGo_of_bystander (n st : Nat) : part (ctxGo n st s) = part s := by
  obtain ⟨hstate, hcounts, -⟩ := clear_record n
  unfold ctxGo
  extract_lets old s1 s2 s3 x x1 x2 s4
  have hs3 : part s3 = part s := by
    simp only [s3, s2, s1, apply_ite part, pulse_of_bystander h, incSat_of_bystander h _ _ _ hcounts, wrF_of_bystander h _ _ _ _ hstate, ite_self]
  have hs4 : part s4 = part s := by
    simp only [s4, cleShow_of_bystander h]
    split <;> simp only [id, showLimited_of_bystander h, putCtx_of_bystander h, hs3]
  split
  · next g hg => exact (hwFollow_of_bystander h s4 (group_lt s4 hg)).trans hs4
  · exact hs4

theorem ctxOpen_of_bystander (n : Nat) : part (ctxOpen n s).1 = part s := by
  simp only [ctxOpen, deny, accept, apply_ite Prod.fst, apply_ite part, squashCtx_of_bystander h, ctxGo_of_bystander h, ite_self]

theorem ctxClose_of_bystander (n : Nat) : part (ctxClose n s).1 = part s := by
  obtain ⟨-, -, hcrc⟩ := clear_record n
  simp only [ctxClose, deny, accept, apply_ite Prod.fst, apply_ite part, ctxGo_of_bystander h, h.stampNow, putCtx_of_bystander h,
    squashCtx_of_bystander h, h.wr _ _ hcrc, ite_self]

/-! ### Machines (R176-R187, R286) -/

theorem disLeftRun_of_bystander (m : Nat) : part (disLeftRun m s) = part s := by
  simp only [disLeftRun, apply_ite part, disMethod_of_bystander h, disEnd_of_bystander h, ite_self]

theorem endPulse_of_bystander (m : Nat) : part (endPulse m s) = part s := by
  simp only [endPulse, apply_ite part, addForce_of_bystander h, putMach_of_bystander h, ite_self]

theorem openCtxs_of_bystander (m : Nat) : part (openCtxs m s) = part s := by
  have hopen : ∀ (t : State) (k : Nat), part (if ctxLive t k then (ctxOpen k t).1 else t) = part t := by
    simp only [apply_ite part, ctxOpen_of_bystander h, ite_self, implies_true]
  simp only [openCtxs, putMach_of_bystander h, foldl_keeps part hopen]

theorem enterStop_of_bystander (m : Nat) (asc : Bool) : part (enterStop m asc s) = part s := by
  simp only [enterStop, apply_ite part, openCtxs_of_bystander h, putMach_of_bystander h, addForce_of_bystander h, ascStart_of_bystander h, ite_self]

theorem machGo_of_bystander (m st : Nat) : part (machGo m st s) = part s := by
  simp only [machGo, apply_ite part, disLeftRun_of_bystander h, h.setInputs, putMach_of_bystander h, raw_of_bystander h, pulse_of_bystander h,
    wrF_of_bystander h _ _ _ _ (clear_mstate m), h.stampNow, endPulse_of_bystander h, ite_self]

omit h in
theorem clear_ipdResult (m : Nat) : Clear (Foc.IPD_RESULT m) := by
  simp only [Clear, Foc.IPD_RESULT]
  omega

theorem machFault_of_bystander (m c : Nat) : part (machFault m c s) = part s := by
  simp only [machFault, machEvent, machCause, apply_ite part, h.emit, enterStop_of_bystander h, machGo_of_bystander h,
    wrF_of_bystander h _ _ _ _ (clear_mstate m), wrB_of_bystander h _ _ _ (clear_ipdResult m), ite_self]

theorem focStop_of_bystander (m : Nat) : part (focStop m s).1 = part s := by
  simp only [focStop, accept, deny, apply_ite Prod.fst, apply_ite part, machGo_of_bystander h, ite_self]

/-! ### Field control at an update event (R173-R187) -/

theorem startFail_of_bystander (m c : Nat) : part (startFail m c s) = part s := by
  simp only [startFail, machEvent, machCause, apply_ite part, enterStop_of_bystander h, machGo_of_bystander h, machFault_of_bystander h, h.emit,
    pulse_of_bystander h, wrF_of_bystander h _ _ _ _ (clear_mstate m), ite_self]

theorem closeCtxs_of_bystander (m : Nat) : part (closeCtxs m s) = part s := by
  have hclose : ∀ (a : State × RefCode) (n : Nat), part (if a.2 = .none then
      (let q := ctxClose n a.1; (if q.2 = .none then q.1 else a.1, q.2)) else a).1 = part a.1 := fun a n => by
    simp only [apply_ite Prod.fst, apply_ite part, ctxClose_of_bystander h, ite_self]
  unfold closeCtxs
  extract_lets r
  have hr : part r.1 = part s :=
    List.foldlRecOn _ _ (motive := fun a : State × RefCode => part a.1 = part s) rfl (fun a ha n _ => (hclose a n).trans ha)
  split
  · exact (putMach_of_bystander h ..).trans hr
  · simp only [startFail_of_bystander h, openCtxs_of_bystander h, wrF_of_bystander h _ _ _ _ (clear_mstate m), hr]

theorem leaveStop_of_bystander (m : Nat) : part (leaveStop m s) = part s := by
  simp only [leaveStop, apply_ite part, putMach_of_bystander h, closeCtxs_of_bystander h, ite_self]

theorem enterCatch_of_bystander (m mode : Nat) (hint : Bool) : part (enterCatch m mode hint s) = part s := by
  simp only [enterCatch, apply_ite part, leaveStop_of_bystander h, machGo_of_bystander h, putMach_of_bystander h, ite_self]

theorem ascFlip_of_bystander (m : Nat) : part (ascFlip m s) = part s := by
  simp only [ascFlip, ascMove_of_bystander h, putMach_of_bystander h, h.setProt]

omit h in
theorem clear_modLim (m : Nat) : Clear (Foc.MOD_LIM m) := by
  simp only [Clear, Foc.MOD_LIM]
  omega

theorem modUpdate_of_bystander (m : Nat) : part (modUpdate m s) = part s := by
  simp only [modUpdate, apply_ite part, machFault_of_bystander h, h.wr _ _ (clear_modLim m), ite_self]

theorem focBeforeUpdate_of_bystander (t : Nat) : part (focBeforeUpdate t s) = part s :=
  foldl_keeps part (fun u m => by
    simp only [apply_ite part, dropForce_of_bystander h, putMach_of_bystander h, closeCtxs_of_bystander h, ite_self]) _ s

theorem focAfterUpdate_of_bystander (t : Nat) : part (focAfterUpdate t s) = part s :=
  foldl_keeps part (fun u m => by
    simp only [apply_ite part, ascFlip_of_bystander h, enterCatch_of_bystander h, openCtxs_of_bystander h, modUpdate_of_bystander h, ite_self]) _ s

end

end Sys2Proof.Laws.Bystanders
end

section
/-! PROOFS. Slots of the twin link, its failure, and the mirror records of a standby (R354, R355, R359, R362, R367, R375, R377). -/

namespace Sys2Proof.Laws.LinkSlots
open Sys2Proof.Machine Sys2Proof.Safety Sys2Proof.Laws.Fabric Sys2Proof.Laws.Frames Sys2Proof.Laws.Fields Sys2Proof.Laws.Protection
open Sys2Proof.Laws.ProtDisplay Sys2Proof.Laws.GateLinks Sys2Proof.Laws.Reactions Sys2Proof.Laws.Ethernet Sys2Proof.Laws.LinkMessages
open Sys2Proof.Laws.Bystanders

/-! ### What a reaction elsewhere leaves of the link -/

/-- STATE, the hidden state of the link, and the memory windows. -/
def link (s : State) : Word × TwinState × List Host.Cell := (s.rd Twin.STATE, s.twin, s.mem)

theorem link_wr {a : Nat} (v : Word) (ha : a ≠ Twin.STATE) (s : State) : link (s.wr a v) = link s := by
  simp only [link, State.rd_wr_ne _ _ _ _ ha.symm, State.wr_twin, State.wr_mem]

theorem resolved_link : Resolved link where
  chan s a v ha := link_wr v (by
    rintro rfl
    exact absurd ha (by decide)) s
  wrL _ _ _ := rfl
  setPwm _ _ := rfl

theorem bystander_link : Bystander link where
  wr s _ v ha := link_wr v (ne_state_of_clear ha) s
  wrL _ _ _ := rfl
  emit _ _ _ _ _ _ := rfl
  stampNow _ _ := rfl
  setProt _ _ := rfl
  setGl _ _ := rfl
  setCle _ _ := rfl
  setFoc _ _ := rfl
  setSrcs _ _ := rfl
  setInputs _ _ := rfl
  setForces _ _ := rfl
  resolveNow := resolved_resolveNow resolved_link

theorem parts_of_link {s t : State} (h : link t = link s) : t.rd Twin.STATE = s.rd Twin.STATE ∧ t.twin = s.twin ∧ t.mem = s.mem :=
  ⟨congrArg Prod.fst h, congrArg (fun x => x.2.1) h, congrArg (fun x => x.2.2) h⟩

/-! ### The line: LINK_UP, the number of the last good slot, the row of bad ones -/

/-- LINK_UP, the last good slot's number, the bad slots in a row, and the memory windows. -/
structure Line where
  up : Bool
  rxSeq : Option Nat
  bad : Nat
  mem : List Host.Cell

/-- That part of a state. -/
def line (s : State) : Line := ⟨linkUp s, s.twin.rxSeq, s.twin.bad, s.mem⟩

theorem line_of_link {s t : State} (h : link t = link s) : line t = line s := by
  obtain ⟨hstate, htwin, hmem⟩ := parts_of_link h
  simp only [line, linkUp, State.rdB, hstate, htwin, hmem]

section
variable (s : State)

theorem line_wr {a : Nat} (v : Word) (ha : a ≠ Twin.STATE) : line (s.wr a v) = line s := line_of_link (link_wr v ha s)

theorem line_incL (a : Nat) : line (s.incL a) = line s := rfl

theorem line_emitPage (c : EvClass) (p k o : Nat) : line (emitPage c p k o s) = line s := line_of_link (bystander_link.emit ..)

theorem line_twinEvent (c : EvClass) (code : Nat) : line (twinEvent c code s) = line s := line_emitPage ..

theorem line_pulse (p i : Nat) : line (s.pulse p i) = line s := line_of_link (pulse_of_bystander bystander_link s p i)

theorem line_setState (w : Word) (hw : bit w 16 = linkUp s) : line (s.wr Twin.STATE w) = line s := by
  simp only [line, linkUp, State.rdB, State.rd_wr_self, hw, State.wr_twin, State.wr_mem]

theorem line_setTwin (st : Nat) : line (setTwin st s) = line s := line_setState s _ (bit_setFld_apart _ (by decide) (by decide) (by decide))

theorem line_eligibleBit {i : Nat} (b : Bool) (hi : i = 17 ∨ i = 18) : line (s.wrB Twin.STATE i b) = line s :=
  line_setState s _ (bit_setBit_ne _ _ (by omega) (by omega))

theorem line_updEligible : line (updEligible s) = line s := by
  simp only [updEligible, apply_ite line, line_twinEvent, line_pulse, line_eligibleBit s _ (.inl rfl), ite_self]

theorem line_updPeerEligible (e : Bool) : line (updPeerEligible e s) = line s := by
  simp only [updPeerEligible, apply_ite line, line_twinEvent, line_pulse, line_eligibleBit s _ (.inr rfl), ite_self]

/-- A change of other hidden state of the link. -/
theorem line_hidden {x : TwinState} (hseq : x.rxSeq = s.twin.rxSeq) (hbad : x.bad = s.twin.bad) : line { s with twin := x } = line s := by
  simp only [line, hseq, hbad]
  rfl

/-! ### The ends of a pair (R358, R367, R375) -/

theorem line_attachFail (code : Nat) : line (attachFail code s) = line s := by
  have hcode : ∀ t, line (State.wrF t Twin.STATE 11 8 code) = line t := fun t => line_setState t _ (bit_setFld_apart _ (by decide) (by decide) (by decide))
  unfold attachFail
  extract_lets u
  exact ((line_hidden u rfl rfl).trans (line_pulse ..)).trans ((hcode _).trans (line_setTwin ..))

theorem line_endRemote (c : RefCode) : line (endRemote c s) = line s := by
  unfold endRemote
  dsimp only
  split <;> split <;> rfl

theorem line_dropRemote : line (dropRemote s) = line s := by
  have hdma : ∀ t (m : TwinMsg), line (match m.dma with
      | some k => (match dmaRunOf t k with
        | some r => putDma k (some { r with answer := some (4, []) }) t
        | none => t)
      | none => t) = line t := fun t m => by
    split
    · split <;> rfl
    · rfl
  unfold dropRemote
  exact (foldl_keeps line hdma _ _).trans ((line_endRemote ..).trans rfl)

theorem line_tandemLost : line (tandemLost s) = line s := by
  simp only [tandemLost, apply_ite line, line_of_link (machFault_of_bystander bystander_link s 0 0xF), ite_self]

theorem line_shown : line (protShow (resolveNow s)) = line s :=
  (line_of_link (protShow_of_bystander bystander_link _)).trans (line_of_link (bystander_link.resolveNow s))

theorem line_unpair (st : Nat) : line (unpair st s) = line s := by
  unfold unpair
  extract_lets t x u
  have ht : line t = line s := by
    simp only [t, line_dropRemote, line_eligibleBit _ _ (.inr rfl), line_eligibleBit _ _ (.inl rfl), line_setTwin]
  have hu : line u = line s := (line_hidden t rfl rfl).trans ht
  simp only [apply_ite line, line_shown, hu, ite_self]

theorem line_markTakeover : line (markTakeover s) = line s :=
  foldl_keeps line (fun t n => by simp only [apply_ite line, line_of_link (putCtx_of_bystander bystander_link t n _), ite_self]) _ s

theorem line_takeover : line (takeover s) = line s := by
  have hdrive : ∀ f t, line (startDriving f t) = line t := fun f t => (line_markTakeover _).trans (line_hidden t rfl rfl)
  unfold takeover
  extract_lets u w
  simp only [line_twinEvent, line_pulse]
  exact (line_hidden u rfl rfl).trans ((hdrive ..).trans (line_setTwin ..))

/-- LINK_UP is taken away, with its interrupt (R375). -/
def linkDown : State := if linkUp s then (s.wrB Twin.STATE 16 false).pulse Twin.page 1 else s

theorem line_linkFail : line (linkFail s) = line (linkDown s) := by
  have hstop : ∀ t m, line (if 4 ≤ machState t m ∧ machState t m ≤ 6 then (focStop m t).1 else t) = line t := fun t m => by
    simp only [apply_ite line, line_of_link (focStop_of_bystander bystander_link t m), ite_self]
  unfold linkFail
  extract_lets u s1
  have hs1 : line s1 = line u := by simp only [s1, apply_ite line, foldl_keeps line hstop, ite_self]
  change _ = line u
  split
  · exact line_attachFail ..
  · simp only [apply_ite line, line_twinEvent, line_unpair, line_pulse (unpair 6 u), ite_self]
  · simp only [apply_ite line, line_takeover, line_dropRemote, line_unpair, line_pulse (unpair 6 u), ite_self]
  · simp only [line_twinEvent, line_pulse (tandemLost (unpair 6 s1)), line_tandemLost, line_unpair, hs1]
  · simp only [line_twinEvent, line_pulse (tandemLost (unpair 6 s1)), line_tandemLost, line_unpair, hs1]
  · exact line_unpair ..
  · exact line_unpair ..
  · rfl

/-- A link failure takes LINK_UP away and leaves the memory windows alone. -/
theorem linkFail_effect : linkUp (linkFail s) = false ∧ (linkFail s).mem = s.mem := by
  have hup : linkUp (linkFail s) = linkUp (linkDown s) := congrArg Line.up (line_linkFail s)
  have hmem : (linkFail s).mem = (linkDown s).mem := congrArg Line.mem (line_linkFail s)
  rw [hup, hmem, linkDown]
  split
  · rw [State.pulse_mem, State.wrB_mem]
    refine ⟨?_, rfl⟩
    rw [linkUp, State.rdB, State.rd_pulse_ne _ _ _ _ (by decide) (by decide), ← State.rdB, rdB_wrB_self _ _ (by decide)]
  · next h => exact ⟨Bool.eq_false_iff.mpr h, rfl⟩

end

/-! ### Slots sent (R354, R359, R367) -/

/-- The grid instant of the next slot. -/
def slotInstant (s : State) : Nat :=
  match s.twin.slotAt with
  | some a => max (a + 80) ((s.now + 79) / 80 * 80)
  | none => (s.now + 79) / 80 * 80

theorem now_le_slotInstant (s : State) : s.now ≤ slotInstant s := by
  unfold slotInstant
  split <;> omega

/-- Is the TAKE of a standby due at instant `f`? -/
def takes (f : Nat) (s : State) : Bool := decide (twinState s = 3) && (match s.twin.takeAt with | some t => decide (t ≤ f) | none => false)

/-- The link's hidden state put. -/
def withTwin (w : TwinState) (s : State) : State := { s with twin := w }

/-- The state of a device that sent its slot: after the end of a detached pair, with the slot counted, and with the takeover that is due. -/
theorem slotOut_of_active {s : State} (hact : linkActive s = true) : ∃ w : TwinState,
    w.seq = ((detachNow (s.reach (slotInstant s))).twin.seq + 1) % 256 ∧ w.slotAt = some (slotInstant s) ∧
    w.detach = (detachNow (s.reach (slotInstant s))).twin.detach ∧
    slotOut s = updEligible (if takes (slotInstant s) (detachNow (s.reach (slotInstant s)))
      then (startDriving (slotInstant s + 240) (setTwin 2 (withTwin w (detachNow (s.reach (slotInstant s)))))).pulse Twin.page 4
      else withTwin w (detachNow (s.reach (slotInstant s)))) := by
  have hgo : ¬ (!linkActive s) = true := by simp only [hact, Bool.not_true, Bool.false_eq_true, not_false_eq_true]
  unfold slotOut
  rw [if_neg hgo]
  extract_lets first f s1 w offering take c m body rest sent asked s2 s3
  have hs1 : detachNow (s.reach (slotInstant s)) = s1 := rfl
  have htake : takes (slotInstant s) s1 = take := rfl
  rw [hs1, htake]
  exact ⟨s2.twin, rfl, rfl, rfl, rfl⟩

theorem detachNow_of_attached {s : State} (hdetach : s.twin.detach = false) : detachNow s = s := by
  simp only [detachNow, hdetach, Bool.not_false, if_true]

theorem takes_of_none {s : State} (f : Nat) (htake : s.twin.takeAt = none) : takes f s = false := by
  simp only [takes, htake, Bool.and_false]

theorem gives_slotSend_of_plain {s : State} (hact : linkActive s = true) (hdetach : s.twin.detach = false) (htake : s.twin.takeAt = none) :
    Gives .slotSend s (fun t => t.twin.seq = (s.twin.seq + 1) % 256 ∧ (∃ f, t.twin.slotAt = some f ∧ s.now ≤ f ∧ f ≤ t.now) ∧
      PageFrame [Twin.page] s t) := by
  obtain ⟨w, hseq, hslot, -, hout⟩ := slotOut_of_active hact
  rw [detachNow_of_attached (s := s.reach _) hdetach] at hseq hout
  rw [takes_of_none (s := s.reach _) _ htake, if_neg Bool.false_ne_true] at hout
  refine ⟨_, congrArg Host.Outcome.next hout, ?_⟩
  have hframe : Frame (Twin.STATE :: irqRegs Twin.page) s (withTwin w (s.reach (slotInstant s))) := frame_hidden (frame_refl _ s) rfl rfl
  beta_reduce
  rw [twin_updEligible, now_updEligible]
  exact ⟨hseq, ⟨_, hslot, now_le_slotInstant s, Nat.le_max_right ..⟩,
    pageFrame_of_frame (frame_updEligible s hframe (List.Subset.refl _)) (by decide)⟩

/-! ### The end of a pair (R359, R360) -/

theorem rd_dropRemote (s : State) (a : Nat) : (dropRemote s).rd a = s.rd a := by
  have hdma : ∀ t (m : TwinMsg), State.rd (match m.dma with
      | some k => (match dmaRunOf t k with
        | some r => putDma k (some { r with answer := some (4, []) }) t
        | none => t)
      | none => t) a = t.rd a := fun t m => by
    split
    · split <;> rfl
    · rfl
  unfold dropRemote
  exact (foldl_keeps (·.rd a) hdma _ _).trans ((frame_endRemote ..).1 a List.not_mem_nil)

/-- A pair that ends: the twin state it falls to, no DETACH and no TAKE waiting. -/
theorem unpair_effect {st : Nat} (s : State) (hst : st < 16) :
    twinState (unpair st s) = st ∧ (unpair st s).twin.detach = false ∧ (unpair st s).twin.takeAt = none := by
  unfold unpair
  extract_lets t x u
  have hstate : twinState t = st := by
    rw [twinState, State.rdF, rd_dropRemote, State.rd_wrB, if_pos rfl, fld_setBit_apart _ _ (by decide) (by decide), State.rd_wrB, if_pos rfl,
      fld_setBit_apart _ _ (by decide) (by decide), setTwin, State.rd_wrF, if_pos rfl]
    exact fld_setFld_self _ (by decide) (by decide) hst
  have hu : twinState u = st ∧ u.twin.detach = false ∧ u.twin.takeAt = none := ⟨hstate, rfl, rfl⟩
  have hlink : link (if s.twin.peerSto ≠ 0 then protShow (resolveNow u) else u) = link u := by
    simp only [apply_ite link, protShow_of_bystander bystander_link, bystander_link.resolveNow, ite_self]
  obtain ⟨hreg, htwin, -⟩ := parts_of_link hlink
  rw [twinState, State.rdF, hreg, htwin]
  exact hu

/-- A DETACH at its slot: the state before service, or SOLO. -/
theorem detachNow_effect {s : State} (hdetach : s.twin.detach = true) (hbefore : s.twin.before < 16) :
    twinState (detachNow s) = (if twinState s = 7 then s.twin.before else 0) ∧ (detachNow s).twin.detach = false ∧
    (detachNow s).twin.takeAt = none ∧ (detachNow s).mem = s.mem := by
  have hmem : ∀ st t, (unpair st t).mem = t.mem := fun st t => congrArg Line.mem (line_unpair t st)
  unfold detachNow
  dsimp only
  rw [hdetach]
  simp only [Bool.not_true, Bool.false_eq_true, if_false]
  split
  · exact ⟨(unpair_effect s hbefore).1, (unpair_effect s hbefore).2.1, (unpair_effect s hbefore).2.2, hmem ..⟩
  · obtain ⟨hstate, hdet, htake⟩ := unpair_effect (if twinState s = 4 ∨ twinState s = 5 then tandemLost s else s) (by decide : 0 < 16)
    have htandem : (tandemLost s).mem = s.mem := congrArg Line.mem (line_tandemLost s)
    refine ⟨hstate, hdet, htake, ?_⟩
    rw [hmem, apply_ite State.mem, htandem, ite_self]

theorem mem_updEligible (s : State) : (updEligible s).mem = s.mem := congrArg Line.mem (line_updEligible s)

theorem gives_slotSend_of_detach {s : State} (hact : linkActive s = true) (hdetach : s.twin.detach = true) (hbefore : s.twin.before < 16) :
    Gives .slotSend s (fun t => t.twin.detach = false ∧ twinState t = (if twinState s = 7 then s.twin.before else 0) ∧
      ∀ a, t.rdByte a = s.rdByte a) := by
  obtain ⟨w, -, -, hdet, hout⟩ := slotOut_of_active hact
  obtain ⟨hstate, hended, htake, hmem⟩ := detachNow_effect (s := s.reach (slotInstant s)) hdetach hbefore
  rw [takes_of_none _ htake, if_neg Bool.false_ne_true] at hout
  refine ⟨_, congrArg Host.Outcome.next hout, ?_⟩
  beta_reduce
  rw [twin_updEligible, twinState_updEligible]
  exact ⟨hdet.trans hended, hstate, rdByte_congr ((mem_updEligible _).trans hmem)⟩

/-! ### The takeover that is due (R367) -/

theorem link_markTakeover (s : State) : link (markTakeover s) = link s :=
  foldl_keeps link (fun t n => by simp only [apply_ite link, putCtx_of_bystander bystander_link t n, ite_self]) _ s

/-- The hidden state of the driving half, before the contexts hear of it. -/
def driving (f : Nat) (s : State) : State :=
  { s with twin := { s.twin with
    passive := false, since := f, noDrive := [], resync := (List.range 36).map (fun n => (n, 0)), takeAt := none } }.incL TwinTel.TAKEOVERS

theorem startDriving_eq (f : Nat) (s : State) : startDriving f s = markTakeover (driving f s) := rfl

/-- The standby drives: its hidden state as `startDriving` sets it. -/
theorem startDriving_effect (f : Nat) (s : State) : twinState (startDriving f s) = twinState s ∧ (startDriving f s).twin.takeAt = none ∧
    (startDriving f s).twin.passive = false ∧ (startDriving f s).mem = s.mem := by
  obtain ⟨hreg, htwin, hmem⟩ := parts_of_link (link_markTakeover (driving f s))
  rw [startDriving_eq, twinState, State.rdF, hreg, htwin, hmem]
  exact ⟨rfl, rfl, rfl, rfl⟩

theorem twinState_pulse (s : State) (i : Nat) : twinState (s.pulse Twin.page i) = twinState s := by
  rw [twinState, State.rdF, State.rd_pulse_ne _ _ _ _ (by decide) (by decide)]
  rfl

theorem twinState_setTwin {st : Nat} (s : State) (hst : st < 16) : twinState (setTwin st s) = st := by
  rw [twinState, State.rdF, setTwin, State.rd_wrF, if_pos rfl]
  exact fld_setFld_self _ (by decide) (by decide) hst

theorem gives_slotSend_of_take {s : State} (hstandby : twinState s = 3) (hdetach : s.twin.detach = false) (htake : ∃ x ∈ s.twin.takeAt, x ≤ s.now) :
    Gives .slotSend s (fun t => twinState t = 2 ∧ t.twin.takeAt = none ∧ t.twin.passive = false ∧ ∀ a, t.rdByte a = s.rdByte a) := by
  obtain ⟨x, hx, hdue⟩ := htake
  have hact : linkActive s = true := by simp only [linkActive, hstandby, ne_eq, OfNat.ofNat_ne_zero, not_false_eq_true, decide_true, Bool.true_or]
  have hlate : x ≤ slotInstant s := hdue.trans (now_le_slotInstant s)
  have htakes : takes (slotInstant s) (s.reach (slotInstant s)) = true := by
    have hstate : twinState (s.reach (slotInstant s)) = 3 := hstandby
    have hat : (s.reach (slotInstant s)).twin.takeAt = some x := Option.mem_def.mp hx
    simp only [takes, hstate, hat, hlate, decide_true, Bool.and_self]
  obtain ⟨w, -, -, -, hout⟩ := slotOut_of_active hact
  rw [detachNow_of_attached (s := s.reach _) hdetach, htakes, if_pos rfl] at hout
  refine ⟨_, congrArg Host.Outcome.next hout, ?_⟩
  beta_reduce
  rw [twin_updEligible, twinState_updEligible, twinState_pulse, State.pulse_twin]
  obtain ⟨hstate, hnone, hdrives, hmem⟩ := startDriving_effect (slotInstant s + 240) (setTwin 2 (withTwin w (s.reach (slotInstant s))))
  rw [hstate, hnone, hdrives, twinState_setTwin _ (by decide)]
  refine ⟨rfl, rfl, rfl, rdByte_congr ?_⟩
  rw [mem_updEligible, State.pulse_mem, hmem]
  rfl

/-! ### Good slots (R354, R355, R365) -/

theorem line_attached (st : Nat) (s : State) : line (attached st s) = line s := by
  have hprof : line (adoptProfile s) = line s := (line_wr _ _ (by decide)).trans (line_wr _ _ (by decide))
  unfold attached
  extract_lets s0 s1 p x
  have hs1 : line s1 = line s := by simp only [s1, s0, line_pulse (setTwin _ _), line_setTwin, apply_ite line, hprof, ite_self]
  exact (line_hidden s1 rfl rfl).trans hs1

theorem line_handedOver (at_ : Nat) (s : State) : line (handedOver at_ s) = line s := by
  unfold handedOver
  extract_lets x s1
  have hs1 : line s1 = line s := line_hidden s rfl rfl
  simp only [line_pulse _ Twin.page, line_incL, line_setTwin, hs1]

theorem line_peerStoTake (v : Nat) (s : State) : line (peerStoTake v s) = line s := by
  unfold peerStoTake
  extract_lets old x s1 new
  have hs1 : line s1 = line s := line_hidden s rfl rfl
  have hnew : ∀ g, ∀ n ∈ new g, n < 36 := by
    intro g n hn
    simp only [new] at hn
    split at hn
    · exact IslandAccount.stoPositions_lt _ hn
    · cases hn
  have hboth : ∀ n ∈ new 0 ++ new 1, n < 36 := fun n hn => (List.mem_append.mp hn).elim (hnew 0 n) (hnew 1 n)
  have hframes := line_of_link (allOffFrames_of_bystander bystander_link (protShow (resolveNow s1)) false hboth)
  simp only [apply_ite line, hframes, line_shown, hs1, ite_self]

theorem line_urgentTake (u : List Nat) (at_ : Nat) (irq : Bool) (s : State) : line (urgentTake u at_ irq s) = line s := by
  unfold urgentTake
  extract_lets b4 b5 lat flag st s1 s2 new x s3 s4 s5 s6 y s7
  have hpeer : ∀ t hi lo v, line (State.wrF t Twin.PEER hi lo v) = line t := fun t _ _ _ => line_wr t _ (by decide)
  have hs2 : line s2 = line s := by simp only [s2, s1, line_peerStoTake, line_updPeerEligible, hpeer]
  have hlatch : ∀ t n, line (latchSource n 0 [] t) = line t := fun t n => line_of_link (latchSource_of_bystander bystander_link t n 0 [])
  have hs3 : line s3 = line s := (foldl_keeps line hlatch _ _).trans ((line_hidden s2 rfl rfl).trans hs2)
  have hs4 : line s4 = line s := by
    simp only [s4, apply_ite line, line_of_link (raw_of_bystander bystander_link s3 Twin.page 8 irq), hs3, ite_self]
  have hs5 : line s5 = line s := by simp only [s5, apply_ite line, line_attached, line_attachFail, hs4, ite_self]
  have hs6 : line s6 = line s := by
    simp only [s6]
    split
    · simp only [apply_ite line, line_handedOver, hs5, ite_self]
    · exact hs5
  have hs7 : line s7 = line s := by
    simp only [s7]
    split
    · exact (line_hidden s6 rfl rfl).trans hs6
    · exact hs6
  simp only [apply_ite line, line_unpair, line_tandemLost, line_updEligible, hs7, ite_self]

theorem gives_slotReceived_of_good {s : State} {commas irq : Bool} {b : List Nat} (hact : linkActive s = true) (hgood : slotGood s commas b = true) :
    Gives (.slotReceived commas b irq) s (fun t => t.twin.rxSeq = some (b.getD 0 0) ∧ t.twin.bad = 0 ∧ ∀ a, t.rdByte a = s.rdByte a) := by
  refine ⟨slotReceived commas b irq s, rfl, ?_⟩
  have hline : line (slotReceived commas b irq s) = ⟨linkUp s, some (b.getD 0 0), 0, s.mem⟩ := by
    simp only [slotReceived, hact, hgood, Bool.not_true, Bool.false_eq_true, if_false]
    rw [apply_ite line, line_urgentTake, ite_self]
    rfl
  exact ⟨congrArg Line.rxSeq hline, congrArg Line.bad hline, rdByte_congr (congrArg Line.mem hline)⟩

/-! ### Bad and missing slots, and the loss of alignment (R375) -/

/-- The bad slot counted. -/
def slotCounted (at_ : Nat) (s : State) : State :=
  { s.incL TwinTel.SLOTS_BAD with twin := { s.twin with
    bad := s.twin.bad + 1, badAt := if s.twin.bad = 0 then at_ else s.twin.badAt, rxAt := at_ } }

theorem slotBad_eq (at_ : Nat) (s : State) :
    slotBad at_ s = if s.twin.bad + 1 = 2 then linkFail (slotCounted at_ s) else slotCounted at_ s := rfl

theorem slotBad_of_first {s : State} (at_ : Nat) (hbad : s.twin.bad ≠ 1) :
    (slotBad at_ s).twin.bad = s.twin.bad + 1 ∧ Frame [] s (slotBad at_ s) := by
  rw [slotBad_eq, if_neg (by omega)]
  exact ⟨rfl, frame_hidden (frame_refl _ s) rfl rfl⟩

theorem slotBad_of_second {s : State} (at_ : Nat) (hbad : s.twin.bad = 1) :
    linkUp (slotBad at_ s) = false ∧ ∀ a, (slotBad at_ s).rdByte a = s.rdByte a := by
  rw [slotBad_eq, if_pos (by omega)]
  obtain ⟨hdown, hmem⟩ := linkFail_effect (slotCounted at_ s)
  exact ⟨hdown, rdByte_congr hmem⟩

/-- A missing slot, and one that is not good, are counted as bad. -/
theorem exec_of_bad {s : State} {i : Instr} {commas irq : Bool} {b : List Nat} (hact : linkActive s = true)
    (hi : i = .slotMissing ∨ (i = .slotReceived commas b irq ∧ slotGood s commas b = false)) :
    ∃ at_ f, exec i s = .next (slotBad at_ (s.reach f)) := by
  rcases hi with rfl | ⟨rfl, hbad⟩
  · exact ⟨s.twin.rxAt + 80, s.twin.rxAt + 168, congrArg Host.Outcome.next (by simp only [slotMissing, hact, Bool.not_true, Bool.false_eq_true, if_false])⟩
  · refine ⟨(s.now - 80) / 80 * 80, s.now, congrArg Host.Outcome.next ?_⟩
    have hnow : s.reach s.now = s := by simp only [State.reach, Nat.max_self]
    simp only [slotReceived, hact, hbad, hnow, Bool.not_true, Bool.not_false, Bool.false_eq_true, if_false, if_true]

theorem gives_of_bad {s : State} {i : Instr} {commas irq : Bool} {b : List Nat} (hact : linkActive s = true)
    (hi : i = .slotMissing ∨ (i = .slotReceived commas b irq ∧ slotGood s commas b = false)) :
    (s.twin.bad ≠ 1 → Gives i s (fun t => t.twin.bad = s.twin.bad + 1 ∧ Frame [] s t)) ∧
    (s.twin.bad = 1 → Gives i s (fun t => linkUp t = false ∧ ∀ a, t.rdByte a = s.rdByte a)) := by
  obtain ⟨at_, f, hop⟩ := exec_of_bad hact hi
  refine ⟨fun hbad => ⟨_, hop, ?_⟩, fun hbad => ⟨_, hop, ?_⟩⟩
  · obtain ⟨hcount, hframe⟩ := slotBad_of_first (s := s.reach f) at_ hbad
    exact ⟨hcount, frame_trans (frame_hidden (frame_refl _ s) rfl rfl) hframe⟩
  · exact slotBad_of_second (s := s.reach f) at_ hbad

theorem gives_laneAlignmentLost {s : State} (hup : linkUp s = true) :
    Gives .laneAlignmentLost s (fun t => linkUp t = false ∧ ∀ a, t.rdByte a = s.rdByte a) := by
  have hop : alignmentLost s = linkFail s := by simp only [alignmentLost, hup, if_true]
  obtain ⟨hdown, hmem⟩ := linkFail_effect s
  exact ⟨_, congrArg Host.Outcome.next hop, hdown, rdByte_congr hmem⟩

/-! ### Mirror records (R362, R377) -/

/-- The late mark of an object is taken away. -/
def inTime (kind obj : Nat) (s : State) : State :=
  { s with twin := { s.twin with late := s.twin.late.filter (fun x => decide (x ≠ kind * 4096 + obj)) } }

section
variable {s : State} (hstandby : twinState s = 3) (kind obj : Nat) (app : List Nat → State → State) (b : List Nat) (age : Nat)
include hstandby

theorem mirrorTake_of_timely : mirrorTake kind obj app b age false s = noteAge (s.now - age) (app b (inTime kind obj s)) := by
  simp only [mirrorTake, hstandby, ne_eq, not_true_eq_false, Bool.false_eq_true, if_false]
  rfl

/-- A late record is held. -/
theorem mirrorTake_of_late : (mirrorTake kind obj app b age true s).twin.held.length = s.twin.held.length + 1 ∧
    Frame (Twin.STATE :: irqRegs Twin.page) s (mirrorTake kind obj app b age true s) := by
  obtain ⟨x, hheld, hop⟩ : ∃ x : TwinState, x.held.length = s.twin.held.length + 1 ∧
      mirrorTake kind obj app b age true s = updEligible { s.incL TwinTel.MIRROR_LATE with twin := x } := by
    simp only [mirrorTake, hstandby, ne_eq, not_true_eq_false, if_false, if_true]
    exact ⟨_, List.length_append, rfl⟩
  have hframe : Frame (Twin.STATE :: irqRegs Twin.page) s { s.incL TwinTel.MIRROR_LATE with twin := x } := frame_hidden (frame_refl _ s) rfl rfl
  rw [hop, twin_updEligible]
  exact ⟨hheld, frame_updEligible s hframe (List.Subset.refl _)⟩

end

theorem rdL_noteAge (at_ : Nat) (s : State) {a : Nat} (ha : a ≠ TwinTel.MIRROR_AGE_MAX) : (noteAge at_ s).rdL a = s.rdL a := by
  rw [noteAge, State.rdL_wrL, if_neg ha]

theorem rd_noteAge (at_ : Nat) (s : State) (a : Nat) : (noteAge at_ s).rd a = s.rd a := by rw [noteAge, State.rd_wrL]

theorem machOf_noteAge (at_ : Nat) (s : State) (m : Nat) : machOf (noteAge at_ s) m = machOf s m := by rw [noteAge, machOf, machOf, State.wrL_foc]

theorem profOf_noteAge (at_ : Nat) (s : State) (c : Nat) : profOf (noteAge at_ s) c = profOf s c := by rw [noteAge, profOf, profOf, State.wrL_prof]

/-- A register put reads back in every state with these registers. -/
theorem rd_of_put {s t : State} {a : Nat} {v : Word} (h : t.regs = (s.wr a v).regs) : t.rd a = v := by
  have hrd : t.rd a = (s.wr a v).rd a := by rw [State.rd, State.rd, h]
  rw [hrd, State.rd_wr_self]

/-- The live values of a context's record. -/
def ctxLives (n : Nat) (b : List Nat) (s : State) : State :=
  (List.range 8).foldl (fun t j => t.wrL (Ctx.ISTATE0 n j) (recWord b (5 + j)))
    ((((s.wrL (Ctx.OUT n) (recWord b 1)).wrL (Ctx.OUT_D n) (recWord b 2)).wrL (Ctx.SETPT n) (recWord b 3)).wrL (Ctx.SETPT_D n) (recWord b 4))

theorem ctxLives_effect (n : Nat) (b : List Nat) (s : State) : (ctxLives n b s).regs = s.regs ∧ (ctxLives n b s).mem = s.mem ∧
    (ctxLives n b s).rdL (Ctx.OUT n) = recWord b 1 := by
  have hout : ∀ t j, State.rdL (State.wrL t (Ctx.ISTATE0 n j) (recWord b (5 + j))) (Ctx.OUT n) = t.rdL (Ctx.OUT n) := fun t j => by
    rw [State.rdL_wrL, if_neg (by simp only [Ctx.OUT, Ctx.ISTATE0]; omega)]
  unfold ctxLives
  refine ⟨(foldl_keeps State.regs (fun _ _ => State.wrL_regs ..) _ _).trans ?_, (foldl_keeps State.mem (fun _ _ => State.wrL_mem ..) _ _).trans ?_,
    (foldl_keeps (·.rdL (Ctx.OUT n)) hout _ _).trans ?_⟩
  · simp only [State.wrL_regs]
  · simp only [State.wrL_mem]
  rw [State.rdL_wrL, if_neg (by simp only [Ctx.OUT, Ctx.SETPT_D]; omega), State.rdL_wrL, if_neg (by simp only [Ctx.OUT, Ctx.SETPT]; omega), State.rdL_wrL,
    if_neg (by simp only [Ctx.OUT, Ctx.OUT_D]; omega), State.rdL_wrL_self]

theorem applyCtx_eq (n : Nat) (b : List Nat) (s : State) : applyCtx n b s = ctxLives n b ((wakeCtx n s).wr (Ctx.STATE n) (recWord b 0)) := rfl

/-- A context's record: its live values leave every register but STATE alone. -/
theorem applyCtx_effect (n : Nat) (b : List Nat) (s : State) : (applyCtx n b s).rd (Ctx.STATE n) = recWord b 0 ∧
    (applyCtx n b s).rdL (Ctx.OUT n) = recWord b 1 ∧ Frame [Ctx.STATE n] s (applyCtx n b s) := by
  have hwake : Frame [Ctx.STATE n] s (wakeCtx n s) := frame_ite (frame_refl _ s) (frame_hidden (frame_refl _ s) rfl rfl)
  obtain ⟨hregs, hmem, hout⟩ := ctxLives_effect n b ((wakeCtx n s).wr (Ctx.STATE n) (recWord b 0))
  rw [applyCtx_eq]
  exact ⟨rd_of_put hregs, hout, frame_hidden (frame_put hwake (recWord b 0) (List.mem_singleton_self _)) hregs hmem⟩

section
variable (s : State)

theorem regs_setInputs (x) : ({ s with inputs := x } : State).regs = s.regs := rfl

theorem mem_setInputs (x) : ({ s with inputs := x } : State).mem = s.mem := rfl

theorem regs_putMach (m : Nat) (x : MachHid) : (putMach m x s).regs = s.regs := rfl

theorem mem_putMach (m : Nat) (x : MachHid) : (putMach m x s).mem = s.mem := rfl

theorem regs_putProf (c : Nat) (x : ProfHid) : (putProf c x s).regs = s.regs := rfl

theorem mem_putProf (c : Nat) (x : ProfHid) : (putProf c x s).mem = s.mem := rfl

theorem regs_inTime (kind obj : Nat) : (inTime kind obj s).regs = s.regs := rfl

theorem mem_inTime (kind obj : Nat) : (inTime kind obj s).mem = s.mem := rfl

end

theorem frame_putInput (m : Nat) (v : Word) (j : Nat) (hj : j < 2) (hm : m < 4) (s : State) :
    Frame [Foc.MSTATE m] s (putInput (0x480 + 16 * m + j) v s) := by
  unfold putInput
  extract_lets s1
  have hs1 : Frame [Foc.MSTATE m] s s1 := frame_hidden (frame_refl _ s) (regs_setInputs s _) (mem_setInputs s _)
  refine frame_ite (frame_putBit hs1 25 false ?_) hs1
  rw [List.mem_singleton, (by omega : (0x480 + 16 * m + j - 0x480) / 16 = m)]

/-- A machine's record: inputs 0 and 1, MSTATE, and the observer's state. -/
theorem applyMach_effect {m : Nat} (hm : m < 4) (b : List Nat) (s : State) : (applyMach m b s).rd (Foc.MSTATE m) = recWord b 8 ∧
    (machOf (applyMach m b s) m).theta = recWord b 0 ∧ (machOf (applyMach m b s) m).tq = recWord b 4 ∧ Frame [Foc.MSTATE m] s (applyMach m b s) := by
  unfold applyMach
  extract_lets w h s1 i0 s2
  have hinputs : Frame [Foc.MSTATE m] s (putInput (0x481 + 16 * m) (w 7) (putInput (0x480 + 16 * m) (w 6) s)) :=
    frame_trans (frame_putInput m (w 6) 0 (by decide) hm s)
      ((by omega : 0x480 + 16 * m + 1 = 0x481 + 16 * m) ▸ frame_putInput m (w 7) 1 (by decide) hm _)
  have hs1 : Frame [Foc.MSTATE m] s s1 := frame_put hinputs _ (List.mem_singleton_self _)
  have hregs : ∀ x : MachHid, (putMach m x s2).regs = s1.regs := fun x => (regs_putMach ..).trans (regs_setInputs s1 _)
  have hmem : ∀ x : MachHid, (putMach m x s2).mem = s1.mem := fun x => (mem_putMach ..).trans (mem_setInputs s1 _)
  have hmach : ∀ x : MachHid, machOf (putMach m x s2) m = x := fun x => KMap.get_set_self ..
  rw [hmach]
  exact ⟨rd_of_put (hregs _), rfl, rfl, frame_hidden hs1 (hregs _) (hmem _)⟩

theorem applyProf_effect (c : Nat) (b : List Nat) (s : State) : (applyProf c b s).rd (Prof.PSTATE c) = recWord b 6 ∧
    (profOf (applyProf c b s) c).v = recWord b 2 ∧ Frame [Prof.PSTATE c] s (applyProf c b s) := by
  unfold applyProf
  extract_lets w h spd
  have hprof : ∀ (x : ProfHid) t, profOf (putProf c x t) c = x := fun x t => KMap.get_set_self ..
  rw [hprof]
  exact ⟨rd_of_put (regs_putProf ..), rfl, frame_hidden (frame_wr s (Prof.PSTATE c) (w 6)) (regs_putProf ..) (mem_putProf ..)⟩

theorem applyGrp_effect (g : Nat) (b : List Nat) (s : State) : (applyGrp g b s).rd (Hw.HW_STAT g) = recWord b 0 ∧
    (applyGrp g b s).rdL (Hw.HW_OUT g) = recWord b 1 ∧ Frame [Hw.HW_STAT g] s (applyGrp g b s) :=
  ⟨rd_of_put (State.wrL_regs ..), State.rdL_wrL_self .., frame_hidden (frame_wr s (Hw.HW_STAT g) (recWord b 0)) (State.wrL_regs ..) (State.wrL_mem ..)⟩

/-- What the age leaves of a record put in place. -/
theorem frame_timely {l : List Nat} {kind obj : Nat} {s t : State} (h : Frame l (inTime kind obj s) t) (at_ : Nat) : Frame l s (noteAge at_ t) :=
  frame_hidden (frame_trans (frame_hidden (frame_refl _ s) (regs_inTime ..) (mem_inTime ..)) h) (State.wrL_regs ..) (State.wrL_mem ..)

theorem gives_mirrors {s : State} (hstandby : twinState s = 3) (body : List Nat) (age : Nat) :
    Gives (.ctxMirror body age false) s (fun t => t.rd (Ctx.STATE (bytesNat (body.take 2) % 512)) = recWord body 0 ∧
      t.rdL (Ctx.OUT (bytesNat (body.take 2) % 512)) = recWord body 1 ∧ Frame [Ctx.STATE (bytesNat (body.take 2) % 512)] s t) ∧
    Gives (.machMirror body age false) s (fun t => t.rd (Foc.MSTATE (body.getD 0 0 % 4)) = recWord body 8 ∧
      (machOf t (body.getD 0 0 % 4)).theta = recWord body 0 ∧ (machOf t (body.getD 0 0 % 4)).tq = recWord body 4 ∧
      Frame [Foc.MSTATE (body.getD 0 0 % 4)] s t) ∧
    Gives (.profMirror body age false) s (fun t => t.rd (Prof.PSTATE (body.getD 0 0 % 4)) = recWord body 6 ∧
      (profOf t (body.getD 0 0 % 4)).v = recWord body 2 ∧ Frame [Prof.PSTATE (body.getD 0 0 % 4)] s t) ∧
    Gives (.grpMirror body age false) s (fun t => t.rd (Hw.HW_STAT (body.getD 0 0 % 64)) = recWord body 0 ∧
      t.rdL (Hw.HW_OUT (body.getD 0 0 % 64)) = recWord body 1 ∧ Frame [Hw.HW_STAT (body.getD 0 0 % 64)] s t) := by
  have htimely : ∀ kind obj app, (Host.Outcome.next (mirrorTake kind obj app body age false s) : Out) =
      .next (noteAge (s.now - age) (app body (inTime kind obj s))) := fun kind obj app =>
    congrArg Host.Outcome.next (mirrorTake_of_timely hstandby kind obj app body age)
  refine ⟨?ctx, ?mach, ?prof, ?grp⟩
  case ctx =>
    obtain ⟨hreg, hout, hframe⟩ := applyCtx_effect (bytesNat (body.take 2) % 512) body (inTime 1 (bytesNat (body.take 2) % 512) s)
    exact ⟨_, htimely 1 _ (applyCtx _), (rd_noteAge ..).trans hreg,
      (rdL_noteAge _ _ (by simp only [Ctx.OUT, TwinTel.MIRROR_AGE_MAX]; omega)).trans hout, frame_timely hframe _⟩
  case mach =>
    obtain ⟨hreg, htheta, htq, hframe⟩ := applyMach_effect (Nat.mod_lt (body.getD 0 0) (by decide)) body (inTime 2 (body.getD 0 0 % 4) s)
    exact ⟨_, htimely 2 _ (applyMach _), (rd_noteAge ..).trans hreg, (congrArg MachHid.theta (machOf_noteAge ..)).trans htheta,
      (congrArg MachHid.tq (machOf_noteAge ..)).trans htq, frame_timely hframe _⟩
  case prof =>
    obtain ⟨hreg, hv, hframe⟩ := applyProf_effect (body.getD 0 0 % 4) body (inTime 3 (body.getD 0 0 % 4) s)
    exact ⟨_, htimely 3 _ (applyProf _), (rd_noteAge ..).trans hreg, (congrArg ProfHid.v (profOf_noteAge ..)).trans hv, frame_timely hframe _⟩
  case grp =>
    obtain ⟨hreg, hout, hframe⟩ := applyGrp_effect (body.getD 0 0 % 64) body (inTime 4 (body.getD 0 0 % 64) s)
    exact ⟨_, htimely 4 _ (applyGrp _), (rd_noteAge ..).trans hreg,
      (rdL_noteAge _ _ (by simp only [Hw.HW_OUT, TwinTel.MIRROR_AGE_MAX]; omega)).trans hout, frame_timely hframe _⟩

theorem gives_mirrors_of_late {s : State} (hstandby : twinState s = 3) (body : List Nat) (age : Nat) :
    ∀ i ∈ [Instr.ctxMirror body age true, Instr.machMirror body age true, Instr.profMirror body age true, Instr.grpMirror body age true],
      Gives i s (fun t => t.twin.held.length = s.twin.held.length + 1 ∧ Frame (Twin.STATE :: irqRegs Twin.page) s t) := by
  intro i hi
  simp only [List.mem_cons, List.not_mem_nil, or_false] at hi
  rcases hi with rfl | rfl | rfl | rfl <;> exact ⟨_, rfl, mirrorTake_of_late hstandby ..⟩

/-- Settles O58: slots by what waits at the grid instant, the row of bad slots by its length, and each record by the object it names. -/
theorem slotsKeepTheLinkAndMirrorRecords : Obligations.SlotsKeepTheLinkAndMirrorRecords := by
  intro b body commas irq age s
  refine ⟨gives_slotSend_of_plain, gives_slotSend_of_detach, gives_slotSend_of_take, gives_slotReceived_of_good,
    fun i hi hact => gives_of_bad hact hi, ⟨_, rfl⟩, gives_laneAlignmentLost, fun hstandby => ?_⟩
  obtain ⟨hctx, hmach, hprof, hgrp⟩ := gives_mirrors hstandby body age
  exact ⟨hctx, hmach, hprof, hgrp, gives_mirrors_of_late hstandby body age⟩

end Sys2Proof.Laws.LinkSlots
end

section
/-! PROOFS. An update event leaves what paces the timebases alone, and a start of timebases lets each of them run (R212-R214, R405). -/

namespace Sys2Proof.Laws.TimebaseStarts
open Sys2Proof.Machine Sys2Proof.Laws.Fields Sys2Proof.Laws.Protection Sys2Proof.Laws.ProtDisplay Sys2Proof.Laws.Bystanders

/-! ### Which timebases run, and the writes staged for their reloads -/

/-- Which timebases run, the writes staged for a reload, and the memory windows. -/
def paced (s : State) : (Fin 8 → Bool) × List Staged × List Host.Cell := (fun t => tbRun s t, s.pwm.staged, s.mem)

theorem tbRun_of_paced {s u : State} (h : paced u = paced s) {t : Nat} (ht : t < 8) : tbRun u t = tbRun s t :=
  congrFun (congrArg Prod.fst h) ⟨t, ht⟩

theorem staged_of_paced {s u : State} (h : paced u = paced s) : u.pwm.staged = s.pwm.staged := congrArg (fun x => x.2.1) h

theorem mem_of_paced {s u : State} (h : paced u = paced s) : u.mem = s.mem := congrArg (fun x => x.2.2) h

section
variable (s : State)

theorem paced_wr {a : Nat} (v : Word) (ha : Apart a) : paced (s.wr a v) = paced s := by
  have hrun : ∀ t : Fin 8, tbRun (s.wr a v) t = tbRun s t := fun t => rdB_wr_ne s v 0 (ne_tbStat_of_apart ha t.isLt).symm
  simp only [paced, hrun, State.wr_pwm, State.wr_mem]

theorem paced_wrF {a : Nat} (hi lo v : Nat) (ha : Apart a) : paced (s.wrF a hi lo v) = paced s := paced_wr s _ ha

theorem paced_wrB {a : Nat} (i : Nat) (b : Bool) (ha : Apart a) : paced (s.wrB a i b) = paced s := paced_wr s _ ha

/-- The bits of TB_STAT beside RUN. -/
theorem paced_tbStat (k : Nat) {i : Nat} (b : Bool) (hi : 1 ≤ i ∧ i < 32) : paced (s.wrB (Tb.TB_STAT k) i b) = paced s := by
  have hrun : ∀ t : Fin 8, tbRun (s.wrB (Tb.TB_STAT k) i b) t = tbRun s t := fun t => by
    rw [tbRun, State.rdB, State.rd_wrB]
    split
    · next heq => rw [bit_setBit_ne _ _ hi.2 (by omega), ← heq, tbRun, State.rdB]
    · rfl
  simp only [paced, hrun, State.wrB_pwm, State.wrB_mem]

theorem paced_setPwm {x : PwmState} (hx : x.staged = s.pwm.staged) : paced { s with pwm := x } = paced s := by
  simp only [paced, hx]
  rfl

theorem paced_putTb (t : Nat) (x : TbHid) : paced (putTb t x s) = paced s := paced_setPwm s rfl

theorem paced_putCh (c : Nat) (x : ChHid) : paced (putCh c x s) = paced s := paced_setPwm s rfl

theorem paced_putLeg (g x : Nat) (l : LegHid) : paced (putLeg g x l s) = paced s := paced_setPwm s rfl

theorem paced_incL (a : Nat) : paced (s.incL a) = paced s := rfl

theorem paced_setFab (x) : paced { s with fab := x } = paced s := rfl

/-! ### Switches (R28-R30, R219-R224) -/

theorem apart_chStat (c : Nat) : Apart (Ch.CH_STAT c) := by
  simp only [Apart, Ch.CH_STAT]
  omega

theorem apart_chAct (c : Nat) : Apart (Ch.CH_ACT c) := by
  simp only [Apart, Ch.CH_ACT]
  omega

theorem apart_grpStat (g : Nat) : Apart (Grp.GRP_STAT g) := by
  simp only [Apart, Grp.GRP_STAT]
  omega

theorem paced_setLevel (c : Nat) (b : Bool) (t8 : Int) : paced (setLevel c b t8 s) = paced s := by
  have hedges : ∀ t x, paced ({ t with pwm := { t.pwm with edges := x } } : State) = paced t := fun t _ => paced_setPwm t rfl
  simp only [setLevel, apply_ite paced, paced_putCh, hedges, paced_wrB _ _ _ (apart_chStat c), ite_self]

theorem paced_requestOn (c : Nat) (t8 : Int) : paced (requestOn c t8 s) = paced s := by
  simp only [requestOn, apply_ite paced, paced_setLevel, paced_putCh, paced_wrB _ _ _ (apart_chStat c), ite_self]

theorem paced_passLeg (t8 : Int) (g x : Nat) : paced (passLeg t8 s g x) = paced s := by
  have hshow : ∀ t b, paced (showPassage g x b t) = paced t := fun t b => paced_wrB t _ b (apart_grpStat g)
  unfold passLeg
  dsimp only
  split
  · rfl
  · split <;> simp only [apply_ite paced, paced_incL, hshow, paced_putLeg, ite_self]

theorem paced_resolve (cs : List Nat) (upd : Nat → Bool) (t8 : Int) : paced (resolve cs upd t8 s) = paced s := by
  have hgov : ∀ t c, paced (putCh c (govern t (upd c) c) t) = paced t := fun t c => paced_putCh t c _
  have hrank : ∀ t c, paced (showRank c t) = paced t := fun t c =>
    (paced_wrB _ _ _ (apart_chStat c)).trans (paced_wrF t _ _ _ (apart_chStat c))
  have hleg : ∀ t (e : Nat × Nat), paced (passLeg t8 t e.1 e.2) = paced t := fun t e => paced_passLeg t t8 e.1 e.2
  have hoff : ∀ t c, paced (if wants t c then t else setLevel c false t8 t) = paced t := fun t c => by
    simp only [apply_ite paced, paced_setLevel, ite_self]
  have hon : ∀ t c, paced (if wants t c then requestOn c t8 t else t) = paced t := fun t c => by
    simp only [apply_ite paced, paced_requestOn, ite_self]
  simp only [resolve, foldl_keeps paced hon, foldl_keeps paced hoff, foldl_keeps paced hleg, foldl_keeps paced hrank, foldl_keeps paced hgov]

theorem bystander_paced : Bystander paced where
  wr s _ v ha := paced_wr s v ha.2
  wrL _ _ _ := rfl
  emit _ _ _ _ _ _ := rfl
  stampNow _ _ := rfl
  setProt _ _ := rfl
  setGl _ _ := rfl
  setCle _ _ := rfl
  setFoc _ _ := rfl
  setSrcs _ _ := rfl
  setInputs _ _ := rfl
  setForces s _ := paced_setPwm s rfl
  resolveNow s := paced_resolve s ..

/-! ### Reloads (R212, R213, R222, R226, R258, R259) -/

theorem paced_reloadGroup (g : Nat) : paced (reloadGroup g s) = paced s := by
  have hload : ∀ p t, paced (loadShadow p t) = paced t := fun p t => rfl
  have hact : ∀ t a v, paced (State.wrA t a v) = paced t := fun t a v => rfl
  simp only [reloadGroup, hload, paced_wrB _ _ _ (apart_grpStat g), hact]

theorem paced_convertLeg (g x : Nat) : paced (convertLeg g x s) = paced s := by
  have hact : ∀ t c v, paced (State.wr t (Ch.CH_ACT c) v) = paced t := fun t c v => paced_wr t v (apart_chAct c)
  simp only [convertLeg, apply_ite paced, foldl_keeps paced (fun t c => hact t c _), hact, paced_putLeg, paced_incL,
    pulse_of_bystander bystander_paced, ite_self]

theorem paced_refreshLeg (g x st : Nat) : paced (refreshLeg g x st s).2 = paced s := by
  simp only [refreshLeg, apply_ite Prod.snd, apply_ite paced, paced_putLeg, paced_incL, ite_self]

theorem paced_legEnter (g x st : Nat) (t8 : Int) : paced (legEnter g x st t8 s) = paced s := by
  unfold legEnter
  dsimp only
  split
  · rfl
  · split <;> simp only [apply_ite paced, paced_putLeg, paced_incL, pulse_of_bystander bystander_paced, ite_self]

theorem paced_reloadLeg (g : Nat) (e : Int) (x : Nat) : paced (reloadLeg g e s x) = paced s := by
  simp only [reloadLeg, paced_legEnter, paced_putLeg, paced_refreshLeg, paced_convertLeg]

/-- With nothing staged, only the marks of staged writes move. -/
theorem paced_unstage (t : Nat) (hnone : s.pwm.staged = []) : paced (unstage t s) = paced s := by
  have hmark : ∀ u g, paced (State.wrB u (Grp.GRP_STAT g) 1 false) = paced u := fun u g => paced_wrB u _ _ (apart_grpStat g)
  have hnothing : s.pwm.staged.filter (fun w => decide (w.tb = t)) = [] := by rw [hnone, List.filter_nil]
  unfold unstage
  rw [hnothing]
  extract_lets mine s0 s1 isTb grpOf s2 s3 x
  have hs0 : paced s0 = paced s := foldl_keeps paced hmark _ s
  have hs2 : paced s2 = paced s := hs0
  have hs3 : paced s3 = paced s := by
    simp only [s3]
    split
    · exact (paced_tbStat s2 t false (by decide)).trans hs2
    · exact hs2
  have hleft : s3.pwm.staged = [] := (staged_of_paced hs3).trans hnone
  refine (paced_setPwm s3 ?_).trans hs3
  rw [hleft, List.filter_nil]

theorem paced_doUpdate (t : Nat) (e : Int) (hnone : s.pwm.staged = []) : paced (doUpdate t e s) = paced s := by
  have hgov : ∀ u c, paced (putCh c (govern u true c) u) = paced u := fun u c => paced_putCh u c _
  have hlegs : ∀ u g, paced ((List.range (grpLegs g)).foldl (reloadLeg g e) u) = paced u := fun u g =>
    foldl_keeps paced (fun v x => paced_reloadLeg v g e x) _ u
  have hvector : ∀ u g, paced (State.wrF u (Grp.GRP_STAT g) 12 8 (fld (u.rdA (Grp.GRP_REFA g)) 4 0)) = paced u := fun u g =>
    paced_wrF u _ _ _ (apart_grpStat g)
  have hreload : ∀ u g, paced (reloadGroup g u) = paced u := fun u g => paced_reloadGroup u g
  unfold doUpdate
  extract_lets gs s1 h s2 x s3 ruled s4 s5
  have hs2 : paced s2 = paced s := (paced_incL _ (PwmTel.UPDATES t)).trans ((paced_putTb s1 t _).trans (foldl_keeps paced hreload _ s))
  have hs3 : paced s3 = paced s := (paced_setFab s2 _).trans hs2
  have hs5 : paced s5 = paced s :=
    (foldl_keeps paced hvector _ s4).trans ((foldl_keeps paced hlegs _ ruled).trans ((foldl_keeps paced hgov _ s3).trans hs3))
  have hresolved := (paced_resolve s5 (tbChans s5 t) (fun _ => true) (8 * e)).trans hs5
  exact (paced_unstage _ t ((staged_of_paced hresolved).trans hnone)).trans hresolved

/-! ### DMA runs that an update event begins (R404-R409) -/

theorem apart_dma (k : Nat) : Apart (DmaCh.CH_STAT k) ∧ Apart (DmaCh.CH_COUNT k) ∧ Apart (DmaCh.CH_MISS k) := by
  simp only [Apart, DmaCh.CH_STAT, DmaCh.CH_COUNT, DmaCh.CH_MISS]
  omega

theorem paced_putDma (k : Nat) (r : Option DmaRun) : paced (putDma k r s) = paced s := rfl

theorem paced_lockExpire (p : Nat) : paced (lockExpire p s) = paced s := by
  have hlock : Apart (hLOCK p) := by
    simp only [Apart, hLOCK]
    omega
  simp only [lockExpire, closeLock, apply_ite paced, paced_wr _ _ hlock, ite_self]

theorem paced_locksExpire : paced (locksExpire s) = paced s := foldl_keeps paced (fun t _ => paced_lockExpire t _) _ s

theorem paced_dmaLevels : paced (dmaLevels s) = paced s :=
  (raw_of_bystander bystander_paced ..).trans (foldl_keeps paced (fun t k => raw_of_bystander bystander_paced t _ k _) _ s)

theorem paced_dmaFail (k err code : Nat) : paced (dmaFail k err code s) = paced s := by
  obtain ⟨hstat, hcount, -⟩ := apart_dma k
  have htwin : ∀ x, paced ({ s with twin := x } : State) = paced s := fun _ => rfl
  simp only [dmaFail, paced_locksExpire, paced_dmaLevels, paced_wrF _ _ _ _ hstat, paced_wr _ _ hcount, paced_putDma, htwin]

theorem paced_dmaIssue (k : Nat) (v : List Word) (r : DmaRun) : paced (dmaIssue k v r s) = paced s := by
  have hwrite : ∀ port dma fwd copy l t, paced (twinWriteMsg port dma fwd copy l t) = paced t := fun _ _ _ _ _ _ => rfl
  have hread : ∀ port dma a n t, paced (twinReadMsg port dma a n t) = paced t := fun _ _ _ _ _ => rfl
  unfold dmaIssue
  dsimp only
  split <;> simp only [apply_ite paced, hwrite, hread, paced_putDma, ite_self]

theorem paced_dmaBegin (k : Nat) : paced (dmaBegin k s) = paced s := by
  obtain ⟨hstat, -, -⟩ := apart_dma k
  simp only [dmaBegin, dmaLoad, apply_ite paced, paced_dmaIssue, paced_dmaFail, paced_putDma, paced_wrF _ _ _ _ hstat, paced_wrB _ _ _ hstat, ite_self]

theorem paced_dmaTrigger (trig : Nat) : paced (dmaTrigger trig s) = paced s :=
  foldl_keeps paced (fun t k => by
    obtain ⟨-, -, hmiss⟩ := apart_dma k
    simp only [apply_ite paced, paced_dmaBegin, incWord, pulse_of_bystander bystander_paced, paced_wr _ _ hmiss, ite_self]) _ s

theorem paced_fullUpdate (t : Nat) (e : Int) (hnone : s.pwm.staged = []) : paced (fullUpdate t e s) = paced s := by
  have hbefore := focBeforeUpdate_of_bystander bystander_paced s t
  simp only [fullUpdate, paced_dmaTrigger, focAfterUpdate_of_bystander bystander_paced,
    paced_doUpdate _ t e ((staged_of_paced hbefore).trans hnone), hbefore]

end

/-! ### Starts (R214) -/

theorem tbStat_inj {a b : Nat} (h : Tb.TB_STAT a = Tb.TB_STAT b) : a = b := by
  simp only [Tb.TB_STAT] at h
  omega

/-- A timebase that begins runs; the others, the staged writes and the memory windows stand. -/
theorem beginTb_effect (d t : Nat) (s : State) : (∀ k, tbRun (beginTb d t s) k = if k = t then true else tbRun s k) ∧
    (beginTb d t s).pwm.staged = s.pwm.staged ∧ (beginTb d t s).mem = s.mem := by
  refine ⟨fun k => ?_, by simp only [beginTb, putTb, State.wrB_pwm, State.wr_pwm]; rfl, by simp only [beginTb, State.wrB_mem]; rfl⟩
  have hown : hSTATUS Tb.page ≠ Tb.TB_STAT k := by
    simp only [hSTATUS, Tb.page, Tb.TB_STAT]
    omega
  have hstat : tbRun (beginTb d t s) k = State.rdB ((s.wrA (Tb.TB_PRD t) (s.rd (Tb.TB_PRD t))).wr (Tb.TB_STAT t) (word (1 + at' d 4))) (Tb.TB_STAT k) 0 :=
    rdB_wr_ne _ _ 0 hown.symm
  rw [hstat, State.rdB]
  split
  · next heq =>
    rw [heq, State.rd_wr_self]
    simp only [bit, word, at', BitVec.getLsbD_ofNat, Nat.testBit_zero]
    simp
    omega
  · next hne => exact congrArg (fun w => bit w 0) (State.rd_wr_ne _ _ _ _ (fun h => hne (tbStat_inj h)))

theorem beginTbs_effect (d : Nat) (l : List Nat) (s : State) : (∀ k ∈ l, tbRun (l.foldl (fun u t => beginTb d t u) s) k = true) ∧
    (l.foldl (fun u t => beginTb d t u) s).pwm.staged = s.pwm.staged ∧ (l.foldl (fun u t => beginTb d t u) s).mem = s.mem := by
  suffices h : (∀ k, k ∈ l ∨ tbRun s k = true → tbRun (l.foldl (fun u t => beginTb d t u) s) k = true) ∧
      (l.foldl (fun u t => beginTb d t u) s).pwm.staged = s.pwm.staged ∧ (l.foldl (fun u t => beginTb d t u) s).mem = s.mem from
    ⟨fun k hk => h.1 k (.inl hk), h.2⟩
  induction l generalizing s with
  | nil => exact ⟨fun k hk => hk.resolve_left List.not_mem_nil, rfl, rfl⟩
  | cons t l ih =>
    obtain ⟨hrun, hstaged, hmem⟩ := beginTb_effect d t s
    obtain ⟨hruns, hlstaged, hlmem⟩ := ih (beginTb d t s)
    refine ⟨fun k hk => hruns k ?_, hlstaged.trans hstaged, hlmem.trans hmem⟩
    rw [hrun k]
    by_cases hkt : k = t
    · exact .inr (if_pos hkt)
    · rw [if_neg hkt]
      exact hk.imp_left (fun hmem => (List.mem_cons.mp hmem).resolve_left hkt)

/-- The update events at the start of timebases leave what paces them alone. -/
theorem paced_fullUpdates (l : List Nat) {s : State} (hnone : s.pwm.staged = []) : paced (l.foldl (fun u t => fullUpdate t u.now u) s) = paced s :=
  List.foldlRecOn l _ (motive := fun u => paced u = paced s) rfl
    (fun u hu t _ => (paced_fullUpdate u t _ ((staged_of_paced hu).trans hnone)).trans hu)

/-- A start that is accepted, with nothing staged: every named timebase runs. -/
theorem tbStartWrite_effect {v : Word} {s : State} (hnone : s.pwm.staged = []) (hok : (tbStartWrite v s).2 = .none) :
    (∀ k ∈ maskBits 8 v, tbRun (tbStartWrite v s).1 k = true) ∧ (tbStartWrite v s).1.mem = s.mem := by
  have hlt : ∀ k ∈ maskBits 8 v, k < 8 := fun k hk => List.mem_range.mp (List.mem_filter.mp hk).1
  revert hok
  unfold tbStartWrite
  extract_lets l d s1
  obtain ⟨hrun, hstaged, hmem⟩ := beginTbs_effect d l s
  have hpaced : paced (l.foldl (fun u t => fullUpdate t u.now u) s1) = paced s1 := paced_fullUpdates l (hstaged.trans hnone)
  have hstarted : (∀ k ∈ l, tbRun (l.foldl (fun u t => fullUpdate t u.now u) s1) k = true) ∧
      (l.foldl (fun u t => fullUpdate t u.now u) s1).mem = s.mem :=
    ⟨fun k hk => (tbRun_of_paced hpaced (hlt k hk)).trans (hrun k hk), (mem_of_paced hpaced).trans hmem⟩
  have hdenied : ∀ c : RefCode, c ≠ .none → ∀ P : Prop, (deny s c).2 = .none → P := fun c hc P hok => absurd hok hc
  split_ifs
  case pos | pos | pos | pos | pos | pos => exact hdenied _ (by decide) _
  case neg => exact fun _ => hstarted

end Sys2Proof.Laws.TimebaseStarts
end

section
/-! PROOFS. The commands of the pair, its HELLOs and time-outs, and TB_SYNC (R357-R360, R363, R367, R368, R373). -/

namespace Sys2Proof.Laws.Pairing
open Sys2Proof.Machine Sys2Proof.Safety Sys2Proof.Laws.Fabric Sys2Proof.Laws.Refusals Sys2Proof.Laws.Frames Sys2Proof.Laws.Fields
open Sys2Proof.Laws.Protection Sys2Proof.Laws.GateLinks Sys2Proof.Laws.ProtDisplay Sys2Proof.Laws.Admitted Sys2Proof.Laws.Ethernet
open Sys2Proof.Laws.Bystanders Sys2Proof.Laws.LinkSlots Sys2Proof.Laws.TimebaseStarts

/-! ### STATE of the link -/

/-- The registers that a change of the pair's state shows in. -/
abbrev pairRegs : List Nat := Twin.STATE :: irqRegs Twin.page

theorem state_mem : Twin.STATE ∈ pairRegs := List.mem_cons_self ..

theorem irq_subset : irqRegs Twin.page ⊆ pairRegs := List.subset_cons_self ..

theorem twinState_wr {a : Nat} (v : Word) (ha : a ≠ Twin.STATE) (s : State) : twinState (s.wr a v) = twinState s := by
  rw [twinState, State.rdF, State.rd_wr_ne _ _ _ _ ha.symm, twinState, State.rdF]

theorem frame_setTwin {l : List Nat} {s t : State} (h : Frame l s t) (st : Nat) (ha : Twin.STATE ∈ l) : Frame l s (setTwin st t) := frame_put h _ ha

section
variable {s : State}

/-! ### Commands (R357-R360, R363, R367) -/

theorem unforwarded_cmd : Unforwarded Twin.CMD := unforwarded_of_page (by decide)

section
variable {port : Port} (hadm : Admits s port Twin.CMD)
include hadm

/-- The state of a device that begins to attach, before its HELLO. -/
def attaching (s : State) : State :=
  setTwin 1 { s with twin := { s.twin with
      before := twinState s, attAt := s.now, step := if linkUp s then 1 else 0, queue := [], asked := [], crcBad := false, refused := false
      lateTwo := false, late := [], held := [], upBad := false, skewBad := false, rxSeq := none, bad := 0, rxAt := s.now } }

theorem gives_twinAttach (halone : twinState s = 0 ∨ twinState s = 6) :
    Gives (.twinAttach port) s (fun t => twinState t = 1 ∧ t.twin.attAt = s.now ∧ Frame [Twin.STATE] s t) := by
  have hfree : ¬ (twinState s ≠ 0 ∧ twinState s ≠ 6) := by omega
  have hop : twinCmdWrite port 1 s = accept (if linkUp s then sendHello (twinMode (attaching s)) (attaching s) else attaching s) := by
    have hcmd : twinCmdWrite port 1 s = twinAttach s := by simp only [twinCmdWrite, (by decide : fld (1 : Word) 4 0 = 1)]
    rw [hcmd, twinAttach, if_neg hfree]
    rfl
  have hframe : Frame [Twin.STATE] s (attaching s) :=
    frame_setTwin (frame_hidden (frame_refl _ s) rfl rfl) 1 (List.mem_singleton_self _)
  have hstate : twinState (attaching s) = 1 := twinState_setTwin _ (by decide)
  refine gives_of_accept rfl hadm unforwarded_cmd hop (fun f x c w => ?_)
  split
  · exact ⟨hstate, rfl, frame_hidden hframe rfl rfl⟩
  · exact ⟨hstate, rfl, frame_hidden hframe rfl rfl⟩

theorem gives_twinDetach (hpaired : twinState s ≠ 0)
    (hstopped : (twinState s = 4 ∨ twinState s = 5) → anyTbRun s = false ∧ s.twin.peerRuns = false) :
    Gives (.twinDetach port) s (fun t => t.twin.detach = true ∧ Frame [] s t) := by
  have hfree : ¬ (twinState s = 0 ∨ ((twinState s = 4 ∨ twinState s = 5) ∧ (anyTbRun s || s.twin.peerRuns) = true)) := by
    rintro (hsolo | ⟨htandem, hruns⟩)
    · exact hpaired hsolo
    · obtain ⟨htbs, hpeer⟩ := hstopped htandem
      rw [htbs, hpeer] at hruns
      cases hruns
  have hop : twinCmdWrite port 2 s = accept { s with twin := { s.twin with detach := true } } := by
    have hcmd : twinCmdWrite port 2 s = twinDetach s := by simp only [twinCmdWrite, (by decide : fld (2 : Word) 4 0 = 2)]
    rw [hcmd, twinDetach, if_neg hfree]
  exact gives_of_accept rfl hadm unforwarded_cmd hop (fun _ _ _ _ => ⟨rfl, frame_hidden (frame_refl _ s) rfl rfl⟩)

theorem gives_twinSwap (hactive : twinState s = 2) (heligible : s.rdB Twin.STATE 18 = true) (hnone : s.twin.swap = none) :
    Gives (.twinSwap port) s (fun t => t.twin.swap = some port ∧ Frame [] s t) := by
  have hop : twinCmdWrite port 4 s = accept { s with twin := { s.twin with swap := some port, offers := 0 } } := by
    simp only [twinCmdWrite, (by decide : fld (4 : Word) 4 0 = 4), twinSwap, hactive, heligible, hnone, ne_eq, not_true_eq_false, Bool.not_true,
      Bool.false_eq_true, or_self, if_false, Option.isSome_none]
  exact gives_of_accept rfl hadm unforwarded_cmd hop (fun _ _ _ _ => ⟨rfl, frame_hidden (frame_refl _ s) rfl rfl⟩)

end

/-! ### The copy of the configuration (R363) -/

/-- One message of a copy. -/
abbrev copyWrite (l : List (Nat × Word)) (s : State) : State := twinWriteMsg none none true true l s

theorem copyPending_copyWrite (l : List (Nat × Word)) (s : State) : copyPending (copyWrite l s) = true := by
  simp only [copyPending, twinWriteMsg, twinSend, List.any_append, List.any_cons, Bool.true_or, Bool.or_true]

theorem frame_copyWrite (l : List (Nat × Word)) (s : State) : Frame [] s (copyWrite l s) := frame_hidden (frame_refl _ s) rfl rfl

/-- A copy begins with the entry that marks its beginning. -/
theorem copyEntries_eq (s : State) : ∃ rest, copyEntries s = (Twin.CMD, 8) :: rest := by
  unfold copyEntries
  exact ⟨_, rfl⟩

/-- A copy sends at least one message. -/
theorem sendConfig_effect (s : State) : copyPending (sendConfig s) = true ∧ Frame [] s (sendConfig s) := by
  obtain ⟨rest, hentries⟩ := copyEntries_eq s
  unfold sendConfig
  rw [hentries]
  extract_lets l
  obtain ⟨n, hn⟩ : ∃ n, (l.length + 6) / 7 = n + 1 := by
    have hlength : l.length = rest.length + 1 := rfl
    exact ⟨(l.length + 6) / 7 - 1, by omega⟩
  rw [hn]
  refine ⟨?_, frame_foldl (frame_refl _ s) (fun k _ u hu => frame_trans hu (frame_copyWrite _ u))⟩
  rw [List.range_succ, List.foldl_append, List.foldl_cons, List.foldl_nil]
  exact copyPending_copyWrite ..

theorem gives_twinCfgCopy_of_sent {u : State} {port : Port} (hadm : Admits s port Twin.CMD) (hop : twinCmdWrite port 8 s = accept u)
    (hcopy : copyPending u = true) (hframe : Frame [] s u) : Gives (.twinCfgCopy port) s (fun t => copyPending t = true ∧ Frame [] s t) :=
  gives_of_accept rfl hadm unforwarded_cmd hop (fun _ _ _ _ => ⟨hcopy, frame_beside hframe⟩)

theorem twinCmdWrite_of_copy {port : Port} (hactive : twinState s = 2) (hport : port ≠ .twin) :
    twinCmdWrite port 8 s = accept (sendConfig s) := by
  have hcmd : twinCmdWrite port 8 s = twinCfgCopy port s := by simp only [twinCmdWrite, (by decide : fld (8 : Word) 4 0 = 8)]
  rw [hcmd, twinCfgCopy, if_neg hport, if_pos hactive]

theorem gives_twinCfgCopy {port : Port} (hadm : Admits s port Twin.CMD) (hactive : twinState s = 2) (hport : port ≠ .twin) :
    Gives (.twinCfgCopy port) s (fun t => copyPending t = true ∧ Frame [] s t) :=
  gives_twinCfgCopy_of_sent hadm (twinCmdWrite_of_copy hactive hport) (sendConfig_effect s).1 (sendConfig_effect s).2

theorem gives_twinServe {port : Port} (hadm : Admits s port Twin.CMD) (halone : twinState s = 0 ∨ twinState s = 6) (hasked : s.twin.recover = true) :
    Gives (.twinServe port) s (fun t => twinState t = 7 ∧ t.twin.before = twinState s ∧ Frame [Twin.STATE] s t) := by
  obtain ⟨u, hu⟩ : ∃ u : State, u = { s with twin := { s.twin with before := twinState s, recover := false } } := ⟨_, rfl⟩
  have hbefore : u.twin.before = twinState s := by rw [hu]
  have hframe : Frame [Twin.STATE] s (setTwin 7 u) := by
    rw [hu]
    exact frame_setTwin (frame_hidden (frame_refl _ s) rfl rfl) 7 (List.mem_singleton_self _)
  have hop : twinCmdWrite port 16 s = accept (sendHello 3 (setTwin 7 u)) := by
    simp only [twinCmdWrite, (by decide : fld (16 : Word) 4 0 = 16), twinServe, halone, hasked, and_self, if_true, hu]
  exact gives_of_accept rfl hadm unforwarded_cmd hop (fun _ _ _ _ => ⟨twinState_setTwin u (by decide), hbefore, frame_hidden hframe rfl rfl⟩)

/-! ### Aligned lanes, and a pair that does not come about (R358) -/

/-- LINK_UP is set, with its interrupt. -/
def lanesUp (s : State) : State := if linkUp s then s else (s.wrB Twin.STATE 16 true).pulse Twin.page 0

theorem linkUp_lanesUp (s : State) : linkUp (lanesUp s) = true := by
  unfold lanesUp
  split
  · assumption
  · rw [linkUp, State.rdB, State.rd_pulse_ne _ _ _ _ (by decide) (by decide), ← State.rdB, rdB_wrB_self _ _ (by decide)]

theorem frame_lanesUp (s : State) : Frame pairRegs s (lanesUp s) :=
  frame_ite (frame_refl _ s) (frame_pulse (frame_putBit (frame_refl _ s) 16 true state_mem) 0 irq_subset)

theorem gives_laneAligned (s : State) :
    Gives .laneAligned s (fun t => linkUp t = true ∧ t.twin.rxSeq = none ∧ t.twin.bad = 0 ∧ Frame (Twin.STATE :: irqRegs Twin.page) s t) := by
  have hup := linkUp_lanesUp s
  have hframe := frame_lanesUp s
  refine ⟨laneAligned s, rfl, ?_⟩
  unfold laneAligned
  rw [← lanesUp]
  generalize lanesUp s = u at hup hframe
  dsimp only
  split
  · exact ⟨hup, rfl, rfl, frame_hidden hframe rfl rfl⟩
  · exact ⟨hup, rfl, rfl, frame_hidden hframe rfl rfl⟩

/-- A failed attachment shows the state before it and its code. -/
theorem attachFail_effect {code : Nat} (s : State) (hcode : code < 16) (hbefore : s.twin.before < 16) :
    twinState (attachFail code s) = s.twin.before ∧ (attachFail code s).rdF Twin.STATE 11 8 = code ∧ (attachFail code s).twin.step = 0 ∧
    (attachFail code s).now = s.now ∧ Frame pairRegs s (attachFail code s) := by
  have hframe : Frame pairRegs s (((setTwin s.twin.before s).wrF Twin.STATE 11 8 code).pulse Twin.page 7) :=
    frame_pulse (frame_put (frame_setTwin (frame_refl _ s) _ state_mem) _ state_mem) 7 irq_subset
  have hrd : (attachFail code s).rd Twin.STATE = setFld (setFld (s.rd Twin.STATE) 3 0 s.twin.before) 11 8 code := by
    have hput : (attachFail code s).rd Twin.STATE = (((setTwin s.twin.before s).wrF Twin.STATE 11 8 code).pulse Twin.page 7).rd Twin.STATE := rfl
    rw [hput, State.rd_pulse_ne _ _ _ _ (by decide) (by decide), State.rd_wrF, if_pos rfl, setTwin, State.rd_wrF, if_pos rfl]
  have hnow : (((setTwin s.twin.before s).wrF Twin.STATE 11 8 code).pulse Twin.page 7).now = s.now := by
    rw [State.pulse_now, State.wrF_now, setTwin, State.wrF_now]
  refine ⟨?_, ?_, rfl, hnow, frame_hidden hframe rfl rfl⟩
  · rw [twinState, State.rdF, hrd, fld_setFld_apart _ (by decide) (by decide) (by decide), fld_setFld_self _ (by decide) (by decide) hbefore]
  · rw [State.rdF, hrd, fld_setFld_self _ (by decide) (by decide) hcode]

theorem gives_attachTimeout (hattaching : twinState s = 1) (hstep : s.twin.step < 2) (hbefore : s.twin.before < 16) :
    Gives .attachTimeout s (fun t => twinState t = s.twin.before ∧ t.rdF Twin.STATE 11 8 = 1 ∧ t.twin.step = 0 ∧
      s.twin.attAt + (if s.twin.step = 0 then 40000 else 80000000) ≤ t.now ∧ Frame (Twin.STATE :: irqRegs Twin.page) s t) := by
  have hdue : ¬ (twinState s ≠ 1 ∨ 2 ≤ s.twin.step) := by omega
  have hop : attachTimeout s = attachFail 1 (s.reach (s.twin.attAt + (if s.twin.step = 0 then 40000 else 80000000))) := if_neg hdue
  obtain ⟨hstate, hcode, hend, hnow, hframe⟩ :=
    attachFail_effect (code := 1) (s.reach (s.twin.attAt + (if s.twin.step = 0 then 40000 else 80000000))) (by decide) hbefore
  refine ⟨_, congrArg Host.Outcome.next hop, hstate, hcode, hend, ?_, frame_trans (frame_hidden (frame_refl _ s) rfl rfl) hframe⟩
  rw [hnow]
  exact Nat.le_max_right ..

/-! ### HELLO (R358) -/

/-- The state of a device that has noted the part of the twin. -/
def heard (body : List Nat) (s : State) : State := s.wrF Twin.PEER 15 0 (bytesNat (body.take 2))

theorem twinState_heard (body : List Nat) (s : State) : twinState (heard body s) = twinState s := twinState_wr _ (by decide) s

section
variable {body : List Nat} (delay up : Nat) (skew : Int) (tbs : List (Nat × Nat)) (hmode : body.getD 2 0 % 16 ≠ 3)
include hmode

theorem gives_twinHello_of_solo (hsolo : twinState s = 0) : Gives (.twinHello body delay skew up tbs) s (fun t =>
    t.rdF Twin.PEER 15 0 = bytesNat (body.take 2) % 65536 ∧ Frame [Twin.PEER] s t) := by
  have hstate : twinState (heard body s) = 0 := (twinState_heard body s).trans hsolo
  have hop : hello body delay skew up tbs s = heard body s := by
    unfold hello
    rw [← heard]
    simp only [hstate, if_neg hmode, OfNat.zero_ne_ofNat, zero_ne_one, if_false, nonpos_iff_eq_zero, OfNat.ofNat_ne_zero, false_and]
  refine ⟨_, congrArg Host.Outcome.next hop, ?_, frame_wr s Twin.PEER _⟩
  rw [heard, State.rdF, State.rd_wrF, if_pos rfl]
  exact fld_setFld_mod _ _ (by decide) (by decide)

theorem hello_of_attaching (hattaching : twinState s = 1) (hstep : s.twin.step = 1) :
    hello body delay skew up tbs s = helloAttach body delay skew tbs (heard body s) := by
  have hstate : twinState (heard body s) = 1 := (twinState_heard body s).trans hattaching
  have hwait : (heard body s).twin.step = 1 := (congrArg TwinState.step (State.wrF_twin ..)).trans hstep
  unfold hello
  rw [← heard]
  simp only [hstate, hwait, if_neg hmode, OfNat.one_ne_ofNat, if_false, if_true]

omit hmode in
theorem helloFault_lt {b : List Nat} {runs : Bool} {c : Nat} (hfault : helloFault b skew runs s = some c) : c < 16 := by
  unfold helloFault at hfault
  dsimp only at hfault
  split_ifs at hfault <;> cases hfault <;> decide

theorem gives_twinHello_of_fault {c : Nat} (hattaching : twinState s = 1) (hstep : s.twin.step = 1) (hbefore : s.twin.before < 16)
    (hfault : helloFault body skew (!tbs.isEmpty) (heard body s) = some c) : Gives (.twinHello body delay skew up tbs) s (fun t =>
      twinState t = s.twin.before ∧ t.rdF Twin.STATE 11 8 = c ∧ Frame ([Twin.STATE, Twin.PEER] ++ irqRegs Twin.page) s t) := by
  have hop : hello body delay skew up tbs s = attachFail c (heard body s) := by
    rw [hello_of_attaching delay up skew tbs hmode hattaching hstep, helloAttach, hfault]
  have htwin : (heard body s).twin = s.twin := State.wrF_twin ..
  obtain ⟨hstate, hcode, -, -, hframe⟩ := attachFail_effect (heard body s) (helloFault_lt skew hfault) (htwin ▸ hbefore)
  refine ⟨_, congrArg Host.Outcome.next hop, hstate.trans (by rw [htwin]), hcode, ?_⟩
  exact frame_trans (frame_mono (frame_wr s Twin.PEER _) (by decide)) (frame_mono hframe (by decide))

/-! ### A tandem that comes about (R27, R358) -/

omit hmode in
/-- What the hidden state of contexts and profiles, of the fabric and of the engine's tick leave alone, a new tick leaves alone. -/
theorem adoptTick_part {β : Type} {part : State → β} (hctx : ∀ t n x, part (putCtx n x t) = part t) (hprof : ∀ t c x, part (putProf c x t) = part t)
    (hfab : ∀ (t : State) x, part { t with fab := x } = part t) (hbu : ∀ (t : State) x, part { t with bu := x } = part t) (tick : Nat) (s : State) :
    part (adoptTick tick s) = part s := by
  unfold adoptTick
  extract_lets x s1 s2 s3
  have hs1 : part s1 = part s := hbu s _
  have hs2 : part s2 = part s1 := foldl_keeps part (fun t n => hctx t n _) (busyCtxs s1) s1
  have hs3 : part s3 = part s2 := foldl_keeps part (fun t c => hprof t c _) (List.range 4) s2
  exact (hfab s3 _).trans (hs3.trans (hs2.trans hs1))

omit hmode in
theorem adoptTick_keeps (tick : Nat) (s : State) : (adoptTick tick s).regs = s.regs ∧ (adoptTick tick s).mem = s.mem :=
  ⟨adoptTick_part (part := State.regs) (fun _ _ _ => rfl) (fun _ _ _ => rfl) (fun _ _ => rfl) (fun _ _ => rfl) tick s,
    adoptTick_part (part := State.mem) (fun _ _ _ => rfl) (fun _ _ _ => rfl) (fun _ _ => rfl) (fun _ _ => rfl) tick s⟩

omit hmode in
/-- An attached pair: its state, the half that drives, and LINK_DELAY as before. -/
theorem attached_effect {st : Nat} (s : State) (hst : st < 16) (hdrives : st ≠ 3) : twinState (attached st s) = st ∧
    (attached st s).rd Twin.LINK_DELAY = s.rd Twin.LINK_DELAY ∧ (attached st s).twin.passive = false ∧ (attached st s).mem = s.mem := by
  have hprof : (adoptProfile s).rd Twin.LINK_DELAY = s.rd Twin.LINK_DELAY ∧ (adoptProfile s).mem = s.mem := by
    unfold adoptProfile
    dsimp only
    rw [State.rd_wrB, if_neg (by decide), State.rd_wr_ne _ _ _ _ (by decide), State.wrB_mem, State.wr_mem]
    exact ⟨rfl, rfl⟩
  obtain ⟨hdelay, hmem⟩ := hprof
  have hkept : ((if st = 5 then adoptProfile s else s).rd Twin.LINK_DELAY = s.rd Twin.LINK_DELAY) ∧ (if st = 5 then adoptProfile s else s).mem = s.mem := by
    split
    · exact ⟨hdelay, hmem⟩
    · exact ⟨rfl, rfl⟩
  unfold attached
  generalize (if st = 5 then adoptProfile s else s) = u at hkept
  have hstate : twinState ((setTwin st u).pulse Twin.page 2) = st := (twinState_pulse ..).trans (twinState_setTwin u hst)
  have hshown : ((setTwin st u).pulse Twin.page 2).rd Twin.LINK_DELAY = u.rd Twin.LINK_DELAY := by
    rw [State.rd_pulse_ne _ _ _ _ (by decide) (by decide), setTwin, State.rd_wrF, if_neg (by decide)]
  have hsame : ((setTwin st u).pulse Twin.page 2).mem = u.mem := by rw [State.pulse_mem, setTwin, State.wrF_mem]
  exact ⟨hstate, hshown.trans hkept.1, decide_eq_false hdrives, hsame.trans hkept.2⟩

/-- The link's delay and skew as a HELLO shows them. -/
def measured (s : State) : State := (s.wr Twin.LINK_DELAY (word (delay % 65536))).wr Twin.SKEW (word (skew % 65536).toNat)

theorem gives_twinHello_of_tandem (hattaching : twinState s = 1) (hstep : s.twin.step = 1) (htandem : twinMode s = 2)
    (hfault : helloFault body skew (!tbs.isEmpty) (heard body s) = none) : Gives (.twinHello body delay skew up tbs) s (fun t =>
      twinState t = (if twinSecond s then 5 else 4) ∧ t.rd Twin.LINK_DELAY = word (delay % 65536) ∧ t.twin.passive = false ∧
        ∀ a, t.rdByte a = s.rdByte a) := by
  obtain ⟨u, hcfg, hmem, hop⟩ : ∃ u : State, u.rd Twin.CFG = s.rd Twin.CFG ∧ u.mem = s.mem ∧ hello body delay skew up tbs s =
      (if twinMode (measured delay skew u) = 2 then attached (if twinSecond (measured delay skew u) then 5 else 4) (measured delay skew u)
        else if twinSecond (measured delay skew u) then
          { measured delay skew u with twin := { (measured delay skew u).twin with step := 2 } }
        else sendConfig { measured delay skew u with twin := { (measured delay skew u).twin with step := 3 } }) := by
    obtain ⟨hregs, hmem⟩ := adoptTick_keeps (bytesNat ((body.drop 4).take 8) + (delay + 4) / 8) (heard body s)
    have hheard : (heard body s).rd Twin.CFG = s.rd Twin.CFG := State.rd_wr_ne _ _ _ _ (by decide)
    have hsame : (heard body s).mem = s.mem := State.wrF_mem ..
    refine ⟨if twinSecond (heard body s) then adoptTick (bytesNat ((body.drop 4).take 8) + (delay + 4) / 8) (heard body s) else heard body s, ?_, ?_, ?_⟩
    · split
      · rw [← hheard, State.rd, State.rd, hregs]
      · exact hheard
    · split
      · exact hmem.trans hsame
      · exact hsame
    · rw [hello_of_attaching delay up skew tbs hmode hattaching hstep, helloAttach, hfault]
      rfl
  have hshown : (measured delay skew u).rd Twin.CFG = s.rd Twin.CFG := by
    rw [measured, State.rd_wr_ne _ _ _ _ (by decide), State.rd_wr_ne _ _ _ _ (by decide), hcfg]
  have hmodes : twinMode (measured delay skew u) = 2 := by rw [← htandem, twinMode, State.rdF, hshown, twinMode, State.rdF]
  have hsecond : twinSecond (measured delay skew u) = twinSecond s := by rw [twinSecond, State.rdB, hshown, twinSecond, State.rdB]
  have hdelay : (measured delay skew u).rd Twin.LINK_DELAY = word (delay % 65536) := by
    rw [measured, State.rd_wr_ne _ _ _ _ (by decide), State.rd_wr_self]
  have hsame : (measured delay skew u).mem = s.mem := by rw [measured, State.wr_mem, State.wr_mem, hmem]
  rw [if_pos hmodes, hsecond] at hop
  have hst : (if twinSecond s then 5 else 4) < 16 ∧ (if twinSecond s then 5 else 4) ≠ 3 := by split <;> decide
  obtain ⟨hstate, hkept, hdrives, hend⟩ := attached_effect (measured delay skew u) hst.1 hst.2
  exact ⟨_, congrArg Host.Outcome.next hop, hstate, hkept.trans hdelay, hdrives, rdByte_congr (hend.trans hsame)⟩

end

/-! ### Time-outs of handovers (R367, R368) -/

theorem gives_handoverOfferTimeout {a : Nat} (hoffer : s.twin.offer = some a) : Gives .handoverOfferTimeout s (fun t =>
    t.twin.offer = none ∧ a + 320 ≤ t.now ∧ Frame (hERRINFO Twin.page :: irqRegs Twin.page) s t) := by
  obtain ⟨u, hgone, hlate, hframe, hop⟩ : ∃ u : State, u.twin.offer = none ∧ a + 320 ≤ u.now ∧
      Frame (hERRINFO Twin.page :: irqRegs Twin.page) s u ∧
      (offerTimeout s = u ∨ ∃ p x, offerTimeout s = ({ u with twin := { u.twin with swap := none, offers := x } } : State).refuseAt
        Twin.page p .busy (Twin.CMD % 4096)) := by
    refine ⟨{ s.reach (a + 320) with twin := { s.twin with offer := none } }, rfl, Nat.le_max_right ..,
      frame_hidden (frame_refl _ s) rfl rfl, ?_⟩
    unfold offerTimeout
    rw [hoffer]
    dsimp only
    split
    · next p hp =>
      split
      · exact .inr ⟨p, 0, rfl⟩
      · exact .inl rfl
    · exact .inl rfl
  rcases hop with hop | ⟨p, x, hop⟩
  · exact ⟨_, congrArg Host.Outcome.next hop, hgone, hlate, hframe⟩
  · refine ⟨_, congrArg Host.Outcome.next hop, ?_, ?_, frame_trans (frame_hidden hframe rfl rfl) (frame_refuseAt ..)⟩
    · rw [State.refuseAt_twin]
      exact hgone
    · rw [State.refuseAt_now]
      exact hlate

theorem gives_ownerRefuseTimeout {a : Nat} (htook : s.twin.tookAt = some a) : Gives .ownerRefuseTimeout s (fun t =>
    t.twin.tookAt = none ∧ a + 1600 ≤ t.now ∧ Frame (Twin.STATE :: irqRegs Twin.page) s t) := by
  obtain ⟨u, hgone, hlate, hframe, hop⟩ : ∃ u : State, u.twin.tookAt = none ∧ a + 1600 ≤ u.now ∧ Frame pairRegs s u ∧
      (refuseTimeout s = u ∨ refuseTimeout s = ((setTwin 6 u).pulse Twin.page 9).pulse Twin.page 6) := by
    refine ⟨{ s.reach (a + 1600) with twin := { s.twin with
      tookAt := none
      noDrive := (List.range 36).filter (fun n => decide (glState (s.reach (a + 1600)) n = 3 ∨ glState (s.reach (a + 1600)) n = 4) &&
        !drvBit (s.reach (a + 1600)) n 1)
      timing := s.twin.timing && ((List.range 36).filter (fun n => decide (glState (s.reach (a + 1600)) n = 3 ∨ glState (s.reach (a + 1600)) n = 4) &&
        !drvBit (s.reach (a + 1600)) n 1)).isEmpty } }, rfl, Nat.le_max_right .., frame_hidden (frame_refl _ s) rfl rfl, ?_⟩
    unfold refuseTimeout
    rw [htook]
    dsimp only
    split
    · exact .inl rfl
    · exact .inr rfl
  rcases hop with hop | hop
  · exact ⟨_, congrArg Host.Outcome.next hop, hgone, hlate, hframe⟩
  · refine ⟨_, congrArg Host.Outcome.next hop, ?_, ?_, ?_⟩
    · rw [State.pulse_twin, State.pulse_twin, setTwin, State.wrF_twin, hgone]
    · rw [State.pulse_now, State.pulse_now, setTwin, State.wrF_now]
      exact hlate
    · exact frame_pulse (frame_pulse (frame_setTwin hframe 6 state_mem) 9 irq_subset) 6 irq_subset

/-! ### TB_SYNC (R373) -/

theorem twin_beside (f : FabState) (x : IslandState) (c : RefCode) (w : Word) (t : State) : (beside f x c w t).twin = t.twin := rfl

theorem unforwarded_tbSync : Unforwarded Twin.TB_SYNC := unforwarded_of_page (by decide)

section
variable {port : Port} {v : Word} (hadm : Admits s port Twin.TB_SYNC) (hport : port ≠ .twin) (hpower : pwrState s ≠ 1)
  (hhalt : s.rdB SecDbg.DBG_HSTAT 2 = false) (hmaster : twinState s = 4)
include hport hpower hhalt hmaster

/-- The follower hears the start by the low half of the engine's tick. -/
def tellFollower (port : Port) (v : Word) (s t : State) : State :=
  twinWriteMsg (some port) none true false [(Twin.TB_SYNC, word (fld v 15 0 + at' ((s.engine + 1600) % 65536) 16))] t

omit hport hpower hhalt hmaster in
/-- A refusal recorded in the pair's page leaves the messages and the timebases alone. -/
theorem refused_effect {u : State} (hframe : Frame (hERRINFO Twin.page :: irqRegs Twin.page) s u) (htwin : u.twin = s.twin) :
    u.twin.queue = s.twin.queue ∧ (∀ k < 8, tbRun u k = tbRun s k) ∧ PageFrame [Twin.page] s u := by
  refine ⟨congrArg TwinState.queue htwin, fun k hk => ?_, pageFrame_of_frame hframe (by decide)⟩
  have hapart : Tb.TB_STAT k ∉ hERRINFO Twin.page :: irqRegs Twin.page := fun hk' =>
    ne_tbStat_of_apart ((by decide : ∀ a ∈ hERRINFO Twin.page :: irqRegs Twin.page, Apart a) _ hk') hk rfl
  rw [tbRun, State.rdB, hframe.1 _ hapart, tbRun, State.rdB]

include hadm in
theorem gives_twinTbSync_of_locked (hlock : lockOpen s Tb.page = false) : Gives (.twinTbSync port v .none) s (fun t =>
    t.twin.queue = s.twin.queue ∧ (∀ k < 8, tbRun t k = tbRun s k) ∧ PageFrame [Twin.page] s t) := by
  have hop : tbSyncWrite port v .none s = deny s .locked := by
    simp only [tbSyncWrite, hpower, hhalt, hport, hmaster, hlock, Bool.false_eq_true, or_self, if_false, ne_eq, not_true_eq_false, Bool.not_false,
      if_true]
  have hpage : homePage Twin.TB_SYNC = Twin.page := by decide
  have hframe : Frame (hERRINFO Twin.page :: irqRegs Twin.page) s (s.refuseAt (homePage Twin.TB_SYNC) port .locked (Twin.TB_SYNC % 4096)) :=
    hpage.symm ▸ frame_refuseAt ..
  exact gives_of_deny rfl hadm (by decide) hop (by decide) (by decide) (fun c' w _ =>
    refused_effect (frame_beside hframe) ((twin_beside ..).trans (State.refuseAt_twin ..)))

theorem tbSyncWrite_of_open (hlock : lockOpen s Tb.page = true) (hok : fld v 7 0 = 0 ∨
    (tbStartWrite (word (fld v 7 0)) { s with now := s.now + 1600 }).2 = .none) : tbSyncWrite port v .none s =
      accept (tellFollower port v s (if fld v 7 0 = 0 then s
        else { (tbStartWrite (word (fld v 7 0)) { s with now := s.now + 1600 }).1 with now := s.now })) := by
  simp only [tbSyncWrite, hpower, hhalt, hport, hmaster, hlock, Bool.false_eq_true, or_self, if_false, ne_eq, not_true_eq_false, Bool.not_true]
  by_cases hmask : fld v 7 0 = 0
  · simp only [hmask, if_true, accept]
    rfl
  · simp only [hmask, if_false, hok.resolve_left hmask]
    rfl

include hadm in
theorem gives_twinTbSync_of_none (hlock : lockOpen s Tb.page = true) (hmask : fld v 7 0 = 0) : Gives (.twinTbSync port v .none) s (fun t =>
    t.twin.queue.length = s.twin.queue.length + 1 ∧ Frame [] s t) := by
  have hop := tbSyncWrite_of_open hport hpower hhalt hmaster hlock (.inl hmask)
  rw [if_pos hmask] at hop
  exact gives_of_accept rfl hadm unforwarded_tbSync hop (fun _ _ _ _ => ⟨List.length_append, frame_hidden (frame_refl _ s) rfl rfl⟩)

include hadm in
theorem gives_twinTbSync_of_start (hlock : lockOpen s Tb.page = true) (hnone : s.pwm.staged = [])
    (hok : (tbStartWrite (word (fld v 7 0)) { s with now := s.now + 1600 }).2 = .none) : Gives (.twinTbSync port v .none) s (fun t =>
      (∀ k ∈ maskBits 8 (word (fld v 7 0)), tbRun t k = true) ∧ t.now = s.now ∧ ∀ a, t.rdByte a = s.rdByte a) := by
  have hop := tbSyncWrite_of_open (v := v) hport hpower hhalt hmaster hlock (.inr hok)
  obtain ⟨hrun, hmem⟩ := tbStartWrite_effect (s := { s with now := s.now + 1600 }) hnone hok
  generalize hstarted : (tbStartWrite (word (fld v 7 0)) { s with now := s.now + 1600 }).1 = u at hop hrun hmem
  refine gives_of_accept rfl hadm unforwarded_tbSync hop (fun _ _ _ _ => ?_)
  split
  · next hmask =>
    have hempty : maskBits 8 (word (fld v 7 0)) = [] := by
      rw [hmask]
      decide
    rw [hempty]
    exact ⟨fun k hk => absurd hk List.not_mem_nil, rfl, fun _ => rfl⟩
  · exact ⟨hrun, rfl, rdByte_congr hmem⟩

end

end

/-- Settles O60: each command and time-out by the state of the pair it meets, TB_SYNC by the LOCK of PWM and its mask. -/
theorem pairingCommandsMoveTheTwinState : Obligations.PairingCommandsMoveTheTwinState := by
  intro port v body delay up skew tbs s
  refine ⟨fun hadm => ⟨gives_twinAttach hadm, gives_twinDetach hadm, gives_twinSwap hadm, gives_twinCfgCopy hadm, gives_twinServe hadm⟩,
    gives_laneAligned s, gives_attachTimeout, gives_twinHello_of_solo delay up skew tbs, 
    fun _ hmode => gives_twinHello_of_fault delay up skew tbs hmode,
    gives_twinHello_of_tandem delay up skew tbs, fun x => gives_handoverOfferTimeout, fun x => gives_ownerRefuseTimeout,
    fun hadm hport hpower hhalt hmaster => ⟨gives_twinTbSync_of_locked hadm hport hpower hhalt hmaster,
      gives_twinTbSync_of_none hadm hport hpower hhalt hmaster, gives_twinTbSync_of_start hadm hport hpower hhalt hmaster⟩⟩

end Sys2Proof.Laws.Pairing
end
